-- ==== Sys2Proof/Word.lean ====
section
/-! DEFINITION. The numbering of R5 as types: bytes, ports, dies, pairs, lanes. -/

namespace Sys2Proof

/-- A byte as the routes, frames and keys carry it. -/
abbrev Byte := BitVec 8

/-- P000 to P127. -/
abbrev Port := Fin 128

/-- LD0 to LD7. -/
abbrev Die := Fin 8

/-- LD0 to LD7, and 8 for HD. -/
abbrev DieId := Fin 9

/-- Pairs A to D. -/
abbrev Pair := Fin 4

/-- Physical twill lanes: 0 to 31 for D00 to D31, 32 and 33 for S0 and S1, 34 for K. -/
abbrev Lane := Fin 35

end Sys2Proof
end

