-- ==== Sys2Proof/Syntax.lean ====
section
/-! DEFINITION. The commands the DZ12800 takes: software writes and reads, protocol frames, messages that arrive on its
links, and events of its own hardware. One constructor of `Instr` for each row of the table of operations and events, with the row's operands;
what the analogue world decides (a measured slack, a signal-to-noise ratio, whether a lane trained) is an operand too. -/

namespace Sys2Proof

/-- The routes that reach the dictionary, in the order of R39. -/
inductive Route where
  | ownFirmware | mgmtLink | inBand | pewter
  deriving DecidableEq, Repr

/-- The two supply domains (field: line dies; host: host die). -/
inductive Domain where
  | field | host
  deriving DecidableEq, Repr

/-- Direction of a queue (R6) and of a port's buffers: egress is host to line. -/
inductive Dir where
  | egress | ingress
  deriving DecidableEq, Repr

/-- Direction of a twill lane (R5): down is host die to line die. -/
inductive Way where
  | down | up
  deriving DecidableEq, Repr

/-- Who sends a software access: the route, the source MAC address and the session number (0 for none). -/
structure Req where
  route : Route := .mgmtLink
  mac : Nat := 0
  session : Nat := 0
  deriving DecidableEq, Repr

/-- A read item of a management frame (R55). -/
structure RItem where
  index : Nat
  sub : Nat
  deriving DecidableEq, Repr

/-- A write item of a management frame (R55): type code, length and the value read big-endian. -/
structure WItem where
  index : Nat
  sub : Nat
  type : Nat
  length : Nat
  value : Nat
  deriving DecidableEq, Repr

/-- An access as it reaches its arbiter (R39, R463). -/
inductive Access where
  | write (r : Req) (w : WItem)
  | clear (r : Req) (index seq : Nat)
  | read (r : Req) (i : RItem)
  deriving DecidableEq, Repr

/-- What precedes the body of a management frame, and its tag (R54, R64). -/
structure MHdr where
  mac : Nat := 0
  dest : Nat := 0
  route : Route := .mgmtLink
  version : Nat := 1
  flags : Nat := 0
  reqId : Nat := 0
  session : Nat := 0
  itemCount : Nat := 0
  counter : Nat := 0
  payloadLen : Nat := 1500
  tag : List Byte := []
  deriving DecidableEq, Repr

/-- The W1 locks of the dictionary. -/
inductive Lock where
  | avsLimits | mgmtMac | inband | pewter | sealPolicy
  deriving DecidableEq, Repr

/-- A next page of a negotiation: a message page by its code, or bits D10:D0 of an unformatted page (R164, R165). -/
inductive NextPage where
  | message (code : Nat)
  | unformatted (bits : Nat)
  deriving DecidableEq, Repr

/-- What a partner's negotiation gave (R163 to R170). -/
inductive NegPartner where
  /-- Next pages exchanged: standard modes offered (layout of R77), the unformatted pages of each OUI tagged message, how many next pages the partner
  sent, EEE and fast retrain advertised, and the role the mode's clause gave this end (`none`: a configuration fault). -/
  | pages (modes : Nat) (tagged : List (Vector Nat 4)) (count : Nat) (eee fastRetrain : Bool) (clauseMaster : Option Bool)
  /-- Parallel detection of 100BASE-TX. -/
  | parallel
  deriving DecidableEq, Repr

/-- One codeword of a received native frame: how decoding ended and its information bits. -/
structure CwRx where
  uncorrectable : Bool := false
  corrected : Bool := false
  info : List Bool := []
  deriving DecidableEq, Repr

/-- A native frame as the deframer receives it: its codewords in order as decoding ended, and the MDI arrival time of its first symbol in sixteenths of
a nanosecond. Where the equalised samples of the four pairs are given, the receiver decides them itself (R86): a codeword that they spell without an
error stands for the one in the list. -/
structure NativeRx where
  cws : List CwRx
  mdiTime : Nat := 0
  samples : Option (List (List Rat)) := none
  deriving DecidableEq, Repr

/-- The body of SEAL_HELLO (R221). -/
structure SealHello where
  version : Nat := 1
  purpose : Nat := 0
  epoch : Nat := 0
  xPub : List Byte := []
  nonce : List Byte := []
  identity : List Byte := []
  deriving DecidableEq, Repr

/-- The value of SA_INSTALL (R232). -/
structure SaInstall where
  an : Nat
  ssci : Nat
  salt : List Byte
  lowestPn : Nat
  wrapped : List Byte
  deriving DecidableEq, Repr

/-- What the switch sends on a host lane (R251). -/
inductive HostFault where
  | none | localFault | remoteFault
  deriving DecidableEq, Repr

/-- An Ethernet frame from its first destination byte to its last FCS byte, and how it ended. -/
structure EthFrame where
  bytes : List Byte
  /-- It ended with an error code. -/
  errored : Bool := false
  fcsBad : Bool := false
  /-- Its first byte had left its queue before it ended (R260): the frame was cut through. -/
  begun : Bool := false
  /-- Arrived with a SecTAG that the sealing unit removed (ingress, R231). -/
  wasSealed : Bool := false
  /-- The MDI time at which it was timestamped, when it was (R311). -/
  mdiTime : Option Nat := none
  /-- A set or step of the time took effect after its period was fixed (R315). -/
  moved : Bool := false
  deriving DecidableEq, Repr

/-- A flow-control frame (R264): PAUSE with its quanta, or priority flow control with quanta for each enabled class. -/
inductive FcFrame where
  | pause (quanta : Nat)
  | pfc (quanta : Vector (Option Nat) 8)
  deriving DecidableEq, Repr

/-- The fixed fields of a TRAIN body (R285), but PATTERN. -/
structure TrainBody where
  phys : Nat := 0
  reqPre : Nat := 0
  reqMain : Nat := 0
  reqPost : Nat := 0
  stPre : Nat := 0
  stMain : Nat := 0
  stPost : Nat := 0
  rxReady : Bool := false
  deriving DecidableEq, Repr

/-- The body of a MARKER (R280), but PATTERN and the reserved fields. -/
structure MarkerBody where
  phys : Nat := 0
  logical : Nat := 0
  number : Nat := 0
  switch : Bool := false
  swLogical : Nat := 0
  swFrom : Nat := 0
  swTo : Nat := 0xFF
  laneCrc : Nat := 0
  deriving DecidableEq, Repr

inductive FillAction where
  | keep | delete | again | overflow
  deriving DecidableEq, Repr

/-- A block as a receiver takes it from a lane (R271, R277, R278): the physical lane, and the bits that came on it, stuffing included. -/
structure TwillBlock where
  lane : Lane := 0
  line : List Bool := []
  deriving DecidableEq, Repr

/-- A twill message with the CRC-32C that ended it (R272, R273). -/
structure TwillMsg where
  kind : Nat := 0
  body : List Byte := []
  crc : Nat := 0
  deriving DecidableEq, Repr

/-- What a detector reports (R399, R400, R407, R465). -/
inductive Check where
  /-- Checkers of the port's data blocks, of its egress frames, of frames withdrawn at a discard, or any other. -/
  | dataBlock | egressFrame | discard | other
  deriving DecidableEq, Repr

structure FaultEvent where
  source : Nat
  kind : Nat
  detail : Nat := 0
  check : Check := .other
  injected : Bool := false
  /-- Time at the detecting die's copy of the time base, when it is not the present time of the host die. -/
  at_ : Option Nat := none
  deriving DecidableEq, Repr

/-- A twill EVENT message: a fault report of a line die, its clock status, its samples of slack. -/
inductive EventMsg where
  | fault (crcOk : Bool) (ev : FaultEvent)
  | clock (crcOk : Bool) (bits : List Nat)
  deriving DecidableEq, Repr

/-- A twill TIMESTAMP message: the instant at the line framer of an event message (its header), on the sealed path or not, whose period a set or step of the time has
followed or not; or a phase sample of a recovered clock. -/
inductive TimestampMsg where
  | stamp (crcOk : Bool) (port : Fin 16) (egress wasSealed moved : Bool) (time : Nat) (event : List Byte)
  | phase (crcOk : Bool) (port : Fin 16) (valid : Bool)
  deriving DecidableEq, Repr

/-- A twill TIME message (R309): the offset the line die's copy shows against the host's time, in sixteenths of a nanosecond. -/
structure TimeMsg where
  crcOk : Bool := true
  offset : Int := 0
  deriving DecidableEq, Repr

/-- The value of TWILL_TEST_START (R301, R302). -/
structure TwillTest where
  mode : Nat
  dir : Nat
  pattern : Nat
  lanes : Nat
  inject : Nat
  duration : Nat
  deriving DecidableEq, Repr

/-- A reflection that a diagnosis finds (R325): its distance in 0.01 m, its return loss in Q8.8 dB, and whether the impedance falls beyond it. -/
structure Reflection where
  distance : Nat
  loss : Nat
  falls : Bool := false
  deriving DecidableEq, Repr

/-- A pulse of a pair as another pair's receiver hears it: that pair, its distance in 0.01 m, and the coupling in Q8.8 dB (R333). -/
structure Coupling where
  pair : Pair
  distance : Nat
  coupling : Int
  deriving DecidableEq, Repr

/-- What the pulses of a run out of service measure on one pair (R331 to R333): how many of its 256 responses differ from their median by more than 10 % of full
scale, the strongest coupling into another pair, the reflections (nearest first), the delay when there is a far end, and alien noise. -/
structure DiagPair where
  outliers : Nat := 0
  coupled : Option Coupling := none
  reflections : List Reflection := []
  delay : Option Nat := none
  alien : Int := 0
  deriving DecidableEq, Repr

/-- MODE and VALUE of a COMMIT (R50). -/
structure CommitAsk where
  mode : Nat := 1
  value : Nat := 0
  deriving DecidableEq, Repr

/-- A SESSION request without step data: its header and STEP (R60). -/
structure SessionAsk where
  hdr : MHdr := {}
  step : Nat := 4
  deriving DecidableEq, Repr

/-- What Gwynale's station loads at entry to MANUFACTURE: its test keys, and the owner root of the order (R215, R216). -/
structure FactoryKeys where
  testKeys : List (List Byte) := []
  ownerRoot : Option (List Byte) := none
  deriving DecidableEq, Repr

/-- The measurements of a diagnosis run: residual noise and the deskew's skews of pairs B to D, which a run in service reports; what the pulses of a run out of
service give. -/
structure DiagMeas where
  noise : Int := 0
  pairs : Vector DiagPair 4 := Vector.replicate 4 {}
  skew : Vector Int 3 := Vector.replicate 3 0
  deriving DecidableEq, Repr

/-- What a calibration round or pre-check measures (R354, R356): the symbols of the last 1 ms and, for each pair, those of them that were valid; the received power
in each of sixteen consecutive 64 µs segments; the ADC samples looked at and, for each pair, those at full scale; and the estimate of each trim, in the order of
R352. -/
structure CalMeas where
  symbols : Nat := 100
  valid : Vector Nat 4 := Vector.replicate 4 100
  power : Vector (Vector Nat 16) 4 := Vector.replicate 4 (Vector.replicate 16 1)
  samples : Nat := 10000
  fullScale : Vector Nat 4 := Vector.replicate 4 0
  estimate : Vector (List Int) 4 := Vector.replicate 4 []
  deriving DecidableEq, Repr

/-- What an Assay engine commits (R420, R421). -/
structure AssayResult where
  count : Nat
  length : Nat
  expected : Nat
  got : Nat
  failSource : Nat := 0xFFFF
  restored : Bool := true
  deriving DecidableEq, Repr

/-- One copy of the option block as the device reads it in up to three tries (R388). -/
structure OptionCopy where
  bytes : List Byte := []
  deriving DecidableEq, Repr

/-- What a start finds outside the module's own state: straps, flash, regulators, references, how long it took (R387 to R392). -/
structure StartEnv where
  straps : Nat := 0
  copies : Vector OptionCopy 2 := Vector.replicate 2 {}
  regulators : Nat × Nat := (760, 815)
  hrefQualified : Bool := true
  /-- What Hallmark's check of each image finds as it reads the flash again: digests and signature fit, of its own firmware and of each slot's set. -/
  hallmarkImageOk : Bool := true
  imageOk : Vector Bool 2 := Vector.replicate 2 true
  /-- Line dies that qualify their reference, train their link and load their microcode in time. -/
  diesUp : Vector Bool 8 := Vector.replicate 8 true
  assay : Vector (Option AssayResult) 9 := Vector.replicate 9 none
  milliseconds : Nat := 1200
  deriving DecidableEq, Repr

/-- What a warm reset finds: the regulators' reported outputs, the time it took, and whether the images of the active slot still verify (R30, R384). -/
structure WarmEnv where
  regulators : Nat × Nat := (760, 815)
  milliseconds : Nat := 400
  imagesOk : Bool := true
  deriving DecidableEq, Repr

/-- Instructions of the test access port (R461). -/
inductive TapCode where
  | bypass | idcode | samplePreload | extest | extestPulse | extestTrain | clamp | highz
  | vendor (code : Nat)
  deriving DecidableEq, Repr

/-- The commands: one constructor for each row of the table of operations and events, in its order. -/
inductive Instr where
  /-- POWER_ON (R438). -/
  | powerOn (dom : Domain)
  /-- DOMAIN_POWER_LOSS (R438). -/
  | domainPowerLoss (dom : Domain)
  /-- FIELD_DOMAIN_VALID (R439). -/
  | fieldDomainValid
  /-- PIN_RESET (R382). -/
  | pinReset
  /-- START (R390). -/
  | start (env : StartEnv)
  /-- START_TIMEOUT (R392). -/
  | startTimeout
  /-- RECOVERY_EXIT (R394). -/
  | recoveryExit (r : Req) (v : Nat)
  /-- WARM_RESET (R384). -/
  | warmReset (env : WarmEnv)
  /-- WARM_RESET_REQUEST (R383). -/
  | warmResetRequest (r : Req) (env : WarmEnv)
  /-- DIE_RESET_REQUEST (R383). -/
  | dieResetRequest (r : Req) (die : Nat)
  /-- PORT_RESET_REQUEST (R383). -/
  | portResetRequest (r : Req) (port : Nat)
  /-- BLOCK_RESET_REQUEST (R386). -/
  | blockResetRequest (r : Req) (source : Nat)
  /-- WRAPPER_CUT (R386). -/
  | wrapperCut (source : Nat)
  /-- BLOCK_REINITIALISED (R386). -/
  | blockReinitialised (source : Nat)
  /-- CLOCK_MONITOR_TRIP (R373). -/
  | clockMonitorTrip (die : DieId) (stopped : Bool)
  /-- FALLBACK_DELAY_END (R374). -/
  | fallbackDelayEnd (die : DieId)
  /-- FALLBACK_CONFIRMED (R374). -/
  | fallbackConfirmed (die : DieId)
  /-- FALLBACK_FAILED (R374). -/
  | fallbackFailed (die : DieId)
  /-- MUX_FORCED (R376). -/
  | muxForced (die : DieId)
  /-- REFERENCE_RETURN (R377). -/
  | referenceReturn (die : DieId)
  /-- QUAL_MEASUREMENT (R380). -/
  | qualMeasurement (die : DieId) (island : Nat) (inWindow : Bool)
  /-- ISLAND_RELEASE (R381). -/
  | islandRelease (r : Req) (die : Nat) (island : Nat)
  /-- FC_START (R379). -/
  | fcStart (r : Req) (die : DieId) (meas : Nat) (ref : Nat) (gate : Nat)
  /-- FC_COMPLETE (R379). -/
  | fcComplete (die : DieId) (measCount : Nat) (refCount : Nat)
  /-- FC_ABORT (R379). -/
  | fcAbort (r : Req) (die : DieId) (v : Nat)
  /-- PACE_EVALUATION (R19). -/
  | paceEvaluation (slack : Vector (Option Int) 9)
  /-- AVS_TRANSACTION_DONE (R467). -/
  | avsTransactionDone (dom : Domain) (ok : Bool)
  /-- PACE_FAULT (R27). -/
  | paceFault (source : Nat) (hostEnd : Bool) (dir : Dir)
  /-- POWER_CONTROLLER_RECOVER (R29). -/
  | powerControllerRecover (dom : Domain)
  /-- ARBITRATION_GRANT (R463). -/
  | arbitrationGrant (reqs : List Access)
  /-- OBJECT_WRITE (R34). -/
  | objectWrite (r : Req) (w : WItem)
  /-- LOCK_SET (R53). -/
  | lockSet (r : Req) (lock : Lock) (v : Nat)
  /-- BIT_ALIAS_WRITE (R52). -/
  | bitAliasWrite (r : Req) (index : Nat) (sub : Nat) (v : Nat)
  /-- ST_CLEAR (R42). -/
  | stClear (r : Req) (index : Nat) (seq : Nat)
  /-- READ (R57). -/
  | read (h : MHdr) (items : List RItem)
  /-- WRITE (R57). -/
  | write (h : MHdr) (items : List WItem)
  /-- READ_MULTI (R57). -/
  | readMulti (h : MHdr) (items : List RItem)
  /-- WRITE_MULTI (R57). -/
  | writeMulti (h : MHdr) (items : List WItem)
  /-- SNAPSHOT (R45). -/
  | snapshot (h : MHdr)
  /-- SNAPSHOT_CAPTURE (R45). -/
  | snapshotCapture
  /-- COMMIT_ADOPT (R50). -/
  | commitAdopt (h : MHdr)
  /-- COMMIT_VERIFY (R50). -/
  | commitVerify (h : MHdr) (v : CommitAsk)
  /-- COMMIT_TIMEOUT (R50). -/
  | commitTimeout
  /-- OPEN_CONFIG (R48). -/
  | openConfig (h : MHdr)
  /-- CONFIG_PASS_COMPLETE (R49). -/
  | configPassComplete
  /-- OPEN_1 (R60). -/
  | open1 (h : MHdr) (keyId : List Byte) (xPub : List Byte) (nonce : List Byte)
  /-- OPEN_3 (R60). -/
  | open3 (h : MHdr) (signature : List Byte)
  /-- CLOSE (R60). -/
  | close (v : SessionAsk)
  /-- SESSION_OPEN_TIMEOUT (R60). -/
  | sessionOpenTimeout (n : Fin 4)
  /-- SESSION_IDLE_TIMEOUT (R62). -/
  | sessionIdleTimeout (n : Fin 4)
  /-- NOTIFY_INTERVAL_END (R59). -/
  | notifyIntervalEnd (index : Nat)
  /-- MDIO_ADDRESS (R66). -/
  | mdioAddress (prtad : Fin 32) (mmd : Fin 32) (addr : Nat)
  /-- MDIO_WRITE (R67). -/
  | mdioWrite (prtad : Fin 32) (mmd : Fin 32) (data : Nat)
  /-- MDIO_READ (R71). -/
  | mdioRead (prtad : Fin 32) (mmd : Fin 32)
  /-- MDIO_READ_INCREMENT (R66). -/
  | mdioReadIncrement (prtad : Fin 32) (mmd : Fin 32)
  /-- CONFIG_GATE_OPEN (R67). -/
  | configGateOpen
  /-- CONFIG_GATE_COMMIT (R67). -/
  | configGateCommit
  /-- PORT_IDLE_REQUEST (R73). -/
  | portIdleRequest (prtad : Fin 32) (on : Bool)
  /-- PEWTER_SOFT_RESET (R73). -/
  | pewterSoftReset (prtad : Fin 32)
  /-- SOFT_RESET_DONE (R73). -/
  | softResetDone (p : Port)
  /-- PORT_ADVERTISE_WRITE (R79). -/
  | portAdvertiseWrite (r : Req) (p : Port) (v : Nat)
  /-- HL_RATE_WRITE (R249). -/
  | hlRateWrite (r : Req) (p : Port) (v : Nat)
  /-- FORCED_LINK_OK (R80). -/
  | forcedLinkOk (p : Port)
  /-- PORT_ENABLE (R159). -/
  | portEnable (r : Req) (p : Port)
  /-- PORT_DISABLE (R158). -/
  | portDisable (r : Req) (p : Port)
  /-- NEG_RESTART (R171). -/
  | negRestart (r : Req) (p : Port) (v : Nat)
  /-- NEGOTIATION_COMPLETE (R166). -/
  | negotiationComplete (p : Port) (partner : NegPartner)
  /-- TRAINING_FRAME_RX (R172). -/
  | trainingFrameRx (p : Port) (header : Nat)
  /-- TRAIN_STAGE_TIMEOUT (R175). -/
  | trainStageTimeout (p : Port)
  /-- TRAIN_TIMEOUT_WRITE (R175). -/
  | trainTimeoutWrite (r : Req) (p : Port) (stage : Fin 6) (v : Nat)
  /-- STANDARD_TRAINING_DONE (R178). -/
  | standardTrainingDone (p : Port) (ok : Bool)
  /-- BACKOFF_END (R180). -/
  | backoffEnd (p : Port)
  /-- HUSH_START (R154). -/
  | hushStart (p : Port)
  /-- HUSH_END (R154). -/
  | hushEnd (p : Port)
  /-- BUNDLE_GROUP_WRITE (R147). -/
  | bundleGroupWrite (r : Req) (p : Port) (v : Nat)
  /-- NATIVE_FRAME_TX (R84). -/
  | nativeFrameTx (p : Port)
  /-- NATIVE_FRAME_RX (R98). -/
  | nativeFrameRx (p : Port) (frame : NativeRx)
  /-- RELOCK_NOW (R183). -/
  | relockNow (r : Req) (p : Port) (v : Nat)
  /-- RELOCK_START (R184). -/
  | relockStart (p : Port)
  /-- RELOCK_REACQUIRED (R184). -/
  | relockReacquired (p : Port) (tenths : Nat)
  /-- RELOCK_FAILED (R470). -/
  | relockFailed (p : Port)
  /-- HOLD_EXPIRED (R186). -/
  | holdExpired (p : Port)
  /-- LINK_PULSES_RECEIVED (R193). -/
  | linkPulsesReceived (p : Port)
  /-- MARGIN_UPDATE (R129). -/
  | marginUpdate (p : Port) (snr : Vector Int 4) (absent : Vector Bool 4)
  /-- LOSS_MARGIN_TIMEOUT (R193). -/
  | lossMarginTimeout (p : Port)
  /-- STANDARD_LINK_FAIL (R196). -/
  | standardLinkFail (p : Port)
  /-- FAST_RETRAIN_START (R197). -/
  | fastRetrainStart (p : Port)
  /-- FAST_RETRAIN_DONE (R197). -/
  | fastRetrainDone (p : Port)
  /-- FAST_RETRAIN_TIMEOUT (R197). -/
  | fastRetrainTimeout (p : Port)
  /-- QUIET_ENTRY (R199). -/
  | quietEntry (p : Port)
  /-- QUIET_REFRESH (R200). -/
  | quietRefresh (p : Port) (sent : Bool)
  /-- DEEP_REQUEST (R203). -/
  | deepRequest (p : Port)
  /-- WAKE_TONE_RX (R205). -/
  | wakeToneRx (p : Port)
  /-- PRESENCE_PULSE (R204). -/
  | presencePulse (p : Port)
  /-- PRESENCE_PULSE_RX (R204). -/
  | presencePulseRx (p : Port)
  /-- REFRESH_MISSING (R194). -/
  | refreshMissing (p : Port)
  /-- WAKE_FAILED (R206). -/
  | wakeFailed (p : Port)
  /-- SELVAGE_TELEMETRY_TIMER (R106). -/
  | selvageTelemetryTimer (p : Port)
  /-- RELOCK_REPORT (R106). -/
  | relockReport (p : Port) (cause : Nat) (held : Nat)
  /-- HUSH_NOTE (R106). -/
  | hushNote (p : Port) (level : Int) (duration : Nat)
  /-- PRECODER (R122). -/
  | precoder (p : Port) (pair : Nat) (taps : List Int)
  /-- PRECODER_ACK (R174). -/
  | precoderAck (p : Port) (pair : Nat) (result : Nat)
  /-- TELEMETRY (R106). -/
  | telemetry (p : Port) (margins : Vector Int 4) (corrected : Nat) (uncorrectable : Nat)
  /-- PARTNER_QUERY (R109). -/
  | partnerQuery (r : Req) (p : Port) (v : Nat)
  /-- PARTNER_QUERY_RX (R106). -/
  | partnerQueryRx (p : Port) (item : Nat)
  /-- PARTNER_REPLY (R109). -/
  | partnerReply (p : Port) (item : Nat) (result : Nat) (data : List Byte)
  /-- PARTNER_QUERY_TIMEOUT (R109). -/
  | partnerQueryTimeout (p : Port)
  /-- SELVAGE_MSG_TX_START (R107). -/
  | selvageMsgTxStart (p : Port)
  /-- ADAPT_HOLD (R134). -/
  | adaptHold (r : Req) (p : Port) (ms : Nat)
  /-- ADAPT_HOLD_EXPIRY (R134). -/
  | adaptHoldExpiry (p : Port)
  /-- COEF_CAPTURE (R137). -/
  | coefCapture (r : Req) (w : Fin 16) (sel : Nat)
  /-- COEF_WRITE (R138). -/
  | coefWrite (r : Req) (w : Fin 16) (values : Nat)
  /-- COEF_RAMP_END (R141). -/
  | coefRampEnd (p : Port) (pair : Pair) (engine : Fin 11)
  /-- COEF_RELEASE (R140). -/
  | coefRelease (r : Req) (w : Fin 16) (v : Nat)
  /-- CKPT_NOW (R143). -/
  | ckptNow (r : Req) (p : Port) (v : Nat)
  /-- CKPT_TIMER (R143). -/
  | ckptTimer (p : Port)
  /-- CHECKPOINT_DONE (R143). -/
  | checkpointDone (p : Port)
  /-- COEF_STORE_ECC_ERROR (R146). -/
  | coefStoreEccError (p : Port) (slot : Fin 2) (correctable : Bool) (address : Nat)
  /-- SEAL_MODE_WRITE (R220). -/
  | sealModeWrite (r : Req) (p : Port) (v : Nat)
  /-- SEAL_HELLO (R223). -/
  | sealHello (p : Port) (hello : SealHello)
  /-- SEAL_PROOF (R223). -/
  | sealProof (p : Port) (epoch : Nat) (signature : List Byte)
  /-- SEAL_FINISH (R223). -/
  | sealFinish (p : Port) (epoch : Nat) (tag : List Byte)
  /-- SEAL_REJECT (R469). -/
  | sealReject (p : Port) (epoch : Nat) (reason : Nat)
  /-- HALLMARK_SIGN_DONE (R212). -/
  | hallmarkSignDone
  /-- HALLMARK_VERIFY_DONE (R212). -/
  | hallmarkVerifyDone
  /-- SEAL_REKEY_NOW (R226). -/
  | sealRekeyNow (r : Req) (p : Port) (v : Nat)
  /-- REKEY_TIMER (R226). -/
  | rekeyTimer (p : Port)
  /-- OLD_KEY_ERASE (R227). -/
  | oldKeyErase (p : Port)
  /-- REKEY_RETRY (R228). -/
  | rekeyRetry (p : Port)
  /-- SA_INSTALL (R232). -/
  | saInstall (r : Req) (p : Port) (v : SaInstall)
  /-- SA_TX_SELECT (R233). -/
  | saTxSelect (r : Req) (p : Port) (v : Nat)
  /-- SA_DELETE (R233). -/
  | saDelete (r : Req) (p : Port) (v : Nat)
  /-- MANAGER_ENROL (R214). -/
  | managerEnrol (r : Req) (pub : List Byte) (role : Nat)
  /-- MANAGER_REVOKE (R214). -/
  | managerRevoke (r : Req) (keyId : List Byte)
  /-- LIFECYCLE_TO_MANUFACTURE (R216). -/
  | lifecycleToManufacture (r : Req) (gwynaleToken : List Byte) (ownerToken : List Byte) (keys : FactoryKeys)
  /-- LIFECYCLE_TO_PROVISIONED (R216). -/
  | lifecycleToProvisioned (r : Req) (gwynaleToken : List Byte) (ownerToken : List Byte)
  /-- LIFECYCLE_TO_DEPLOYED (R216). -/
  | lifecycleToDeployed (r : Req) (gwynaleToken : List Byte) (ownerToken : List Byte)
  /-- LIFECYCLE_TO_RETURNED (R217). -/
  | lifecycleToReturned (r : Req) (gwynaleToken : List Byte) (ownerToken : List Byte)
  /-- LIFECYCLE_TO_RETIRED (R216). -/
  | lifecycleToRetired (r : Req) (gwynaleToken : List Byte) (ownerToken : List Byte)
  /-- SERVICE_REQUEST (R218). -/
  | serviceRequest (r : Req) (minutes : Nat)
  /-- SERVICE_EXPIRY (R218). -/
  | serviceExpiry
  /-- ATTEST_REQUEST (R235). -/
  | attestRequest (r : Req) (nonce : List Byte)
  /-- ATTEST_DONE (R235). -/
  | attestDone
  /-- TOUCH_FLASH_COPY (R238). -/
  | touchFlashCopy
  /-- TOUCH_SIGN (R239). -/
  | touchSign (r : Req) (v : Nat)
  /-- TOUCH_SIGN_TIMER (R239). -/
  | touchSignTimer
  /-- TOUCH_SELECT (R240). -/
  | touchSelect (r : Req) (seq : Nat)
  /-- FW_STAGE_BEGIN (R244). -/
  | fwStageBegin (r : Req) (slot : Nat) (length : Nat)
  /-- FW_STAGE_DATA (R244). -/
  | fwStageData (r : Req) (offset : Nat) (count : Nat) (data : List Byte)
  /-- FW_STAGE_VERIFY (R242). -/
  | fwStageVerify (r : Req) (v : Nat)
  /-- FW_VERIFY_DONE (R242). -/
  | fwVerifyDone
  /-- FW_ACTIVATE (R245). -/
  | fwActivate (r : Req) (v : Nat)
  /-- FW_CONTROLLER_RESTARTED (R245). -/
  | fwControllerRestarted
  /-- FW_DIE_NEXT (R245). -/
  | fwDieNext
  /-- FW_CONFIRM (R243). -/
  | fwConfirm (r : Req) (v : Nat)
  /-- FW_REVERT (R244). -/
  | fwRevert (r : Req) (v : Nat)
  /-- FW_TRIAL_TIMEOUT (R246). -/
  | fwTrialTimeout
  /-- HL_LOCK_ACQUIRED (R250). -/
  | hlLockAcquired (p : Port)
  /-- HL_LOCK_LOST (R250). -/
  | hlLockLost (p : Port)
  /-- HL_FAULT_SEQUENCE_RX (R251). -/
  | hlFaultSequenceRx (p : Port) (fault : HostFault)
  /-- EGRESS_FRAME_ARRIVAL (R257). -/
  | egressFrameArrival (p : Port) (f : EthFrame) (corrected uncorrectable : Nat)
  /-- INGRESS_FRAME_ARRIVAL (R257). -/
  | ingressFrameArrival (p : Port) (f : EthFrame)
  /-- SCHEDULER_PICK (R258). -/
  | schedulerPick (p : Port) (dir : Dir)
  /-- FC_FRAME_FROM_SWITCH (R264). -/
  | fcFrameFromSwitch (p : Port) (fc : FcFrame)
  /-- FC_FRAME_FROM_LINE (R264). -/
  | fcFrameFromLine (p : Port) (fc : FcFrame)
  /-- PAUSE_EXPIRY (R264). -/
  | pauseExpiry (p : Port) (dir : Dir) (cls : Fin 8)
  /-- PAUSE_RESEND (R263). -/
  | pauseResend (p : Port) (dir : Dir)
  /-- TWILL_ATTEMPT (R287). -/
  | twillAttempt (die : Die)
  /-- TWILL_TRAIN_WINDOW_END (R287). -/
  | twillTrainWindowEnd (die : Die) (trainedDown : Nat) (trainedUp : Nat)
  /-- TWILL_ALIGNED (R287). -/
  | twillAligned (die : Die)
  /-- TWILL_ALIGN_TIMEOUT (R287). -/
  | twillAlignTimeout (die : Die)
  /-- TWILL_LINK_LOSS (R288). -/
  | twillLinkLoss (die : Die)
  /-- TRAIN_BLOCK_RX (R286). -/
  | trainBlockRx (die : Die) (way : Way) (lane : Lane) (line : List Bool)
  /-- MARKER_RX (R281). -/
  | markerRx (die : Die) (way : Way) (lane : Lane) (line : List Bool)
  /-- MARKER_SLOT (R280). -/
  | markerSlot (die : Die) (way : Way) (lane : Lane)
  /-- RATE_FILL_RX (R284). -/
  | rateFillRx (die : Die) (way : Way) (lane : Lane) (fill : FillAction)
  /-- DATA_BLOCK_RX (R275). -/
  | dataBlockRx (die : Die) (way : Way) (block : TwillBlock)
  /-- MANAGEMENT_MESSAGE (R272). -/
  | managementMessage (die : Die) (way : Way) (msg : TwillMsg)
  /-- EVENT_MESSAGE (R408). -/
  | eventMessage (die : Die) (msg : EventMsg)
  /-- TIMESTAMP_MESSAGE (R272). -/
  | timestampMessage (die : Die) (msg : TimestampMsg)
  /-- KEY_MESSAGE (R211). -/
  | keyMessage (die : Die) (way : Way) (msg : TwillMsg)
  /-- TIME_MESSAGE (R309). -/
  | timeMessage (die : Die) (msg : TimeMsg)
  /-- LANE_CTL_PARK (R294). -/
  | laneCtlPark (die : Die) (way : Way) (logical : Fin 32)
  /-- LANE_CTL_NARROW (R291). -/
  | laneCtlNarrow (die : Die) (way : Way)
  /-- LANE_CTL_WIDEN (R292). -/
  | laneCtlWiden (die : Die) (way : Way)
  /-- LANE_CTL_RETRAIN (R297). -/
  | laneCtlRetrain (die : Die) (way : Way) (lane : Lane)
  /-- LANE_LOCK_LOST (R293). -/
  | laneLockLost (die : Die) (way : Way) (lane : Lane)
  /-- TWILL_NARROW (R291). -/
  | twillNarrow (die : Die) (way : Way)
  /-- LANE_REINSTATE_TIMER (R297). -/
  | laneReinstateTimer (die : Die) (way : Way) (lane : Lane)
  /-- TWILL_REINSTATE_WRITE (R297). -/
  | twillReinstateWrite (r : Req) (v : Nat)
  /-- LANE_RETRAIN_DONE (R297). -/
  | laneRetrainDone (die : Die) (way : Way) (lane : Lane) (ok : Bool)
  /-- TWILL_TEST_START (R302). -/
  | twillTestStart (r : Req) (die : Die) (v : TwillTest)
  /-- TWILL_TEST_STOP (R304). -/
  | twillTestStop (r : Req) (die : Die) (v : Nat)
  /-- TWILL_TEST_END (R304). -/
  | twillTestEnd (die : Die) (bits : Nat) (errors : Vector Nat 34)
  /-- TIME_SET (R307). -/
  | timeSet (r : Req) (seconds : Nat) (ns : Nat) (frac : Nat)
  /-- TIME_STEP (R307). -/
  | timeStep (r : Req) (v : Nat)
  /-- TIME_ADJUST_APPLY (R307). -/
  | timeAdjustApply
  /-- TIME_FREQ_ADJ_WRITE (R320). -/
  | timeFreqAdjWrite (r : Req) (v : Nat)
  /-- PPS_IN_EDGE (R320). -/
  | ppsInEdge (time : Nat)
  /-- PPS_IN_MISSING (R320). -/
  | ppsInMissing
  /-- PPS_OUT_EDGE (R321). -/
  | ppsOutEdge
  /-- PPS_OUT_FALL (R321). -/
  | ppsOutFall
  /-- DIAG_START_IN_SERVICE (R326). -/
  | diagStartInService (r : Req) (p : Port)
  /-- DIAG_START_OUT_OF_SERVICE (R331). -/
  | diagStartOutOfService (r : Req) (p : Port)
  /-- DIAG_PERIODIC (R326). -/
  | diagPeriodic (p : Port)
  /-- DIAG_REPEAT (R332). -/
  | diagRepeat (p : Port) (pair : Pair)
  /-- DIAG_COMMIT (R331). -/
  | diagCommit (p : Port) (meas : DiagMeas)
  /-- DIAG_ABORT (R335). -/
  | diagAbort (r : Req) (p : Port) (v : Nat)
  /-- SAMPLER_ARM (R339). -/
  | samplerArm (r : Req) (die : Die) (arm : Nat)
  /-- SAMPLER_TRIGGER (R341). -/
  | samplerTrigger (die : Die) (position : Nat)
  /-- SAMPLER_TIMEOUT (R339). -/
  | samplerTimeout (die : Die) (position : Nat)
  /-- SAMPLER_DONE (R341): the samples of each pair, none where the converters were off. -/
  | samplerDone (die : Die) (samples : List (Pair × List Int)) (ramped : Bool) (quiet : Bool) (relocked : Bool)
  /-- SAMPLER_ABORT (R341). -/
  | samplerAbort (r : Req) (die : Die) (v : Nat)
  /-- SAMPLER_SELECT (R342). -/
  | samplerSelect (r : Req) (die : Die) (sel : Nat)
  /-- SAMPLER_DATA_READ (R342). -/
  | samplerDataRead (r : Req) (die : Die)
  /-- TLM_BLOCK_END (R347). -/
  | tlmBlockEnd (p : Port) (pair : Pair) (symbols : List Nat)
  /-- TSYNC_EDGE (R349). -/
  | tsyncEdge
  /-- TLM_SYNC (R349). -/
  | tlmSync (r : Req) (v : Nat)
  /-- TLM_SYNC_APPLY (R349). -/
  | tlmSyncApply
  /-- TLM_LATCH (R351). -/
  | tlmLatch (r : Req) (v : Nat)
  /-- CAL_START (R353). -/
  | calStart (r : Req) (p : Port) (v : Nat) (meas : CalMeas)
  /-- CAL_ROUND (R356). -/
  | calRound (p : Port) (meas : CalMeas)
  /-- CAL_TIMEOUT (R357). -/
  | calTimeout (p : Port)
  /-- CAL_COMMIT (R361). -/
  | calCommit (p : Port) (verifyOk : Bool)
  /-- CAL_ABORT (R357). -/
  | calAbort (r : Req) (p : Port) (v : Nat)
  /-- CAL_SLOT_USE_WRITE (R363). -/
  | calSlotUseWrite (r : Req) (p : Port) (v : Nat)
  /-- TRIM_RAMP_END (R364). -/
  | trimRampEnd (p : Port) (pair : Pair)
  /-- CAL_TRACKING (R360). -/
  | calTracking (temps : Vector Int 9)
  /-- CAL_AUTO_TIMER (R368). -/
  | calAutoTimer (p : Port) (meas : CalMeas)
  /-- CAL_AUTO_RETRY (R368). -/
  | calAutoRetry (p : Port) (meas : CalMeas)
  /-- TEMPER_SELECT (R369). -/
  | temperSelect (r : Req) (v : Nat)
  /-- FAULT_EVENT (R400). -/
  | faultEvent (ev : FaultEvent)
  /-- REACTION_END (R403). -/
  | reactionEnd (source : Nat)
  /-- SETTLE_END (R403). -/
  | settleEnd (source : Nat)
  /-- FAULT_FIRST_REARM (R408). -/
  | faultFirstRearm (r : Req) (source : Nat) (v : Nat)
  /-- MODULE_FIRST_REARM (R409). -/
  | moduleFirstRearm (r : Req) (v : Nat)
  /-- MC_TASK_LATE (R411). -/
  | mcTaskLate
  /-- ALIVE_TICK (R411). -/
  | aliveTick
  /-- INJECT (R412). -/
  | inject (r : Req) (source : Nat) (kind : Nat) (count : Nat) (spacing : Nat)
  /-- INJECT_CHECK (R412). -/
  | injectCheck (detail : Nat)
  /-- INJECT_CANCEL (R413). -/
  | injectCancel (r : Req) (v : Nat)
  /-- ASSAY_RUN (R417). -/
  | assayRun (r : Req) (program : Nat) (target : Nat)
  /-- ASSAY_COMMIT (R420). -/
  | assayCommit (die : DieId) (res : AssayResult)
  /-- ASSAY_ABORT (R419). -/
  | assayAbort (r : Req) (v : Nat)
  /-- SHUTDOWN (R418). -/
  | shutdown (r : Req) (v : Nat)
  /-- SLED_FRAME (R427). -/
  | sledFrame
  /-- K_LOST (R283). -/
  | kLost (die : Die)
  /-- K_CLOCK_RETURN (R289). -/
  | kClockReturn (die : Die)
  /-- DIE_RUNNING (R11). -/
  | dieRunning (die : Die)
  /-- PARTNER_LPI (R198). -/
  | partnerLpi (p : Port) (enter : Bool)
  /-- HL_HI_BER (R252). -/
  | hlHiBer (p : Port)
  /-- TAP_INSTRUCTION (R461). -/
  | tapInstruction (code : TapCode)
  deriving DecidableEq, Repr

end Sys2Proof
end

