-- ==== Sys2Proof/Decode.lean ====
section
/-! DEFINITION. Commands spelled by words. The table of operations and events gives no row any bits: a command of the DZ12800 is an event or
a message, and the messages' bytes are read where they arrive (management frames, window accesses, twill blocks, HDLC). -/

namespace Sys2Proof

/-- The command that a word of so many bits spells by the table: none, since no row of the table has fields. -/
def decodeTableWord (nbits w : Nat) : Option Instr :=
  match nbits, w with
  | _, _ => none

end Sys2Proof
end

