-- ==== Sys2Proof/Machine/Bits.lean ====
section
/-! DEFINITION. Bytes, bit fields, two's complement, CRCs, and updating one element of a vector. -/

namespace Sys2Proof.Machine

/-- One element of a vector changed. -/
def upd {α : Type} {n : Nat} (v : Vector α n) (i : Fin n) (f : α → α) : Vector α n :=
  v.set i.val (f (v.get i)) i.isLt

/-- The last `len` bytes of a number, big-endian (R33). -/
def bytesOf (len n : Nat) : List Byte :=
  match len with
  | 0 => []
  | k + 1 => BitVec.ofNat 8 (n / 256 ^ k) :: bytesOf k n

/-- The number that bytes spell, big-endian. -/
def natOf (bs : List Byte) : Nat :=
  bs.foldl (fun a b => a * 256 + b.toNat) 0

/-- Bits `lo` and up of a number, `w` of them. -/
def field (n lo w : Nat) : Nat :=
  n / 2 ^ lo % 2 ^ w

/-- A number with bit `i` set or cleared. -/
def putBit (n i : Nat) (b : Bool) : Nat :=
  if n.testBit i then (if b then n else n - 2 ^ i) else (if b then n + 2 ^ i else n)

/-- The `w` low bits of a number, most significant first. -/
def bitsOf (w n : Nat) : List Bool :=
  match w with
  | 0 => []
  | k + 1 => n.testBit k :: bitsOf k n

/-- The number that bits spell, most significant first. -/
def natOfBits (bs : List Bool) : Nat :=
  bs.foldl (fun a b => a * 2 + b.toNat) 0

/-- The signed value of a two's-complement number of width `w`. -/
def signed (w n : Nat) : Int :=
  if n.testBit (w - 1) then (n : Int) - 2 ^ w else n

/-- The two's-complement number of width `w` of a signed value. -/
def unsigned (w : Nat) (i : Int) : Nat :=
  (i % 2 ^ w).toNat

/-- A signed value kept inside a width (R379: saturating). -/
def saturate (w : Nat) (i : Int) : Int :=
  max (-2 ^ (w - 1)) (min (2 ^ (w - 1) - 1) i)

/-- Text as bytes. -/
def ascii (s : String) : List Byte :=
  s.toList.map (fun c => BitVec.ofNat 8 c.toNat)

/-- One bit into a CRC register of width `w` with polynomial `poly`, highest bit first. -/
def crcStep (w poly crc : Nat) (b : Bool) : Nat :=
  let top := crc.testBit (w - 1) != b
  let sh := crc * 2 % 2 ^ w
  if top then sh ^^^ poly else sh

/-- The CRC of R91: polynomial x^16 + x^12 + x^5 + 1, initial value 0xFFFF, no reflection, no final inversion. -/
def crc16 (bits : List Bool) : Nat :=
  bits.foldl (crcStep 16 0x1021) 0xFFFF

/-- One byte into a reflected CRC-32C register. -/
def crc32cByte (crc b : Nat) : Nat :=
  Nat.rec (motive := fun _ => Nat) (crc ^^^ b)
    (fun _ c => if c.testBit 0 then (c / 2) ^^^ 0x82F63B78 else c / 2) 8

/-- CRC-32C of bytes (R47, R142): reflected, initial value and final inversion of all ones. -/
def crc32c (bs : List Nat) : Nat :=
  (bs.foldl crc32cByte 0xFFFFFFFF) ^^^ 0xFFFFFFFF

/-- The FCS of an Ethernet frame: CRC-32 of IEEE 802.3 over its bytes, least significant byte first. -/
def crc32Byte (crc b : Nat) : Nat :=
  Nat.rec (motive := fun _ => Nat) (crc ^^^ b)
    (fun _ c => if c.testBit 0 then (c / 2) ^^^ 0xEDB88320 else c / 2) 8

def fcsOf (bs : List Byte) : List Byte :=
  (bytesOf 4 ((bs.foldl (fun c b => crc32Byte c b.toNat) 0xFFFFFFFF) ^^^ 0xFFFFFFFF)).reverse

/-- Every index of a vector's length, in order. -/
def allFin (n : Nat) : List (Fin n) := List.finRange n

/-- Fold a state over every port, die or pair. -/
def forAll {α : Type} (n : Nat) (f : Fin n → α → α) (a : α) : α :=
  (allFin n).foldl (fun a i => f i a) a

/-- Elements of a list that are different from one. -/
def without {α : Type} [DecidableEq α] (l : List α) (a : α) : List α :=
  l.filter (fun b => b ≠ a)

/-- An association list with one key set. -/
def assocSet {κ α : Type} [DecidableEq κ] (l : List (κ × α)) (k : κ) (a : α) : List (κ × α) :=
  (k, a) :: l.filter (fun e => e.1 ≠ k)

/-- What an association list holds for a key. -/
def assocGet {κ α : Type} [DecidableEq κ] (l : List (κ × α)) (k : κ) : Option α :=
  (l.find? (fun e => e.1 = k)).map (·.2)

end Sys2Proof.Machine
end

