-- ==== Sys2Proof/Machine/Coding.lean ====
section
/-! DEFINITION. From information bits to symbols: the codes, the placement and the alphabet of the native modes, the scrambler, the precoder
(R83 to R93). Modes are numbered as in R77: 8 N50, 9 N100, 10 N100-S. -/

namespace Sys2Proof.Machine

/-! ## Alphabet (R83) -/

/-- Rows and columns of the corner squares. -/
def outerLevel (k : Nat) : Bool := k ≤ 1 || 10 ≤ k

/-- The 128 allowed symbol pairs, in label order. -/
def allowedPairs : List (Int × Int) :=
  ((List.range 12).map (fun i => ((List.range 12).filter (fun j => !(outerLevel i && outerLevel j))).map
    (fun j => (2 * (i : Int) - 11, 2 * (j : Int) - 11)))).flatten

/-- The symbol pair of a label. -/
def labelPair (label : Nat) : Int × Int := allowedPairs.getD label (0, 0)

/-! ## Codes (R87, R88) -/

/-- Shift of a circulant. -/
def shiftOf (i j : Nat) : Nat := (i + 1) * (j + 1) % 51

/-- The XOR of bits. -/
def parity (l : List Bool) : Bool := l.foldl (fun a b => a != b) false

/-- One parity block of the LDPC code, from the information bits and the parity block before it. -/
def ldpcBlock (info prev : List Bool) (i : Nat) : List Bool :=
  (List.range 51).map (fun r =>
    parity ((List.range 36).map (fun j => info.getD (51 * j + (r + shiftOf i j) % 51) false)) != prev.getD r false)

/-- LDPC (2040,1836): a codeword from its 1,836 information bits. -/
def ldpcEncode (info : List Bool) : List Bool :=
  let p0 := ldpcBlock info [] 0
  let p1 := ldpcBlock info p0 1
  let p2 := ldpcBlock info p1 2
  info ++ p0 ++ p1 ++ p2 ++ ldpcBlock info p2 3

/-- Multiplication by x in GF(2^10) with x^10 + x^3 + 1. -/
def gfDouble (a : Nat) : Nat := if a.testBit 9 then (a * 2 % 1024) ^^^ 9 else a * 2

/-- Multiplication in GF(2^10). -/
def gfMul (a b : Nat) : Nat :=
  ((List.range 10).foldl (fun (acc : Nat × Nat) i => ((if b.testBit i then acc.1 ^^^ acc.2 else acc.1), gfDouble acc.2)) (0, a)).1

/-- A power of the root. -/
def gfPow (n : Nat) : Nat := Nat.rec (motive := fun _ => Nat) 1 (fun _ a => gfDouble a) n

/-- A polynomial, highest power first, times x minus a root. -/
def timesRoot (g : List Nat) (a : Nat) : List Nat :=
  List.zipWith (fun u v => u ^^^ v) (g ++ [0]) (0 :: g.map (gfMul a))

/-- The generator of RS(120,108), highest power first. -/
def rsGenerator : List Nat := (List.range 12).foldl (fun g i => timesRoot g (gfPow i)) [1]

/-- The remainder after one more symbol of the message. -/
def rsStep (rem : List Nat) (m : Nat) : List Nat :=
  let f := (rem.headD 0) ^^^ m
  List.zipWith (fun u g => u ^^^ gfMul f g) (rem.tail ++ [0]) rsGenerator.tail

/-- RS(120,108): a codeword from its 1,080 information bits. -/
def rsEncode (info : List Bool) : List Bool :=
  let syms := (List.range 108).map (fun q => natOfBits ((info.drop (10 * q)).take 10))
  info ++ ((syms.foldl rsStep (List.replicate 12 0)).map (bitsOf 10)).flatten

/-! ## Placement (R84, R85) -/

/-- Symbol periods of a frame (R82). -/
def framePeriods (mode : Nat) : Nat := if mode = 10 then 600 else 1020

/-- Sixteenths of a nanosecond in a symbol period. -/
def periodUnits (mode : Nat) : Nat := if mode = 8 then 4 else 2

/-- Information bits, overhead bits and payload bits of a frame. -/
def infoBits (mode : Nat) : Nat := if mode = 10 then 7560 else 12852
def overheadBits (mode : Nat) : Nat := if mode = 10 then 60 else 102
def payloadBits (mode : Nat) : Nat := infoBits mode - overheadBits mode

/-- Bits of every seventh place, beginning at one. -/
def everySeventh (l : List Bool) (k : Nat) : List Bool := (List.range (l.length / 7)).map (fun i => l.getD (7 * i + k) false)

/-- The seven codewords of a frame's information bits. -/
def codewords (mode : Nat) (info : List Bool) : List (List Bool) :=
  (List.range 7).map (fun k => if mode = 10 then rsEncode ((info.drop (1080 * k)).take 1080) else ldpcEncode (everySeventh info k))

/-- The information bits of a frame from those of its codewords. -/
def gatherInfo (mode : Nat) (cws : List (List Bool)) : List Bool :=
  if mode = 10 then (cws.map (fun c => c.take 1080)).flatten else ((cws.map (fun c => c.take 1836)).transpose).flatten

/-- The labels of a frame, group by group. -/
def labels (mode : Nat) (cws : List (List Bool)) : List Nat :=
  if mode = 10 then (List.range 1200).map (fun g => natOfBits ((cws.flatten.drop (7 * g)).take 7))
  else (List.range 2040).map (fun g => natOfBits (cws.map (fun c => c.getD g false)))

/-- The symbols of one pair from the groups' labels. -/
def pairSymbols (ls : List Nat) (pair : Nat) : List Int :=
  ((List.range (ls.length / 4)).map (fun k => [(labelPair (ls.getD (4 * k + pair) 0)).1, (labelPair (ls.getD (4 * k + pair) 0)).2])).flatten

/-- The symbol period of a frame that carries an information bit (R84, R85, R311). -/
def periodOfBit (mode n : Nat) : Nat := if mode = 10 then 2 * ((n / 1080 * 1200 + n % 1080) / 28) else 2 * (n / 28)

/-! ## Scrambler (R93) -/

/-- So many bits of the generator from a state. -/
def genBits : Nat → Nat → List Bool
  | 0, _ => []
  | n + 1, s => let o := s.testBit 38 != s.testBit 57; o :: genBits n ((s * 2 + o.toNat) % 2 ^ 58)

/-- Payload bits scrambled or descrambled with a frame's number. -/
def scramble (mode number : Nat) (bits : List Bool) : List Bool :=
  List.zipWith (fun a b => a != b) bits
    (genBits bits.length ((if mode = 10 then number % 4096 else number % 65536) * 2 ^ 42 + 0x2AAAAAAAAAA))

/-! ## Precoder (R86) -/

/-- The sum reduced into [-12, 12). -/
def reduce24 (v : Rat) : Rat := v - 24 * ((v + 12) / 24).floor

/-- One symbol through the precoder: taps in units of 2^-13, what was sent before, newest first. -/
def precode1 (taps : List Int) (sent : List Rat) (s : Int) : Rat :=
  reduce24 (s + (List.zipWith (fun (t : Int) (x : Rat) => (t : Rat) / 8192 * x) taps sent).sum)

/-- A pair's symbols through the precoder, and what it remembers after them. A pair without taps sends its symbols as they are, and remembers
none of them (log entry 97). -/
def precode (taps : List Int) : List Rat → List Int → List Rat × List Rat
  | sent, [] => ([], sent)
  | sent, s :: l =>
    let x := if taps.isEmpty then (s : Rat) else precode1 taps sent s
    let (out, sent') := precode taps ((x :: sent).take taps.length) l
    (x :: out, sent')

/-! ## Overhead field (R89 to R91) -/

/-- MARKER. -/
def markerOf (mode : Nat) : Nat := if mode = 10 then 0x5B1E else 0x5B1EC2A7

/-- The overhead field above its check, highest bit first. -/
def overheadHead (mode number flags : Nat) (sv : Option Bool) : List Bool :=
  bitsOf (if mode = 10 then 16 else 32) (markerOf mode) ++ bitsOf (if mode = 10 then 12 else 16) number ++ bitsOf 6 flags
    ++ [sv.isSome, sv.getD false] ++ List.replicate (if mode = 10 then 8 else 30) false

/-- The overhead field. -/
def overhead (mode number flags : Nat) (sv : Option Bool) : List Bool :=
  overheadHead mode number flags sv ++ bitsOf 16 (crc16 (overheadHead mode number flags sv))

/-- What a received overhead field holds. -/
structure Overhead where
  ok : Bool
  number : Nat
  flags : Nat
  sv : Option Bool
  deriving DecidableEq, Repr

/-- Read an overhead field. -/
def readOverhead (mode : Nat) (b : List Bool) : Overhead :=
  let m := if mode = 10 then 16 else 32
  let k := if mode = 10 then 12 else 16
  let u := fun o w => natOfBits ((b.drop o).take w)
  { ok := u 0 m = markerOf mode && u (b.length - 16) 16 = crc16 (b.take (b.length - 16))
    number := u m k, flags := u (m + k) 6
    sv := if u (m + k + 6) 1 = 1 then some (u (m + k + 7) 1 = 1) else none }

/-! ## Training frames (R172, R173) -/

/-- The header of a training frame. -/
def trainHeader (stage : Nat) (locked converged : Bool) (flags : Nat) (sv : Option Bool) (hushed : Bool) (number : Nat) : Nat :=
  let head := ((((((0x3D96 * 8 + stage) * 2 + locked.toNat) * 2 + converged.toNat) * 64 + flags) * 2 + sv.isSome.toNat) * 2
    + (sv.getD false).toNat) * 2 + hushed.toNat
  let head := (head * 4) * 65536 + number % 65536
  head * 65536 + crc16 (bitsOf 48 head)

/-- A header is valid. -/
def headerValid (h : Nat) : Bool := field h 48 16 = 0x3D96 && crc16 (bitsOf 48 (h / 65536)) = h % 65536

/-- A bit as +11 or -11. -/
def bit11 (b : Bool) : Int := if b then 11 else -11

/-- The symbols of a training frame on one pair: the header, then the generator at two levels or with the whole alphabet. -/
def trainSymbols (mode stage header pair : Nat) : List Int :=
  let n := framePeriods mode - 64
  let body := if stage ≤ 2 then
      let g := genBits (4 * n) (2 ^ 58 - 1)
      (List.range n).map (fun i => bit11 (g.getD (4 * i + pair) false))
    else
      let g := genBits (14 * n) (2 ^ 58 - 1)
      pairSymbols ((List.range (2 * n)).map (fun i => natOfBits ((g.drop (7 * i)).take 7))) pair
  (bitsOf 64 header).map bit11 ++ body

end Sys2Proof.Machine
end

