-- ==== Sys2Proof/Config.lean ====
section
/-! DEFINITION. What the spec of the DZ12800 leaves to published standards, to the analogue world or to chance: constants without a body, so that
no proof can see a value. The log entries named at each say why. -/

namespace Sys2Proof.Config

/-- SHAKE256 of a message, so many bytes long (R210, R222, R236). Log entry 4. -/
opaque shake256 : List Byte → Nat → List Byte

/-- KMAC256: key, message, output length in bits, customisation string (R61, R222, R232). Log entry 4. -/
opaque kmac256 : List Byte → List Byte → Nat → List Byte → List Byte

/-- Ed448 signature by the device identity key under a context string (R212). Log entry 4. -/
opaque sign : List Byte → List Byte → List Byte

/-- Ed448 verification: public key, context string, message, signature (R212). Log entry 4. -/
opaque verify : List Byte → List Byte → List Byte → List Byte → Bool

/-- X448 public key of the private key that a draw gave, and the shared secret with a partner's public key (R60, R222). Log entry 4. -/
opaque x448Public : Nat → List Byte
opaque x448Shared : Nat → List Byte → List Byte

/-- AES key unwrap under a key: nothing when the integrity check fails (R232); and wrap (R211). Log entry 4. -/
opaque aesUnwrap : List Byte → List Byte → Option (List Byte)
opaque aesWrap : List Byte → List Byte → List Byte

/-- GCM-AES-XPN-256 (R230): byte `i` of the key stream that a key, salt, SSCI and packet number give, which a text is added to bit by bit; and the ICV over additional
data and the text so encrypted. Log entry 4. -/
opaque gcmStream : List Byte → List Byte → Nat → Nat → Nat → Byte
opaque gcmIcv : List Byte → List Byte → Nat → Nat → List Byte → List Byte → List Byte

/-- The Ed448 identity public key that Hallmark creates at entry to MANUFACTURE (R216). Log entry 4. -/
opaque identityPublic : Nat → List Byte

/-- Gwynale's return key, public half, in Hallmark's boot ROM (R217); Gwynale's image key (R212, R242). Log entry 4. -/
opaque gwynaleReturnKey : List Byte
opaque gwynaleImageKey : List Byte

/-- The n-th random draw, so many bytes long: challenges, nonces, ephemeral keys, delays (R60, R165, R180, R217, R226). Log entry 5. -/
opaque draw : Nat → Nat → List Byte
opaque drawNumber : Nat → Nat → Nat

/-- The n-th random draw as a number below a bound. -/
def drawBelow (n bound : Nat) : Nat := drawNumber n bound % bound

/-- The value an adapting engine has reached: port, pair, engine, adaptation epoch, tap (R125, R130). Log entry 6. -/
opaque adaptedTap : Nat → Nat → Nat → Nat → Nat → Int

/-- The standard mode (1 to 7 of R75) that a value of clause 45's PMA type selection selects, or 0: IEEE 802.3 gives the codes. Log entry 62. -/
opaque clause45Mode : Nat → Nat

/-- How many taps the precoder has that a standard mode's clause prescribes (R126): IEEE 802.3 gives it. Log entry 82. -/
opaque clausePrecoder : Nat → Nat

/-- The value by which that register names a standard mode (R74). Log entry 62. -/
opaque clause45Type : Nat → Nat

/-- Values the spec leaves open after a command that goes on: the number of the draw, and which of that draw's values. Log entry 7. -/
opaque freeValue : Nat → Nat → Nat

/-- The default shaping profile of a native mode, tap by tap in Q1.14, which Gwynale sets (R122). Log entry 80. -/
opaque shapingTap : Nat → Nat → Int

/-- The base page that offers a set of standard modes (layout of R77), and the unformatted pages behind message code 8, 9 or 10 for the modes offered, the
master-slave fields 0 multiport device, 1 single-port device, 2 manual configuration as master, and whether fast retrain is advertised: IEEE 802.3 gives the bits (R163, R164,
R170, R197). Log entry 82. -/
opaque basePage : Nat → Nat
opaque clausePages : Nat → Nat → Nat → Bool → List Nat

/-- What the evaluation of the ECHO coefficients of a pair finds, where the spec gives no rule (R326 to R328): the floor of the taps that follow a peak; the place of the
far end within its tap, in 65,536ths; and the reflections in a mode, each with its distance in 0.01 m, its return loss in Q8.8 dB and whether the impedance falls.
Log entry 109. -/
opaque echoFloor : List Int → Nat
opaque echoPlace : List Int → Nat → Nat
opaque echoReflections : Nat → List Int → List (Nat × Nat × Bool)

/-- A telemetry sample in Q2.14: what the prototype filter of a TLM_SHAPE makes of averages, each with its distance from the sample's instant in sixteenths of a
nanosecond (R346): the spec bounds the filter and gives no coefficients. Log entry 110. -/
opaque tlmSample : Nat → List (Int × Rat) → Nat

/-- The length in 1/16 ns of the LDPC frame of a standard mode, 2.5GBASE-T to 40GBASE-T: IEEE 802.3 gives it (R364). Log entry 95. -/
opaque clauseFrame : Nat → Nat

/-- The internal path delay of a port between framer and lands, in 1/16 ns: of the transmit or receive path, at a die temperature, as interpolation of the three
values measured in MANUFACTURE gives it (R312). Log entry 94. -/
opaque pathDelay : Nat → Bool → Int → Nat

/-- The body of a twill message of a KIND whose layout the spec does not give, from what it says (R272). Log entry 78. -/
opaque messageBody : Nat → List Nat → List Byte

end Sys2Proof.Config
end

