-- ==== Sys2Proof/Machine/Catalog.lean ====
section
/-! DEFINITION. The objects of the dictionary as R422 to R432 and the object tables of the chapters list them: one record for each
index or run of indices, one row for each subindex or run of subindices, with type, access class, power-on value, whether a warm reset
keeps the value, and the plain range of values a write accepts. Held twins of counters (R44) are not listed: they follow from the class. -/

namespace Sys2Proof.Machine

/-- The types of R33. -/
inductive Ty where
  | bool | u8 | u16 | u32 | u64 | i16 | i32 | octets (n : Nat)
  deriving DecidableEq, Repr

/-- The access classes of R34. -/
inductive Cls where
  | ro | rw | wo | w1 | rwl | st | cnt
  deriving DecidableEq, Repr

/-- One row of an object table: subindices `lo` to `hi`. -/
structure Field where
  lo : Nat
  hi : Nat
  ty : Ty
  cls : Cls
  dflt : Nat := 0
  /-- A warm reset keeps the value. -/
  kept : Bool := true
  /-- The power-on value of instance `k` of the record is `dflt + k` (`FC_SA`). -/
  step : Bool := false
  /-- Plain range of a written value, and the bits that are not RESERVED (R8). -/
  min : Nat := 0
  max : Option Nat := none
  mask : Option Nat := none
  deriving DecidableEq, Repr

/-- Objects at `base` to `base + count - 1` with the same rows. -/
structure Rec where
  base : Nat
  count : Nat
  fields : List Field
  deriving DecidableEq, Repr

/-- Size in bytes (R33). -/
def Ty.size : Ty → Nat
  | .bool => 1 | .u8 => 1 | .u16 => 2 | .u32 => 4 | .u64 => 8 | .i16 => 2 | .i32 => 4 | .octets n => n

/-- Type code (R33). -/
def Ty.code : Ty → Nat
  | .bool => 1 | .u8 => 2 | .u16 => 3 | .u32 => 4 | .u64 => 5 | .i16 => 6 | .i32 => 7 | .octets _ => 10

/-- Records from index 0x1000 on. -/
def Catalog.part1 : List Rec := [
  { base := 0x1000, count := 1, fields := [
    /- IDENTITY_PART -/ { lo := 1, hi := 1, ty := (.octets 8), cls := .ro, dflt := 0x445A313238303000 },
    /- IDENTITY_STEPPING -/ { lo := 2, hi := 2, ty := .u8, cls := .ro, dflt := 0xA1 }
  ] },
  { base := 0x1004, count := 1, fields := [
    /- IDENTITY_PUBKEY -/ { lo := 1, hi := 1, ty := (.octets 57), cls := .ro },
    /- IDENTITY_HASH -/ { lo := 2, hi := 2, ty := (.octets 32), cls := .ro }
  ] },
  { base := 0x1008, count := 1, fields := [
    /- LIFECYCLE_STATE -/ { lo := 1, hi := 1, ty := .u8, cls := .ro }
  ] },
  { base := 0x1010, count := 1, fields := [
    /- DIE_STATE (LD0 to LD7) -/ { lo := 1, hi := 8, ty := .u8, cls := .ro },
    /- DIE_STATE (HD) -/ { lo := 9, hi := 9, ty := .u8, cls := .ro, dflt := 1 }
  ] },
  { base := 0x1020, count := 1, fields := [
    /- FW_VERSION_MC, _HALLMARK, _SEQUENCER, _ASSAY -/ { lo := 1, hi := 4, ty := .u32, cls := .ro }
  ] },
  { base := 0x1030, count := 1, fields := [
    /- PORT_ENABLE_MAP -/ { lo := 1, hi := 2, ty := .u64, cls := .rw }
  ] },
  { base := 0x1040, count := 1, fields := [
    /- SLED_RATE -/ { lo := 1, hi := 1, ty := .u8, cls := .rw, max := some 2 },
    /- SLED_BITS -/ { lo := 2, hi := 2, ty := .u8, cls := .rw, dflt := 2, min := 1, max := some 4 },
    /- SLED_PERIOD -/ { lo := 3, hi := 3, ty := .u8, cls := .rw, dflt := 0x14, min := 0xA, max := some 0x64 }
  ] },
  { base := 0x1200, count := 1, fields := [
    /- PACE_POLICY -/ { lo := 1, hi := 2, ty := .u32, cls := .rw, dflt := 0x20400A05 }
  ] },
  { base := 0x1204, count := 1, fields := [
    /- AVS_LIMITS (VLC) -/ { lo := 1, hi := 1, ty := .u32, cls := .rwl, dflt := 0x3200226 },
    /- AVS_LIMITS (VHC) -/ { lo := 2, hi := 2, ty := .u32, cls := .rwl, dflt := 0x352028A },
    /- AVS_LIMITS_LOCK -/ { lo := 3, hi := 3, ty := .bool, cls := .w1 }
  ] },
  { base := 0x1208, count := 2, fields := [
    /- PACE_EVENTS_FIELD / _HOST (event bits) -/ { lo := 1, hi := 1, ty := .u32, cls := .st, kept := false },
    /- PACE_EVENTS_FIELD / _HOST (sequence number) -/ { lo := 2, hi := 2, ty := .u16, cls := .st },
    /- PACE_EVENTS_FIELD / _HOST (clear) -/ { lo := 3, hi := 3, ty := .u16, cls := .st }
  ] },
  { base := 0x120C, count := 1, fields := [
    /- PACE_SLACK_NOW -/ { lo := 1, hi := 9, ty := .u8, cls := .ro }
  ] },
  { base := 0x120D, count := 1, fields := [
    /- AVS_COMMANDED -/ { lo := 1, hi := 2, ty := .u16, cls := .ro }
  ] },
  { base := 0x1400, count := 1, fields := [
    /- MGMT_STATUS (event bits) -/ { lo := 1, hi := 1, ty := .u32, cls := .st, kept := false },
    /- MGMT_STATUS (sequence number) -/ { lo := 2, hi := 2, ty := .u16, cls := .st },
    /- MGMT_STATUS (clear) -/ { lo := 3, hi := 3, ty := .u16, cls := .st }
  ] },
  { base := 0x1404, count := 1, fields := [
    /- MGMT_COUNTERS -/ { lo := 1, hi := 0xA, ty := .u32, cls := .cnt }
  ] },
  { base := 0x1408, count := 1, fields := [
    /- CONFIG_CHECK_STATE -/ { lo := 1, hi := 1, ty := .u8, cls := .ro, dflt := 1 },
    /- CONFIG_CHECK_COMPUTED -/ { lo := 2, hi := 2, ty := .u32, cls := .ro },
    /- CONFIG_CHECK_REFERENCE -/ { lo := 3, hi := 3, ty := .u32, cls := .ro }
  ] },
  { base := 0x1410, count := 1, fields := [
    /- SNAPSHOT_NUMBER -/ { lo := 1, hi := 1, ty := .u32, cls := .ro },
    /- SNAPSHOT_TIME seconds -/ { lo := 2, hi := 2, ty := .u64, cls := .ro },
    /- SNAPSHOT_TIME nanoseconds -/ { lo := 3, hi := 3, ty := .u32, cls := .ro }
  ] },
  { base := 0x1420, count := 1, fields := [
    /- MGMT_MAC -/ { lo := 1, hi := 1, ty := (.octets 6), cls := .rwl, dflt := 0x247575A0000 },
    /- MGMT_NODE_ID -/ { lo := 2, hi := 2, ty := .u8, cls := .ro },
    /- MGMT_MAC_LOCK -/ { lo := 3, hi := 3, ty := .bool, cls := .w1 }
  ] },
  { base := 0x1424, count := 1, fields := [
    /- INBAND_LANE -/ { lo := 1, hi := 1, ty := .u16, cls := .rwl, dflt := 0xFFFF },
    /- INBAND_LOCK -/ { lo := 2, hi := 2, ty := .bool, cls := .w1 }
  ] },
  { base := 0x1428, count := 1, fields := [
    /- NOTIFY_DEST -/ { lo := 1, hi := 1, ty := (.octets 6), cls := .rw },
    /- NOTIFY_ROUTE -/ { lo := 2, hi := 2, ty := .u8, cls := .rw, max := some 2 },
    /- NOTIFY_INTERVAL -/ { lo := 3, hi := 3, ty := .u16, cls := .rw, dflt := 0xA, min := 1, max := some 0xEA60 }
  ] },
  { base := 0x1430, count := 1, fields := [
    /- SESSION_STATE -/ { lo := 1, hi := 4, ty := .u8, cls := .ro, kept := false }
  ] },
  { base := 0x1434, count := 1, fields := [
    /- SESSION_IDLE_LIMIT -/ { lo := 0, hi := 0, ty := .u16, cls := .rw, dflt := 0x258, min := 0xA, max := some 0xE10 }
  ] }]

/-- Records from index 0x1440 on. -/
def Catalog.part2 : List Rec := [
  { base := 0x1440, count := 1, fields := [
    /- PEWTER_MODE -/ { lo := 1, hi := 1, ty := .u8, cls := .rwl, dflt := 2, max := some 2 },
    /- PEWTER_LOCK -/ { lo := 2, hi := 2, ty := .bool, cls := .w1 }
  ] },
  { base := 0x1800, count := 1, fields := [
    /- START_STATE -/ { lo := 1, hi := 1, ty := .u8, cls := .ro },
    /- START_KIND -/ { lo := 2, hi := 2, ty := .u8, cls := .ro },
    /- START_QUICK -/ { lo := 3, hi := 3, ty := .bool, cls := .ro },
    /- START_FULL_REASON -/ { lo := 4, hi := 4, ty := .u8, cls := .ro },
    /- START_TIME -/ { lo := 5, hi := 5, ty := .u32, cls := .ro },
    /- START_FAILS -/ { lo := 6, hi := 6, ty := .u8, cls := .ro },
    /- OPTION_SOURCE -/ { lo := 7, hi := 7, ty := .u8, cls := .ro },
    /- STRAPS -/ { lo := 8, hi := 8, ty := .u16, cls := .ro },
    /- OPTION_SEQUENCE -/ { lo := 9, hi := 9, ty := .u32, cls := .ro },
    /- WARM_DEFERRED -/ { lo := 0xA, hi := 0xA, ty := .bool, cls := .ro, kept := false },
    /- START_FAIL_STEP -/ { lo := 0xB, hi := 0xB, ty := .u8, cls := .ro, dflt := 0xFF }
  ] },
  { base := 0x1804, count := 1, fields := [
    /- RESET_REQUEST -/ { lo := 0, hi := 0, ty := (.octets 4), cls := .wo, kept := false }
  ] },
  { base := 0x1806, count := 1, fields := [
    /- RECOVERY_EXIT -/ { lo := 0, hi := 0, ty := .u8, cls := .wo, kept := false }
  ] },
  { base := 0x1808, count := 1, fields := [
    /- ISLAND_RELEASE -/ { lo := 0, hi := 0, ty := (.octets 2), cls := .wo, kept := false }
  ] },
  { base := 0x1820, count := 1, fields := [
    /- CLOCK_SOURCE -/ { lo := 1, hi := 9, ty := .u8, cls := .ro }
  ] },
  { base := 0x1824, count := 1, fields := [
    /- CLOCK_STATUS_HOST (event bits) -/ { lo := 1, hi := 1, ty := .u32, cls := .st, kept := false },
    /- CLOCK_STATUS_HOST (sequence number) -/ { lo := 2, hi := 2, ty := .u16, cls := .st },
    /- CLOCK_STATUS_HOST (clear) -/ { lo := 3, hi := 3, ty := .u16, cls := .st }
  ] },
  { base := 0x1828, count := 8, fields := [
    /- CLOCK_STATUS_LD (event bits) -/ { lo := 1, hi := 1, ty := .u32, cls := .st, kept := false },
    /- CLOCK_STATUS_LD (sequence number) -/ { lo := 2, hi := 2, ty := .u16, cls := .st },
    /- CLOCK_STATUS_LD (clear) -/ { lo := 3, hi := 3, ty := .u16, cls := .st }
  ] },
  { base := 0x1830, count := 9, fields := [
    /- FC_START -/ { lo := 1, hi := 1, ty := (.octets 8), cls := .wo, kept := false },
    /- FC_STATE -/ { lo := 2, hi := 2, ty := .u8, cls := .ro, kept := false },
    /- FC_MEAS_COUNT -/ { lo := 3, hi := 3, ty := .u64, cls := .ro, kept := false },
    /- FC_REF_COUNT -/ { lo := 4, hi := 4, ty := .u64, cls := .ro, kept := false },
    /- FC_DEVIATION -/ { lo := 5, hi := 5, ty := .i32, cls := .ro, kept := false },
    /- FC_ABORT -/ { lo := 6, hi := 6, ty := .u8, cls := .wo, kept := false }
  ] },
  { base := 0x1C00, count := 969, fields := [
    /- FAULT_STATUS (event bits) -/ { lo := 1, hi := 1, ty := .u32, cls := .st, kept := false },
    /- FAULT_STATUS (sequence number) -/ { lo := 2, hi := 2, ty := .u16, cls := .st },
    /- FAULT_STATUS (clear) -/ { lo := 3, hi := 3, ty := .u16, cls := .st },
    /- FAULT_INT_ENABLE -/ { lo := 4, hi := 4, ty := .u32, cls := .rw, dflt := 0x24C, mask := some 0x3EF },
    /- FAULT_INT_ROUTE -/ { lo := 5, hi := 5, ty := .u8, cls := .rw, max := some 3 },
    /- FAULT_STATE -/ { lo := 6, hi := 6, ty := .u8, cls := .ro },
    /- FAULT_FIRST -/ { lo := 7, hi := 7, ty := (.octets 20), cls := .ro },
    /- FAULT_LAST_CAUSE -/ { lo := 8, hi := 8, ty := .u16, cls := .ro, dflt := 0xFFFF },
    /- FAULT_FIRST_REARM -/ { lo := 9, hi := 9, ty := .u8, cls := .wo, kept := false },
    /- FAULT_EVENTS -/ { lo := 0x10, hi := 0x10, ty := .u32, cls := .cnt },
    /- FAULT_CONSEQUENT -/ { lo := 0x11, hi := 0x11, ty := .u32, cls := .cnt },
    /- FAULT_REACTIONS -/ { lo := 0x12, hi := 0x12, ty := .u32, cls := .cnt }
  ] }]

/-- Records from index 0x1FE0 on. -/
def Catalog.part3 : List Rec := [
  { base := 0x1FE0, count := 1, fields := [
    /- MODULE_FAULT_STATE -/ { lo := 1, hi := 1, ty := .u8, cls := .ro, kept := false },
    /- MODULE_FIRST_FAULT -/ { lo := 2, hi := 2, ty := (.octets 20), cls := .ro },
    /- MODULE_FIRST_REARM -/ { lo := 3, hi := 3, ty := .u8, cls := .wo, kept := false },
    /- MODULE_FAULTS_AFTER -/ { lo := 4, hi := 4, ty := .u32, cls := .cnt }
  ] },
  { base := 0x1FE1, count := 1, fields := [
    /- MODULE_FAULT_STATUS (event bits) -/ { lo := 1, hi := 1, ty := .u32, cls := .st, kept := false },
    /- MODULE_FAULT_STATUS (sequence number) -/ { lo := 2, hi := 2, ty := .u16, cls := .st },
    /- MODULE_FAULT_STATUS (clear) -/ { lo := 3, hi := 3, ty := .u16, cls := .st }
  ] },
  { base := 0x1FF0, count := 1, fields := [
    /- ESCALATION Port -/ { lo := 1, hi := 1, ty := .u32, cls := .rw, dflt := 0x403E830, mask := some 0xFFFFFFF0 },
    /- ESCALATION Timestamp unit -/ { lo := 2, hi := 2, ty := .u32, cls := .rw, dflt := 0x403E800, mask := some 0xFFFFFFF0 },
    /- ESCALATION Host lane -/ { lo := 3, hi := 3, ty := .u32, cls := .rw, dflt := 0x803E830, mask := some 0xFFFFFFF0 },
    /- ESCALATION Twill lane -/ { lo := 4, hi := 4, ty := .u32, cls := .rw, dflt := 0x1003E800, mask := some 0xFFFFFFF0 },
    /- ESCALATION Line die core -/ { lo := 5, hi := 5, ty := .u32, cls := .rw, dflt := 0x4006430, mask := some 0xFFFFFFF0 },
    /- ESCALATION Twill link -/ { lo := 6, hi := 6, ty := .u32, cls := .rw, dflt := 0x4006400, mask := some 0xFFFFFFF0 },
    /- ESCALATION Queue manager -/ { lo := 7, hi := 7, ty := .u32, cls := .rw, dflt := 0x403E830, mask := some 0xFFFFFFF0 },
    /- ESCALATION Time base -/ { lo := 8, hi := 8, ty := .u32, cls := .rw, dflt := 0x203E800, mask := some 0xFFFFFFF0 }
  ] },
  { base := 0x1FF8, count := 1, fields := [
    /- INJECT -/ { lo := 1, hi := 1, ty := (.octets 8), cls := .wo, kept := false },
    /- INJECT_STATE -/ { lo := 2, hi := 2, ty := .u8, cls := .ro, kept := false },
    /- INJECT_CANCEL -/ { lo := 3, hi := 3, ty := .u8, cls := .wo, kept := false },
    /- INJECTIONS -/ { lo := 4, hi := 4, ty := .u32, cls := .cnt }
  ] },
  { base := 0x2000, count := 128, fields := [
    /- HL_RATE -/ { lo := 1, hi := 1, ty := .u8, cls := .rw, dflt := 1, min := 1, max := some 4 },
    /- HL_TX_EQ -/ { lo := 2, hi := 2, ty := .u32, cls := .rw, dflt := 0xFA34FA },
    /- HL_POLARITY -/ { lo := 3, hi := 3, ty := .u8, cls := .rw, mask := some 3 },
    /- HL_MAX_FRAME -/ { lo := 4, hi := 4, ty := .u16, cls := .rw, dflt := 0x2580, min := 0x40, max := some 0x2580 }
  ] },
  { base := 0x2080, count := 128, fields := [
    /- HL_STATUS (event bits) -/ { lo := 1, hi := 1, ty := .u32, cls := .st, kept := false },
    /- HL_STATUS (sequence number) -/ { lo := 2, hi := 2, ty := .u16, cls := .st },
    /- HL_STATUS (clear) -/ { lo := 3, hi := 3, ty := .u16, cls := .st }
  ] },
  { base := 0x2100, count := 128, fields := [
    /- HL_STATE -/ { lo := 1, hi := 1, ty := .u8, cls := .ro },
    /- HL_TX_SIGNAL -/ { lo := 2, hi := 2, ty := .u8, cls := .ro }
  ] },
  { base := 0x2180, count := 128, fields := [
    /- HL_FRAMES_RX to HL_FC_TX -/ { lo := 1, hi := 0xB, ty := .u64, cls := .cnt }
  ] },
  { base := 0x2200, count := 128, fields := [
    /- FC_HOST_MODE -/ { lo := 1, hi := 1, ty := .u8, cls := .rw, dflt := 1, max := some 2 },
    /- FC_LINE_MODE -/ { lo := 2, hi := 2, ty := .u8, cls := .rw, dflt := 1, max := some 2 },
    /- EG_XOFF -/ { lo := 3, hi := 3, ty := .u32, cls := .rw, dflt := 0x20000 },
    /- EG_XON -/ { lo := 4, hi := 4, ty := .u32, cls := .rw, dflt := 0x18000 },
    /- EG_CLASS_XOFF -/ { lo := 5, hi := 5, ty := .u32, cls := .rw, dflt := 0x10000 },
    /- EG_CLASS_XON -/ { lo := 6, hi := 6, ty := .u32, cls := .rw, dflt := 0xC000 },
    /- ING_XOFF -/ { lo := 7, hi := 7, ty := .u32, cls := .rw, dflt := 0x8000 },
    /- ING_XON -/ { lo := 8, hi := 8, ty := .u32, cls := .rw, dflt := 0x4000 },
    /- ING_CLASS_XOFF -/ { lo := 9, hi := 9, ty := .u32, cls := .rw, dflt := 0x6000 },
    /- ING_CLASS_XON -/ { lo := 0xA, hi := 0xA, ty := .u32, cls := .rw, dflt := 0x3000 },
    /- PAUSE_QUANTA -/ { lo := 0xB, hi := 0xB, ty := .u16, cls := .rw, dflt := 0xFFFF, min := 1, max := some 0xFFFF },
    /- FC_RX_HONOUR -/ { lo := 0xC, hi := 0xC, ty := .u8, cls := .rw, dflt := 3, mask := some 3 },
    /- FC_SA -/ { lo := 0xD, hi := 0xD, ty := (.octets 6), cls := .rw, dflt := 0x247575A8000, step := true }
  ] }]

/-- Records from index 0x2280 on. -/
def Catalog.part4 : List Rec := [
  { base := 0x2280, count := 128, fields := [
    /- CLASS_MAP -/ { lo := 1, hi := 1, ty := .u32, cls := .rw, dflt := 0xFAC688, mask := some 0xFFFFFF },
    /- CLASS_DEFAULT -/ { lo := 2, hi := 2, ty := .u8, cls := .rw, max := some 7 },
    /- SCHED_STRICT -/ { lo := 3, hi := 3, ty := .u8, cls := .rw, dflt := 0x80 },
    /- SCHED_WEIGHT0 to 7 -/ { lo := 4, hi := 0xB, ty := .u8, cls := .rw, dflt := 1, min := 1, max := some 0x40 }
  ] },
  { base := 0x2300, count := 128, fields := [
    /- QUEUE_DEPTH -/ { lo := 1, hi := 0x20, ty := .u32, cls := .ro, kept := false },
    /- EGRESS_OCCUPANCY, INGRESS_OCCUPANCY -/ { lo := 0x21, hi := 0x22, ty := .u32, cls := .ro, kept := false },
    /- FC_STATE -/ { lo := 0x23, hi := 0x23, ty := .u32, cls := .ro }
  ] },
  { base := 0x2380, count := 128, fields := [
    /- QUEUE_FRAMES -/ { lo := 1, hi := 0x20, ty := .u64, cls := .cnt }
  ] },
  { base := 0x2400, count := 128, fields := [
    /- QUEUE_BYTES -/ { lo := 1, hi := 0x20, ty := .u64, cls := .cnt }
  ] },
  { base := 0x2480, count := 128, fields := [
    /- QUEUE_DISCARDS -/ { lo := 1, hi := 0x20, ty := .u32, cls := .cnt }
  ] },
  { base := 0x2500, count := 128, fields := [
    /- DISCARD_FAULT to DISCARD_ERRORED -/ { lo := 1, hi := 9, ty := .u64, cls := .cnt },
    /- FC_TO_LINE, FC_FROM_LINE -/ { lo := 0xA, hi := 0xB, ty := .u64, cls := .cnt }
  ] },
  { base := 0x3000, count := 1, fields := [
    /- TWILL_CLOCK_MODE -/ { lo := 1, hi := 1, ty := .u8, cls := .ro },
    /- TWILL_IDLE_ENABLE -/ { lo := 2, hi := 2, ty := .bool, cls := .rw, dflt := 1 },
    /- TWILL_IDLE_ENTRY_US -/ { lo := 3, hi := 3, ty := .u16, cls := .rw, dflt := 0x32, min := 0xA, max := some 0x2710 },
    /- TWILL_REINSTATE -/ { lo := 4, hi := 4, ty := .bool, cls := .rw, dflt := 1 }
  ] },
  { base := 0x3010, count := 1, fields := [
    /- TWILL_LINK_STATE -/ { lo := 1, hi := 8, ty := .u8, cls := .ro }
  ] },
  { base := 0x3011, count := 1, fields := [
    /- TWILL_EPOCH -/ { lo := 1, hi := 8, ty := .u8, cls := .ro }
  ] },
  { base := 0x3012, count := 1, fields := [
    /- TWILL_ATTEMPTS -/ { lo := 1, hi := 8, ty := .u8, cls := .ro }
  ] },
  { base := 0x3020, count := 8, fields := [
    /- TWILL_STATUS (event bits) -/ { lo := 1, hi := 1, ty := .u32, cls := .st, kept := false },
    /- TWILL_STATUS (sequence number) -/ { lo := 2, hi := 2, ty := .u16, cls := .st },
    /- TWILL_STATUS (clear) -/ { lo := 3, hi := 3, ty := .u16, cls := .st }
  ] },
  { base := 0x3030, count := 2, fields := [
    /- TWILL_LANE_STATE (down, up) -/ { lo := 1, hi := 8, ty := (.octets 35), cls := .ro }
  ] },
  { base := 0x3038, count := 2, fields := [
    /- TWILL_MAP_DOWN, TWILL_MAP_UP -/ { lo := 1, hi := 8, ty := (.octets 32), cls := .ro }
  ] },
  { base := 0x3040, count := 2, fields := [
    /- TWILL_CAPACITY_DOWN, _UP -/ { lo := 1, hi := 8, ty := .u32, cls := .ro }
  ] },
  { base := 0x3042, count := 1, fields := [
    /- TWILL_DEMAND -/ { lo := 1, hi := 8, ty := .u32, cls := .ro }
  ] },
  { base := 0x3043, count := 1, fields := [
    /- TWILL_SHED_MAP -/ { lo := 1, hi := 8, ty := .u16, cls := .ro }
  ] },
  { base := 0x3080, count := 8, fields := [
    /- TWILL_COUNTERS -/ { lo := 1, hi := 0xA, ty := .u32, cls := .cnt }
  ] },
  { base := 0x3100, count := 16, fields := [
    /- TWILL_LANE_ERRORS -/ { lo := 1, hi := 0x22, ty := .u32, cls := .cnt }
  ] },
  { base := 0x3200, count := 16, fields := [
    /- TWILL_TAPS -/ { lo := 1, hi := 0x22, ty := .u32, cls := .ro }
  ] },
  { base := 0x3400, count := 1, fields := [
    /- TWILL_TEST_START -/ { lo := 1, hi := 8, ty := (.octets 16), cls := .wo, kept := false }
  ] },
  { base := 0x3401, count := 1, fields := [
    /- TWILL_TEST_STOP -/ { lo := 1, hi := 8, ty := .u8, cls := .wo, kept := false }
  ] },
  { base := 0x3402, count := 1, fields := [
    /- TWILL_TEST_STATE -/ { lo := 1, hi := 8, ty := .u8, cls := .ro, kept := false }
  ] },
  { base := 0x3410, count := 8, fields := [
    /- TWILL_TEST_ERRORS -/ { lo := 1, hi := 0x22, ty := .u32, cls := .ro },
    /- TWILL_TEST_BITS -/ { lo := 0x23, hi := 0x23, ty := .u64, cls := .ro }
  ] },
  { base := 0x4000, count := 128, fields := [
    /- PORT_CONTROL -/ { lo := 1, hi := 1, ty := .u32, cls := .rw, dflt := 2, mask := some 0xE },
    /- PORT_LED_MODE -/ { lo := 2, hi := 2, ty := .u8, cls := .rw, dflt := 1, max := some 3 },
    /- PORT_LABEL -/ { lo := 3, hi := 3, ty := (.octets 16), cls := .rw },
    /- PORT_ADVERTISE -/ { lo := 4, hi := 4, ty := .u16, cls := .rw, dflt := 0x3FF, mask := some 0x3FF },
    /- PORT_FORCE_MODE -/ { lo := 5, hi := 5, ty := .u8, cls := .rw, max := some 1 },
    /- PARTNER_ANSWER -/ { lo := 6, hi := 6, ty := .bool, cls := .rw, dflt := 1 },
    /- SELVAGE_TELEMETRY_MS -/ { lo := 7, hi := 7, ty := .u16, cls := .rw, dflt := 0x3E8 }
  ] }]

/-- Records from index 0x4080 on. -/
def Catalog.part5 : List Rec := [
  { base := 0x4080, count := 128, fields := [
    /- PORT_STATUS (event bits) -/ { lo := 1, hi := 1, ty := .u32, cls := .st, kept := false },
    /- PORT_STATUS (sequence number) -/ { lo := 2, hi := 2, ty := .u16, cls := .st },
    /- PORT_STATUS (clear) -/ { lo := 3, hi := 3, ty := .u16, cls := .st },
    /- PORT_MODE_ACTIVE -/ { lo := 4, hi := 4, ty := .u8, cls := .ro },
    /- PORT_ADVERTISE_EFFECTIVE -/ { lo := 5, hi := 5, ty := .u16, cls := .ro, dflt := 0x3FF },
    /- LINK_STATE -/ { lo := 6, hi := 6, ty := .u8, cls := .ro }
  ] },
  { base := 0x4100, count := 128, fields := [
    /- ROLE_CONFIG -/ { lo := 1, hi := 1, ty := .u8, cls := .rw, max := some 2 },
    /- NEG_RESTART -/ { lo := 2, hi := 2, ty := .u8, cls := .wo, kept := false },
    /- NEG_RESULT -/ { lo := 3, hi := 3, ty := .u8, cls := .ro },
    /- PARTNER_ADVERTISE -/ { lo := 4, hi := 4, ty := .u16, cls := .ro },
    /- PARTNER_NATIVE_PAGE -/ { lo := 5, hi := 5, ty := .u32, cls := .ro },
    /- ROLE_RANKS -/ { lo := 6, hi := 6, ty := .u8, cls := .ro },
    /- PARTNER_QUERY -/ { lo := 0x20, hi := 0x20, ty := .u8, cls := .wo, kept := false },
    /- PARTNER_QUERY_STATE -/ { lo := 0x21, hi := 0x21, ty := .u8, cls := .ro, kept := false },
    /- PARTNER_IDENTITY -/ { lo := 0x22, hi := 0x22, ty := (.octets 25), cls := .ro },
    /- PARTNER_VERSIONS -/ { lo := 0x23, hi := 0x23, ty := (.octets 16), cls := .ro }
  ] },
  { base := 0x4180, count := 128, fields := [
    /- TRAIN_STAGE -/ { lo := 1, hi := 1, ty := .u8, cls := .ro },
    /- TRAIN_TIMEOUT_1 -/ { lo := 2, hi := 2, ty := .u16, cls := .rw, dflt := 0x14, min := 0xA, max := some 0x3E8 },
    /- TRAIN_TIMEOUT_2 -/ { lo := 3, hi := 3, ty := .u16, cls := .rw, dflt := 0xA, min := 1, max := some 0x3E8 },
    /- TRAIN_TIMEOUT_3 -/ { lo := 4, hi := 4, ty := .u16, cls := .rw, dflt := 0x64, min := 0xA, max := some 0x1388 },
    /- TRAIN_TIMEOUT_4 -/ { lo := 5, hi := 5, ty := .u16, cls := .rw, dflt := 0xA, min := 2, max := some 0x3E8 },
    /- TRAIN_TIMEOUT_5 -/ { lo := 6, hi := 6, ty := .u16, cls := .rw, dflt := 0xC8, min := 0x32, max := some 0x1388 },
    /- TRAIN_TIMEOUT_6 -/ { lo := 7, hi := 7, ty := .u16, cls := .rw, dflt := 2, min := 1, max := some 0x64 },
    /- ATTEMPT_LIMIT -/ { lo := 8, hi := 8, ty := .u8, cls := .rw, dflt := 8, min := 1, max := some 0xFF },
    /- BACKOFF_TIME -/ { lo := 9, hi := 9, ty := .u16, cls := .rw, dflt := 0xA, min := 1, max := some 0xE10 },
    /- AUTO_DIAG -/ { lo := 0xA, hi := 0xA, ty := .bool, cls := .rw, dflt := 1 },
    /- ATTEMPTS -/ { lo := 0xB, hi := 0xB, ty := .u8, cls := .ro, kept := false },
    /- LAST_FAIL -/ { lo := 0xC, hi := 0xC, ty := .u8, cls := .ro },
    /- BACKOFF_REMAINING -/ { lo := 0xD, hi := 0xD, ty := .u32, cls := .ro, kept := false },
    /- RELOCK_NOW -/ { lo := 0x10, hi := 0x10, ty := .u8, cls := .wo, kept := false },
    /- RELOCK_LAST_CAUSE -/ { lo := 0x11, hi := 0x11, ty := .u8, cls := .ro },
    /- RELOCK_LAST_TIME -/ { lo := 0x12, hi := 0x12, ty := .u16, cls := .ro },
    /- RELOCK_MAX_TIME -/ { lo := 0x13, hi := 0x13, ty := .u16, cls := .ro },
    /- LOSS_FRAMES -/ { lo := 0x14, hi := 0x14, ty := .u16, cls := .rw, dflt := 0x40, min := 4, max := some 0x1000 },
    /- LOSS_MARGIN -/ { lo := 0x15, hi := 0x15, ty := .i16, cls := .rw, dflt := 0xFE00 },
    /- FAST_RETRAIN_ENABLE -/ { lo := 0x16, hi := 0x16, ty := .bool, cls := .rw, dflt := 1 }
  ] },
  { base := 0x4200, count := 128, fields := [
    /- QUIET_POLICY -/ { lo := 1, hi := 1, ty := .u8, cls := .rw, max := some 2 },
    /- QUIET_ENTRY_US -/ { lo := 2, hi := 2, ty := .u32, cls := .rw, dflt := 0xC8, min := 0xA, max := some 0x989680 },
    /- DEEP_ENTRY_MS -/ { lo := 3, hi := 3, ty := .u32, cls := .rw, dflt := 0x64, min := 1, max := some 0x36EE80 },
    /- QUIET_STATE_TX -/ { lo := 4, hi := 4, ty := .u8, cls := .ro },
    /- QUIET_STATE_RX -/ { lo := 5, hi := 5, ty := .u8, cls := .ro },
    /- PARTNER_QUIET_ABLE -/ { lo := 6, hi := 6, ty := .u8, cls := .ro }
  ] }]

/-- Records from index 0x4280 on. -/
def Catalog.part6 : List Rec := [
  { base := 0x4280, count := 128, fields := [
    /- LINK_UPS to QUIET_TIME_MS -/ { lo := 1, hi := 0xC, ty := .u32, cls := .cnt }
  ] },
  { base := 0x4300, count := 128, fields := [
    /- MARGIN_A to _D -/ { lo := 1, hi := 4, ty := .i16, cls := .ro },
    /- SNR_A to _D -/ { lo := 5, hi := 8, ty := .i16, cls := .ro },
    /- MARGIN_LOW -/ { lo := 9, hi := 9, ty := .i16, cls := .ro, dflt := 0x7FFF },
    /- NATIVE_FRAMES_RX to SELVAGE_MSG_RX -/ { lo := 0x10, hi := 0x1B, ty := .u64, cls := .cnt },
    /- PARTNER_MARGIN -/ { lo := 0x20, hi := 0x23, ty := .i16, cls := .ro },
    /- PARTNER_MARGIN_AGE -/ { lo := 0x24, hi := 0x24, ty := .u32, cls := .ro, dflt := 0xFFFFFFFF }
  ] },
  { base := 0x4380, count := 128, fields := [
    /- BUNDLE_GROUP -/ { lo := 1, hi := 1, ty := .u8, cls := .rw, dflt := 0xFF },
    /- BUNDLE_STATE -/ { lo := 2, hi := 2, ty := .u8, cls := .ro },
    /- BUNDLE_REASON -/ { lo := 3, hi := 3, ty := .u8, cls := .ro },
    /- BUNDLE_DISTURBERS -/ { lo := 4, hi := 4, ty := .u8, cls := .ro },
    /- BUNDLE_HUSH_STARTS -/ { lo := 0x10, hi := 0x10, ty := .u32, cls := .cnt },
    /- BUNDLE_EXCLUSIONS -/ { lo := 0x11, hi := 0x11, ty := .u32, cls := .cnt }
  ] },
  { base := 0x4400, count := 128, fields := [
    /- SEAL_MODE -/ { lo := 1, hi := 1, ty := .u8, cls := .rwl, max := some 3 },
    /- SEAL_CLEAR_CLASSES -/ { lo := 2, hi := 2, ty := .u8, cls := .rwl },
    /- SEAL_CLEAR_ETHERTYPE1 -/ { lo := 3, hi := 3, ty := .u16, cls := .rwl, dflt := 0x888E },
    /- SEAL_CLEAR_ETHERTYPE2 to 4 -/ { lo := 4, hi := 6, ty := .u16, cls := .rwl },
    /- SECY_CONFIG -/ { lo := 7, hi := 7, ty := .u8, cls := .rwl, dflt := 3, mask := some 3 },
    /- SECY_REPLAY_WINDOW -/ { lo := 8, hi := 8, ty := .u32, cls := .rwl },
    /- SECY_SCI -/ { lo := 9, hi := 9, ty := (.octets 8), cls := .rwl },
    /- SEAL_STATE -/ { lo := 0xA, hi := 0xA, ty := .u8, cls := .ro },
    /- SEAL_FAIL_REASON -/ { lo := 0xB, hi := 0xB, ty := .u8, cls := .ro },
    /- SEAL_PEER_ID -/ { lo := 0xC, hi := 0xC, ty := (.octets 32), cls := .ro },
    /- SEAL_EPOCH -/ { lo := 0xD, hi := 0xD, ty := .u32, cls := .ro },
    /- SEAL_KEY_AGE -/ { lo := 0xE, hi := 0xE, ty := .u32, cls := .ro },
    /- SEAL_REKEY_NOW -/ { lo := 0xF, hi := 0xF, ty := .u8, cls := .wo, kept := false },
    /- SA_INSTALL -/ { lo := 0x10, hi := 0x10, ty := (.octets 68), cls := .wo, kept := false },
    /- SA_TX_SELECT -/ { lo := 0x11, hi := 0x11, ty := .u8, cls := .wo, kept := false },
    /- SA_DELETE -/ { lo := 0x12, hi := 0x12, ty := .u8, cls := .wo, kept := false },
    /- SA_STATUS -/ { lo := 0x13, hi := 0x13, ty := .u16, cls := .ro },
    /- SEAL_COUNTERS -/ { lo := 0x20, hi := 0x27, ty := .u64, cls := .cnt }
  ] },
  { base := 0x4480, count := 128, fields := [
    /- TS_ENABLE -/ { lo := 1, hi := 1, ty := .u8, cls := .rw, dflt := 0x3B, mask := some 0x3F },
    /- TS_TX_OFFSET -/ { lo := 2, hi := 2, ty := .i32, cls := .rw },
    /- TS_RX_OFFSET -/ { lo := 3, hi := 3, ty := .i32, cls := .rw },
    /- RING_WRITTEN -/ { lo := 4, hi := 4, ty := .u32, cls := .ro },
    /- RING_OVERWRITTEN -/ { lo := 5, hi := 5, ty := .u32, cls := .cnt },
    /- CABLE_DELAY -/ { lo := 6, hi := 6, ty := .u32, cls := .ro, dflt := 0xFFFFFFFF },
    /- CABLE_SKEW_B to _D -/ { lo := 7, hi := 9, ty := .i32, cls := .ro },
    /- CABLE_AGE -/ { lo := 0xA, hi := 0xA, ty := .u32, cls := .ro, dflt := 0xFFFFFFFF },
    /- TS_INTERNAL_TX, _RX -/ { lo := 0xB, hi := 0xC, ty := .u32, cls := .ro },
    /- ONE_STEP_SKIPPED -/ { lo := 0xD, hi := 0xD, ty := .u32, cls := .cnt },
    /- RING_ENTRY -/ { lo := 0x40, hi := 0x7F, ty := (.octets 32), cls := .ro }
  ] }]

/-- Records from index 0x5000 on. -/
def Catalog.part7 : List Rec := [
  { base := 0x5000, count := 128, fields := [
    /- ADAPT_CONTROL -/ { lo := 1, hi := 0xA, ty := .u32, cls := .rw, mask := some 0x9F9F9F9F },
    /- ADAPT_HOLD -/ { lo := 0xB, hi := 0xB, ty := .u16, cls := .wo, kept := false }
  ] },
  { base := 0x5080, count := 128, fields := [
    /- ADAPT_STATE -/ { lo := 1, hi := 4, ty := .u32, cls := .ro },
    /- ADAPT_HOLD_CAUSE -/ { lo := 5, hi := 5, ty := .u8, cls := .ro }
  ] },
  { base := 0x5100, count := 128, fields := [
    /- TX_SHAPING_PROFILE -/ { lo := 1, hi := 1, ty := .u8, cls := .rw, max := some 1 },
    /- TX_SHAPING_TAP0 -/ { lo := 2, hi := 2, ty := .i16, cls := .rw, dflt := 0x4000 },
    /- TX_SHAPING_TAP1 to TAP7 -/ { lo := 3, hi := 9, ty := .i16, cls := .rw },
    /- TX_LEVEL -/ { lo := 0xA, hi := 0xA, ty := .i16, cls := .rw }
  ] },
  { base := 0x5180, count := 128, fields := [
    /- TIMING_LOOP_BW -/ { lo := 1, hi := 1, ty := .u8, cls := .rw, dflt := 1, max := some 2 },
    /- TIMING_FREQ_OFFSET -/ { lo := 2, hi := 2, ty := .i32, cls := .ro },
    /- TIMING_PHASE_RMS -/ { lo := 3, hi := 3, ty := .u16, cls := .ro },
    /- TIMING_ROLE -/ { lo := 4, hi := 4, ty := .u8, cls := .ro }
  ] },
  { base := 0x5200, count := 128, fields := [
    /- CKPT_STATE -/ { lo := 1, hi := 1, ty := .u8, cls := .ro },
    /- CKPT_AGE -/ { lo := 2, hi := 2, ty := .u32, cls := .ro, dflt := 0xFFFFFFFF },
    /- CKPT_SEQUENCE -/ { lo := 3, hi := 3, ty := .u32, cls := .ro },
    /- CKPT_NOW -/ { lo := 4, hi := 4, ty := .u8, cls := .wo, kept := false },
    /- CKPT_WRITTEN, _ABANDONED, _RELOADS, _NO_SLOT -/ { lo := 0x10, hi := 0x13, ty := .u32, cls := .cnt }
  ] },
  { base := 0x5400, count := 16, fields := [
    /- COEF_CAPTURE -/ { lo := 1, hi := 1, ty := (.octets 8), cls := .wo, kept := false },
    /- COEF_WRITE -/ { lo := 2, hi := 2, ty := (.octets 1024), cls := .wo, kept := false },
    /- COEF_RELEASE -/ { lo := 3, hi := 3, ty := .u8, cls := .wo, kept := false },
    /- COEF_STATE -/ { lo := 4, hi := 4, ty := .u8, cls := .ro, kept := false },
    /- COEF_SELECTION -/ { lo := 5, hi := 5, ty := (.octets 8), cls := .ro, kept := false },
    /- COEF_DATA -/ { lo := 6, hi := 6, ty := (.octets 1024), cls := .ro, kept := false },
    /- COEF_CAPTURES -/ { lo := 7, hi := 7, ty := .u16, cls := .ro, kept := false }
  ] },
  { base := 0x5600, count := 1, fields := [
    /- BUNDLE_MAP -/ { lo := 1, hi := 8, ty := .u64, cls := .ro }
  ] },
  { base := 0x5601, count := 1, fields := [
    /- BUNDLE_ACTIVE_MAP -/ { lo := 1, hi := 8, ty := .u64, cls := .ro }
  ] },
  { base := 0x5700, count := 1, fields := [
    /- COEF_STORE_CORRECTED -/ { lo := 1, hi := 8, ty := .u32, cls := .cnt }
  ] },
  { base := 0x5701, count := 1, fields := [
    /- COEF_STORE_UNCORRECTED -/ { lo := 1, hi := 8, ty := .u32, cls := .cnt }
  ] },
  { base := 0x5800, count := 128, fields := [
    /- CAL_START -/ { lo := 1, hi := 1, ty := .u16, cls := .wo, kept := false },
    /- CAL_ABORT -/ { lo := 2, hi := 2, ty := .u8, cls := .wo, kept := false },
    /- CAL_INTERVAL -/ { lo := 3, hi := 3, ty := .u16, cls := .rw, dflt := 0x3C, max := some 0x5A0 },
    /- CAL_TIMEOUT -/ { lo := 4, hi := 4, ty := .u16, cls := .rw, dflt := 0xFA, min := 0x32, max := some 0x7D0 },
    /- CAL_CLASSES_AUTO -/ { lo := 5, hi := 5, ty := .u8, cls := .rw, dflt := 0x1F, min := 1, max := some 0x1F, mask := some 0x1F },
    /- CAL_SLOT_USE -/ { lo := 6, hi := 6, ty := .u8, cls := .rw, max := some 1 }
  ] },
  { base := 0x5880, count := 128, fields := [
    /- CAL_STATE -/ { lo := 1, hi := 1, ty := .u8, cls := .ro, kept := false },
    /- CAL_LAST_RESULT -/ { lo := 2, hi := 2, ty := .u8, cls := .ro },
    /- CAL_UNSUITABLE_REASON -/ { lo := 3, hi := 3, ty := .u8, cls := .ro },
    /- CAL_RUN_TEMP -/ { lo := 4, hi := 4, ty := .i16, cls := .ro },
    /- CAL_ACTIVE_SLOT -/ { lo := 5, hi := 5, ty := .u8, cls := .ro },
    /- CAL_LAST_TIME_A to _D -/ { lo := 0x10, hi := 0x13, ty := (.octets 12), cls := .ro }
  ] },
  { base := 0x5900, count := 128, fields := [
    /- CAL_COUNT_A to _D -/ { lo := 1, hi := 4, ty := .u32, cls := .cnt },
    /- CAL_FAILED, _REFUSED, _UNSUITABLE, _ABORTED, _STORE_FAILED -/ { lo := 5, hi := 9, ty := .u32, cls := .cnt },
    /- CAL_TRACKING_STEPS -/ { lo := 0xA, hi := 0xA, ty := .u32, cls := .cnt }
  ] }]

/-- Records from index 0x5980 on. -/
def Catalog.part8 : List Rec := [
  { base := 0x5980, count := 128, fields := [
    /- TEMPER_SLOT_STATE -/ { lo := 1, hi := 2, ty := .u8, cls := .ro },
    /- TEMPER_SLOT_SEQ -/ { lo := 3, hi := 4, ty := .u32, cls := .ro }
  ] },
  { base := 0x5A00, count := 1, fields := [
    /- TEMPER_SELECT -/ { lo := 1, hi := 1, ty := (.octets 4), cls := .wo, kept := false },
    /- TEMPER_RECORD -/ { lo := 2, hi := 2, ty := (.octets 48), cls := .ro, kept := false }
  ] },
  { base := 0x5A10, count := 1, fields := [
    /- CAL_DIE_TEMP -/ { lo := 1, hi := 9, ty := .i16, cls := .ro }
  ] },
  { base := 0x5A80, count := 128, fields := [
    /- CAL_EVENTS (event bits) -/ { lo := 1, hi := 1, ty := .u32, cls := .st, kept := false },
    /- CAL_EVENTS (sequence number) -/ { lo := 2, hi := 2, ty := .u16, cls := .st },
    /- CAL_EVENTS (clear) -/ { lo := 3, hi := 3, ty := .u16, cls := .st }
  ] },
  { base := 0x5C00, count := 128, fields := [
    /- DIAG_NVP -/ { lo := 1, hi := 1, ty := .u16, cls := .rw, dflt := 0x29B, min := 0x1F4, max := some 0x384 },
    /- DIAG_INTERVAL -/ { lo := 2, hi := 2, ty := .u16, cls := .rw, dflt := 0xA, max := some 0xE10 },
    /- DIAG_REFL_THRESHOLD -/ { lo := 3, hi := 3, ty := .u16, cls := .rw, dflt := 0x1400, min := 0x600, max := some 0x2800 }
  ] },
  { base := 0x5C80, count := 128, fields := [
    /- DIAG_START -/ { lo := 1, hi := 1, ty := .u8, cls := .wo, kept := false },
    /- DIAG_ABORT -/ { lo := 2, hi := 2, ty := .u8, cls := .wo, kept := false },
    /- DIAG_STATE -/ { lo := 3, hi := 3, ty := .u8, cls := .ro, kept := false }
  ] },
  { base := 0x5D00, count := 128, fields := [
    /- DIAG_RUN_NUMBER -/ { lo := 1, hi := 1, ty := .u32, cls := .ro },
    /- DIAG_RUN_KIND -/ { lo := 2, hi := 2, ty := .u8, cls := .ro },
    /- DIAG_RUN_TIME -/ { lo := 3, hi := 3, ty := (.octets 12), cls := .ro },
    /- DIAG_FLAGS -/ { lo := 4, hi := 4, ty := .u8, cls := .ro },
    /- DIAG_NOISE -/ { lo := 5, hi := 5, ty := .i16, cls := .ro, dflt := 0x8000 },
    /- DIAG_PAIR_A to _D -/ { lo := 0x10, hi := 0x13, ty := (.octets 40), cls := .ro }
  ] },
  { base := 0x5D80, count := 128, fields := [
    /- TLM_MA_LENGTH -/ { lo := 1, hi := 1, ty := .u16, cls := .rw, dflt := 0x400, min := 1, max := some 0x1000 },
    /- TLM_MA_DECIMATE -/ { lo := 2, hi := 2, ty := .u16, cls := .rw, dflt := 0x400, min := 1, max := some 0x1000 },
    /- TLM_ATTACK -/ { lo := 3, hi := 3, ty := .u8, cls := .rw, dflt := 2, max := some 0xF },
    /- TLM_DECAY -/ { lo := 4, hi := 4, ty := .u8, cls := .rw, dflt := 8, max := some 0xF }
  ] },
  { base := 0x5E00, count := 128, fields := [
    /- TLM_PEAK_A to _D -/ { lo := 1, hi := 4, ty := .u16, cls := .ro, kept := false },
    /- TLM_RMS_A to _D -/ { lo := 5, hi := 8, ty := .u16, cls := .ro, kept := false },
    /- TLM_ENV_A to _D -/ { lo := 9, hi := 0xC, ty := .u16, cls := .ro, kept := false },
    /- TLM_BLOCK -/ { lo := 0xD, hi := 0xD, ty := .u32, cls := .ro, kept := false },
    /- TLM_FLAGS -/ { lo := 0xE, hi := 0xE, ty := .u16, cls := .ro, kept := false },
    /- TLM_STATE -/ { lo := 0xF, hi := 0xF, ty := .u8, cls := .ro },
    /- latched twins of :01 to :0C -/ { lo := 0x81, hi := 0x8C, ty := .u16, cls := .ro, kept := false },
    /- latched TLM_BLOCK -/ { lo := 0x8D, hi := 0x8D, ty := .u32, cls := .ro, kept := false },
    /- latched TLM_FLAGS -/ { lo := 0x8E, hi := 0x8E, ty := .u16, cls := .ro, kept := false },
    /- latched TLM_STATE -/ { lo := 0x8F, hi := 0x8F, ty := .u8, cls := .ro, kept := false }
  ] },
  { base := 0x5F00, count := 1, fields := [
    /- TLM_ENABLE_MAP -/ { lo := 1, hi := 2, ty := .u64, cls := .rw, dflt := 0xFFFFFFFFFFFFFFFF },
    /- TLM_RATE -/ { lo := 3, hi := 3, ty := .u16, cls := .rw, dflt := 0x3E8, min := 0xA, max := some 0x2710 },
    /- TLM_SHAPE -/ { lo := 4, hi := 4, ty := .u8, cls := .rw, dflt := 1, max := some 2 },
    /- TLM_SYNC -/ { lo := 5, hi := 5, ty := .u8, cls := .wo, kept := false },
    /- TLM_SYNC_TIME -/ { lo := 6, hi := 6, ty := (.octets 12), cls := .ro },
    /- TLM_LATCH -/ { lo := 7, hi := 7, ty := .u8, cls := .wo, kept := false },
    /- TLM_WINDOW -/ { lo := 9, hi := 9, ty := .u16, cls := .rw, dflt := 0x64, min := 1, max := some 0xFFFF }
  ] }]

/-- Records from index 0x5F10 on. -/
def Catalog.part9 : List Rec := [
  { base := 0x5F10, count := 8, fields := [
    /- SAMPLER_ARM -/ { lo := 1, hi := 1, ty := (.octets 16), cls := .wo, kept := false },
    /- SAMPLER_ABORT -/ { lo := 2, hi := 2, ty := .u8, cls := .wo, kept := false },
    /- SAMPLER_STATE -/ { lo := 3, hi := 3, ty := .u8, cls := .ro },
    /- SAMPLER_LAST_ARM -/ { lo := 4, hi := 4, ty := (.octets 16), cls := .ro },
    /- SAMPLER_TRIGGER_TIME -/ { lo := 5, hi := 5, ty := (.octets 12), cls := .ro },
    /- SAMPLER_TRIGGER_INDEX -/ { lo := 6, hi := 6, ty := .u32, cls := .ro },
    /- SAMPLER_FLAGS -/ { lo := 7, hi := 7, ty := .u8, cls := .ro },
    /- SAMPLER_SELECT -/ { lo := 8, hi := 8, ty := (.octets 8), cls := .wo, kept := false },
    /- SAMPLER_DATA -/ { lo := 9, hi := 9, ty := (.octets 1024), cls := .ro }
  ] },
  { base := 0x5F30, count := 1, fields := [
    /- DIAG_STATUS (event bits) -/ { lo := 1, hi := 1, ty := .u32, cls := .st, kept := false },
    /- DIAG_STATUS (sequence number) -/ { lo := 2, hi := 2, ty := .u16, cls := .st },
    /- DIAG_STATUS (clear) -/ { lo := 3, hi := 3, ty := .u16, cls := .st }
  ] },
  { base := 0x5F38, count := 1, fields := [
    /- DIAG_COUNTERS -/ { lo := 1, hi := 7, ty := .u32, cls := .cnt }
  ] },
  { base := 0x6000, count := 1, fields := [
    /- TIME_NOW -/ { lo := 1, hi := 1, ty := (.octets 12), cls := .ro },
    /- TIME_SET -/ { lo := 2, hi := 2, ty := (.octets 12), cls := .wo, kept := false },
    /- TIME_STEP -/ { lo := 3, hi := 3, ty := (.octets 8), cls := .wo, kept := false },
    /- TIME_FREQ_ADJ -/ { lo := 4, hi := 4, ty := .i32, cls := .rw },
    /- TIME_IS_SET -/ { lo := 5, hi := 5, ty := .bool, cls := .ro }
  ] },
  { base := 0x6010, count := 1, fields := [
    /- PPS_IN_MODE -/ { lo := 1, hi := 1, ty := .u8, cls := .rw, max := some 2 },
    /- PPS_IN_DELAY -/ { lo := 2, hi := 2, ty := .i32, cls := .rw },
    /- PPS_IN_LAST -/ { lo := 3, hi := 3, ty := (.octets 12), cls := .ro },
    /- PPS_IN_OFFSET -/ { lo := 4, hi := 4, ty := .i32, cls := .ro },
    /- PPS_IN_BANDWIDTH -/ { lo := 5, hi := 5, ty := .u8, cls := .rw, dflt := 1, max := some 2 }
  ] },
  { base := 0x6014, count := 1, fields := [
    /- PPS_OUT_ENABLE -/ { lo := 1, hi := 1, ty := .bool, cls := .rw },
    /- PPS_OUT_WIDTH -/ { lo := 2, hi := 2, ty := .u16, cls := .rw, dflt := 0x64, min := 1, max := some 0x1F4 },
    /- PPS_OUT_ADVANCE -/ { lo := 3, hi := 3, ty := .i32, cls := .rw }
  ] },
  { base := 0x6020, count := 1, fields := [
    /- RCLK_SELECT -/ { lo := 1, hi := 2, ty := .u8, cls := .rw, dflt := 0xFF },
    /- RCLK_FREQ -/ { lo := 3, hi := 4, ty := .u8, cls := .rw, dflt := 1, min := 1, max := some 3 },
    /- RCLK_STATE -/ { lo := 5, hi := 6, ty := .u8, cls := .ro }
  ] },
  { base := 0x6030, count := 1, fields := [
    /- TIME_STATUS (event bits) -/ { lo := 1, hi := 1, ty := .u32, cls := .st, kept := false },
    /- TIME_STATUS (sequence number) -/ { lo := 2, hi := 2, ty := .u16, cls := .st },
    /- TIME_STATUS (clear) -/ { lo := 3, hi := 3, ty := .u16, cls := .st }
  ] },
  { base := 0x6400, count := 1, fields := [
    /- HALLMARK_STATE -/ { lo := 1, hi := 1, ty := .u8, cls := .ro },
    /- HALLMARK_QUEUE -/ { lo := 2, hi := 2, ty := .u8, cls := .ro, kept := false }
  ] },
  { base := 0x6404, count := 1, fields := [
    /- SEAL_POLICY_LOCK -/ { lo := 1, hi := 1, ty := .bool, cls := .w1 }
  ] },
  { base := 0x6410, count := 1, fields := [
    /- LIFECYCLE_REQUEST -/ { lo := 1, hi := 1, ty := (.octets 232), cls := .wo, kept := false },
    /- LIFECYCLE_CHALLENGE -/ { lo := 2, hi := 2, ty := (.octets 32), cls := .ro },
    /- LIFECYCLE_RESULT -/ { lo := 3, hi := 3, ty := .u8, cls := .ro },
    /- OWNER_ROOT -/ { lo := 4, hi := 4, ty := (.octets 57), cls := .ro }
  ] },
  { base := 0x6418, count := 1, fields := [
    /- SERVICE_REQUEST -/ { lo := 1, hi := 1, ty := .u16, cls := .wo, kept := false },
    /- SERVICE_REMAINING -/ { lo := 2, hi := 2, ty := .u16, cls := .ro, kept := false }
  ] }]

/-- Records from index 0x6420 on. -/
def Catalog.part10 : List Rec := [
  { base := 0x6420, count := 1, fields := [
    /- MANAGER_KEY -/ { lo := 1, hi := 0x10, ty := (.octets 60), cls := .ro }
  ] },
  { base := 0x6424, count := 1, fields := [
    /- MANAGER_ENROL -/ { lo := 1, hi := 1, ty := (.octets 60), cls := .wo, kept := false },
    /- MANAGER_REVOKE -/ { lo := 2, hi := 2, ty := (.octets 8), cls := .wo, kept := false }
  ] },
  { base := 0x6430, count := 1, fields := [
    /- ROLLBACK_FUSE_LEVEL -/ { lo := 1, hi := 4, ty := .u8, cls := .ro }
  ] },
  { base := 0x6440, count := 1, fields := [
    /- FW_ACTIVE_SLOT -/ { lo := 1, hi := 1, ty := .u8, cls := .ro },
    /- FW_STAGE_BEGIN -/ { lo := 2, hi := 2, ty := (.octets 8), cls := .wo, kept := false },
    /- FW_STAGE_DATA -/ { lo := 3, hi := 3, ty := (.octets 1024), cls := .wo, kept := false },
    /- FW_STAGE_VERIFY -/ { lo := 4, hi := 4, ty := .u8, cls := .wo, kept := false },
    /- FW_STAGE_STATE -/ { lo := 5, hi := 5, ty := .u8, cls := .ro },
    /- FW_REJECT_REASON -/ { lo := 6, hi := 6, ty := .u8, cls := .ro },
    /- FW_ACTIVATE -/ { lo := 7, hi := 7, ty := .u8, cls := .wo, kept := false },
    /- FW_CONFIRM -/ { lo := 8, hi := 8, ty := .u8, cls := .wo, kept := false },
    /- FW_REVERT -/ { lo := 9, hi := 9, ty := .u8, cls := .wo, kept := false },
    /- FW_SLOT_VERSIONS -/ { lo := 0xA, hi := 0xA, ty := (.octets 8), cls := .ro }
  ] },
  { base := 0x6460, count := 1, fields := [
    /- ATTEST_REQUEST -/ { lo := 1, hi := 1, ty := (.octets 32), cls := .wo, kept := false },
    /- ATTEST_STATE -/ { lo := 2, hi := 2, ty := .u8, cls := .ro, kept := false },
    /- ATTEST_REPORT -/ { lo := 3, hi := 3, ty := (.octets 650), cls := .ro, kept := false }
  ] },
  { base := 0x6480, count := 2, fields := [
    /- ALLOW_ENTRY -/ { lo := 1, hi := 0x80, ty := (.octets 32), cls := .rwl }
  ] },
  { base := 0x6600, count := 1, fields := [
    /- TOUCH_SELECT -/ { lo := 1, hi := 1, ty := .u64, cls := .wo, kept := false },
    /- TOUCH_ENTRIES -/ { lo := 2, hi := 2, ty := (.octets 1024), cls := .ro, kept := false },
    /- TOUCH_HEAD_SEQ -/ { lo := 3, hi := 3, ty := .u64, cls := .ro },
    /- TOUCH_OLDEST_SEQ -/ { lo := 4, hi := 4, ty := .u64, cls := .ro },
    /- TOUCH_HEAD_CHAIN -/ { lo := 5, hi := 5, ty := (.octets 32), cls := .ro },
    /- TOUCH_SIGN -/ { lo := 6, hi := 6, ty := .u8, cls := .wo, kept := false },
    /- TOUCH_STAGING_LOST -/ { lo := 7, hi := 7, ty := .u32, cls := .cnt }
  ] },
  { base := 0x6800, count := 1, fields := [
    /- SHUTDOWN -/ { lo := 1, hi := 1, ty := .u8, cls := .wo, kept := false },
    /- ASSAY_RUN -/ { lo := 2, hi := 2, ty := (.octets 4), cls := .wo, kept := false },
    /- ASSAY_ABORT -/ { lo := 3, hi := 3, ty := .u8, cls := .wo, kept := false },
    /- SHUTDOWN_STATE -/ { lo := 5, hi := 5, ty := .u8, cls := .ro, kept := false }
  ] },
  { base := 0x6804, count := 1, fields := [
    /- ASSAY_STATE -/ { lo := 1, hi := 9, ty := .u8, cls := .ro, kept := false }
  ] },
  { base := 0x6810, count := 1, fields := [
    /- ASSAY_RECORD -/ { lo := 1, hi := 9, ty := (.octets 68), cls := .ro }
  ] },
  { base := 0x6811, count := 1, fields := [
    /- ASSAY_SHUTDOWN_RECORD -/ { lo := 1, hi := 9, ty := (.octets 68), cls := .ro }
  ] },
  { base := 0x6812, count := 1, fields := [
    /- ASSAY_RECORD_AGE -/ { lo := 1, hi := 9, ty := .u32, cls := .ro }
  ] }]

/-- Every record of the dictionary but the bit aliases, by rising index. -/
def Catalog.records : List Rec :=
  Catalog.part1 ++ Catalog.part2 ++ Catalog.part3 ++ Catalog.part4 ++ Catalog.part5 ++ Catalog.part6 ++ Catalog.part7 ++ Catalog.part8 ++ Catalog.part9 ++ Catalog.part10

end Sys2Proof.Machine
end

