-- ==== Sys2Proof/Machine/State.lean ====
section
/-! DEFINITION. The state of the DZ12800 as plain data: the one-way store of Hallmark (`Vault`), everything else
(`Dev`) and the queue of waiting commands. Every field's default value is its value after power-on (`State.reset`).
The objects of the dictionary that are plain registers live in one sparse store (`Dev.objs`), keyed by
index * 256 + subindex; an object not listed there reads as its power-on value in `Machine/Catalog.lean`. -/

namespace Sys2Proof.Machine

/-- Why a step stops with a fault. The DZ12800 raises no fault of this kind: what its spec calls a fault is an event the
device counts and reacts to (R399), so that no meaning raises a `Fault`; the type is closed and has one reason that no meaning gives. Safe. -/
inductive Fault where
  /-- Raised by nobody: no rule of the spec stops the block without a next state. Safe. -/
  | none
  deriving DecidableEq, Repr

/-- Why a command has no next state. -/
inductive Refusal where
  /-- A row of the opcode table whose meaning is not written yet. Safe. -/
  | notModelled (mnemonic : String)
  /-- `TAP_INSTRUCTION` with a code that R461 gives no public instruction: a private test facility whose effect the spec
  does not give. Safe. -/
  | privateTapInstruction
  deriving DecidableEq, Repr

/-! ## Time -/

/-- A write that waits to change the time: a new count, or an offset, in sixteenths of a nanosecond (R307). -/
inductive TimeAdj where
  | set (count : Nat)
  | step (offset : Int)
  deriving DecidableEq, Repr

/-- The time base (R305 to R309): its count in sixteenths of a nanosecond, and what waits to change it. -/
structure TimeBase where
  count : Nat := 0
  /-- What the frequency adjustment has gathered, in units of 10^-12 of a sixteenth (R308). -/
  frac : Int := 0
  /-- Granted `TIME_SET` and `TIME_STEP` writes that `TIME_ADJUST_APPLY` will apply, in order (R307). -/
  adjust : List TimeAdj := []
  /-- Level of PPS_OUT (R321). -/
  ppsOutHigh : Bool := false
  /-- Per line die: its copy of the time is qualified (R309). -/
  copyQualified : Vector Bool 8 := Vector.replicate 8 false
  /-- Per line die: µs of uptime since when the copy has been within its bound, and the last offset, in sixteenths of a nanosecond. -/
  copySince : Vector (Option Nat) 8 := Vector.replicate 8 none
  copyError : Vector Int 8 := Vector.replicate 8 0
  deriving DecidableEq, Repr

/-! ## Management -/

/-- One item of a management response (R55). -/
structure RespItem where
  index : Nat
  sub : Nat
  code : Nat
  type : Nat := 0
  length : Nat := 0
  value : Nat := 0
  deriving DecidableEq, Repr

/-- A management frame that the device sends: a response, or a NOTIFY (R54 to R59). -/
structure Reply where
  op : Nat
  reqId : Nat := 0
  status : Nat := 0
  session : Nat := 0
  counter : Nat := 0
  items : List RespItem := []
  body : List Byte := []
  tag : List Byte := []
  deriving DecidableEq, Repr


/-- One of the four sessions (R60 to R62). -/
structure Session where
  /-- 0 free, 1 opening, 2 open. -/
  phase : Nat := 0
  mac : Nat := 0
  route : Route := .mgmtLink
  keyId : List Byte := []
  pub : List Byte := []
  role : Nat := 0
  /-- All step data so far, in order (R60). -/
  transcript : List Byte := []
  peerX : List Byte := []
  /-- The draw that gave the device's X448 private key. -/
  secret : Nat := 0
  /-- OPEN_2 has been signed and sent. -/
  offered : Bool := false
  /-- OPEN_3 waits for Hallmark's verification. -/
  proving : Bool := false
  reqId : Nat := 0
  keyIn : List Byte := []
  keyOut : List Byte := []
  rxCounter : Nat := 0
  txCounter : Nat := 0
  deriving DecidableEq, Repr

/-- A requester of R58 and the last response kept for it; `none` while the response is still due. -/
structure Kept where
  mac : Nat
  route : Route
  session : Nat
  reqId : Nat
  reply : Option Reply := none
  deriving DecidableEq, Repr

/-- A COMMIT that has been accepted and waits for its pass (R50). -/
structure CommitJob where
  hdr : MHdr
  mode : Nat
  value : Nat
  keyId : List Byte := []
  /-- The pass in progress began after the acceptance. -/
  started : Bool := false
  deriving DecidableEq, Repr

/-- A SNAPSHOT that has been accepted and waits for its capture instant (R45). -/
structure SnapJob where
  hdr : MHdr
  clear : Bool
  deriving DecidableEq, Repr

/-- The management controller's own state: sessions, kept responses, the walker of the configuration check, NOTIFY
intervals, and the pewter window's page, address registers and latches (R54 to R74). -/
structure Mgmt where
  sessions : Vector Session 4 := Vector.replicate 4 {}
  kept : List Kept := []
  commits : List CommitJob := []
  snaps : List SnapJob := []
  /-- A configuration write was granted during the pass in progress (R50). -/
  passDirty : Bool := false
  /-- Result of the previous completed pass (R49). -/
  lastPass : Option Nat := none
  /-- Objects inside their NOTIFY interval, and whether another event has come in it (R59). -/
  notify : List (Nat × Bool) := []
  page : Nat := 0
  /-- The clause 45 address registers, by PRTAD * 32 + MMD (R68). -/
  mdioAddr : List (Nat × Nat) := []
  /-- The read latch and the write latch of each port: register and high word (R71). -/
  readLatch : List (Nat × Nat × Nat) := []
  writeLatch : List (Nat × Nat × Nat) := []
  /-- Ports whose window registers of clause 45 hold a value: (port, MMD, register) and value (R66). -/
  windowRegs : List ((Nat × Nat × Nat) × Nat) := []
  /-- Ports that the window has asked to idle, and ports whose soft reset runs with whether they had been idled for it (R73). -/
  idleAsked : List Nat := []
  softReset : List (Nat × Bool) := []
  /-- The controller serves requests. False in steps 1 to 3 of a start and in step 3 of a warm reset. -/
  serving : Bool := false
  /-- Module in recovery mode (R393), and boot ROM serving after a controller fault (R406). -/
  recovery : Bool := false
  romServes : Bool := false
  /-- The management link has its clock (R373). -/
  linkClock : Bool := true
  /-- The device is the PLCA coordinator of the management link: its node ID is 0 (R63). Its node count of 8 and burst mode off never change. -/
  coordinator : Bool := false
  deriving DecidableEq, Repr

/-! ## Ports: training, native framing, selvage, relock, quiet -/

/-- Training of a native link (R172 to R177): counts of consecutive valid headers and what the exit conditions still need. -/
structure Train where
  /-- µs of uptime at which the present stage began. -/
  since : Nat := 0
  validRun : Nat := 0
  lockedRun : Nat := 0
  stage6Run : Nat := 0
  stage6Sent : Nat := 0
  locked : Bool := false
  converged : Bool := false
  partnerConverged : Bool := false
  /-- Whole ms in a row with every margin at least +1.0 dB, without and with precoding. -/
  marginRun : Nat := 0
  /-- Pairs whose PRECODER_ACK with RESULT 0 has left this end, and has come from the partner. -/
  acksSent : Vector Bool 4 := Vector.replicate 4 false
  acksGot : Vector Bool 4 := Vector.replicate 4 false
  /-- Precoder taps accepted whose acknowledgement has not left, and those that wait for the next frame boundary after it (R122). -/
  asked : Vector (Option (List Int)) 4 := Vector.replicate 4 none
  newTaps : Vector (Option (List Int)) 4 := Vector.replicate 4 none
  precoding : Vector Bool 4 := Vector.replicate 4 false
  number : Nat := 0
  hushDone : Bool := false
  dataSent : Bool := false
  dataGot : Bool := false
  deriving DecidableEq, Repr

/-- A message of the selvage channel (R106, R221). -/
inductive SelvageMsg where
  | relockReport (cause held : Nat)
  | hushNote
  | sealHello (h : SealHello)
  | sealProof (epoch : Nat) (signature : List Byte)
  | sealFinish (epoch : Nat) (tag : List Byte)
  | sealReject (epoch reason : Nat)
  | precoder (pair : Nat) (taps : List Int)
  | precoderAck (pair result : Nat)
  | telemetry (margins : List Int) (corrected uncorrectable : Nat)
  | partnerQuery (item : Nat)
  | partnerReply (item result : Nat) (data : List Byte)
  deriving DecidableEq, Repr

/-- The selvage channel of one port: its two queues, the message being sent, and the HDLC receiver (R103 to R108). -/
structure Selvage where
  sequencer : List SelvageMsg := []
  service : List SelvageMsg := []
  sending : Option SelvageMsg := none
  bits : List Bool := []
  /-- Symbol periods since the last tick of the 2 MHz clock, and bits that are due. -/
  phase : Nat := 0
  due : Nat := 0
  rxBits : List Bool := []
  rxOnes : Nat := 0
  rxOpen : Bool := false
  /-- Codewords corrected, and uncorrectable, since the last TELEMETRY was made (R106). -/
  corrected : Nat := 0
  uncorrectable : Nat := 0
  /-- µs of uptime at which the partner's TELEMETRY last arrived. -/
  heardAt : Option Nat := none
  deriving DecidableEq, Repr

/-- A frame on its way to the line, with the queue that counted it and how many of its bytes have gone. -/
structure TxFrame where
  frame : EthFrame
  queue : Nat
  sent : Nat := 0
  sealed : Bool := false
  /-- What the sealing unit made of it: the bytes the line carries. -/
  line : List Byte := []
  /-- It ends with ABORT at the next byte (R95). -/
  abort : Bool := false
  /-- It has left its queue and the host die: it came over the twill link in blocks (R271). -/
  away : Bool := false
  /-- A fault has discarded and counted it (R267). -/
  lost : Bool := false
  deriving DecidableEq, Repr

/-- A frame being received from the line or over the twill link: its bytes so far and the MDI time of its start. -/
structure RxFrame where
  bytes : List Byte := []
  mdiTime : Nat := 0
  /-- What the ingress buffer holds of it, unsealed (R256), and its queue once its class and path have been found (R253, R254). -/
  held : List Byte := []
  queue : Option (Fin 32) := none
  /-- It has shown itself a flow-control frame, which is never queued (R255). -/
  flow : Bool := false
  /-- The cause under which it was refused as its first byte arrived (R257, R300). -/
  refused : Option Nat := none
  /-- Its first byte has left for the host lane (R259); and it has been ended there before its own end. -/
  begun : Bool := false
  cut : Bool := false
  /-- A set or step of the time has taken effect since (R315). -/
  moved : Bool := false
  deriving DecidableEq, Repr

/-- Native framing of one port (R82 to R102). -/
structure Native where
  txNumber : Nat := 0
  rxNumber : Nat := 0
  /-- Bits of the current payload block not yet sent, and bits of the current block received so far. -/
  txBits : List Bool := []
  rxBits : List Bool := []
  /-- The receiver waits for the first block after a lost frame: bits still to skip. -/
  rxSkip : Nat := 0
  tx : Option TxFrame := none
  /-- Frames the line has taken behind it, none of which has begun, in order. -/
  after : List TxFrame := []
  rx : Option RxFrame := none
  /-- What the precoder of each pair has sent last, newest first (R86). -/
  thp : Vector (List Rat) 4 := Vector.replicate 4 []
  /-- What the shaping filter of each pair has taken last, newest first (R122). -/
  shaped : Vector (List Rat) 4 := Vector.replicate 4 []
  lostRun : Nat := 0
  /-- Times, in frames, of recent slips (R193), and frames since entry to data. -/
  slips : List Nat := []
  frames : Nat := 0
  /-- Frames left that carry RESUME (R102). -/
  resumeLeft : Nat := 0
  /-- Frames of the partner's RESUME that have come so far: four make it whole (R184, R185). -/
  resumeIn : Nat := 0
  /-- LF and RF from the partner, and whether valid frames arrive. -/
  partnerLf : Bool := false
  partnerRf : Bool := false
  rxValid : Bool := false
  deriving DecidableEq, Repr

/-- A warm relock of this end (R184 to R191). -/
structure Relock where
  cause : Nat := 0
  /-- The LINK_STATE it returns to, and whether it runs without HOLD and burst (R190). -/
  back : Nat := 4
  silent : Bool := false
  /-- Step 6 is done: a trigger from here on starts a new relock (R189). -/
  reloaded : Bool := false
  /-- The burst has begun; a slave that relocks together with its partner waits for the partner's (R188). -/
  burst : Bool := false
  /-- A burst of the partner has arrived since its HOLD (R188), and a frame with RESUME (R470). -/
  heard : Bool := false
  answered : Bool := false
  /-- RESUME is being sent; the interruption, in 0.1 µs. -/
  resumed : Bool := false
  tenths : Nat := 0
  deriving DecidableEq, Repr

/-- What relocks and quiet states keep for a port. -/
structure LinkSt where
  /-- Native link to be sealed; both ends advertised fast retrain; the clause's training runs. -/
  toSeal : Bool := false
  /-- SEAL_MODE was 3 when the link was negotiated: it carries 802.1AE (R220). -/
  secy : Bool := false
  fastRetrainAble : Bool := false
  /-- Both ends advertised EEE in the negotiation of a standard mode (R198). -/
  eee : Bool := false
  /-- PORT_CONTROL as the negotiation in progress, or the link it led to, took it (R425). -/
  control : Nat := 2
  /-- A warm reset has ended its standard link, which has not trained again (R81). -/
  untrained : Bool := false
  /-- Mode of the last link since power-on; N50 before the first (R137). -/
  lastMode : Nat := 8
  /-- LINK_EPOCH of R142. -/
  epoch : Nat := 0
  /-- Relock number of R187, and the last one the host die accepts. -/
  relockNumber : Nat := 0
  relockPending : Option Nat := none
  relock : Option Relock := none
  /-- The partner's HOLD is being honoured. -/
  held : Bool := false
  /-- Own RELOCK_REPORT to send at the next wake (R190): cause and time. -/
  reportDue : Option (Nat × Nat) := none
  /-- QUIET with DEEP sent in a refresh, and received. -/
  deepSent : Bool := false
  deepGot : Bool := false
  quietSince : Option Nat := none
  /-- Extra ms of quiet time not yet counted in QUIET_TIME_MS, in µs. -/
  quietUs : Nat := 0
  /-- Per pair: ms in a row with a margin below LOSS_MARGIN. -/
  lowMargin : Vector Nat 4 := Vector.replicate 4 0
  backoffUntil : Option Nat := none
  /-- µs of uptime at which data last began (R133, R199). -/
  dataSince : Nat := 0
  /-- µs of uptime of the last warm relock, link loss, fast retrain or quiet entry by either end (R354, R357). -/
  disturbedAt : Option Nat := none
  deriving DecidableEq, Repr

/-- A request to write coefficients (R138, R139): the window that shows its state, until a warm reset, and the taps with their
values. -/
structure Ramp where
  window : Option (Fin 16)
  values : List (Nat × Int)
  /-- µs of uptime at which the ramp began. -/
  since : Nat := 0
  /-- The values the taps had as the ramp began, by the same keys. -/
  start : List (Nat × Int) := []
  deriving DecidableEq, Repr

/-- One engine of one pair: the draw that gives its adapted values (0: all zero), the values software wrote, override and ramp. ALIEN keeps
one draw for each member, by local position, that it has learned, and the members whose taps were multiplied by 4 (R150, R154). -/
structure Engine where
  epoch : Nat := 0
  overridden : Bool := false
  written : List (Nat × Int) := []
  ramp : Option Ramp := none
  waiting : Option Ramp := none
  learned : List (Nat × Nat) := []
  scaled : List Nat := []
  deriving DecidableEq, Repr

/-- A checkpoint in a slot of the coefficient store (R142). -/
structure Checkpoint where
  sequence : Nat
  mode : Nat
  epoch : Nat
  members : Nat
  engines : Vector (Vector Engine 11) 4
  time : Nat
  /-- The timing loop's state, and what the shaping filters of the pairs held. -/
  timing : Nat := 0
  shaping : Vector (List Rat) 4 := Vector.replicate 4 []
  /-- The CRC-32C of the slot fits its bytes. -/
  intact : Bool := true
  deriving DecidableEq, Repr

/-- The signal chain of one port and its two slots in the coefficient store. -/
structure Signal where
  engines : Vector (Vector Engine 11) 4 := Vector.replicate 4 (Vector.replicate 11 {})
  holdUntil : Option Nat := none
  noSignal : Vector Bool 4 := Vector.replicate 4 false
  slots : Vector (Option Checkpoint) 2 := Vector.replicate 2 none
  writing : Option (Fin 2 × Checkpoint) := none
  checkpointDue : Bool := false
  /-- The timing loop's state, as the draw that gave it (log entry 6). -/
  timing : Nat := 0
  /-- The 1 µs window in which a port reached HUSH_WAIT (R153, R463). -/
  hushOrder : Nat := 0
  deriving DecidableEq, Repr

/-- One secure association: its key, salt, packet number and SSCI (R229 to R233). -/
structure Sa where
  key : List Byte
  salt : List Byte
  ssci : Nat
  pn : Nat
  deriving DecidableEq, Repr

/-- The seal exchange of one epoch (R221 to R228). -/
structure Exchange where
  purpose : Nat
  epoch : Nat
  secret : Nat
  own : SealHello
  peer : Option SealHello := none
  listed : Bool := false
  ownProof : Option (List Byte) := none
  peerProof : Option (List Byte) := none
  verified : Bool := false
  finishSent : Bool := false
  finishGot : Bool := false
  /-- The partner's TAG, while this end cannot check it yet. -/
  peerTag : Option (List Byte) := none
  /-- µs of uptime of the trigger (R228). -/
  since : Nat := 0
  deriving DecidableEq, Repr

/-- The sealing unit of one port. -/
structure SealSt where
  exchange : Option Exchange := none
  /-- A SEAL_HELLO of the partner that came before this end entered stage 5. -/
  early : Option SealHello := none
  tx : Vector (Option Sa) 4 := Vector.replicate 4 none
  rx : Vector (Option Sa) 4 := Vector.replicate 4 none
  txAn : Fin 4 := 0
  /-- Key of the next epoch, installed when this end's transmitter has switched (R227). -/
  nextAn : Option (Fin 4) := none
  oldAn : Option (Fin 4) := none
  epochSince : Nat := 0
  sentInEpoch : Nat := 0
  retrySince : Option Nat := none
  /-- A check of the exchange has failed: the attempt, under this LAST_FAIL, or the link ends when SEAL_REJECT has left (R469). -/
  failing : Option Nat := none
  deriving DecidableEq, Repr

/-! ## Host lanes and queues -/

/-- Flow control of one buffer of a port: what this module asks (`pausing`, one bit a class), the frame that waits to be sent,
and what the other side asks of the scheduler of this direction (R261 to R264). -/
structure Flow where
  pausing : Nat := 0
  pending : Option FcFrame := none
  pausedAll : Bool := false
  pausedPrios : Nat := 0
  deriving DecidableEq, Repr

/-- The scheduler of one direction (R258): deficits, the class being served, and which path goes next. -/
structure Sched where
  deficit : Vector Nat 8 := Vector.replicate 8 0
  turn : Nat := 0
  fresh : Bool := true
  sealedNext : Vector Bool 8 := Vector.replicate 8 false
  deriving DecidableEq, Repr

/-- The queues of one port and its host lane. -/
structure HostSt where
  queues : Vector (List EthFrame) 32 := Vector.replicate 32 []
  egFlow : Flow := {}
  inFlow : Flow := {}
  egSched : Sched := {}
  inSched : Sched := {}
  switchSends : HostFault := .none
  deriving DecidableEq, Repr

/-! ## Diagnosis, telemetry, calibration, timestamps of one port -/

/-- What an in-service diagnosis has latched of a port's ECHO engines: mode, µs of uptime, and the engine of each pair (R326). -/
structure EchoLatch where
  mode : Nat
  time : Nat
  engines : Vector Engine 4
  deriving DecidableEq, Repr

/-- A running cable diagnosis: in or out of service, automatic, waiting pairs (R326 to R335). -/
structure DiagRun where
  outOfService : Bool := false
  automatic : Bool := false
  /-- An in-service run has not latched its coefficients: it was asked for in RELOCK, or while calibration was in progress (R326, R329). -/
  waits : Bool := false
  /-- The ECHO coefficients that an in-service run has latched, and whether written ones were among them (R326). -/
  echo : Option EchoLatch := none
  overridden : Bool := false
  /-- µs of uptime at which the pulse set that is repeated last begins (R332). -/
  again : Nat := 0
  repeats : Vector Nat 4 := Vector.replicate 4 0
  deriving DecidableEq, Repr

/-- The telemetry chain of one pair (R344 to R351). -/
structure TlmPair where
  /-- The envelope in Q2.14, with the fraction its recursion gathers; whether it has begun. -/
  env : Option Rat := none
  /-- µs of uptime of the last event that made the chain settle, but for valid symbols after invalid ones, which `looks` tells (R348). -/
  settle : Nat := 0
  /-- µs of uptime at which the pair's symbols became valid or invalid, newest first (R344). -/
  looks : List (Nat × Bool) := []
  /-- The last valid symbols that the averager holds, newest first, and its symbols since it last emitted an average (R345). -/
  window : List Nat := []
  phase : Nat := 0
  /-- The averages that the resampler still holds, newest first, each with its time in sixteenths of a nanosecond of uptime (R346). -/
  averages : List (Int × Rat) := []
  /-- A calibration run or a ramp has ended on the pair during this block (R348, R367). -/
  held : Bool := false
  /-- The first block that the pair has not published (R347). -/
  next : Nat := 0
  deriving DecidableEq, Repr

/-- Trims of one pair: those active, target of a running ramp, and the request held behind it (R356 to R366). -/
structure TrimPair where
  active : List Int := []
  ramp : Option (List Int) := none
  /-- µs of uptime at which the ramp began. -/
  since : Nat := 0
  waiting : Option (List Int) := none
  /-- A ramp or a held request has suspended a tracking step of the pair (R360, R365). -/
  suspended : Bool := false
  deriving DecidableEq, Repr

/-- One trim record (R352): its 57 values in the record's order, SOURCE and RUN_TEMP. -/
structure TrimRec where
  values : List Int
  source : Nat
  runTemp : Int
  deriving DecidableEq, Repr

/-- One temper slot in eMRAM (R361): its 1,560 bytes, none while nothing has been written, and its condition as R362 numbers it, by the last validation or
commit. -/
structure TemperSlot where
  cond : Nat := 3
  bytes : List Byte := []
  deriving DecidableEq, Repr

/-- A calibration run (R353 to R357). -/
structure CalRun where
  classes : Nat := 0
  pairMask : Nat := 0xF
  automatic : Bool := false
  /-- µs of uptime of the grant. -/
  since : Nat := 0
  /-- The estimates of each pair after each of the last eight rounds, newest first (R356). -/
  rounds : List (Vector (List Int) 4) := []
  /-- Step 3: the run has converged and writes its slot. -/
  storing : Bool := false
  deriving DecidableEq, Repr

structure PortSt where
  link : LinkSt := {}
  train : Train := {}
  native : Native := {}
  selvage : Selvage := {}
  signal : Signal := {}
  crypt : SealSt := {}
  host : HostSt := {}
  diag : Option DiagRun := none
  /-- µs of uptime of the last measurement of pair A's delay (R328). -/
  cableAt : Option Nat := none
  tlm : Vector TlmPair 4 := Vector.replicate 4 {}
  /-- Values that TLM_ATTACK and TLM_DECAY have had, with the µs of uptime at which each pair of them ended, newest first (R350). -/
  tlmRates : List (Nat × Nat × Nat) := []
  /-- Places of the ring of event messages whose entry has not been read (R315, R319). -/
  ringUnread : List Nat := []
  trims : Vector TrimPair 4 := Vector.replicate 4 {}
  slots : Vector TemperSlot 2 := Vector.replicate 2 {}
  cal : Option CalRun := none
  /-- An automatic calibration request: 0 none, 1 waits its turn on the die, 2 is tried again after a refusal (R368). -/
  calAsked : Nat := 0
  /-- An Assay program or an out-of-service twill test holds the port (R161). -/
  tested : Bool := false
  deriving DecidableEq, Repr

/-! ## Hallmark -/

/-- One touchmark entry (R236). -/
structure TouchEntry where
  seq : Nat
  time : Nat
  type : Nat
  body : List Byte
  chain : List Byte
  deriving DecidableEq, Repr

/-- What waits for Hallmark's signing or verifying engine (R212). -/
inductive HallJob where
  /-- OPEN_2 of a session, OPEN_3 of a session. -/
  | open2 (session : Fin 4)
  | open3 (session : Fin 4) (signature : List Byte)
  /-- The SEAL_PROOF of a port: to sign, and the partner's to verify. -/
  | sealSign (p : Port)
  | sealVerify (p : Port) (signature : List Byte)
  /-- A touchmark signature; whether a request has reserved the entry for it. -/
  | touch (reserved : Bool)
  | attest
  /-- The staged image set of a slot. -/
  | image (slot : Nat)
  deriving DecidableEq, Repr

/-- An image set in a flash slot (R241 to R243). -/
structure ImageSet where
  setVersion : Nat := 0
  /-- Rollback level, version, digest and length of classes 1 to 4. -/
  levels : Vector Nat 4 := Vector.replicate 4 0
  versions : Vector Nat 4 := Vector.replicate 4 0
  digests : Vector (List Byte) 4 := Vector.replicate 4 []
  headerDigest : List Byte := []
  /-- The bytes of the slot's region of the flash, as staged (R241). -/
  bytes : List Byte := []
  valid : Bool := false
  inTrial : Bool := false
  deriving DecidableEq, Repr

/-- The firmware update in progress (R244 to R246). -/
structure FwJob where
  /-- Slot and total length of the staging area, and what has arrived: next offset and bytes. -/
  slot : Nat := 0
  length : Nat := 0
  received : List Byte := []
  /-- Activation: the slot that becomes active, the line dies still to reset, those reset. -/
  target : Nat := 0
  diesLeft : List Die := []
  diesDone : List Die := []
  /-- A WRST_N that waits for the end of the activation (R385). -/
  warmWaits : Bool := false
  /-- An activation that goes back to the slot before (R246): its reason. -/
  reverting : Option Nat := none
  /-- The session that owns staging (R244); 0 for none. -/
  owner : Nat := 0
  deriving DecidableEq, Repr

/-- The parts of Hallmark, of eMRAM and of flash that commands change and no one-way fuse holds. -/
structure Hall where
  challenge : Nat := 0
  /-- The identity public key, once made (R210, R216), and whether the log takes no more entries (RETIRED, R217). -/
  identityPub : List Byte := []
  logClosed : Bool := false
  signQueue : List HallJob := []
  verifyQueue : List HallJob := []
  /-- Minutes granted by SERVICE_REQUEST, and the µs of uptime at which the flag expires (R218). -/
  serviceUntil : Option Nat := none
  attestNonce : Option (List Byte) := none
  /-- The touchmark log: flash ring (newest first), staging area (oldest first), last SEQ and CHAIN, reservations,
  unsigned entries, what was lost (R236 to R240). -/
  flash : List TouchEntry := []
  staging : List TouchEntry := []
  nextSeq : Nat := 0
  headChain : List Byte := []
  reserved : Nat := 0
  unsigned : Nat := 0
  gapLost : Nat := 0
  gapTime : Nat := 0
  touchSelect : Option Nat := none
  /-- Image sets of slots A and B, active slot, update in progress. -/
  slots : Vector ImageSet 2 := Vector.replicate 2 {}
  activeSlot : Fin 2 := 0
  /-- The option block's region of the flash: its two copies as the last start read them (R241, R388). -/
  optionBlock : Vector OptionCopy 2 := Vector.replicate 2 {}
  fw : FwJob := {}
  trialPrev : Option (Fin 2) := none
  /-- Hallmark has found the images of the active slot good since it last restarted (R30). -/
  imagesGood : Bool := false
  deriving DecidableEq, Repr

/-- The one-way store of Hallmark: the fuses, and the key store that only the manager and life-cycle requests change (R210,
R214 to R217, R243). -/
structure Manager where
  pub : List Byte
  role : Nat
  deriving DecidableEq, Repr

structure Vault where
  /-- 0 BLANK to 5 RETIRED (R215). -/
  lifecycle : Nat := 0
  /-- The identity private key exists. -/
  identityKey : Bool := false
  ownerRoot : Option (List Byte) := none
  managers : Vector (Option Manager) 16 := Vector.replicate 16 none
  testKeys : List (List Byte) := []
  fuseLevels : Vector Nat 4 := Vector.replicate 4 0
  deriving DecidableEq, Repr

/-! ## Twill links -/

/-- A parked logical lane: the physical lane it left, the markers it still lets pass, and whether a marker has recorded that it stays
parked (R294, R295, R303). -/
structure Park where
  logical : Nat
  leaves : Nat
  wait : Nat := 0
  noted : Bool := false
  /-- The lane it left still delivers until the switch: it was retired without loss of lock (R296). -/
  delivers : Bool := false
  deriving DecidableEq, Repr

/-- The coding of a physical lane at one of its ends (R277, R278, R280): the generator, the run of equal bits and their value, and the register of
LANE_CRC since the last marker. -/
structure LaneCode where
  gen : Nat := 0
  run : Nat := 0
  last : Bool := false
  crc : Nat := 0xFFFFFFFF
  deriving DecidableEq, Repr

/-- A port's block that has taken the end of a frame and waits for a start: its END byte and what its data area holds (R274). -/
structure OpenBlock where
  fin : Nat
  area : List Byte
  deriving DecidableEq, Repr

/-- One direction of a twill link: what its transmitter and receiver hold beside the objects of R304 (R277 to R299). -/
structure TwillDir where
  /-- Parked logical lanes in order of loss. -/
  parked : List Park := []
  /-- Markers every 256 blocks until alignment is reported (R287). -/
  fastMarkers : Bool := false
  narrow : Bool := false
  /-- Failed in-service retrains in a row of each physical lane; lanes whose 10 ms ended with TWILL_REINSTATE at 0 (R297). -/
  failures : List (Nat × Nat) := []
  waiting : List Nat := []
  /-- Lane states to return to from IDLE and TEST, as OCTETS(35) (R289). -/
  before : Nat := 0
  /-- Number of the marker slot in progress, the lanes that have sent their marker in it, and its switch: logical lane, lane it leaves, lane it
  joins (R280, R295). -/
  marker : Nat := 0
  sentIn : List Nat := []
  switchNow : Option (Nat × Nat × Nat) := none
  /-- Lanes on which the sending die's RX_READY has been seen (R285). -/
  ready : List Nat := []
  /-- Answers of the transmitter to the requests it has received for each lane: PRE, MAIN, POST (R286). -/
  answers : List (Nat × (Nat × Nat × Nat)) := []
  /-- Retired physical lanes whose blocks are late after a switch (R295). -/
  retired : List Nat := []
  /-- Per local port: the frame in progress at the receiver with the queue that its INFO named; ports that wait for a valid START (R275, R293). -/
  frames : Vector (Option (Fin 32 × RxFrame)) 16 := Vector.replicate 16 none
  resync : Vector Bool 16 := Vector.replicate 16 false
  /-- The coding of each lane at the transmitter and at the receiver. -/
  txCode : Vector LaneCode 34 := Vector.replicate 34 {}
  rxCode : Vector LaneCode 34 := Vector.replicate 34 {}
  /-- The logical lane whose turn it is, at the transmitter and at the receiver; blocks that wait for their turn at the receiver, with the
  logical lane that brought them (R279); blocks of each lane since the last RATE_FILL (R284). -/
  txTurn : Nat := 0
  rxTurn : Nat := 0
  rxHeld : List (Nat × Nat × List Byte) := []
  sinceFill : Nat := 0
  /-- Messages under assembly by KIND, and the numbers of the last markers received by physical lane (R272, R281). -/
  partials : List (Nat × List Byte) := []
  /-- Blocks that a lane has brought since it last trained, and the numbers of those among the last 256 whose header was invalid (R293). -/
  blocks : List (Nat × Nat) := []
  invalid : List (Nat × List Nat) := []
  numbers : List (Nat × Nat) := []
  /-- Per local port: the block that waits for a start. -/
  opened : Vector (Option OpenBlock) 16 := Vector.replicate 16 none
  /-- Requests that this direction's receiver makes of the far transmitter, by lane, and lanes on which it has converged (R285, R286). -/
  asks : List (Nat × (Nat × Nat × Nat)) := []
  converged : List Nat := []
  /-- µs of uptime at which the last data block was sent (R291). -/
  lastData : Nat := 0
  deriving DecidableEq, Repr

/-- What the device has decided of a report (R400, R401, R407): a consequence of a block, an event that changes no state, one that made its block
SEVERE, FATAL or brought the last resort, one of a block already FATAL; or the end of a reaction. -/
inductive Verdict where
  | consequent (cause : Nat)
  | plain | severe | lastResort | fatal | fatalAgain
  | reactionDone
  deriving DecidableEq, Repr

/-- A report of a line die, with what was decided of it when it arose. -/
structure Report where
  ev : FaultEvent
  verdict : Verdict
  deriving DecidableEq, Repr

/-- A line die and its twill link. -/
structure DieSt where
  down : TwillDir := {}
  up : TwillDir := {}
  /-- Supplies valid. -/
  powered : Bool := true
  /-- The link has reached UP since it last left DOWN; failed attempts of the line die in a row; its safe state of R17. -/
  attempts : Nat := 0
  silent : Bool := false
  /-- The twill test that runs, and whether it took the die out of service (R301 to R304). -/
  test : Option TwillTest := none
  testHolds : Bool := false
  /-- Reports that the die holds while its link is down, oldest first (R408). -/
  reports : List Report := []
  /-- A reset of the die is in progress. -/
  resetting : Bool := false
  /-- The next request for an object of the die is lost on its way down: its management message had a bad CRC-32C (R273). -/
  requestLost : Bool := false
  /-- The transport key that Hallmark and the die's key unit have agreed (R211); empty before the die has started. -/
  transport : List Byte := []
  /-- The microcode that came does not fit the digest that Hallmark verified, or none came: the die refuses to run (R30, R31). -/
  imageBad : Bool := false
  deriving DecidableEq, Repr

/-! ## Clocks, start and power -/

/-- Where a die's clock stands (R371 to R377). -/
inductive ClockPhase where
  | onReference
  /-- In the clock-lost safe state: start-up delay running, then fallback confirmation. -/
  | delay
  | confirming
  | fallbackFailed
  | switching
  | onFallback
  | requalifying
  deriving DecidableEq, Repr

/-- The clocks and the frequency counter of one die (R371 to R381). -/
structure ClockSt where
  phase : ClockPhase := .onReference
  /-- The reference that was lost had stopped, or ran outside its window. -/
  stopped : Bool := false
  /-- The reference came back while a fallback start was in progress (R377). -/
  returned : Bool := false
  /-- Islands: passing measurements in a row, by clock code; released islands; releases that wait. -/
  qualified : List (Nat × Nat) := []
  released : List Nat := []
  deferred : List Nat := []
  /-- The frequency counter's MEAS, REF, GATE, and whether it belongs to software. -/
  fcMeas : Nat := 0
  fcRef : Nat := 0
  fcGate : Nat := 0
  /-- Status bits that a line die sets while its link is down and reports when it next reaches UP (R378). -/
  unreported : List Nat := []
  deriving DecidableEq, Repr

/-- The option block in use (R388). -/
structure Options where
  source : Nat := 2
  sequence : Nat := 0
  twillIndependent : Bool := false
  watchDelayH : Nat := 128
  watchDelayF : Nat := 128
  forceFull : Bool := true
  holdIslands : Bool := false
  pinEnable : Nat := 0x00F0
  digest : List Byte := []
  deriving DecidableEq, Repr

/-- Where the module stands between power-on and service. -/
inductive Life where
  /-- Supplies of the host domain absent. -/
  | off
  /-- In reset, or a start in progress. -/
  | starting
  /-- Start complete. -/
  | running
  deriving DecidableEq, Repr

/-- Non-volatile words of the eMRAM that the start uses (R390 to R394). -/
structure StartNv where
  fails : Nat := 0
  failStep : Nat := 0xFF
  /-- The START_STATE value recorded as each step begins. -/
  lastStep : Nat := 0
  /-- The next start enters recovery mode, whatever START_FAILS reads (R374). -/
  toRecovery : Bool := false
  deriving DecidableEq, Repr

/-- One voltage loop (R19 to R29). -/
structure PaceLoop where
  running : Bool := false
  /-- µs of uptime since which the slack has stayed above SLACK_LOWER. -/
  highSince : Option Nat := none
  /-- AVSBus transactions failed in a row (R467). -/
  avsFails : Nat := 0
  /-- µs of uptime since which the slack has stayed at or above SLACK_RAISE (R29). -/
  goodSince : Option Nat := none
  deriving DecidableEq, Repr

/-! ## Faults and Assay -/

/-- The part of a fault block's record that no object shows: event times inside its window, times at which it became
SEVERE, and when it last left SEVERE, FATAL or LAST_RESORT, all in µs of uptime (R400, R401, R407). -/
structure FaultSt where
  /-- The block's own state (R403); FAULT_STATE is the host die's copy of it (R408). -/
  state : Nat := 0
  window : List Nat := []
  severeAt : List Nat := []
  leftAt : Option Nat := none
  deriving DecidableEq, Repr

/-- A pending injection (R412). -/
structure Injection where
  source : Nat
  kind : Nat
  left : Nat
  spacing : Nat
  /-- µs of uptime of the last check that saw inverted bits. -/
  last : Option Nat := none
  deriving DecidableEq, Repr

/-- A result record of an Assay engine (R421); `intact` is false when its CRC-32C does not fit its bytes. -/
structure AssayRec where
  program : Nat
  result : Nat
  used : Bool
  setVersion : Nat
  count : Nat
  length : Nat
  expected : Nat
  got : Nat
  time : Nat
  optionDigest : List Byte
  failSource : Nat
  intact : Bool := true
  deriving DecidableEq, Repr

/-- The Assay engine of a die: the program that runs and its target; the records in eMRAM. -/
structure AssaySt where
  program : Option (Nat × Nat) := none
  last : Option AssayRec := none
  shutdown : Option AssayRec := none
  deriving DecidableEq, Repr

/-! ## Module parts with no home above -/

/-- The sampler of one line die (R338 to R343). -/
structure SamplerSt where
  arm : Nat := 0
  /-- µs of uptime at which it was armed. -/
  armedAt : Nat := 0
  /-- µs of uptime of the trigger, its instant, and the place of its sample in the record, until the commit stores them (R341). -/
  trigAt : Nat := 0
  trigTime : Nat := 0
  trigIndex : Nat := 0
  /-- µs of uptime at which the captured port last had a trim ramp, and last was in a warm relock or a quiet state (R343). -/
  rampAt : Option Nat := none
  quietAt : Option Nat := none
  /-- Spans of uptime, in µs, in which the converters were off (R338). -/
  off : List (Nat × Nat) := []
  samples : List (Pair × List Int) := []
  select : Nat := 0
  committed : Bool := false
  deriving DecidableEq, Repr

/-- Telemetry of the whole module: a sync that waits for its t0 (R349). -/
structure TlmSt where
  syncAt : Option Nat := none
  /-- µs of uptime of the last edge or command that was taken, and which of the two came in that window. -/
  lastAt : Option Nat := none
  lastEdge : Bool := false
  lastWrite : Bool := false
  /-- A granted TLM_LATCH waits for this sample instant, in units of TLM_RATE since t0 (R351). -/
  latchAt : Option Nat := none
  deriving DecidableEq, Repr

/-- The PPS input (R320). -/
structure PpsSt where
  edges : Nat := 0
  missing : Nat := 0
  suspended : Bool := false
  holdover : Bool := false
  deriving DecidableEq, Repr

/-- Pins that no other record shows (R395). -/
structure Pins where
  alive : Bool := false
  aliveDriven : Bool := false
  sledActivity : Vector (Option Nat) 128 := Vector.replicate 128 none
  sledLast : List Bool := []
  /-- RST_N is low (R461). -/
  resetLow : Bool := false
  rclkSquelched : Vector Bool 2 := Vector.replicate 2 true
  /-- What RCLKn carries: a port's recovered clock, at a frequency in kHz (R322). -/
  rclk : Vector (Option (Nat × Nat)) 2 := Vector.replicate 2 none
  deriving DecidableEq, Repr

/-- What the device sends or shows outside, in order. Nothing takes an entry away. -/
inductive Out where
  /-- The response code of a software access. -/
  | answer (r : Req) (code : Nat)
  | data (r : Req) (value : Nat)
  /-- A response or a NOTIFY, with the addresses it goes to and comes from (R64). -/
  | response (route : Route) (mac source : Nat) (reply : Reply)
  | notify (route : Route) (mac source : Nat) (reply : Reply)
  | mdio (value : Option Nat)
  | avs (dom : Domain) (millivolts : Nat)
  /-- A frame to the switch, to the line, flow control to either. -/
  | toSwitch (p : Port) (f : EthFrame)
  | toLine (p : Port) (f : EthFrame)
  | fcToSwitch (p : Port) (f : FcFrame) (bytes : List Byte)
  | fcToLine (p : Port) (f : FcFrame)
  /-- The values of a native or training frame on the four pairs, precoded and shaped. -/
  | symbols (p : Port) (pairs : List (List Rat))
  | wakeTone (p : Port)
  | presence (p : Port)
  /-- Crossover and pair correction of a standard mode's pairs, as PORT_CONTROL gave them at its negotiation (R425). -/
  | mdi (p : Port) (crossover : Nat) (correct : Bool)
  /-- The base page of a negotiation and its next pages in order (R163 to R165). -/
  | pages (p : Port) (base : Nat) (next : List NextPage)
  | selvage (p : Port) (m : SelvageMsg)
  /-- A block on a physical lane of a twill link, with the bits the lane carries: a stream block by its header and body (before scrambling), a marker,
  RATE_FILL, and a training block. -/
  | block (die : Die) (way : Way) (lane : Lane) (header : Nat) (body : List Byte) (line : List Bool)
  | marker (die : Die) (way : Way) (lane : Lane) (m : MarkerBody) (line : List Bool)
  | rateFill (die : Die) (way : Way) (lane : Lane) (line : List Bool)
  | train (die : Die) (way : Way) (lane : Lane) (b : TrainBody) (line : List Bool)
  /-- What a lane under test sends first: one period of the injector, or 264 bits (R301). -/
  | pattern (die : Die) (way : Way) (lane : Lane) (line : List Bool)
  /-- The wake burst of a lane: so many periods of the square wave of K, four ones and four zeros (R292). -/
  | wakeBurst (die : Die) (way : Way) (lane : Lane) (periods : Nat)
  | laneCtl (die : Die) (way : Way) (what : Nat) (lane : Nat)
  | key (die : Die) (bytes : List Byte)
  | ppsOut (high : Bool)
  /-- RCLKn carries a port's recovered clock at a frequency in kHz, or is driven low (R322). -/
  | rclk (n : Fin 2) (carries : Option (Nat × Nat))
  | sled (bits : List Bool)
  | safeMessage
  /-- What the test access port shifts out. -/
  | tdo (value : Nat)
  deriving DecidableEq, Repr

/-- Everything but the one-way store and the queue of commands. -/
structure Dev where
  /-- The dictionary: index * 256 + subindex and value, sorted, no entry at its power-on value. -/
  objs : List (Nat × Nat) := []
  /-- Warm resets since power-on: what R43 adds to every sequence number of a status object. -/
  warmCount : Nat := 0
  /-- µs since power-on or pin reset. -/
  uptime : Nat := 0
  /-- How many free values have been drawn. -/
  draws : Nat := 0
  life : Life := .starting
  safe : Bool := false
  fieldValid : Bool := true
  time : TimeBase := {}
  mgmt : Mgmt := {}
  hall : Hall := {}
  ports : Vector PortSt 128 := Vector.replicate 128 {}
  dies : Vector DieSt 8 := Vector.replicate 8 {}
  clocks : Vector ClockSt 9 := Vector.replicate 9 {}
  options : Options := {}
  nv : StartNv := {}
  pace : Vector PaceLoop 2 := Vector.replicate 2 {}
  faults : Vector FaultSt 969 := Vector.replicate 969 {}
  /-- Blocks in a block reset (R386), which answer ERR_BUSY. -/
  blockReset : List Nat := []
  injection : Option Injection := none
  /-- When the record that MODULE_FIRST_FAULT holds came: a candidate of the same arbitration window may take its place (R409). -/
  firstAt : Option Nat := none
  assay : Vector AssaySt 9 := Vector.replicate 9 {}
  samplers : Vector SamplerSt 8 := Vector.replicate 8 {}
  tlm : TlmSt := {}
  /-- The selection of TEMPER_SELECT. -/
  temperSelect : Option Nat := none
  pps : PpsSt := {}
  pins : Pins := {}
  out : List Out := []
  deriving DecidableEq, Repr

/-- The state of the DZ12800. -/
structure State where
  vault : Vault := {}
  dev : Dev := {}
  /-- Commands that wait, first in, first out. -/
  pending : List Instr := []
  deriving DecidableEq, Repr

/-- The module as its dies leave power-on reset, both domains' supplies valid, before START: every object at its power-on value (R382, R438).
Fuses, eMRAM and flash as in a module that nothing has written (DESIGN CHOICE: the spec gives their contents no first value; unsafe). -/
def State.reset : State := {}

end Sys2Proof.Machine
end

