-- ==== Sys2Proof/Machine/Ops.lean ====
section
/-! DEFINITION. The operations every command is made of: objects of the dictionary, status objects and counters, sessions, response codes and
the checks of a software write, the touchmark log, time, and what the module sends. -/

namespace Sys2Proof.Machine

/-! ## The catalogue -/

/-- The record that an index lies in. -/
def Catalog.rec? (idx : Nat) : Option Rec :=
  Catalog.records.find? (fun r => r.base ≤ idx && idx < r.base + r.count)

/-- The row of a subindex; a held twin of a counter is not a row (R44). -/
def Catalog.field? (idx sub : Nat) : Option Field :=
  (Catalog.rec? idx).bind (fun r => r.fields.find? (fun f => f.lo ≤ sub && sub ≤ f.hi))

/-- The base of the record that an index lies in, or the index itself. -/
def Catalog.base (idx : Nat) : Nat :=
  match Catalog.rec? idx with
  | some r => r.base
  | none => idx

/-- The power-on value of an object. -/
def Catalog.dflt (idx sub : Nat) : Nat :=
  match Catalog.rec? idx with
  | none => 0
  | some r =>
    match r.fields.find? (fun f => f.lo ≤ sub && sub ≤ f.hi) with
    | none => 0
    | some f => if f.step then f.dflt + (idx - r.base) else f.dflt

/-- A warm reset keeps the object's value. -/
def Catalog.kept (idx sub : Nat) : Bool :=
  match Catalog.field? idx sub with
  | some f => f.kept
  | none => true

/-- The store key of an object. -/
def key (idx sub : Nat) : Nat := idx * 256 + sub

/-! ## The store of objects -/

/-- The value listed for a key. -/
def Store.find (k : Nat) : List (Nat × Nat) → Option Nat
  | [] => none
  | e :: l => if e.1 = k then some e.2 else Store.find k l

/-- List a value for a key, in order. -/
def Store.insert (k v : Nat) : List (Nat × Nat) → List (Nat × Nat)
  | [] => [(k, v)]
  | e :: l => if e.1 < k then e :: Store.insert k v l else if e.1 = k then (k, v) :: l else (k, v) :: e :: l

/-- List no value for a key. -/
def Store.erase (k : Nat) (l : List (Nat × Nat)) : List (Nat × Nat) :=
  l.filter (fun e => e.1 ≠ k)

/-- The canonical form: keys strictly rising, no entry at its power-on value. -/
def Store.wf : List (Nat × Nat) → Bool
  | [] => true
  | [e] => e.2 != Catalog.dflt (e.1 / 256) (e.1 % 256)
  | e :: e' :: l => e.2 != Catalog.dflt (e.1 / 256) (e.1 % 256) && e.1 < e'.1 && Store.wf (e' :: l)

/-- The stored value of an object. -/
def Dev.get (d : Dev) (idx sub : Nat) : Nat :=
  (Store.find (key idx sub) d.objs).getD (Catalog.dflt idx sub)

/-- Store a value. -/
def Dev.put (d : Dev) (idx sub v : Nat) : Dev :=
  { d with objs :=
      if v = Catalog.dflt idx sub then Store.erase (key idx sub) d.objs else Store.insert (key idx sub) v d.objs }

/-- Width in bits of a counter (R44: U32 or U64). -/
def Catalog.width (idx sub : Nat) : Nat :=
  match Catalog.field? idx sub with
  | some f => 8 * f.ty.size
  | none => 32

/-- Count up by `n`, wrapping from the maximum to 0 (R44). -/
def Dev.count (d : Dev) (idx sub n : Nat) : Dev :=
  d.put idx sub ((d.get idx sub + n) % 2 ^ Catalog.width idx sub)

/-- Count one. -/
def Dev.inc (d : Dev) (idx sub : Nat) : Dev := d.count idx sub 1

/-- A flag as the stored value of a BOOL. -/
def Dev.flag (d : Dev) (idx sub : Nat) : Bool := d.get idx sub = 1

/-! ## Status objects -/

/-- The sequence number of a status object (R42, R43). -/
def Dev.stSeq (d : Dev) (idx : Nat) : Nat := (d.get idx 2 + d.warmCount) % 65536

/-- An event that sets the bits of a mask in a status object (R42). -/
def Dev.eventMask (d : Dev) (idx mask : Nat) : Dev :=
  (d.put idx 1 (d.get idx 1 ||| mask)).put idx 2 ((d.get idx 2 + 1) % 65536)

/-- An event that sets one bit of a status object. -/
def Dev.event (d : Dev) (idx bit : Nat) : Dev := d.eventMask idx (2 ^ bit)

/-! ## Parts of the state -/

/-- Send or show something. -/
def Dev.emit (d : Dev) (o : Out) : Dev := { d with out := d.out ++ [o] }

/-- The record of a port. -/
def Dev.port (d : Dev) (p : Port) : PortSt := d.ports.get p

/-- Change the record of a port. -/
def Dev.onPort (d : Dev) (p : Port) (f : PortSt → PortSt) : Dev := { d with ports := upd d.ports p f }

def Dev.onLink (d : Dev) (p : Port) (f : LinkSt → LinkSt) : Dev := d.onPort p (fun s => { s with link := f s.link })
def Dev.onTrain (d : Dev) (p : Port) (f : Train → Train) : Dev := d.onPort p (fun s => { s with train := f s.train })
def Dev.onNative (d : Dev) (p : Port) (f : Native → Native) : Dev := d.onPort p (fun s => { s with native := f s.native })
def Dev.onSelvage (d : Dev) (p : Port) (f : Selvage → Selvage) : Dev := d.onPort p (fun s => { s with selvage := f s.selvage })
def Dev.onSignal (d : Dev) (p : Port) (f : Signal → Signal) : Dev := d.onPort p (fun s => { s with signal := f s.signal })
def Dev.onCrypt (d : Dev) (p : Port) (f : SealSt → SealSt) : Dev := d.onPort p (fun s => { s with crypt := f s.crypt })
def Dev.onHost (d : Dev) (p : Port) (f : HostSt → HostSt) : Dev := d.onPort p (fun s => { s with host := f s.host })
def Dev.onDie (d : Dev) (n : Die) (f : DieSt → DieSt) : Dev := { d with dies := upd d.dies n f }
def Dev.onClock (d : Dev) (n : DieId) (f : ClockSt → ClockSt) : Dev := { d with clocks := upd d.clocks n f }
def Dev.onMgmt (d : Dev) (f : Mgmt → Mgmt) : Dev := { d with mgmt := f d.mgmt }
def Dev.onHall (d : Dev) (f : Hall → Hall) : Dev := { d with hall := f d.hall }

/-- A new draw: its number (log entry 5). -/
def Dev.newDraw (d : Dev) : Dev := { d with draws := d.draws + 1 }

/-- The line die of a port, its local position, and the port at a position of a die (R5). -/
def dieOf (p : Port) : Die := ⟨p.val / 16, by omega⟩
def localOf (p : Port) : Nat := p.val % 16
def portAt (n : Die) (k : Fin 16) : Port := ⟨n.val * 16 + k.val, by omega⟩

/-- A line die's number among the nine. -/
def dieId (n : Die) : DieId := ⟨n.val, by omega⟩

/-- Change every port of a die, in ascending local position. -/
def Dev.eachPortOf (d : Dev) (n : Die) (f : Port → Dev → Dev) : Dev :=
  forAll 16 (fun k d => f (portAt n k) d) d

/-- Change every port of the module. -/
def Dev.eachPort (d : Dev) (f : Port → Dev → Dev) : Dev := forAll 128 f d

/-- Change every line die. -/
def Dev.eachDie (d : Dev) (f : Die → Dev → Dev) : Dev := forAll 8 f d

/-! ## Time (R305) -/

/-- Sixteenths of a nanosecond in a second. -/
def perSecond : Nat := 16000000000

def secondsOf (t : Nat) : Nat := t / perSecond % 2 ^ 48
def nanosOf (t : Nat) : Nat := t % perSecond / 16

/-- A time as the value of an OCTETS(12). -/
def timeOctets (t : Nat) : Nat :=
  ((secondsOf t * 2 ^ 32 + nanosOf t) * 256 + t % 16) * 256

/-- The time of an OCTETS(12): seconds, nanoseconds and fraction. -/
def octetsTime (v : Nat) : Nat :=
  v / 2 ^ 48 * perSecond + v / 2 ^ 16 % 2 ^ 32 * 16 + v / 256 % 16

def Dev.now (d : Dev) : Nat := d.time.count

/-! ## Response codes (R35, R36) -/

inductive Code where
  | ok | index | subindex | type | access | locked | range | busy | stale | auth | state | aborted
  deriving DecidableEq, Repr

/-- The value of a code. -/
def Code.value : Code → Nat
  | .ok => 0 | .index => 1 | .subindex => 2 | .type => 3 | .access => 4 | .locked => 5 | .range => 6 | .busy => 7
  | .stale => 8 | .auth => 9 | .state => 10 | .aborted => 11

/-- The place of a code in the order of R36; OK comes last. -/
def Code.rank : Code → Nat
  | .index => 0 | .subindex => 1 | .auth => 2 | .access => 3 | .type => 4 | .locked => 5 | .busy => 6 | .state => 7 | .range => 8
  | .stale => 9 | .aborted => 10 | .ok => 11

/-- Of two codes, the one that R36 puts first. -/
def Code.first (a b : Code) : Code := if b.rank < a.rank then b else a

/-- The code of a list of conditions: the first in the order of R36 of those that apply, or OK. -/
def firstCode : List (Bool × Code) → Code
  | [] => .ok
  | (b, c) :: l => if b then Code.first c (firstCode l) else firstCode l

/-! ## Sessions and roles (R60 to R62, R212 to R214) -/

/-- The open session a request travels in. -/
def Dev.session? (d : Dev) (r : Req) : Option Session :=
  if h : 1 ≤ r.session ∧ r.session ≤ 4 then
    let s := d.mgmt.sessions.get ⟨r.session - 1, by omega⟩
    if s.phase = 2 then some s else none
  else none

/-- The session's role, 0 AUDIT to 3 GWYNALE. -/
def Dev.role? (d : Dev) (r : Req) : Option Nat := (d.session? r).map (·.role)

/-- The request has a session whose role permits what needs role `n`; GWYNALE permits what OWNER does. -/
def Dev.permits (d : Dev) (r : Req) (n : Nat) : Bool :=
  match d.role? r with
  | some k => n ≤ k
  | none => false

/-- Key ID of the session that acts, or zeros (R237). -/
def Dev.keyIdOf (d : Dev) (r : Req) : List Byte :=
  match d.session? r with
  | some s => s.keyId
  | none => List.replicate 8 0

/-- The role that R213 asks for a read of an index, if any. -/
def readRole (idx : Nat) : Option Nat :=
  if 0x6400 ≤ idx ∧ idx ≤ 0x67FF then some 0 else none

/-- The role that R213, R218, R225, R302 and R394 ask for a write, if any, whatever the life-cycle state. -/
def writeRole (idx : Nat) : Option Nat :=
  if 0x4400 ≤ idx ∧ idx < 0x4480 then some 1
  else if idx = 0x6404 ∨ idx = 0x6418 ∨ idx = 0x6424 then some 2
  else if idx = 0x6440 ∨ idx = 0x6480 ∨ idx = 0x6481 ∨ idx = 0x1806 ∨ idx = 0x3400 then some 1
  else if 0x6400 ≤ idx ∧ idx ≤ 0x67FF then some 0
  else none

/-- A role requirement is met. -/
def Dev.meets (d : Dev) (r : Req) : Option Nat → Bool
  | none => true
  | some n => d.permits r n

/-! ## The touchmark log (R236 to R239) -/

/-- The staging area holds no further entry. -/
def Dev.stagingFull (d : Dev) : Bool := 64 ≤ d.hall.staging.length + d.hall.reserved

/-- The identity hash (R210); zeros while there is no identity key. -/
def Hall.identityHash (h : Hall) : List Byte :=
  if h.identityPub = [] then List.replicate 32 0 else Config.shake256 h.identityPub 32

/-- The chain value before the next entry. -/
def Hall.lastChain (h : Hall) : List Byte :=
  if h.nextSeq = 0 then Config.shake256 (ascii "DZ12800 TOUCHMARK" ++ h.identityHash) 32 else h.headChain

/-- Bytes 0 to 223 of an entry. -/
def touchBytes (seq time type : Nat) (body : List Byte) : List Byte :=
  bytesOf 8 seq ++ bytesOf 8 (secondsOf time) ++ bytesOf 4 (nanosOf time) ++ bytesOf 2 type
    ++ bytesOf 2 body.length ++ body ++ List.replicate (200 - body.length) 0

/-- Put a job into the signing engine's queue, once. -/
def Hall.askSign (h : Hall) (j : HallJob) : Hall :=
  if j ∈ h.signQueue then h else { h with signQueue := h.signQueue ++ [j] }

/-- Append an entry to staging and chain it (R236, R238); after 64 entries without a signature, ask for one (R239). -/
def Hall.append (h : Hall) (time type : Nat) (body : List Byte) : Hall :=
  if h.logClosed then h else
    let chain := Config.shake256 (h.lastChain ++ touchBytes h.nextSeq time type body) 32
    let h' := { h with
      staging := h.staging ++ [{ seq := h.nextSeq, time := time, type := type, body := body, chain := chain }]
      nextSeq := h.nextSeq + 1
      headChain := chain
      unsigned := if type = 0x0001 then 0 else h.unsigned + 1 }
    if 64 ≤ h'.unsigned then h'.askSign (.touch false) else h'

/-- The record of a request that R238 refuses while staging is full: room was checked when it came. -/
def Dev.touch (d : Dev) (type : Nat) (body : List Byte) : Dev :=
  d.onHall (fun h => h.append d.now type body)

/-- The record of an event that the device does not refuse: lost and counted when staging is full (R238). -/
def Dev.touchEvent (d : Dev) (type : Nat) (body : List Byte) : Dev :=
  if d.hall.logClosed then d
  else if d.stagingFull then
    (d.onHall (fun h => { h with
      gapLost := h.gapLost + 1
      gapTime := if h.gapLost = 0 then secondsOf d.now else h.gapTime })).inc 0x6600 7
  else d.touch type body

/-- ROUTE of a touchmark body (R237). -/
def routeCode : Route → Nat
  | .ownFirmware => 0 | .mgmtLink => 1 | .inBand => 2 | .pewter => 3

/-- Body of LOCK_SET and LOCK_REFUSED. -/
def Dev.lockBody (d : Dev) (r : Req) (idx sub : Nat) : List Byte :=
  bytesOf 2 idx ++ bytesOf 1 sub ++ bytesOf 1 (routeCode r.route) ++ d.keyIdOf r

/-! ## Software writes: checks, answers and refusals -/

/-- A write as its arbiter sees it: the conditions that refuse it, and its effect when none does (R36, R37). -/
structure Op where
  checks : List (Bool × Code)
  effect : Dev → Dev
  /-- What a refusal does beside what every refusal does. -/
  refusal : Code → Dev → Dev := fun _ d => d
  /-- What follows once the answer has been sent: an effect that ends the session it travels in. -/
  later : Dev → Dev := id

/-- What a refusal itself does (R53, R65): a locked write is counted, flagged and recorded, an unauthorised one counted. -/
def Dev.refused (d : Dev) (r : Req) (idx sub : Nat) : Code → Dev
  | .locked => ((d.inc 0x1404 2).event 0x1400 0).touchEvent 0x0012 (d.lockBody r idx sub)
  | .auth => d.inc 0x1404 3
  | .aborted => d.inc 0x1404 7
  | _ => d

/-- Apply a write: its code, and the state after it. -/
def Op.apply (o : Op) (r : Req) (idx sub : Nat) (d : Dev) : Code × Dev :=
  match firstCode o.checks with
  | .ok => (.ok, o.effect d)
  | c => (c, (o.refusal c d).refused r idx sub c)

/-- The requester's route is served: the controller or the recovery loader hears it (R390, R393, R406). -/
def Dev.hears (d : Dev) : Route → Bool
  | .ownFirmware => d.mgmt.serving
  | .mgmtLink => d.mgmt.serving && d.mgmt.linkClock
  | .inBand => d.mgmt.serving && !d.mgmt.romServes && !d.mgmt.recovery && d.get 0x1424 1 ≠ 0xFFFF
  | .pewter => d.mgmt.serving && !d.mgmt.romServes && !d.mgmt.recovery

/-- The response to an access of its own. An accepted one counts at 0x1404:01. -/
def Dev.answer (d : Dev) (r : Req) (c : Code) : Dev :=
  (if c = .ok then d.inc 0x1404 1 else d).emit (.answer r c.value)

/-- The port whose record an index is (R423). -/
def portOf? (idx : Nat) : Option Port :=
  if (0x2000 ≤ idx ∧ idx < 0x2580) ∨ (0x4000 ≤ idx ∧ idx < 0x4500) ∨ (0x5000 ≤ idx ∧ idx < 0x5280)
      ∨ (0x5800 ≤ idx ∧ idx < 0x5A00) ∨ (0x5A80 ≤ idx ∧ idx < 0x5B00) ∨ (0x5C00 ≤ idx ∧ idx < 0x5E80)
  then some ⟨idx % 128, by omega⟩ else none

/-- The line die that an object belongs to alone. -/
def objDie? (idx : Nat) : Option Nat :=
  if 0x1828 ≤ idx ∧ idx ≤ 0x182F then some (idx - 0x1828)
  else if 0x1830 ≤ idx ∧ idx ≤ 0x1837 then some (idx - 0x1830)
  else if 0x5F10 ≤ idx ∧ idx ≤ 0x5F17 then some (idx - 0x5F10)
  else none

/-- The line die whose objects an index lies in: a request for them crosses the twill link (R272). -/
def requestDie? (idx : Nat) : Option Nat :=
  match portOf? idx with
  | some p => if 0x4000 ≤ idx then some (p.val / 16) else none
  | none => objDie? idx

/-- The request for an index is lost on its way to its die, and gets no response (R273). -/
def Dev.lostRequest (d : Dev) (idx : Nat) : Bool :=
  match requestDie? idx with
  | some n => (match d.dies[n]? with | some s => s.requestLost | none => false)
  | none => false

/-- The loss has taken its request. -/
def Dev.lostTaken (d : Dev) (idx : Nat) : Dev :=
  match requestDie? idx with
  | some n => if h : n < 8 then d.onDie ⟨n, h⟩ (fun s => { s with requestLost := false }) else d
  | none => d

/-- Run a write that a route carries: nothing happens where nobody hears the route; a request lost on its way has no effect and no answer (R38, R273). -/
def Op.run (o : Op) (r : Req) (idx sub : Nat) (d : Dev) : Dev :=
  if !d.hears r.route then d
  else if d.lostRequest idx then d.lostTaken idx
  else if (o.apply r idx sub d).1 = .ok then o.later ((o.apply r idx sub d).2.answer r .ok)
  else (o.apply r idx sub d).2.answer r (o.apply r idx sub d).1

/-- A block reset holds the objects of an index: those that the block has to itself (R386; log entry 111). -/
def resetHolds (src idx : Nat) : Bool :=
  if src < 0x80 then (0x4000 ≤ idx && idx < 0x5E80 && (portOf? idx).map Fin.val == some src)
  else if src < 0x100 then idx == 0x4480 + (src - 0x80)
  else if src < 0x180 then (0x2000 ≤ idx && idx < 0x2580 && (portOf? idx).map Fin.val == some (src - 0x100))
  else if 0x3A0 ≤ src ∧ src < 0x3A8 then idx == 0x5F10 + (src - 0x3A0)
  else if 0x3A8 ≤ src ∧ src < 0x3B0 then
    let n := src - 0x3A8
    idx == 0x3020 + n || idx == 0x3080 + n || idx / 2 * 2 == 0x3100 + 2 * n || idx / 2 * 2 == 0x3200 + 2 * n || idx == 0x3410 + n
  else if 0x3B0 ≤ src ∧ src < 0x3B8 then 0x5200 ≤ idx && idx < 0x5280 && (portOf? idx).map (fun p => p.val / 16) == some (src - 0x3B0)
  else if 0x3B8 ≤ src ∧ src < 0x3C0 then idx == 0x1828 + (src - 0x3B8) || idx == 0x1830 + (src - 0x3B8)
  else if src = 0x3C0 then 0x1400 ≤ idx && idx ≤ 0x17FF
  else if src = 0x3C2 then 0x1FE0 ≤ idx && idx ≤ 0x1FFF
  else if src = 0x3C5 then idx == 0x1824 || idx == 0x1838
  else if src = 0x3C6 then idx == 0x1208
  else if src = 0x3C7 then idx == 0x1209
  else if src = 0x3C3 then 0x2200 ≤ idx && idx < 0x2580
  else if src = 0x3C1 then 0x6400 ≤ idx && idx ≤ 0x67FF
  else if src = 0x3C4 then 0x6000 ≤ idx && idx ≤ 0x63FF
  else false

/-- A program, a test or a block reset holds the block that owns an index (R161, R386, R416). -/
def Dev.busyIndex (d : Dev) (idx : Nat) : Bool :=
  (match portOf? idx with
   | some p => (d.port p).tested
   | none => false)
  || (match objDie? idx with
      | some n => d.get 0x1010 (n + 1) = 4 && (match d.assay[n]? with | some a => a.program.isSome | none => false)
      | none => false)
  || d.blockReset.any (fun s => resetHolds s idx)

/-- The recovery loader serves an index (R393). -/
def recoveryServes (idx : Nat) : Bool :=
  (0x1000 ≤ idx && idx ≤ 0x1008) || idx = 0x1800 || idx = 0x1804 || idx = 0x1806 || idx = 0x1808 || idx = 0x6440 || idx = 0x6600

/-- The module is in a state that refuses writes to an index: recovery mode, or the module safe state (R393, R406). -/
def Dev.modeRefuses (d : Dev) (idx : Nat) : Bool :=
  (d.mgmt.recovery && !recoveryServes idx) || d.safe

/-- The checks that every write to an object shares: session and role (R213), block busy, and the module's own state. -/
def Dev.gate (d : Dev) (r : Req) (idx : Nat) : List (Bool × Code) :=
  [(!d.meets r (writeRole idx), .auth), (d.busyIndex idx, .busy), (d.modeRefuses idx, .state)]

/-- A configuration write has been granted: a COMMIT's pass starts again (R50). -/
def Dev.configured (d : Dev) : Dev := d.onMgmt (fun m => { m with passDirty := true })

/-- Run a command of the device's own: the vault is not touched. -/
def State.onDev (s : State) (f : Dev → Dev) : State := { s with dev := f s.dev }

/-- A meaning that always answers a next state and leaves the one-way store and the queue alone. -/
def State.event (s : State) (f : Dev → Dev) : Host.Outcome State Fault Refusal := .next (s.onDev f)

/-- A software write as a whole command. -/
def State.write (s : State) (r : Req) (idx sub : Nat) (o : Vault → Dev → Op) : Host.Outcome State Fault Refusal :=
  .next (s.onDev (fun d => (o s.vault d).run r idx sub d))

end Sys2Proof.Machine
end

