-- ==== Sys2Proof/Machine/Queues.lean ====
section
/-! DEFINITION. The 4,096 frame queues, their admission, discards, flow control and schedulers (R253 to R269). -/

namespace Sys2Proof.Machine

/-! ## Frames -/

/-- The 16-bit field at an offset of a frame. -/
def EthFrame.u16 (f : EthFrame) (o : Nat) : Nat := natOf ((f.bytes.drop o).take 2)

/-- The EtherType after the source address. -/
def etherTypeAt12 (f : EthFrame) : Nat := EthFrame.u16 f 12

/-- A tag protocol identifier that R231 reads past. -/
def isTag (t : Nat) : Bool := t == 0x8100 || t == 0x88A8

/-- The EtherType of R231, past at most two tags; nothing when a third tag follows. -/
def clearEtherType (f : EthFrame) : Option Nat :=
  if !isTag (EthFrame.u16 f 12) then some (EthFrame.u16 f 12)
  else if !isTag (EthFrame.u16 f 16) then some (EthFrame.u16 f 16)
  else if !isTag (EthFrame.u16 f 20) then some (EthFrame.u16 f 20)
  else none

/-- The class that a CLASS_MAP word gives a priority (R255). -/
def mapClass (map pcp : Nat) : Nat := field map (3 * pcp) 3

/-- The class of a frame at a port (R253). -/
def Dev.classOf (d : Dev) (p : Port) (f : EthFrame) : Nat :=
  if isTag (etherTypeAt12 f) then mapClass (d.get (0x2280 + p) 1) (natOf ((f.bytes.drop 14).take 1) / 32)
  else d.get (0x2280 + p) 2

/-- The link carries sealed frames (R254). -/
def Dev.sealsFrames (d : Dev) (p : Port) : Bool := d.get (0x4400 + p) 0xA = 2 || d.get (0x4400 + p) 0xA = 3

/-- The clear-path rule of R231 for a frame of a class. -/
def Dev.goesClear (d : Dev) (p : Port) (f : EthFrame) (cls : Nat) : Bool :=
  (d.get (0x4400 + p) 2).testBit cls
  || (match clearEtherType f with
      | some t => t = 0x8808 || ([3, 4, 5, 6].any (fun s => d.get (0x4400 + p) s = t && t ≠ 0))
      | none => false)

/-- MAC control frame with a PAUSE or PFC opcode (R255). -/
def flowFrame? (f : EthFrame) : Option FcFrame :=
  if etherTypeAt12 f ≠ 0x8808 then none
  else if EthFrame.u16 f 14 = 0x0001 then some (.pause (EthFrame.u16 f 16))
  else if EthFrame.u16 f 14 = 0x0101 then
    some (.pfc (Vector.ofFn (fun i : Fin 8 => if (EthFrame.u16 f 16).testBit i then some (EthFrame.u16 f (18 + 2 * i)) else none)))
  else none

/-- A flow-control frame as it travels (R263). -/
def flowBytes (src : Nat) : FcFrame → List Byte
  | .pause q =>
    let b := bytesOf 6 0x0180C2000001 ++ bytesOf 6 src ++ bytesOf 2 0x8808 ++ bytesOf 2 1 ++ bytesOf 2 q ++ List.replicate 42 0
    b ++ fcsOf b
  | .pfc v =>
    let mask := (allFin 8).foldl (fun m i => if (v.get i).isSome then m + 2 ^ i.val else m) 0
    let b := bytesOf 6 0x0180C2000001 ++ bytesOf 6 src ++ bytesOf 2 0x8808 ++ bytesOf 2 0x0101 ++ bytesOf 2 mask
      ++ ((allFin 8).map (fun i => bytesOf 2 ((v.get i).getD 0))).flatten ++ List.replicate 26 0
    b ++ fcsOf b

/-! ## Queues -/

/-- HL_STATE (R250). -/
def Dev.hlState (d : Dev) (p : Port) : Nat := d.get (0x2100 + p) 1

/-- LINK_STATE of a port (R160). -/
def Dev.linkState (d : Dev) (p : Port) : Nat := d.get (0x4080 + p) 6

/-- A link is up in states 4 to 8 only (R160). -/
def Dev.linkUp (d : Dev) (p : Port) : Bool := 4 ≤ d.linkState p && d.linkState p ≤ 8

/-- The mode a port runs (R77). -/
def Dev.mode (d : Dev) (p : Port) : Nat := d.get (0x4080 + p) 4

/-- The port runs a native mode. -/
def Dev.native (d : Dev) (p : Port) : Bool := 8 ≤ d.mode p

/-- Local queue number (R6). -/
def queueOf (dir : Dir) (sealed : Bool) (cls : Nat) : Fin 32 :=
  ⟨(match dir with | .egress => 0 | .ingress => 16) + (if sealed then 8 else 0) + cls % 8, by
    cases dir <;> cases sealed <;> simp <;> omega⟩

/-- The frames of a local queue. -/
def Dev.queue (d : Dev) (p : Port) (q : Fin 32) : List EthFrame := (d.port p).host.queues.get q

def Dev.onQueue (d : Dev) (p : Port) (q : Fin 32) (f : List EthFrame → List EthFrame) : Dev :=
  d.onHost p (fun h => { h with queues := upd h.queues q f })

/-- Bytes of frames. -/
def bytesIn (l : List EthFrame) : Nat := l.foldl (fun n f => n + f.bytes.length) 0

/-- Bytes of frames on their way to the line that a queue still counts. -/
def bytesToLine (l : List TxFrame) (q : Nat) : Nat := bytesIn ((l.filter (fun t => t.queue = q && !t.away)).map (·.frame))

/-- Where a frame in arrival from the line is being put together: at the deframer of a native line, or from blocks of the twill link (R271). -/
inductive Arrival where
  | line | twill
  deriving DecidableEq, Repr

/-- A port's place among its die's. -/
def placeOf (p : Port) : Fin 16 := ⟨p.val % 16, by omega⟩

/-- The frame in arrival. -/
def Dev.arrival (d : Dev) (p : Port) : Arrival → Option RxFrame
  | .line => (d.port p).native.rx
  | .twill => ((d.dies.get (dieOf p)).up.frames.get (placeOf p)).map (·.2)

/-- Change the frame in arrival. -/
def Dev.onArrival (d : Dev) (p : Port) (a : Arrival) (f : RxFrame → RxFrame) : Dev :=
  match a with
  | .line => d.onNative p (fun n => { n with rx := n.rx.map f })
  | .twill => d.onDie (dieOf p) (fun s => { s with up := { s.up with
      frames := upd s.up.frames (placeOf p) (fun o => o.map (fun x => (x.1, f x.2))) } })

/-- Both frames in arrival. -/
def Dev.arrivals (d : Dev) (p : Port) : List RxFrame := (d.arrival p .line).toList ++ (d.arrival p .twill).toList

/-- The ingress buffer holds what has come of the frame: it was not refused, nor ended on the host lane, and is no flow control (R255, R256). -/
def RxFrame.counts (r : RxFrame) : Bool := r.refused.isNone && !r.cut && !r.flow

/-- Bytes of a port's frames in arrival whose queue is one, or not yet found. -/
def Dev.arrivingBytes (d : Dev) (p : Port) (q : Option (Fin 32)) : Nat :=
  (d.arrivals p).foldl (fun n r => if r.counts && r.queue = q then n + r.held.length else n) 0

/-- QUEUE_DEPTH of a local queue: every frame whose first byte is buffered and whose last byte has not left (R256). -/
def Dev.queueDepth (d : Dev) (p : Port) (q : Fin 32) : Nat :=
  bytesIn (d.queue p q) + bytesToLine ((d.port p).native.tx.toList ++ (d.port p).native.after) q + d.arrivingBytes p (some q)

/-- Local queues of a direction. -/
def queuesOf (dir : Dir) : List (Fin 32) :=
  (allFin 32).filter (fun q => match dir with | .egress => q.val < 16 | .ingress => 16 ≤ q.val)

/-- Occupancy of a direction's buffer (R256): a frame counts until its last byte has left, and one in arrival before its queue has been found. -/
def Dev.occupancy (d : Dev) (p : Port) (dir : Dir) : Nat :=
  (queuesOf dir).foldl (fun n q => n + d.queueDepth p q) (match dir with | .egress => 0 | .ingress => d.arrivingBytes p none)

/-- Occupancy of one class, over both paths. -/
def Dev.classOccupancy (d : Dev) (p : Port) (dir : Dir) (cls : Nat) : Nat :=
  d.queueDepth p (queueOf dir false cls) + d.queueDepth p (queueOf dir true cls)

/-- Buffer of a direction (R256). -/
def bufferSize : Dir → Nat
  | .egress => 196608
  | .ingress => 65536

/-- Room for one more frame (R257). -/
def Dev.hasRoom (d : Dev) (p : Port) (dir : Dir) : Bool :=
  d.get (0x2000 + p) 4 + d.occupancy p dir ≤ bufferSize dir

/-- Count frames discarded under a cause, in the port counter of the cause and in their queue (R267). -/
def Dev.countDiscard (d : Dev) (p : Port) (q : Fin 32) (cause n : Nat) : Dev :=
  if n = 0 then d else (d.count (0x2500 + p) cause n).count (0x2480 + p) (q.val + 1) n

/-- Discard what the queues of a direction hold, under a cause. -/
def Dev.discardQueues (d : Dev) (p : Port) (dir : Dir) (cause : Nat) : Dev :=
  (queuesOf dir).foldl (fun d q => (d.countDiscard p q cause (d.queue p q).length).onQueue p q (fun _ => [])) d

/-- What the host lane transmits (R251). -/
def Dev.hlSignal (d : Dev) (p : Port) : Nat :=
  if d.get (0x2100 + p) 1 = 0 then 0
  else if d.occupancy p .ingress = 0 && (!d.linkUp p || (d.native p && (d.port p).native.partnerLf)) then 1
  else if d.get (0x2100 + p) 1 ≠ 2 || (d.port p).host.switchSends = .localFault then 2
  else if (d.port p).host.switchSends = .remoteFault then 3
  else 4

/-! ## Flow control (R261 to R264) -/

def Dev.flow (d : Dev) (p : Port) : Dir → Flow
  | .egress => (d.port p).host.egFlow
  | .ingress => (d.port p).host.inFlow

def Dev.onFlow (d : Dev) (p : Port) (dir : Dir) (f : Flow → Flow) : Dev :=
  d.onHost p (fun h => match dir with
    | .egress => { h with egFlow := f h.egFlow }
    | .ingress => { h with inFlow := f h.inFlow })

/-- Mode and thresholds of a buffer: FC mode, port XOFF, XON, class XOFF, XON. -/
def Dev.thresholds (d : Dev) (p : Port) : Dir → Nat × Nat × Nat × Nat × Nat
  | .egress => (d.get (0x2200 + p) 1, d.get (0x2200 + p) 3, d.get (0x2200 + p) 4, d.get (0x2200 + p) 5, d.get (0x2200 + p) 6)
  | .ingress => (d.get (0x2200 + p) 2, d.get (0x2200 + p) 7, d.get (0x2200 + p) 8, d.get (0x2200 + p) 9, d.get (0x2200 + p) 0xA)

/-- The classes a buffer pauses, from those it paused before (R261, R262). -/
def Dev.pausingNow (d : Dev) (p : Port) (dir : Dir) (old : Nat) : Nat :=
  match d.thresholds p dir with
  | (mode, xoff, xon, cxoff, cxon) =>
    let occ := d.occupancy p dir
    if mode = 1 then
      if xoff < occ then 0xFF else if occ ≤ xon then 0 else if old = 0 then 0 else 0xFF
    else if mode = 2 then
      (allFin 8).foldl (fun m c =>
        let o := d.classOccupancy p dir c.val
        let b := if cxoff < o || xoff < occ then true else if o ≤ cxon && occ ≤ xon then false else old.testBit c.val
        if b then m + 2 ^ c.val else m) 0
    else 0

/-- The frame that tells the other side which classes are paused (R261, R263): PAUSE, or PFC for every priority of the map. -/
def Dev.flowFrame (d : Dev) (p : Port) (dir : Dir) (pausing : Nat) : FcFrame :=
  let quanta := d.get (0x2200 + p) 0xB
  if (d.thresholds p dir).1 = 2 then
    .pfc (Vector.ofFn (fun i : Fin 8 =>
      some (if pausing.testBit (mapClass (d.get (0x2280 + p) 1) i.val) then quanta else 0)))
  else .pause (if pausing = 0 then 0 else quanta)

/-- An occupancy has changed: cross the thresholds, and put the new state in place of a frame that waits (R263). -/
def Dev.flowCheck (d : Dev) (p : Port) (dir : Dir) : Dev :=
  let old := (d.flow p dir).pausing
  let new := d.pausingNow p dir old
  if new = old then d
  else d.onFlow p dir (fun f => { f with pausing := new, pending := some (d.flowFrame p dir new) })

/-- A class is paused in the scheduler of a direction while any priority that maps to it is (R264). -/
def Dev.classPaused (d : Dev) (p : Port) (dir : Dir) (cls : Nat) : Bool :=
  (d.flow p dir).pausedAll
  || (allFin 8).any (fun i => (d.flow p dir).pausedPrios.testBit i.val && mapClass (d.get (0x2280 + p) 1) i.val = cls)

/-- The classes paused, one bit each. -/
def Dev.pausedClasses (d : Dev) (p : Port) (dir : Dir) : Nat :=
  (allFin 8).foldl (fun m c => if d.classPaused p dir c.val then m + 2 ^ c.val else m) 0

/-- FC_STATE (R260). -/
def Dev.fcState (d : Dev) (p : Port) : Nat :=
  d.pausedClasses p .egress * 2 ^ 24 + d.pausedClasses p .ingress * 2 ^ 16 + (d.flow p .ingress).pausing * 2 ^ 8 + (d.flow p .egress).pausing

/-- The priorities paused after a PFC frame: each enabled one by its quanta. -/
def pausedAfter (v : Vector (Option Nat) 8) (old : Nat) : Nat :=
  (allFin 8).foldl (fun m i =>
    match v.get i with
    | some q => putBit m i.val (q ≠ 0)
    | none => m) old

/-- A received flow-control frame acts on a scheduler when it is honoured (R264). -/
def Dev.obey (d : Dev) (p : Port) (dir : Dir) (honourBit : Nat) (fc : FcFrame) : Dev :=
  if (d.get (0x2200 + p) 0xC).testBit honourBit then
    d.onFlow p dir (fun f => match fc with
      | .pause q => { f with pausedAll := q ≠ 0 }
      | .pfc v => { f with pausedPrios := pausedAfter v f.pausedPrios })
  else d

/-- A flow-control frame from the switch is consumed and counted (R255); a good one acts (R264). -/
def Dev.fcFromSwitch (d : Dev) (p : Port) (fc : FcFrame) (good : Bool) : Dev :=
  let d := d.inc (0x2180 + p) 0xA
  if good then d.obey p .ingress 0 fc else d

/-- A flow-control frame from the line partner is consumed and counted (R255); a good one acts (R264). -/
def Dev.fcFromLine (d : Dev) (p : Port) (fc : FcFrame) (good : Bool) : Dev :=
  let d := d.inc (0x2500 + p) 0xB
  if good then d.obey p .egress 1 fc else d

/-! ## Schedulers (R258) -/

def Dev.sched (d : Dev) (p : Port) : Dir → Sched
  | .egress => (d.port p).host.egSched
  | .ingress => (d.port p).host.inSched

def Dev.onSched (d : Dev) (p : Port) (dir : Dir) (f : Sched → Sched) : Dev :=
  d.onHost p (fun h => match dir with
    | .egress => { h with egSched := f h.egSched }
    | .ingress => { h with inSched := f h.inSched })

/-- Payload rate of a mode in Mbit/s (R75, R82). -/
def payloadRate (mode : Nat) : Nat :=
  match mode with
  | 1 => 100 | 2 => 1000 | 3 => 2500 | 4 => 5000 | 5 => 10000 | 6 => 25000 | 7 => 40000 | 8 => 50000 | _ => 100000

/-- Port rate of a host lane's rate in Mbit/s (R247). -/
def portRate (rate : Nat) : Nat :=
  match rate with
  | 1 => 100000 | 2 => 50000 | 3 => 25000 | _ => 10000

/-- The host lane carries a higher port rate than the line mode: ingress frames are forwarded only when they are whole (R114). -/
def Dev.wholeFirst (d : Dev) (p : Port) : Bool := payloadRate (d.mode p) < portRate (d.get (0x2000 + p) 1)

/-- A frame in arrival that may start towards the host lane from a queue before it is whole (R259). -/
def Dev.arriving (d : Dev) (p : Port) (q : Fin 32) (a : Arrival) : Option RxFrame :=
  (d.arrival p a).filter (fun r => 64 ≤ r.held.length && !r.begun && !d.wholeFirst p && r.counts && r.queue = some q)

/-- Where such a frame of a queue is being put together. -/
def Dev.arrivingAt (d : Dev) (p : Port) (q : Fin 32) : Option Arrival := [Arrival.line, .twill].find? (fun a => (d.arriving p q a).isSome)

/-- The frame at the head of a queue is one that still arrives. -/
def Dev.arrivesIn (d : Dev) (p : Port) (q : Fin 32) : Bool := (d.queue p q).isEmpty && (d.arrivingAt p q).isSome

/-- A queue holds no frame that can start. -/
def Dev.nothingIn (d : Dev) (p : Port) (q : Fin 32) : Bool := (d.queue p q).isEmpty && !d.arrivesIn p q

/-- The class holds a frame and is not paused. -/
def Dev.ready (d : Dev) (p : Port) (dir : Dir) (cls : Nat) : Bool :=
  !d.classPaused p dir cls && (!d.nothingIn p (queueOf dir false cls) || !d.nothingIn p (queueOf dir true cls))

/-- The queue of a class that goes next: clear and sealed alternate while both hold frames. -/
def Dev.pathOf (d : Dev) (p : Port) (dir : Dir) (cls : Nat) : Bool :=
  if d.nothingIn p (queueOf dir false cls) then true
  else if d.nothingIn p (queueOf dir true cls) then false
  else (d.sched p dir).sealedNext.get ⟨cls % 8, by omega⟩

/-- Length of the frame that a class would send; of one that still arrives, what has arrived (log entry 81). -/
def Dev.headLength (d : Dev) (p : Port) (dir : Dir) (cls : Nat) : Nat :=
  let q := queueOf dir (d.pathOf p dir cls) cls
  match d.queue p q with
  | f :: _ => f.bytes.length
  | [] => (((d.arrivingAt p q).bind (d.arriving p q)).map (·.held.length)).getD 0

/-- Deficit round robin over the classes that are not strict; `fuel` bounds the visits (the longest frame needs five rounds of eight). -/
def Dev.drr (d : Dev) (p : Port) (dir : Dir) : Nat → Sched → Option (Nat × Sched)
  | 0, _ => none
  | fuel + 1, s =>
    let c : Fin 8 := ⟨s.turn % 8, by omega⟩
    let next : Sched := { s with turn := (s.turn + 1) % 8, fresh := true }
    if (d.get (0x2280 + p) 3).testBit c.val || !d.ready p dir c.val then
      d.drr p dir fuel { next with deficit := upd next.deficit c (fun _ => 0) }
    else
      let s1 : Sched := if s.fresh then
          { s with fresh := false, deficit := upd s.deficit c (fun n => n + d.get (0x2280 + p) (4 + c.val) * 2048) } else s
      if d.headLength p dir c.val ≤ s1.deficit.get c then
        some (c.val, { s1 with deficit := upd s1.deficit c (fun n => n - d.headLength p dir c.val) })
      else d.drr p dir fuel { next with deficit := s1.deficit }

/-- The class the scheduler of a direction serves: the highest strict class that is ready, else deficit round robin. -/
def Dev.pickClass (d : Dev) (p : Port) (dir : Dir) : Option (Nat × Sched) :=
  match [7, 6, 5, 4, 3, 2, 1, 0].find? (fun c => (d.get (0x2280 + p) 3).testBit c && d.ready p dir c) with
  | some c => some (c, d.sched p dir)
  | none => d.drr p dir 64 (d.sched p dir)

/-- The scheduler after it has served a class. -/
def Dev.served (d : Dev) (p : Port) (dir : Dir) (cls : Nat) (s : Sched) : Dev :=
  d.onSched p dir (fun _ => { s with sealedNext := upd s.sealedNext ⟨cls % 8, by omega⟩ (fun _ => !d.pathOf p dir cls) })

/-- The frame the scheduler picks still arrives: it starts towards the host lane (R259). -/
def Dev.startArriving (d : Dev) (p : Port) : Dev :=
  match d.pickClass p .ingress with
  | none => d
  | some (c, s) =>
    let q := queueOf .ingress (d.pathOf p .ingress c) c
    if !(d.queue p q).isEmpty then d
    else match d.arrivingAt p q with
      | some a => (d.served p .ingress c s).onArrival p a (fun r => { r with begun := true })
      | none => d

/-- Take the frame the scheduler picks out of its queue: the frame, its queue, and the state without it. -/
def Dev.takeFrame (d : Dev) (p : Port) (dir : Dir) : Option (EthFrame × Fin 32 × Dev) :=
  match d.pickClass p dir with
  | none => none
  | some (c, s) =>
    let sealed := d.pathOf p dir c
    let q := queueOf dir sealed c
    match d.queue p q with
    | [] => none
    | f :: rest => some (f, q, (d.served p dir c s).onQueue p q (fun _ => rest))

/-- The activity light of a port: lit for 50 ms from a frame, then dark for 50 ms at least (R428). -/
def Dev.activity (d : Dev) (p : Port) : Dev :=
  match d.pins.sledActivity.get p with
  | some t => if d.uptime < t + 100000 then d else { d with pins := { d.pins with sledActivity := d.pins.sledActivity.set p (some d.uptime) } }
  | none => { d with pins := { d.pins with sledActivity := d.pins.sledActivity.set p (some d.uptime) } }

/-- A frame has left a queue whole (R260). -/
def Dev.countLeft (d : Dev) (p : Port) (q : Fin 32) (bytes : Nat) : Dev :=
  ((d.inc (0x2380 + p) (q.val + 1)).count (0x2400 + p) (q.val + 1) bytes).activity p

/-- Send a frame on the host lane. -/
def Dev.sendToSwitch (d : Dev) (p : Port) (f : EthFrame) : Dev :=
  ((d.inc (0x2180 + p) 3).count (0x2180 + p) 4 f.bytes.length).emit (.toSwitch p f)

/-! ## Frames in flight -/

/-- The ingress queue that a frame in arrival is counted under when it is discarded: its own once it has been found, else that of the bytes that came; on a link
that seals, a SecTAG puts it on the sealed path (R254). -/
def Dev.lostQueue (d : Dev) (p : Port) (r : RxFrame) : Fin 32 :=
  r.queue.getD (queueOf .ingress (d.sealsFrames p && etherTypeAt12 { bytes := r.bytes } = 0x88E5) (d.classOf p { bytes := r.bytes }))

/-- The frame in arrival is over for the host lane: one that has begun there ends with an error code and has left its queue, one that has not is discarded under a
cause (R96, R260). A frame in flight that a fault ends is counted as FAULT whether it has begun or not, and never as left (R184, R293; log entry 81). A
flow-control frame is consumed and counted (R255). -/
def Dev.endArrival (d : Dev) (p : Port) (r : RxFrame) (cause : Nat) (fault : Bool) : Dev :=
  if r.cut then d
  else if r.flow then (match flowFrame? { bytes := r.bytes } with | some fc => d.fcFromLine p fc false | none => d)
  else if r.begun then
    let d := d.sendToSwitch p { bytes := r.held, errored := true }
    if fault then d.countDiscard p (d.lostQueue p r) cause 1 else d.countLeft p (d.lostQueue p r) r.held.length
  else d.countDiscard p (d.lostQueue p r) (r.refused.getD cause) 1

/-- End in error the frame being received from the line (R96, R98, R268): under which cause it is discarded when it has not begun. -/
def Dev.abortRxFor (d : Dev) (p : Port) (cause : Nat) (fault : Bool) : Dev :=
  match (d.port p).native.rx with
  | none => d
  | some r => (((d.onNative p (fun n => { n with rx := none })).inc (0x4300 + p) 0x17).endArrival p r cause fault).flowCheck p .ingress

/-- End in error the frame being received from the line: discarded as ERRORED when it has not begun. -/
def Dev.abortRx (d : Dev) (p : Port) : Dev := d.abortRxFor p 9 false

/-- A fault ends the frame being received: counted as FAULT. -/
def Dev.faultRx (d : Dev) (p : Port) : Dev := d.abortRxFor p 1 true

/-- What the host lane sends of a frame in arrival is cut off: one that has begun there ends with an error code, and the rest of it goes nowhere (R251, R268). It has
left its queue, or a fault has discarded it. -/
def Dev.cutOne (d : Dev) (p : Port) (a : Arrival) (fault : Bool) : Dev :=
  match d.arrival p a with
  | some r =>
    if r.begun && !r.cut then
      let d := (d.sendToSwitch p { bytes := r.held, errored := true }).onArrival p a (fun r => { r with cut := true })
      (if fault then d.countDiscard p (d.lostQueue p r) 1 1 else d.countLeft p (d.lostQueue p r) r.held.length).flowCheck p .ingress
    else d
  | none => d

/-- What the host lane sends is cut off. -/
def Dev.cutArrival (d : Dev) (p : Port) : Dev := (d.cutOne p .line false).cutOne p .twill false

/-- A fault takes what the host lane sends. -/
def Dev.faultCut (d : Dev) (p : Port) : Dev := (d.cutOne p .line true).cutOne p .twill true

/-- A frame that has not begun on the line goes back to its queue; one that has left the host die is discarded under a cause. A flow-control frame still is the one
that waits (R263). -/
def Dev.putBack (d : Dev) (p : Port) (cause : Nat) (t : TxFrame) : Dev :=
  if h : t.queue < 32 then
    (if t.lost then d else if t.away then d.countDiscard p ⟨t.queue, h⟩ cause 1 else d.onQueue p ⟨t.queue, h⟩ (fun l => t.frame :: l))
  else d

/-- A frame has ended on the line: whole, it has left its queue; with an error code, it has left its queue as far as it came, unless a fault has discarded it (R260,
R267). A flow-control frame counts when it is whole. -/
def Dev.frameGone (d : Dev) (p : Port) (t : TxFrame) : Dev :=
  let d := d.emit (.toLine p { t.frame with bytes := t.line, errored := t.abort })
  if h : t.queue < 32 then
    if t.away || t.lost then d else d.countLeft p ⟨t.queue, h⟩ (if t.abort then min t.frame.bytes.length t.line.length else t.frame.bytes.length)
  else match flowFrame? t.frame with
    | some fc => if t.abort then d else (d.inc (0x2500 + p) 0xA).emit (.fcToLine p fc)
    | none => d

/-- The frames sent to the line are over, and the line with them: one that has begun ends in error, the others go back to their queues. -/
def Dev.abortTx (d : Dev) (p : Port) (cause : Nat) : Dev :=
  let n := (d.port p).native
  let all := n.tx.toList ++ n.after
  let d := d.onNative p (fun n => { n with tx := none, after := [] })
  let d := (all.filter (fun t => t.sent = 0)).foldr (fun t d => d.putBack p cause t) d
  match all.find? (fun t => t.sent ≠ 0) with
  | some t => (d.frameGone p { t with line := t.line.take t.sent, abort := true }).flowCheck p .egress
  | none => d

/-- Count a frame on its way to the line as discarded by a fault, unless one has before. -/
def Dev.countFault (d : Dev) (p : Port) (t : TxFrame) : Dev :=
  if h : t.queue < 32 then if t.lost then d else d.countDiscard p ⟨t.queue, h⟩ 1 1 else d

/-- A fault ends the frame in transmission to the line, which ends with ABORT at its next byte (R95), and counts it; the frames behind it stay. -/
def Dev.faultTx (d : Dev) (p : Port) : Dev :=
  match (d.port p).native.tx with
  | some t =>
    if t.sent = 0 || t.abort then d
    else (d.onNative p (fun n => { n with tx := some { t with line := t.line.take (t.sent + 1), abort := true, lost := true } })).countFault p t
  | none => d

/-- The frames of a port that the ends of its twill link put together from blocks are over: the ports wait for a valid START (R275, R293). -/
def Dev.dropBlocks (d : Dev) (p : Port) : Dev :=
  let k := placeOf p
  let drop := fun (t : TwillDir) => { t with resync := upd t.resync k (fun b => b || (t.frames.get k).isSome), frames := upd t.frames k (fun _ => none) }
  d.onDie (dieOf p) (fun s => { s with down := drop s.down, up := drop s.up })

/-- A frame that comes up in blocks, and one that comes down, end: discarded under a cause where they have not begun. -/
def Dev.abortBlocks (d : Dev) (p : Port) (cause : Nat) : Dev :=
  let up := d.arrival p .twill
  let down := (d.dies.get (dieOf p)).down.frames.get (placeOf p)
  let d := d.dropBlocks p
  let d := match up with | some r => (d.endArrival p r cause false).flowCheck p .ingress | none => d
  match down with | some (q, _) => d.countDiscard p q cause 1 | none => d

/-- End every frame in flight of a port with an error code, under the cause of the event where it has not begun (R267, R268). -/
def Dev.endFlight (d : Dev) (p : Port) (cause : Nat) : Dev := ((d.abortRxFor p cause false).abortBlocks p cause).abortTx p cause

/-- Discard every queue of a port under a cause and end its frames in flight. -/
def Dev.discardAll (d : Dev) (p : Port) (cause : Nat) : Dev :=
  (((d.endFlight p cause).discardQueues p .egress cause).discardQueues p .ingress cause).flowCheck p .egress |>.flowCheck p .ingress

end Sys2Proof.Machine
end

