-- ==== Sys2Proof/Machine/Notes.lean ====
section
/-! DEFINITION. Management frames the device sends (R54, R55, R59, R61, R65), and the recording of fault events: fault blocks, upstream
declarations, shadows, consequent reports, first-fault records (R397 to R399, R407, R408, R410, R465). -/

namespace Sys2Proof.Machine

/-! ## Frames of the management protocol -/

/-- Round a length up to a multiple of four (R55). -/
def pad4 (n : Nat) : Nat := (n + 3) / 4 * 4

/-- A response item as it travels (R55). -/
def itemBytes (i : RespItem) : List Byte :=
  bytesOf 2 i.index ++ bytesOf 1 i.sub ++ bytesOf 1 i.code ++ bytesOf 1 i.type ++ bytesOf 1 0 ++ bytesOf 2 i.length
    ++ bytesOf i.length i.value ++ List.replicate (pad4 i.length - i.length) 0

/-- Payload of a management frame of the device, without its tag (R54). NOTIFY has RESPONSE 0 (log entry 19) and REQUEST_ID 0 (log entry 83). -/
def replyBytes (r : Reply) : List Byte :=
  bytesOf 1 1 ++ bytesOf 1 (if r.op = 8 then 0 else 0x80) ++ bytesOf 2 r.reqId ++ bytesOf 1 r.op ++ bytesOf 1 r.status
    ++ bytesOf 1 r.session ++ bytesOf 1 r.items.length ++ bytesOf 8 r.counter ++ (r.items.map itemBytes).flatten ++ r.body

/-- Length of the payload with its tag. -/
def replyLength (r : Reply) : Nat :=
  16 + r.items.foldl (fun n i => n + 8 + pad4 i.length) 0 + r.body.length + (if r.session = 0 then 0 else 32)

/-- Number and tag a frame of an open session (R61). -/
def Dev.tagReply (d : Dev) (r : Reply) : Reply × Dev :=
  if h : 1 ≤ r.session ∧ r.session ≤ 4 then
    let n : Fin 4 := ⟨r.session - 1, by omega⟩
    let s := d.mgmt.sessions.get n
    let r' := { r with counter := s.txCounter + 1 }
    ({ r' with tag := Config.kmac256 s.keyOut (replyBytes r') 256 (ascii "DZ12800 MGMT") },
      d.onMgmt (fun m => { m with sessions := upd m.sessions n (fun s => { s with txCounter := s.txCounter + 1 }) }))
  else (r, d)

/-- The Ethernet frame that carries a management payload. -/
def Dev.mgmtFrame (d : Dev) (mac : Nat) (r : Reply) : EthFrame :=
  let b := bytesOf 6 mac ++ bytesOf 6 (d.get 0x1420 1) ++ bytesOf 2 0x88B5 ++ replyBytes r ++ r.tag
  let b := b ++ List.replicate (60 - b.length) 0
  { bytes := b ++ fcsOf b }

/-- An in-band response or NOTIFY found no room or no lane (R59, R65). -/
def Dev.inbandDrop (d : Dev) : Dev := (d.inc 0x1404 0xA).event 0x1400 7

/-- Put a frame into the in-band lane's ingress clear class-7 queue, and show it sent; or drop it (R65). -/
def Dev.inbandSend (d : Dev) (f : EthFrame) (shown : Out) : Dev :=
  if h : d.get 0x1424 1 < 128 then
    let p : Port := ⟨d.get 0x1424 1, h⟩
    if d.hasRoom p .ingress then ((d.onQueue p (queueOf .ingress false 7) (fun l => l ++ [f])).flowCheck p .ingress).emit shown
    else d.inbandDrop
  else d.inbandDrop

/-- Send a response by its route; a kept response is sent as it was (R58). -/
def Dev.sendFinished (d : Dev) (route : Route) (mac : Nat) (r : Reply) : Dev :=
  let shown := Out.response route mac (d.get 0x1420 1) r
  match route with
  | .inBand => d.inbandSend (d.mgmtFrame mac r) shown
  | _ => d.emit shown

/-- NOTIFY for a status object: its event bits and its sequence number (R59). -/
def Dev.notifySend (d : Dev) (idx : Nat) : Dev :=
  let dest := d.get 0x1428 1
  let route : Route := if d.get 0x1428 2 = 2 then .inBand else .mgmtLink
  let sess := match (allFin 4).find? (fun n => (d.mgmt.sessions.get n).phase = 2 && (d.mgmt.sessions.get n).mac = dest) with
    | some n => n.val + 1
    | none => 0
  let r : Reply := { op := 8, session := sess, items := [
    { index := idx, sub := 1, code := 0, type := Ty.u32.code, length := 4, value := d.get idx 1 },
    { index := idx, sub := 2, code := 0, type := Ty.u16.code, length := 2, value := d.stSeq idx }] }
  if route = .inBand && d.get 0x1424 1 = 0xFFFF then d.inbandDrop
  else
    let (r', d') := d.tagReply r
    let shown := Out.notify route dest (d.get 0x1420 1) r'
    match route with
    | .inBand => d'.inbandSend (d'.mgmtFrame dest r') shown
    | _ => d'.emit shown

/-- An enabled event of a status object: NOTIFY now, or when the object's interval ends (R59). -/
def Dev.notify (d : Dev) (idx : Nat) : Dev :=
  if d.get 0x1428 1 = 0 || d.get 0x1428 2 = 0 || !d.mgmt.serving then d
  else match assocGet d.mgmt.notify idx with
    | some _ => d.onMgmt (fun m => { m with notify := assocSet m.notify idx true })
    | none => (d.notifySend idx).onMgmt (fun m => { m with notify := assocSet m.notify idx false })

/-! ## Lanes of the twill links (R270, R289) -/

/-- Byte `i` of an OCTETS(n). -/
def octet (n v i : Nat) : Nat := v / 256 ^ (n - 1 - i) % 256

/-- An OCTETS(n) with one byte changed. -/
def setOctet (n v i b : Nat) : Nat := v - octet n v i * 256 ^ (n - 1 - i) + b * 256 ^ (n - 1 - i)

def wayIndex : Way → Nat
  | .down => 0
  | .up => 1

/-- State of a physical lane (R289). -/
def Dev.laneState (d : Dev) (n : Die) (w : Way) (lane : Nat) : Nat := octet 35 (d.get (0x3030 + wayIndex w) (n + 1)) lane

/-- The physical lane of a logical lane, or 0xFF while it is parked. -/
def Dev.laneMap (d : Dev) (n : Die) (w : Way) (l : Nat) : Nat := octet 32 (d.get (0x3038 + wayIndex w) (n + 1)) l

/-- The logical lane a physical lane carries. -/
def Dev.logicalOf (d : Dev) (n : Die) (w : Way) (phys : Nat) : Option Nat :=
  (List.range 32).find? (fun l => d.laneMap n w l = phys)

def Dev.twillDir (d : Dev) (n : Die) : Way → TwillDir
  | .down => (d.dies.get n).down
  | .up => (d.dies.get n).up

/-! ## Fault blocks (R397, R398) -/

/-- Source numbers of blocks. -/
def srcPort (p : Port) : Nat := p.val
def srcStamp (p : Port) : Nat := 0x80 + p.val
def srcHostLane (p : Port) : Nat := 0x100 + p.val
def srcLane (n : Die) (w : Way) (l : Nat) : Nat := 0x180 + 68 * n.val + (match w with | .down => 0 | .up => 34) + l
def srcCore (n : Die) : Nat := 0x3A0 + n.val
def srcLink (n : Die) : Nat := 0x3A8 + n.val
def srcStore (n : Die) : Nat := 0x3B0 + n.val
def srcClock (n : DieId) : Nat := if n.val = 8 then 0x3C5 else 0x3B8 + n.val
def srcController : Nat := 0x3C0
def srcHallmark : Nat := 0x3C1
def srcFaultSystem : Nat := 0x3C2
def srcQueues : Nat := 0x3C3
def srcTime : Nat := 0x3C4
def srcPower (dom : Domain) : Nat := match dom with | .field => 0x3C6 | .host => 0x3C7
def srcEmram : Nat := 0x3C8

/-- Subindex and place of a domain: field, host. -/
def domainIndex : Domain → Fin 2
  | .field => 0
  | .host => 1

/-- A block's place: which table row it is in, and the line die, port, direction and lane it belongs to. -/
inductive Block where
  | port (p : Port)
  | stamp (p : Port)
  | hostLane (p : Port)
  | lane (n : Die) (w : Way) (l : Fin 34)
  | core (n : Die)
  | link (n : Die)
  | store (n : Die)
  | clock (n : DieId)
  | controller | hallmark | faultSystem | queues | time
  | power (dom : Domain)
  | emram
  deriving DecidableEq, Repr

/-- The block of a source number. -/
def block? (s : Nat) : Option Block :=
  if h : s < 0x80 then some (.port ⟨s, h⟩)
  else if h : s < 0x100 then some (.stamp ⟨s - 0x80, by omega⟩)
  else if h : s < 0x180 then some (.hostLane ⟨s - 0x100, by omega⟩)
  else if h : s < 0x3A0 then
    some (.lane ⟨(s - 0x180) / 68, by omega⟩ (if (s - 0x180) % 68 < 34 then .down else .up) ⟨(s - 0x180) % 34, by omega⟩)
  else if h : s < 0x3A8 then some (.core ⟨s - 0x3A0, by omega⟩)
  else if h : s < 0x3B0 then some (.link ⟨s - 0x3A8, by omega⟩)
  else if h : s < 0x3B8 then some (.store ⟨s - 0x3B0, by omega⟩)
  else if h : s < 0x3C0 then some (.clock ⟨s - 0x3B8, by omega⟩)
  else match s with
    | 0x3C0 => some .controller | 0x3C1 => some .hallmark | 0x3C2 => some .faultSystem | 0x3C3 => some .queues
    | 0x3C4 => some .time | 0x3C5 => some (.clock 8) | 0x3C6 => some (.power .field) | 0x3C7 => some (.power .host)
    | 0x3C8 => some .emram | _ => none

/-- Escalation class of a block (R397). -/
def Block.cls : Block → Option Nat
  | .port _ => some 1 | .stamp _ => some 2 | .hostLane _ => some 3 | .lane .. => some 4 | .core _ => some 5 | .link _ => some 6
  | .queues => some 7 | .time => some 8 | _ => none

/-- Every block upstream of a block, declared or by R398. -/
def upstreamOf : Block → List Nat
  | .port p => [srcCore (dieOf p), srcClock (dieId (dieOf p)), srcPower .field]
  | .stamp p => [srcTime, srcLink (dieOf p), srcPort p, srcCore (dieOf p), srcClock (dieId (dieOf p)), srcClock 8, srcPower .field]
  | .hostLane _ => [srcClock 8, srcPower .host]
  | .lane n _ _ => [srcLink n, srcPower .field, srcPower .host, srcCore n, srcClock (dieId n), srcClock 8]
  | .core n => [srcClock (dieId n), srcPower .field]
  | .link n => [srcCore n, srcClock (dieId n), srcClock 8, srcPower .field]
  | .store n => [srcCore n, srcClock (dieId n), srcPower .field]
  | .clock _ => []
  | .controller => [srcClock 8, srcPower .host]
  | .queues => [srcClock 8, srcPower .host]
  | .hallmark => [srcClock 8] | .faultSystem => [srcClock 8] | .time => [srcClock 8] | .emram => [srcClock 8]
  | .power _ => []

def Dev.faultSt (d : Dev) (s : Nat) : FaultSt := if h : s < 969 then d.faults.get ⟨s, h⟩ else {}

def Dev.onFault (d : Dev) (s : Nat) (f : FaultSt → FaultSt) : Dev :=
  if h : s < 969 then { d with faults := upd d.faults ⟨s, h⟩ f } else d

/-- A block's own state (R403): 0 NORMAL, 1 SETTLING, 3 SEVERE, 4 FATAL, 5 LAST_RESORT. -/
def Dev.faultState (d : Dev) (s : Nat) : Nat := (d.faultSt s).state

/-- The line die that detects a block's events and sends them up (R408). -/
def Block.side : Block → Option Die
  | .port p => some (dieOf p)
  | .stamp p => some (dieOf p)
  | .lane n .down _ => some n
  | .core n => some n
  | .store n => some n
  | .clock n => if h : n.val < 8 then some ⟨n.val, h⟩ else none
  | _ => none

/-- The host die's record of a block follows the block: it lies on the host die, or on a line die whose twill link is UP (R408). -/
def Dev.shown (d : Dev) (s : Nat) : Bool :=
  match (block? s).bind Block.side with
  | some n => d.get 0x3010 (n + 1) = 3
  | none => true

/-- A block changes its state; FAULT_STATE follows when the host die sees it. Leaving SEVERE, FATAL or LAST_RESORT is timed (R407). -/
def Dev.setFault (d : Dev) (s st : Nat) : Dev :=
  let d := d.onFault s (fun f => { f with
    state := st
    leftAt := if 3 ≤ f.state && st < 3 then some d.uptime else f.leftAt })
  if d.shown s then d.put (0x1C00 + s) 6 st else d

/-- The block masks what lies downstream of it: SEVERE, FATAL or LAST_RESORT, or left one of these less than 100 µs ago (R407). -/
def Dev.masks (d : Dev) (s : Nat) : Bool :=
  d.faultState s = 3 || d.faultState s = 4 || d.faultState s = 5
  || (match (d.faultSt s).leftAt with
      | some t => d.uptime < t + 100
      | none => false)

/-- An Assay program holds a line die, or a port (R404, R416). -/
def Dev.assayHolds (d : Dev) : Block → Bool
  | .core n => d.get 0x1010 (n.val + 1) = 4
  | .port p => (d.port p).tested
  | _ => false

/-- A lane is LOST and its logical lane, parked yet or not, has not been switched: what its loss causes is consequent to it (R293). -/
def Dev.laneGone (d : Dev) : Block → Bool
  | .lane n w l => d.laneState n w l.val = 4 && ((d.logicalOf n w l.val).isSome || (d.twillDir n w).parked.any (fun k => k.leaves = l.val && !k.noted))
  | _ => false

/-- The block's reaction or settle time runs, or an Assay program holds it (R404). -/
def Dev.shades (d : Dev) (s : Nat) : Bool :=
  d.faultState s = 3 || d.faultState s = 1 || (match block? s with | some b => d.assayHolds b || d.laneGone b | none => false)

/-- Lanes of a direction of a die, but one. -/
def lanesBut (n : Die) (w : Way) (s : Nat) : List Nat :=
  ((allFin 34).map (fun l => srcLane n w l.val)).filter (fun x => x ≠ s)

/-- The blocks whose shadow covers a detector (R404, R465). -/
def shadowersOf (ev : FaultEvent) : Block → List Nat
  | .port p =>
    let n := dieOf p
    [srcCore n, srcLink n, srcClock (dieId n)]
    ++ (if ev.check = .dataBlock && (ev.kind = 4 || ev.kind = 5) then
          srcPort p :: (lanesBut n .down 0 ++ lanesBut n .up 0) else [])
    ++ (if ev.check = .egressFrame && (ev.kind = 4 || ev.kind = 5) then [srcPort p, srcHostLane p] else [])
    ++ (if ev.check = .discard && ev.kind = 5 then [srcQueues] else [])
  | .stamp p => [srcPort p, srcCore (dieOf p), srcLink (dieOf p), srcClock (dieId (dieOf p)), srcTime]
  | .hostLane p => [srcPort p, srcLink (dieOf p), srcClock 8, srcQueues]
  | .lane n w l => [srcCore n, srcLink n, srcClock (dieId n), srcClock 8] ++ lanesBut n w (srcLane n w l.val)
  | .core n => [srcClock (dieId n)]
  | .link n => [srcCore n, srcClock (dieId n), srcClock 8]
  | .store n => [srcClock (dieId n)]
  | .clock _ => []
  | .power .field => []
  | .power .host => [srcClock 8]
  | _ => [srcClock 8]

/-- The block that makes an event a consequence (R407), if any. -/
def Dev.maskedBy (d : Dev) (ev : FaultEvent) : Option Nat :=
  match block? ev.source with
  | none => none
  | some b =>
    match (upstreamOf b).find? (fun s => d.masks s) with
    | some s => some s
    | none => (shadowersOf ev b).find? (fun s => d.shades s)

/-- Base severity of a kind (R399): 1 NOTICE, 2 MINOR, 3 SEVERE, 4 FATAL. -/
def baseSeverity : Nat → Nat
  | 1 => 1 | 15 => 1 | 7 => 4 | 13 => 4 | 18 => 4 | 9 => 3 | 10 => 3 | 12 => 3 | _ => 2

/-- A first-fault record as OCTETS(20) (R408). -/
def firstRecord (source severity kind detail time : Nat) : Nat :=
  (((source * 256 + severity) * 256 + kind) * 2 ^ 32 + detail % 2 ^ 32) * 2 ^ 96 + timeOctets time

/-- The time an event carries: that of the detecting die's copy, or the present time. -/
def Dev.timeOf (d : Dev) (ev : FaultEvent) : Nat := ev.at_.getD d.now

/-- Set status bits of a fault record; an enabled bit other than CONSEQUENT sends a NOTIFY (R410). -/
def Dev.faultBits (d : Dev) (s mask : Nat) : Dev :=
  let d' := d.eventMask (0x1C00 + s) mask
  if (mask &&& d.get (0x1C00 + s) 4) &&& 0x3EF ≠ 0 then d'.notify (0x1C00 + s) else d'

/-- Status bits of an event that is no consequence. -/
def eventBits (ev : FaultEvent) : Nat :=
  (match baseSeverity ev.kind with | 1 => 1 | 2 => 2 | _ => 0) + (if ev.injected then 0x80 else 0) + (if ev.kind = 7 then 0x40 else 0)

/-- Write a block's first-fault record if it holds none (R408). -/
def Dev.recordFirst (d : Dev) (s severity kind detail time : Nat) : Dev :=
  if severity < 2 || d.get (0x1C00 + s) 7 ≠ 0 then d
  else d.put (0x1C00 + s) 7 (firstRecord s severity kind detail time)

/-- Count a consequent report (R407). -/
def Dev.consequent (d : Dev) (ev : FaultEvent) (cause : Nat) : Dev :=
  ((d.inc (0x1C00 + ev.source) 0x11).eventMask (0x1C00 + ev.source) (0x10 + (if ev.injected then 0x80 else 0))).put
    (0x1C00 + ev.source) 8 cause

/-- SEVERITY of a report's record (R408). -/
def Report.severity (r : Report) : Nat :=
  match r.verdict with
  | .severe => 3 | .lastResort => 3 | .fatal => 4 | .fatalAgain => 4
  | _ => baseSeverity r.ev.kind

/-- Status bits of what a report made of its block. -/
def Report.bits (r : Report) : Nat :=
  eventBits r.ev + (match r.verdict with | .severe => 4 | .lastResort => 0x204 | .fatal => 8 | _ => 0)

/-- The report made its block SEVERE or FATAL, or brought the last resort. -/
def Report.changes (r : Report) : Bool := r.verdict = .severe || r.verdict = .lastResort || r.verdict = .fatal

/-- The held record came in this arbitration window and ranks behind a candidate: of lower severity, or of equal severity and a higher source (R409). -/
def Dev.outranked (d : Dev) (r : Report) (held : Nat) : Bool :=
  d.firstAt = some d.uptime
  && (field held 136 8 < r.severity || (field held 136 8 = r.severity && r.ev.source < field held 144 16))

/-- A candidate for the module first-fault record (R409): recorded when none is held, when it comes from a line die with an earlier time, or when it goes before the one
held in their common window; every other candidate, and one displaced, is counted. -/
def Dev.moduleFirst (d : Dev) (r : Report) (time : Nat) : Dev :=
  let held := d.get 0x1FE0 2
  let taken := { d with firstAt := some d.uptime }.put 0x1FE0 2 (firstRecord r.ev.source r.severity r.ev.kind r.ev.detail time)
  if held = 0 then taken.event 0x1FE1 0
  else if ((block? r.ev.source).bind Block.side).isSome && time < octetsTime (held % 2 ^ 96) then (taken.event 0x1FE1 1).inc 0x1FE0 4
  else if d.outranked r held then taken.inc 0x1FE0 4
  else d.inc 0x1FE0 4

/-- The touchmark entry of a FATAL event (R237, R409). -/
def Dev.touchFatal (d : Dev) (ev : FaultEvent) : Dev :=
  d.touchEvent 0x0060 (bytesOf 2 ev.source ++ bytesOf 2 ev.kind ++ (bytesOf 20 (d.get 0x1FE0 2)).take 4)

/-- The host die's record takes a report (R400, R407 to R410). -/
def Dev.publish (d : Dev) (r : Report) : Dev :=
  let s := r.ev.source
  match r.verdict with
  | .consequent c => d.consequent r.ev c
  | .reactionDone => d.faultBits s 0x20
  | _ =>
    let t := d.timeOf r.ev
    let d := d.inc (0x1C00 + s) 0x10
    let d := if r.changes then d.inc (0x1C00 + s) 0x12 else d
    let d := d.recordFirst s r.severity r.ev.kind r.ev.detail t
    let d := if r.bits = 0 then d else d.faultBits s r.bits
    let d := if r.changes then d.moduleFirst r t else d
    if baseSeverity r.ev.kind = 4 then d.touchFatal r.ev else d

/-- A report reaches its record: at once, or when its line die's link is next UP, with the time at which it arose (R373, R408). -/
def Dev.sendUp (d : Dev) (r : Report) : Dev :=
  if d.shown r.ev.source then d.publish r
  else match (block? r.ev.source).bind Block.side with
    | none => d.publish r
    | some n => d.onDie n (fun s => { s with reports := s.reports ++ [{ r with ev := { r.ev with at_ := some (d.timeOf r.ev) } }] })

/-- A line die's link is UP: it sends its reports, and FAULT_STATE follows the blocks on it (R373, R408). -/
def Dev.reportsUp (d : Dev) (n : Die) : Dev :=
  let held := (d.dies.get n).reports
  let d := held.foldl (fun d r => d.publish r) (d.onDie n (fun s => { s with reports := [] }))
  (List.range 969).foldl (fun d s =>
    if (block? s).bind Block.side = some n && d.get (0x1C00 + s) 6 ≠ d.faultState s then d.put (0x1C00 + s) 6 (d.faultState s) else d) d

/-- An event that never escalates (NOTICE, drift, store conditions): counted, or a consequence. -/
def Dev.notice (d : Dev) (source kind detail : Nat) : Dev :=
  let ev : FaultEvent := { source, kind, detail }
  d.sendUp { ev, verdict := match d.maskedBy ev with | some c => .consequent c | none => .plain }

/-- INT_Nk is asserted (R410): a record routed to it has an enabled bit set, CONSEQUENT apart, and its pin function is on (R395). -/
def Dev.intLow (d : Dev) (k : Fin 4) : Bool :=
  d.options.pinEnable.testBit (4 + k.val) &&
  (d.safe && k.val = 0
   || d.objs.any (fun e => e.1 / 256 ≥ 0x1C00 && e.1 / 256 ≤ 0x1FC8 && e.1 % 256 = 1
        && d.get (e.1 / 256) 5 = k.val && (e.2 &&& d.get (e.1 / 256) 4) &&& 0x3EF ≠ 0))

end Sys2Proof.Machine
end

