-- ==== Sys2Proof/Machine/Capture.lean ====
section
/-! DEFINITION. The sampler's captures: their arm, their size, and the events that trigger them (R338 to R341, R343). -/

namespace Sys2Proof.Machine

def Dev.sampler (d : Dev) (n : Die) : SamplerSt := d.samplers.get n

def Dev.onSampler (d : Dev) (n : Die) (f : SamplerSt → SamplerSt) : Dev := { d with samplers := upd d.samplers n f }

/-- SAMPLER_STATE: 0 IDLE, 1 ARMED, 2 TRIGGERED, 3 DONE, 4 ABORTED (R341). -/
def Dev.samplerState (d : Dev) (n : Die) : Nat := d.get (0x5F10 + n) 3

/-- A byte of an arm (R339). -/
def armByte (arm i : Nat) : Nat := arm / 256 ^ (15 - i) % 256

/-- The captured pairs of an arm. -/
def armPairs (arm : Nat) : List Pair := (allFin 4).filter (fun k => (armByte arm 1).testBit k.val)

/-- Samples of each pair (R338). -/
def armSamples (arm : Nat) : Nat := 2097152 / (max 1 (armPairs arm).length)

/-- Samples of each pair before the trigger. -/
def armPre (arm : Nat) : Nat := armSamples arm * armByte arm 7 / 16

/-- The capture triggers after `position` samples of each pair; `flag` says why. The commit stores the trigger's place and time (R341, R343). -/
def Dev.samplerTriggers (d : Dev) (n : Die) (position flag : Nat) : Dev :=
  let arm := (d.sampler n).arm
  let d := (d.put (0x5F10 + n) 3 2).event 0x5F30 (16 + n)
  let d := d.onSampler n (fun s => { s with trigAt := d.uptime, trigTime := d.now, trigIndex := min position (armPre arm) })
  d.put (0x5F10 + n) 7 (flag + (if position < armPre arm then 8 else 0))

/-- Samples of each pair that the record of a capture holds: those before the trigger, as far as they had filled, and those from it on (R341). -/
def SamplerSt.length (s : SamplerSt) : Nat := s.trigIndex + (armSamples s.arm - armPre s.arm)

/-- Samples of each pair that an armed capture has stored: 8 GS/s, one kept in 2^DECIMATE (R338), as exactly as the model's clock tells (log entry 93). -/
def Dev.samplerFilled (d : Dev) (n : Die) : Nat := (d.uptime - (d.sampler n).armedAt) * 8000 / 2 ^ armByte (d.sampler n).arm 2

/-- An event of R340 happens at a port: a capture that is armed for it triggers. -/
def Dev.samplerSees (d : Dev) (p : Port) (code : Nat) : Dev :=
  let n := dieOf p
  let arm := (d.sampler n).arm
  if d.samplerState n = 1 && armByte arm 3 = 1 && armByte arm 6 = code && armByte arm 4 = p.val then d.samplerTriggers n (d.samplerFilled n) 1 else d

/-- A TSYNC edge or TLM_SYNC is seen by every capture that waits for one, whatever its port. -/
def Dev.samplerSync (d : Dev) : Dev :=
  d.eachDie (fun n d =>
    let arm := (d.sampler n).arm
    if d.samplerState n = 1 && armByte arm 3 = 1 && armByte arm 6 = 7 then d.samplerTriggers n (d.samplerFilled n) 1 else d)

end Sys2Proof.Machine
end

