-- ==== Sys2Proof/Machine/Adapt.lean ====
section
/-! DEFINITION. Tap counts of the engines of the signal chain, and when an engine would adapt and is held (R125, R126, R130 to R132). -/

namespace Sys2Proof.Machine

/-! ## Taps -/

/-- Taps of an engine in a mode (R125, R126); the precoder has 32 in a native mode (R106), and in a standard mode those of its clause. -/
def tapCount (mode e : Nat) : Nat :=
  if e = 10 && 3 ≤ mode && mode ≤ 7 then Config.clausePrecoder mode
  else match mode with
  | 10 => native 896 | 9 => native 896 | 8 => native 1152
  | 7 => std 640 128 32 32 8 | 6 => std 640 128 32 32 8 | 5 => std 512 96 16 24 0
  | 4 => std 384 64 0 16 0 | 3 => std 384 64 0 16 0 | 2 => std 192 32 0 8 8
  | 1 => if e = 1 then 32 else if e = 7 then 16 else if e = 8 then 8 else 0
  | _ => 0
where
  native (echo : Nat) : Nat :=
    if e = 0 then echo else if e ≤ 3 then 192 else if e ≤ 6 then 48 else if e = 7 then 48 else if e = 8 then 16
    else if e = 9 then 672 else if e = 10 then 32 else 0
  std (echo next fext ffe dfe : Nat) : Nat :=
    if e = 0 then echo else if e ≤ 3 then next else if e ≤ 6 then fext else if e = 7 then ffe else if e = 8 then dfe else 0

/-- A pair receives in a mode: 100BASE-TX sends on pair A and receives on pair B, and uses no other (R5, R126; log entry 90). -/
def receives (mode pair : Nat) : Bool := mode ≠ 1 || pair = 1

/-- Taps of an engine on a pair. -/
def tapsOn (mode pair e : Nat) : Nat := if receives mode pair then tapCount mode e else 0

/-! ## Which engines adapt (R130, R131) -/

/-- The port trains or, in a relock, has begun its burst. -/
def Dev.inTraining (d : Dev) (p : Port) : Bool := d.linkState p = 3

/-- FREEZE, override and timed hold are ignored: stages 1 to 4, standard training, the burst of a relock or of a deep-quiet wake. -/
def Dev.overridesIgnored (d : Dev) (p : Port) : Bool :=
  (d.linkState p = 3 && (!d.native p || d.get (0x4180 + p) 1 ≤ 4))
  || (d.linkState p = 5 && (match (d.port p).link.relock with | some r => r.burst && !r.silent | none => false))
  || (d.linkState p = 7 && d.get (0x4200 + p) 5 = 5)

/-- The port's own relock holds it: HOLD sent, burst not begun. -/
def Dev.relockHolds (d : Dev) (p : Port) : Bool :=
  match (d.port p).link.relock with | some r => !r.burst || r.silent | none => false

/-- The port is quiet. -/
def Dev.quiet (d : Dev) (p : Port) : Bool := d.linkState p = 6 || d.linkState p = 7

/-- A hardware hold applies to every engine of a pair; `refresh`: during a refresh quiet does not. -/
def Dev.pairHold (d : Dev) (p : Port) (pair : Pair) (refresh : Bool) : Bool :=
  d.relockHolds p || (d.port p).link.held || (d.quiet p && !refresh) || (d.port p).signal.noSignal.get pair

/-- FREEZE of an engine on a pair (R132). -/
def Dev.frozen (d : Dev) (p : Port) (pair : Pair) (e : Nat) : Bool :=
  e ≤ 9 && (d.get (0x5000 + p) (e + 1)).testBit (8 * pair.val + 7)

def Dev.engine (d : Dev) (p : Port) (pair : Pair) (e : Fin 11) : Engine := ((d.port p).signal.engines.get pair).get e

/-- An engine of a pair would adapt, but for the hardware holds (R130). -/
def Dev.wouldAdapt (d : Dev) (p : Port) (pair : Pair) (e : Fin 11) : Bool :=
  e.val ≤ 9 && tapsOn (d.mode p) pair.val e.val ≠ 0
  && (d.inTraining p || (4 ≤ d.linkState p && d.linkState p ≤ 7))
  && (d.overridesIgnored p || (!(d.engine p pair e).overridden && (d.port p).signal.holdUntil.isNone))
  && (!d.frozen p pair e.val || d.inTraining p || d.overridesIgnored p)

/-- The ECHO engine of a pair adapts. -/
def Dev.echoAdapts (d : Dev) (p : Port) (pair : Pair) : Bool := d.wouldAdapt p pair 0 && !d.pairHold p pair false

end Sys2Proof.Machine
end

