-- ==== Sys2Proof/Machine/Temper.lean ====
section
/-! DEFINITION. Trim records, temper sets and trim requests (R352, R358 to R366), and how calibration and diagnosis runs end without a result
(R335, R357). -/

namespace Sys2Proof.Machine

/-! ## Trim records -/

/-- The eight temperature points in °C. -/
def trimPoints : List Int := [-20, 0, 20, 40, 60, 80, 95, 110]

/-- A temperature point in Q8.8 °C. -/
def pointAt (k : Nat) : Int := trimPoints.getD k 0 * 256

/-- The trim class of a value by its place in the record (R352): gains, delays, thresholds, segments, hybrid. -/
def trimClass (i : Nat) : Nat :=
  if i < 16 then 0 else if i < 32 then 1 else if i < 48 then 2 else if i < 55 then 3 else 4

/-- Width in bits of a value of a class. -/
def trimWidth (cls : Nat) : Nat := if cls = 2 ∨ cls = 3 then 4 else 8

/-- Two four-bit values as one byte. -/
def nibbles (hi lo : Int) : Byte := BitVec.ofNat 8 (unsigned 4 hi * 16 + unsigned 4 lo)

/-- The 48 bytes of a record (R352). -/
def recordBytes (r : TrimRec) : List Byte :=
  let v := fun i => r.values.getD i 0
  (List.range 32).map (fun i => BitVec.ofNat 8 (unsigned 8 (v i)))
    ++ (List.range 8).map (fun m => nibbles (v (32 + 2 * m)) (v (33 + 2 * m)))
    ++ (List.range 4).map (fun m => nibbles (v (48 + 2 * m)) (if m = 3 then 0 else v (49 + 2 * m)))
    ++ [BitVec.ofNat 8 (unsigned 8 (v 55)), BitVec.ofNat 8 (unsigned 8 (v 56)), BitVec.ofNat 8 r.source, BitVec.ofNat 8 (unsigned 8 r.runTemp)]

/-- The four-bit values of a byte. -/
def nibblesOf (b : Byte) : List Int := [signed 4 (b.toNat / 16), signed 4 (b.toNat % 16)]

/-- The record that 48 bytes hold. -/
def recordOf (b : List Byte) : TrimRec where
  values := ((b.take 32).map (fun x => signed 8 x.toNat) ++ (((b.drop 32).take 8).map nibblesOf).flatten
    ++ ((((b.drop 40).take 4).map nibblesOf).flatten).take 7 ++ ((b.drop 44).take 2).map (fun x => signed 8 x.toNat))
  source := natOf ((b.drop 46).take 1)
  runTemp := signed 8 (natOf ((b.drop 47).take 1))

/-- Division rounded to nearest, halves away from zero (R358). -/
def roundDiv (a b : Int) : Int :=
  let n := if b < 0 then -a else a
  let m := b.natAbs
  if 0 ≤ n then ((2 * n.natAbs + m) / (2 * m) : Nat) else -((2 * n.natAbs + m) / (2 * m) : Nat)

/-- The eight records of a pair. -/
abbrev PairRecs := Vector (Option TrimRec) 8

/-- The highest valid point at or below a temperature, and the lowest at or above it. -/
def pointBelow (recs : PairRecs) (t : Int) : Option (Fin 8) :=
  ((allFin 8).filter (fun k => (recs.get k).isSome && pointAt k.val ≤ t)).getLast?

def pointAbove (recs : PairRecs) (t : Int) : Option (Fin 8) :=
  (allFin 8).find? (fun k => (recs.get k).isSome && t ≤ pointAt k.val)

/-- One value of a record. -/
def trimValue (recs : PairRecs) (k : Fin 8) (i : Nat) : Int :=
  match recs.get k with
  | some r => r.values.getD i 0
  | none => 0

/-- One active trim (R359). -/
def activeTrim (recs : PairRecs) (t : Int) (i : Nat) : Int :=
  match pointBelow recs t, pointAbove recs t with
  | none, none => 0
  | none, some hi => trimValue recs hi i
  | some lo, none => trimValue recs lo i
  | some lo, some hi =>
    if lo = hi then trimValue recs lo i
    else roundDiv (trimValue recs lo i * (pointAt hi.val - pointAt lo.val)
        + (trimValue recs hi i - trimValue recs lo i) * (t - pointAt lo.val)) (pointAt hi.val - pointAt lo.val)

/-! ## Slots -/

/-- The commit marker of a slot (R361). -/
def slotMarker : List Byte := bytesOf 4 0xC3A55A3C

/-- The 1,560 bytes of a slot (R361): sequence number, port, format, the map of valid records, the records, CRC-32C and commit marker. -/
def slotImage (p : Port) (sequence : Nat) (recs : Vector PairRecs 4) : List Byte :=
  let map := (allFin 4).foldl (fun n k => (allFin 8).foldl (fun n j => if ((recs.get k).get j).isSome then n + 2 ^ (8 * k.val + j.val) else n) n) 0
  let records := (allFin 4).flatMap (fun k => (allFin 8).flatMap (fun j => match (recs.get k).get j with
    | some r => recordBytes r
    | none => List.replicate 48 0))
  let body := bytesOf 4 sequence ++ bytesOf 1 p.val ++ bytesOf 1 1 ++ bytesOf 2 0 ++ bytesOf 4 map ++ bytesOf 4 0 ++ records
  body ++ bytesOf 4 (crc32c (body.map (fun b => b.toNat))) ++ slotMarker

/-- The condition of a slot's bytes, as R362 numbers it: valid, without commit marker, not fitting its CRC-32C, format or port, never written. -/
def slotCondition (p : Port) (bytes : List Byte) : Nat :=
  let at_ := fun i n => natOf ((bytes.drop i).take n)
  if bytes = [] then 3
  else if (bytes.drop 0x614).take 4 ≠ slotMarker then 1
  else if at_ 0x610 4 ≠ crc32c ((bytes.take 0x610).map (fun b => b.toNat)) || at_ 5 1 ≠ 1 || at_ 4 1 ≠ p.val then 2
  else 0

/-- SEQUENCE of a slot, and the valid records of one of its pairs (R361). -/
def TemperSlot.sequence (s : TemperSlot) : Nat := natOf (s.bytes.take 4)

/-- What TEMPER_SLOT_SEQ shows of a slot: 0 while it is not valid (R369). -/
def TemperSlot.shown (s : TemperSlot) : Nat := if s.cond = 0 then s.sequence else 0

def TemperSlot.recs (s : TemperSlot) (pair : Pair) : PairRecs :=
  Vector.ofFn (fun k : Fin 8 =>
    if (natOf ((s.bytes.drop 8).take 4)).testBit (8 * pair.val + k.val) then
      some (recordOf ((s.bytes.drop (0x10 + 384 * pair.val + 48 * k.val)).take 48))
    else none)

/-- Sequence numbers compare in serial-number arithmetic modulo 2^32 (R361): the first is newer. -/
def newer (a b : Nat) : Bool := 0 < (a + 2 ^ 32 - b) % 2 ^ 32 && (a + 2 ^ 32 - b) % 2 ^ 32 < 2 ^ 31

/-- The newest valid of two slots (R361, R362). -/
def newestOf (slots : Vector TemperSlot 2) : Option (Fin 2) :=
  let a := slots.get 0
  let b := slots.get 1
  if a.cond ≠ 0 then (if b.cond ≠ 0 then none else some 1)
  else if b.cond = 0 && newer b.sequence a.sequence then some 1 else some 0

def Dev.newestSlot (d : Dev) (p : Port) : Option (Fin 2) := newestOf (d.port p).slots

/-- The slot that a commit overwrites: the one that is not the newest valid. -/
def commitSlotOf (slots : Vector TemperSlot 2) : Fin 2 :=
  match newestOf slots with
  | some 0 => 1
  | _ => 0

/-- The slots that a port keeps through a loss of power or a pin reset: a run that was storing leaves its slot without a commit marker (R361, R362). -/
def PortSt.slotsKept (s : PortSt) : Vector TemperSlot 2 :=
  if s.cal.any (·.storing) then
    upd s.slots (commitSlotOf s.slots) (fun t => { t with bytes := (t.bytes.take 0x614 ++ List.replicate (0x614 - t.bytes.length) 0) ++ List.replicate 4 0xFF })
  else s.slots

/-- The slot in use, whose records the trim cache holds; none when no slot is valid. -/
def Dev.slotInUse (d : Dev) (p : Port) : Option TemperSlot :=
  let s := (d.port p).slots.get ⟨d.get (0x5880 + p) 5 % 2, by omega⟩
  if s.cond = 0 then some s else none

/-- The line die's temperature in Q8.8 °C. -/
def Dev.dieTemp (d : Dev) (p : Port) : Int := signed 16 (d.get 0x5A10 (p.val / 16 + 1))

/-- The active trims of a pair at the die's present temperature (R359). -/
def Dev.trimsNow (d : Dev) (p : Port) (pair : Pair) : List Int :=
  match d.slotInUse p with
  | none => List.replicate 57 0
  | some s => (List.range 57).map (fun i => activeTrim (s.recs pair) (d.dieTemp p) i)

/-! ## Requests and ramps (R364 to R366) -/

def Dev.onTrim (d : Dev) (p : Port) (pair : Pair) (f : TrimPair → TrimPair) : Dev :=
  d.onPort p (fun s => { s with trims := upd s.trims pair f })

/-- The pair carries data: trims ramp (R364). -/
def Dev.carriesData (d : Dev) (p : Port) : Bool := d.linkState p = 4 || d.linkState p = 6

/-- A calibration run or a trim ramp is in progress on a pair of the port (R329). -/
def Dev.calBusy (d : Dev) (p : Port) : Bool := (d.port p).cal.isSome || (d.port p).trims.any (fun t => t.ramp.isSome)

/-- A run in progress covers the pair. -/
def Dev.runCovers (d : Dev) (p : Port) (pair : Pair) : Bool := (d.port p).cal.any (fun c => c.pairMask.testBit pair.val)

/-- A ramp of the pair is in progress. -/
def Dev.ramps (d : Dev) (p : Port) (pair : Pair) : Bool := ((d.port p).trims.get pair).ramp.isSome

/-- Runs or ramps of some pairs end: the telemetry blocks in progress there are stale to their end (R348, R367). -/
def Dev.tlmHold (d : Dev) (p : Port) (which : Pair → Bool) : Dev :=
  d.onPort p (fun s => { s with tlm := Vector.ofFn (fun k => if which k then { s.tlm.get k with held := true } else s.tlm.get k) })

/-- A chain sees whether its symbols are valid; the instants at which that changes stay known (R344). -/
def TlmPair.look (t : TlmPair) (now : Nat) (valid : Bool) : TlmPair :=
  if ((t.looks.head?.map (·.2)).getD false) = valid then t else { t with looks := (now, valid) :: t.looks }

/-- A refresh of a quiet partner: the symbols of every pair are valid in it, but not in a relock (R344). -/
def Dev.tlmRefreshed (d : Dev) (p : Port) : Dev :=
  if d.linkState p = 6 then d.onPort p (fun s => { s with tlm := Vector.ofFn (fun k => (s.tlm.get k).look d.uptime true) }) else d

/-- An ECHO engine of the port is overridden (R326). -/
def Dev.echoOverridden (d : Dev) (p : Port) : Bool := (d.port p).signal.engines.any (fun v => (v.get 0).overridden)

/-- Every ECHO coefficient of the port as one symbol period finds it, where it adapts at values not known (R326). -/
def Dev.echoLatch (d : Dev) (p : Port) : Dev :=
  let d := d.newDraw
  let engine := fun (k : Fin 4) =>
    if d.echoAdapts p k then { d.engine p k 0 with epoch := d.draws, written := [] } else d.engine p k 0
  d.onPort p (fun s => { s with diag := s.diag.map (fun r => { r with
    waits := false, overridden := d.echoOverridden p
    echo := some { mode := d.mode p, time := d.uptime, engines := Vector.ofFn engine } }) })

/-- An in-service diagnosis that waits latches once no relock, run or ramp holds it (R326, R329). -/
def Dev.diagLatch (d : Dev) (p : Port) : Dev :=
  if d.calBusy p || d.linkState p = 5 || !(d.port p).diag.any (·.waits) then d else d.echoLatch p

/-- A run or a ramp of the port makes its diagnosis results STALE (R329, R367). -/
def Dev.diagStale (d : Dev) (p : Port) : Dev :=
  if d.calBusy p then d.put (0x5D00 + p) 4 (putBit (d.get (0x5D00 + p) 4) 0 true) else d

/-- CAL_STATE (R356, R365): HELD while a request is held; else the state of a run that has not committed; else that of the ramps. -/
def Dev.calState (d : Dev) (p : Port) : Dev :=
  d.put (0x5880 + p) 1
    (if (d.port p).trims.any (fun t => t.waiting.isSome) then 4
     else match (d.port p).cal with
      | some c => if c.storing then 2 else 1
      | none => if (d.port p).trims.any (fun t => t.ramp.isSome) then 3 else 0)

/-- The time between two frame boundaries of the table of R364, in 1/16 ns. -/
def trimPeriod (mode : Nat) : Nat :=
  match mode with
  | 10 => 1200 | 9 => 2040 | 8 => 4080 | 1 => 16000 | 2 => 16000
  | m => max 1 (Config.clauseFrame m)

/-- Steps that a pair's ramp has taken: one at each frame boundary since it began; its end is the 64th (R364; log entry 95). -/
def Dev.trimStep (d : Dev) (p : Port) (t : TrimPair) : Nat := min 63 ((d.uptime - t.since) * 16000 / trimPeriod (d.mode p))

/-- The trims of a pair as they stand now, on a ramp so many sixty-fourths of the way. -/
def Dev.trimsStand (d : Dev) (p : Port) (pair : Pair) : List Int :=
  let t := (d.port p).trims.get pair
  match t.ramp with
  | none => t.active
  | some new => (List.range 57).map (fun i =>
      t.active.getD i 0 + roundDiv ((new.getD i 0 - t.active.getD i 0) * (d.trimStep p t : Int)) 64)

/-- A request of a pair starts: by a ramp while the pair carries data, else at once (R364). -/
def Dev.trimStart (d : Dev) (p : Port) (pair : Pair) (target : List Int) : Dev :=
  if d.carriesData p then (d.onTrim p pair (fun t => { t with ramp := some target, since := d.uptime })).diagStale p
  else d.onTrim p pair (fun _ => { active := target })

/-- A trim request of a pair (R364, R365). -/
def Dev.trimRequest (d : Dev) (p : Port) (pair : Pair) (target : List Int) : Dev :=
  let t := (d.port p).trims.get pair
  if !d.carriesData p then (d.trimStart p pair target).calState p
  else match t.ramp with
    | none => (d.trimStart p pair target).calState p
    | some _ =>
      let body := fun a => bytesOf 1 p.val ++ bytesOf 1 pair.val ++ bytesOf 1 a
      let d := match t.waiting with
        | none => d.touchEvent 0x0014 (body 1)
        | some _ => (d.touchEvent 0x0014 (body 2)).event (0x5A80 + p) 8
      (d.onTrim p pair (fun t => { t with waiting := some target })).calState p

/-- What follows a ramp of a pair: the held request, or the one that a suspended tracking step makes (R365). -/
def Dev.trimNext (d : Dev) (p : Port) (pair : Pair) (waiting : Option (List Int)) (suspended : Bool) : Dev :=
  match waiting with
  | some w => (d.trimStart p pair w).onTrim p pair (fun t => { t with suspended := suspended && t.ramp.isSome })
  | none => if suspended && ((d.port p).trims.get pair).active ≠ d.trimsNow p pair then d.trimStart p pair (d.trimsNow p pair) else d

/-- A pair's ramp has ended; the held request starts (R365). -/
def Dev.trimEnd (d : Dev) (p : Port) (pair : Pair) : Dev :=
  let t := (d.port p).trims.get pair
  match t.ramp with
  | none => d
  | some r => ((((d.tlmHold p (fun k => k = pair)).onTrim p pair (fun _ => { active := r })).trimNext p pair t.waiting t.suspended).calState p).diagLatch p

/-- Pairs that stop carrying data, or reload in a warm relock, take the targets of their requests at once (R364 to R366). -/
def Dev.trimsAtOnce (d : Dev) (p : Port) : Dev :=
  ((forAll 4 (fun k d => d.onTrim p k (fun t =>
    { active := (t.waiting.or t.ramp).getD t.active })) (d.tlmHold p (d.ramps p))).calState p).diagLatch p

/-- The active trims as the present temperature gives them, at once: start of training, deep-quiet wake. -/
def Dev.trimsLoad (d : Dev) (p : Port) : Dev :=
  ((forAll 4 (fun k d => d.onTrim p k (fun _ => { active := d.trimsNow p k })) (d.tlmHold p (d.ramps p))).calState p).diagLatch p

/-! ## Runs that end without a result -/

/-- A calibration run ends without a commit (R357). -/
def Dev.calEnd (d : Dev) (p : Port) (result : Nat) : Dev :=
  match (d.port p).cal with
  | none => d
  | some _ =>
    let d := ((d.tlmHold p (d.runCovers p)).onPort p (fun s => { s with cal := none })).put (0x5880 + p) 2 result
    let d := match result with
      | 2 => (((d.event (0x5A80 + p) 1).inc (0x5900 + p) 5)).notice (srcPort p) 15 2
      | 4 => (d.event (0x5A80 + p) 3).inc (0x5900 + p) 7
      | 5 => d.inc (0x5900 + p) 8
      | 6 => ((d.event (0x5A80 + p) 4).inc (0x5900 + p) 9).notice srcEmram 16 p.val
      | _ => d
    (d.calState p).diagLatch p

/-- A calibration run ends UNSUITABLE under a code of R354. -/
def Dev.calFails (d : Dev) (p : Port) (code : Nat) : Dev :=
  if (d.port p).cal.isSome then (d.put (0x5880 + p) 3 code).calEnd p 4 else d

/-- A warm relock, link loss, fast retrain or quiet entry by either end occurs: a run ends UNSUITABLE under a code of R354 (R357). -/
def Dev.calUnsuitable (d : Dev) (p : Port) (code : Nat) : Dev :=
  (d.onLink p (fun l => { l with disturbedAt := some d.uptime })).calFails p code

/-- A diagnosis run ends ABORTED, and every result object keeps its value (R335). -/
def Dev.diagEnd (d : Dev) (p : Port) : Dev :=
  if (d.port p).diag.isSome then
    (((d.onPort p (fun s => { s with diag := none })).put (0x5C80 + p) 3 3).event 0x5F30 3).inc 0x5F38 3
  else d

end Sys2Proof.Machine
end

