-- ==== Sys2Proof/Machine/Line.lean ====
section
/-! DEFINITION. What happens to a port when a link or an attempt ends, how negotiation begins, and the states of bundle members
(R78, R151 to R156, R160, R179 to R182, R195, R268). -/

namespace Sys2Proof.Machine

/-! ## Modes and rates -/

/-- The modes that a host lane's port rate can carry (R78, R247), in the layout of R77. -/
def rateMask (rate : Nat) : Nat :=
  match rate with
  | 1 => 0x3FF | 2 => 0xFF | 3 => 0x3F | _ => 0x1F

/-- PORT_ADVERTISE_EFFECTIVE (R78). -/
def Dev.effAdvertise (d : Dev) (p : Port) : Nat := d.get (0x4000 + p) 4 &&& rateMask (d.get (0x2000 + p) 1)

/-- The port's enable bit (R157); in RETIRED, and once the module shuts down, no port carries traffic (R217, R418). -/
def Dev.enabled (d : Dev) (p : Port) : Bool := !d.hall.logClosed && d.get 0x6800 5 = 0 && (d.get 0x1030 (1 + p.val / 64)).testBit (p.val % 64)

/-- The port is forced to 100BASE-TX (R80). -/
def Dev.forced (d : Dev) (p : Port) : Bool := d.get (0x4000 + p) 5 = 1

/-- The start is complete (R159, R390). -/
def Dev.startComplete (d : Dev) : Bool := d.life = .running && !d.mgmt.recovery

/-- The port can drive a recovered clock (R322): in DATA or QUIET, as timing slave or in 100BASE-TX. -/
def Dev.recovers (d : Dev) (p : Port) : Bool :=
  (d.linkState p = 4 || d.linkState p = 6) && (d.get (0x5180 + p) 4 = 2 || d.mode p = 1)

/-- RCLKn carries a clock. -/
def Dev.rclkRuns (d : Dev) (n : Fin 2) : Bool :=
  let sel := d.get 0x6020 (n.val + 1)
  if h : sel < 128 then d.recovers ⟨sel, h⟩ else false

/-- What RCLKn carries now, shown when it changes; without its bit in PIN_ENABLE the output stays high impedance (R395). -/
def Dev.rclkShow (d : Dev) (n : Fin 2) (v : Option (Nat × Nat)) : Dev :=
  if d.pins.rclk.get n = v || !d.options.pinEnable.testBit (2 + n.val) then d else { d with pins := { d.pins with rclk := d.pins.rclk.set n v } }.emit (.rclk n v)

/-- RCLK_FREQ in kHz. -/
def rclkFreq (v : Nat) : Nat := if v = 1 then 25000 else if v = 2 then 125000 else 156250

/-- RCLKn is squelched: driven low, RCLKn_SQUELCH set once. -/
def Dev.rclkSquelch (d : Dev) (n : Fin 2) : Dev :=
  let d := d.rclkShow n none
  if d.pins.rclkSquelched.get n then d
  else { d with pins := { d.pins with rclkSquelched := d.pins.rclkSquelched.set n true } }.event 0x6030 (6 + n.val)

/-- Each recovered-clock output follows its port (R322). -/
def Dev.rclkLook (d : Dev) : Dev :=
  (allFin 2).foldl (fun d n =>
    if d.rclkRuns n then
      { d with pins := { d.pins with rclkSquelched := d.pins.rclkSquelched.set n false } }.rclkShow n
        (some (d.get 0x6020 (n.val + 1), rclkFreq (d.get 0x6020 (n.val + 3))))
    else d.rclkSquelch n) d

/-- LINK_STATE becomes a state of R160; a recovered clock follows. -/
def Dev.setLinkState (d : Dev) (p : Port) (st : Nat) : Dev := (d.put (0x4080 + p) 6 st).rclkLook

/-- A native link transfers data in both senses that R130 means: native, in DATA, QUIET or DEEP_QUIET. -/
def Dev.nativeLink (d : Dev) (p : Port) : Bool :=
  d.native p && (d.linkState p = 4 || d.linkState p = 6 || d.linkState p = 7)

/-- The end is timing master of its link (R128). -/
def Dev.isMaster (d : Dev) (p : Port) : Bool := d.get (0x5180 + p) 4 = 1

/-! ## Bundle groups (R147 to R156) -/

def Dev.groupOf (d : Dev) (p : Port) : Nat := d.get (0x4380 + p) 1

def Dev.bundleState (d : Dev) (p : Port) : Nat := d.get (0x4380 + p) 2

/-- The configured members of a group of a die, by ascending local position. -/
def Dev.members (d : Dev) (n : Die) (g : Nat) : List Port :=
  ((allFin 16).map (portAt n)).filter (fun q => d.groupOf q = g)

/-- The other configured members of a port's group. -/
def Dev.neighbours (d : Dev) (p : Port) : List Port :=
  if d.groupOf p < 4 then (d.members (dieOf p) (d.groupOf p)).filter (fun q => q ≠ p) else []

/-- A member in HUSH or ACTIVE is cancelled by and cancels the others (R148). -/
def Dev.cancelled (d : Dev) (p : Port) : Bool := d.bundleState p = 3 || d.bundleState p = 4

/-- BUNDLE_DISTURBERS: 4 for each other member that is cancelled, while the port is too (R150). -/
def Dev.disturbers (d : Dev) (p : Port) : Nat :=
  if d.cancelled p then 4 * ((d.neighbours p).filter (fun q => d.cancelled q)).length else 0

/-- The place of a member's ALIEN taps: by local position, so that renumbering slots moves no tap (R150). -/
def alienKey (q : Port) (pair t : Nat) : Nat := localOf q * 96 + pair * 24 + t

/-- Change one engine of one pair. -/
def Dev.onEngine (d : Dev) (p : Port) (pair : Pair) (e : Fin 11) (f : Engine → Engine) : Dev :=
  d.onSignal p (fun s => { s with engines := upd s.engines pair (fun v => upd v e f) })

/-- The ALIEN taps of a port for one member are clear. -/
def Dev.clearTapsFor (d : Dev) (p q : Port) : Dev :=
  forAll 4 (fun k d => d.onEngine p k 9 (fun g =>
    { g with
      written := g.written.filter (fun e => e.1 / 96 ≠ localOf q)
      learned := g.learned.filter (fun e => e.1 ≠ localOf q)
      scaled := g.scaled.filter (fun m => m ≠ localOf q)
      ramp := g.ramp.map (fun r => { r with values := r.values.filter (fun e => e.1 / 96 ≠ localOf q) })
      waiting := g.waiting.map (fun r => { r with values := r.values.filter (fun e => e.1 / 96 ≠ localOf q) }) })) d

/-- Every tap of an engine is clear; its override stays, and requests for its taps run out without effect (R140, R156). -/
def Engine.clearTaps (g : Engine) : Engine :=
  { overridden := g.overridden, ramp := g.ramp.map (fun r => { r with values := [] }), waiting := g.waiting.map (fun r => { r with values := [] }) }

/-- A member in HUSH or ACTIVE leaves: every neighbour's taps for it and its own ALIEN taps are clear (R156). -/
def Dev.leaveCancelling (d : Dev) (p : Port) : Dev :=
  let d := (d.neighbours p).foldl (fun d q => d.clearTapsFor q p) d
  forAll 4 (fun k d => d.onEngine p k 9 Engine.clearTaps) d

/-- BUNDLE_STATE becomes a state of R151. -/
def Dev.setBundle (d : Dev) (p : Port) (st : Nat) : Dev := d.put (0x4380 + p) 2 st

/-- The link or the attempt of a member has ended (R151, R195). -/
def Dev.bundleEnd (d : Dev) (p : Port) : Dev :=
  let st := d.bundleState p
  if st = 0 || st = 1 then d
  else ((if st = 3 || st = 4 then d.leaveCancelling p else d).setBundle p 1)

/-- A member enters EXCLUDED (R152). -/
def Dev.exclude (d : Dev) (p : Port) (reason : Nat) : Dev :=
  ((((d.setBundle p 5).put (0x4380 + p) 3 reason).event (0x4080 + p) 5).inc (0x4380 + p) 0x11).notice (srcPort p) 15 reason

/-- A member becomes ACTIVE without a hush start; its neighbours and it begin from zero taps (R155). -/
def Dev.joinActive (d : Dev) (p : Port) : Dev :=
  d.setBundle p 4

/-- R155: where a configured member with a link in place goes. -/
def Dev.placeMember (d : Dev) (p : Port) : Dev :=
  if !d.native p then d.exclude p 2
  else if d.isMaster p then d.joinActive p
  else d.exclude p 3

/-! ## Quiet time (R209) -/

/-- µs the own direction has spent quiet and not yet counted. -/
def Dev.quietUncounted (d : Dev) (p : Port) : Nat :=
  (d.port p).link.quietUs + (match (d.port p).link.quietSince with | some t => d.uptime - t | none => 0)

/-- The own direction leaves quiet: count its whole milliseconds. -/
def Dev.quietLeave (d : Dev) (p : Port) : Dev :=
  match (d.port p).link.quietSince with
  | none => d
  | some _ =>
    (d.count (0x4280 + p) 0xC (d.quietUncounted p / 1000)).onLink p
      (fun l => { l with quietSince := none, quietUs := d.quietUncounted p % 1000 })

/-! ## Ends of links and attempts -/

/-- COEF_STATE of the window that shows a request, if one still does (R136). -/
def Dev.windowShows (d : Dev) (w : Option (Fin 16)) (st : Nat) : Dev :=
  match w with
  | some w => d.put (0x5400 + w) 4 st
  | none => d

/-- The values of a request stand in an engine. -/
def Engine.land (g : Engine) (r : Ramp) : Engine :=
  { g with written := r.values.foldl (fun w e => assocSet w e.1 e.2) g.written }

/-- The link has ended: a running ramp's values stand (log entry 21), a held request is discarded and its window reads DISCARDED (R139). -/
def Dev.discardRequests (d : Dev) (p : Port) : Dev :=
  forAll 4 (fun k d => forAll 11 (fun e d =>
    let g := ((d.port p).signal.engines.get k).get e
    let d := match g.ramp with
      | none => d
      | some r => (d.onEngine p k e (fun g => { g.land r with ramp := none })).windowShows r.window 5
    match g.waiting with
    | none => d
    | some r => (d.onEngine p k e (fun g => { g with waiting := none })).windowShows r.window 7) d) d

/-- A warm reset starts every window again: no request shows in one any more (R136). -/
def Dev.windowsForget (d : Dev) : Dev :=
  d.eachPort (fun p d => d.onSignal p (fun s => { s with engines := s.engines.map (fun v => v.map (fun g =>
    { g with ramp := g.ramp.map (fun r => { r with window := none }), waiting := g.waiting.map (fun r => { r with window := none }) })) }))

/-- A query that waits for its reply gets none (R109). -/
def Dev.queryEnd (d : Dev) (p : Port) : Dev :=
  if d.get (0x4100 + p) 0x21 = 1 then d.put (0x4100 + p) 0x21 4 else d

/-- Forget what belongs to the present link or attempt: its mode, role, stage, quiet states, sealing, selvage messages and timers. -/
def Dev.dropLink (d : Dev) (p : Port) : Dev :=
  let d := (((d.quietLeave p).discardRequests p).queryEnd p).trimsAtOnce p
  let d := d.onPort p (fun s => { s with
    link := { lastMode := s.link.lastMode, epoch := s.link.epoch, relockNumber := s.link.relockNumber, quietUs := s.link.quietUs
              untrained := s.link.untrained }
    train := {}
    native := {}
    selvage := { heardAt := s.selvage.heardAt }
    signal := { s.signal with holdUntil := none, noSignal := Vector.replicate 4 false, checkpointDue := false }
    crypt := if d.get (0x4400 + p) 1 ≠ 3 then {} else { s.crypt with exchange := none, early := none, failing := none } })
  let d := (((d.put (0x4080 + p) 4 0).put (0x5180 + p) 4 0).put (0x5180 + p) 2 0).put (0x4180 + p) 1 0
  let d := ((d.put (0x4200 + p) 4 0).put (0x4200 + p) 5 0).put (0x4200 + p) 6 0
  ((d.put (0x4400 + p) 0xA 0).put (0x4400 + p) 0xC 0).put (0x4400 + p) 0xD 0

/-- What a link's end does to its egress and ingress queues (R268): discarded under a cause, or kept. -/
structure QueueEnd where
  egress : Option Nat := none
  ingress : Option Nat := none
  deriving DecidableEq, Repr

/-- The cause of a frame in flight that has not begun: that of the event, else ERRORED (R267). -/
def QueueEnd.cause (q : QueueEnd) : Nat := (q.egress.or q.ingress).getD 9

/-- Link loss and its like: egress discarded as LINK_DOWN, ingress delivered. -/
def lossEnd : QueueEnd := { egress := some 3 }
/-- Enable bit cleared: both discarded as DISABLED. -/
def disabledEnd : QueueEnd := { egress := some 2, ingress := some 2 }
/-- Faults, resets, self-test: both discarded as FAULT. -/
def faultEnd : QueueEnd := { egress := some 1, ingress := some 1 }

def Dev.discardIf (d : Dev) (p : Port) (dir : Dir) : Option Nat → Dev
  | none => d
  | some c => (d.discardQueues p dir c).flowCheck p dir

/-- A link or attempt of a port ends for any reason: frames in flight are ended, queues treated as R268 says, the bundle state moves, what
belonged to the link is forgotten. A link that was up sets LINK_DOWN and is counted (R195). LINK_STATE is left to the caller. -/
def Dev.cutLink (d : Dev) (p : Port) (q : QueueEnd) : Dev :=
  let d := if d.linkUp p then (d.event (0x4080 + p) 1).inc (0x4280 + p) 2 else d
  let d := if d.linkState p = 9 then d.put (0x4180 + p) 0xB 0 else d
  let d := if d.linkState p = 5 && ((d.port p).diag.any (·.waits)) then d.diagEnd p else d
  let d := ((d.endFlight p (q.cause)).discardIf p .egress q.egress).discardIf p .ingress q.ingress
  (d.bundleEnd p).dropLink p

/-- A block returns to NORMAL, its window empty (R401, R403). -/
def Dev.blockNormal (d : Dev) (src : Nat) : Dev := (d.setFault src 0).onFault src (fun f => { f with window := [] })

/-- A reaction ends: SETTLING, with REACTION_DONE (R403). -/
def Dev.reactionEnd (d : Dev) (s : Nat) : Dev :=
  if d.faultState s = 3 then (d.setFault s 1).sendUp { ev := { source := s, kind := 0 }, verdict := .reactionDone } else d

/-- The port's line die is ABSENT or BARRIER_LOST: every enabled port of it reads NEGOTIATING (R15, R16). -/
def Dev.dieGone (d : Dev) (p : Port) : Bool := d.get 0x1010 (dieOf p + 1) = 0 || d.get 0x1010 (dieOf p + 1) = 5

/-- The port negotiates: from DISABLED, after a link or an attempt, at the end of back-off (R78, R157 to R160), SILENT where it offers no mode and its die is there
(R15, R16); a reaction of the port has ended (R404). -/
def Dev.negotiate (d : Dev) (p : Port) : Dev :=
  let d := d.reactionEnd (srcPort p)
  if !d.enabled p then d.setLinkState p 0
  else if d.effAdvertise p = 0 && !d.forced p && !d.dieGone p then
    (if d.linkState p = 1 then d else d.event (0x4080 + p) 15).setLinkState p 1
  else (d.onLink p (fun l => { l with control := d.get (0x4000 + p) 1 })).setLinkState p 2

/-- Link loss (R195, R229): a calibration run ends UNSUITABLE, egress is discarded, every key of the port is erased, the port negotiates again. -/
def Dev.lose (d : Dev) (p : Port) : Dev := ((((d.samplerSees p 5).calUnsuitable p 6).cutLink p lossEnd).onCrypt p (fun _ => {})).negotiate p

/-- Link loss in the middle of this end's relock (R470). -/
def Dev.loseRelock (d : Dev) (p : Port) : Dev :=
  (((d.event (0x4080 + p) 7).inc (0x4280 + p) 7).lose p)

/-- Link loss for the cause found: a relock of this end fails (R470), a hold of the partner expires with it. -/
def Dev.loseAny (d : Dev) (p : Port) : Dev :=
  if (d.port p).link.relock.isSome then d.loseRelock p else d.lose p

/-- The port starts a diagnosis of all four pairs: out of service, or in service, which latches at once unless a relock, a calibration run or a ramp holds it (R181, R326,
R329 to R331). -/
def Dev.diagStart (d : Dev) (p : Port) (outOfService automatic : Bool) : Dev :=
  ((d.onPort p (fun s => { s with diag := some { outOfService, automatic, waits := !outOfService } })).put (0x5C80 + p) 3 1).diagLatch p

/-- The length of a back-off in µs (R180): BACKOFF_TIME times a factor from 0.75 to 1.25. -/
def backoffTime (seconds draw : Nat) : Nat := seconds * (750000 + Config.drawBelow draw 500001)

/-- ATTEMPTS has reached ATTEMPT_LIMIT (R180, R181). -/
def Dev.backoff (d : Dev) (p : Port) : Dev :=
  let d := ((d.setLinkState p 9).event (0x4080 + p) 3).inc (0x4280 + p) 4
  let due := d.uptime + backoffTime (d.get (0x4180 + p) 9) d.draws
  let d := d.newDraw.onLink p (fun l => { l with backoffUntil := some due })
  if d.flag (0x4180 + p) 0xA && (d.port p).diag.isNone then d.diagStart p true true else d

/-- A link attempt fails (R179). -/
def Dev.attemptFailed (d : Dev) (p : Port) (cause : Nat) : Dev :=
  let d := d.cutLink p {}
  let n := d.get (0x4180 + p) 0xB + 1
  let d := (((d.put (0x4180 + p) 0xB n).put (0x4180 + p) 0xC cause).event (0x4080 + p) 2).inc (0x4280 + p) 3
  if d.get (0x4180 + p) 8 ≤ n then d.backoff p else d.negotiate p

/-- A host lane's island has been released, and the host die runs on its reference (R377, R381). -/
def Dev.laneFree (d : Dev) (p : Port) : Bool := 0x10 + p.val / 16 ∈ (d.clocks.get 8).released && (d.clocks.get 8).phase = .onReference

/-- A host lane leaves OFF for ACQUIRING, or waits there for its island. -/
def Dev.laneStarts (d : Dev) (p : Port) : Dev := if d.laneFree p then d.put (0x2100 + p) 1 1 else d

/-- A reaction of the port ends with its enable bit or NEG_RESTART, and so do its last resort and its safe state, and those of its host lane; a port
that was FATAL is reset, which ends its timestamp unit's safe state too (R404, R405). -/
def Dev.portNormal (d : Dev) (p : Port) : Dev :=
  let d := if d.faultState (srcPort p) = 4 && d.faultState (srcStamp p) = 4 then d.blockNormal (srcStamp p) else d
  let d := if 3 ≤ d.faultState (srcPort p) then d.blockNormal (srcPort p) else d
  if 4 ≤ d.faultState (srcHostLane p) then (d.blockNormal (srcHostLane p)).laneStarts p else d

/-- The port is taken out of DISABLED when its enable bit is set and the start is complete (R159). -/
def Dev.enable (d : Dev) (p : Port) : Dev :=
  if d.linkState p = 0 && d.startComplete then ((d.portNormal p).put (0x4180 + p) 0xB 0).negotiate p else d

/-- The port's enable bit has been cleared (R158, R191, R229, R335, R357): any state but SELF_TEST leaves to DISABLED, and every key of the port is erased. -/
def Dev.disable (d : Dev) (p : Port) : Dev :=
  if d.linkState p = 10 then d.onCrypt p (fun _ => {})
  else
    let d := if d.faultState (srcPort p) = 3 then d.portNormal p else d
    (((((d.calEnd p 5).diagEnd p).cutLink p disabledEnd).put (0x4180 + p) 0xB 0).onCrypt p (fun _ => {})).setLinkState p 0

/-- NEG_RESTART and its like: any link ends without HOLD and negotiation starts again (R171, R182, R191). -/
def Dev.restart (d : Dev) (p : Port) : Dev :=
  (((((d.portNormal p).calEnd p 5).diagEnd p).cutLink p lossEnd).put (0x4180 + p) 0xB 0).negotiate p

/-- A full retrain through NEGOTIATING: an end of the link that is no link loss, so that installed 802.1AE keys stay (R195, R229). -/
def Dev.retrain (d : Dev) (p : Port) : Dev := ((d.calUnsuitable p 6).cutLink p lossEnd).negotiate p

/-- The effective advertisement has changed (R79): the link ends when it no longer includes the active mode; a silent port may start.
PORT_FORCE_MODE ends nothing of itself (R80; log entry 84). -/
def Dev.readvertise (d : Dev) (p : Port) : Dev :=
  let st := d.linkState p
  if st = 1 then (if d.effAdvertise p = 0 && !d.forced p then d else d.setLinkState p 2)
  else if st = 2 then d.negotiate p
  else if d.mode p ≠ 0 && !(d.forced p && d.mode p = 1) && !((d.effAdvertise p).testBit (d.mode p - 1)) && 3 ≤ st && st ≤ 8 then
    d.retrain p
  else d

/-- A link is established (R162, R177, R209): LINK_UP, its counter, ATTEMPTS cleared, MARGIN_LOW and the partner's telemetry start again. -/
def Dev.linkEstablished (d : Dev) (p : Port) : Dev :=
  let d := if (d.port p).link.secy then d.put (0x4400 + p) 0xA 3 else d
  let d := (((d.setLinkState p 4).event (0x4080 + p) 0).inc (0x4280 + p) 1).put (0x4180 + p) 0xB 0
  let d := (d.put (0x4180 + p) 1 0).put (0x4300 + p) 9 0x7FFF
  let d := (d.onLink p (fun l => { l with dataSince := d.uptime, lastMode := d.mode p, untrained := false })).onSelvage p (fun s => { s with heardAt := none })
  if d.bundleState p = 1 then d.placeMember p else d

/-- Ask the port for a warm relock (R183, R189): the first trigger waits for `RELOCK_START`; one that comes before step 6 merges; a later one starts another. -/
def Dev.relockTrigger (d : Dev) (p : Port) (cause : Nat) : Dev :=
  let l := (d.port p).link
  if !d.native p || d.linkState p < 4 || 7 < d.linkState p then d
  else match l.relock with
    | some r => if r.reloaded && l.relockPending.isNone then d.onLink p (fun l => { l with relockPending := some cause }) else d
    | none => if l.relockPending.isNone then d.onLink p (fun l => { l with relockPending := some cause }) else d

end Sys2Proof.Machine
end

