-- ==== Sys2Proof/Machine/Write.lean ====
section
/-! DEFINITION. What every software write has in common: type, lock, range and storing (R8, R33, R34, R36, R464). -/

namespace Sys2Proof.Machine

/-- Bits of a value of an object. -/
def sizeOf (idx sub : Nat) : Nat :=
  match Catalog.field? idx sub with
  | some f => f.ty.size
  | none => 0

/-- The value has a length that the object's type does not. -/
def misfits (idx sub v : Nat) : Bool := 256 ^ sizeOf idx sub ≤ v

/-- The lock of an RWL object (R53). -/
def lockOf (idx : Nat) : Option (Nat × Nat) :=
  if idx = 0x1204 then some (0x1204, 3)
  else if idx = 0x1420 then some (0x1420, 3)
  else if idx = 0x1424 then some (0x1424, 2)
  else if idx = 0x1440 then some (0x1440, 2)
  else if (0x4400 ≤ idx ∧ idx < 0x4480) ∨ idx = 0x6480 ∨ idx = 0x6481 then some (0x6404, 1)
  else none

/-- The object is RWL and its lock is set. -/
def Dev.locked (d : Dev) (idx sub : Nat) : Bool :=
  (match Catalog.field? idx sub with | some f => f.cls = .rwl | none => false)
  && (match lockOf idx with | some (i, s) => d.flag i s | none => false)

/-- The bits of a written value that are stored: RESERVED bits are ignored (R8). -/
def storedValue (idx sub v : Nat) : Nat :=
  match Catalog.field? idx sub with
  | some f => (match f.mask with | some m => v &&& m | none => v)
  | none => v

/-- The value is outside the plain range of its object's table. -/
def outOfRange (idx sub v : Nat) : Bool :=
  match Catalog.field? idx sub with
  | none => false
  | some f =>
    (f.ty = .bool && 1 < v) || storedValue idx sub v < f.min
    || (match f.max with | some m => m < storedValue idx sub v | none => false)

/-- The checks of a write to an RW or RWL object. -/
def Dev.plainChecks (d : Dev) (r : Req) (idx sub v : Nat) : List (Bool × Code) :=
  d.gate r idx ++ [(misfits idx sub v, .type), (d.locked idx sub, .locked), (outOfRange idx sub v, .range)]

/-- A granted write to an RW or RWL object, and what follows from it. -/
def Dev.plainWrite (d : Dev) (r : Req) (idx sub v : Nat) (more : List (Bool × Code)) (after : Dev → Dev) : Op :=
  { checks := d.plainChecks r idx sub v ++ more
    effect := fun d => after ((d.put idx sub (storedValue idx sub v)).configured) }

/-- A write to a WO command field. -/
def Dev.command (d : Dev) (r : Req) (idx sub v : Nat) (more : List (Bool × Code)) (effect : Dev → Dev) : Op :=
  { checks := d.gate r idx ++ (misfits idx sub v, .type) :: more, effect := effect }

/-- A write to a WO command field that takes the value 1 only (R464). -/
def Dev.one (d : Dev) (r : Req) (idx sub v : Nat) (more : List (Bool × Code)) (effect : Dev → Dev) : Op :=
  d.command r idx sub v (more ++ [((v != 1), Code.range)]) effect

/-- What R238 adds to a write whose effect the touchmark log records. -/
def Dev.roomToLog (d : Dev) : Bool × Code := (d.stagingFull, .busy)

end Sys2Proof.Machine
end

