-- ==== Sys2Proof/Machine/Selvage.lean ====
section
/-! DEFINITION. The messages of the selvage channel as bytes and as bits, and its two queues (R103 to R109). -/

namespace Sys2Proof.Machine

/-- Exactly `n` bytes of a list, zeros after its end. -/
def exactly (n : Nat) (l : List Byte) : List Byte := l.take n ++ List.replicate (n - l.length) 0

/-- The body of SEAL_HELLO (R221). -/
def helloBytes (h : SealHello) : List Byte :=
  bytesOf 1 h.version ++ bytesOf 1 h.purpose ++ bytesOf 2 0 ++ bytesOf 4 h.epoch ++ exactly 56 h.xPub ++ exactly 16 h.nonce
    ++ exactly 57 h.identity

/-- TYPE of a message (R106, R221). -/
def SelvageMsg.type : SelvageMsg → Nat
  | .relockReport .. => 0x01 | .hushNote => 0x10 | .sealHello _ => 0x20 | .sealProof .. => 0x21 | .sealFinish .. => 0x22
  | .sealReject .. => 0x23 | .precoder .. => 0x30 | .precoderAck .. => 0x31 | .telemetry .. => 0x40 | .partnerQuery _ => 0x50
  | .partnerReply .. => 0x51

/-- BODY of a message. -/
def SelvageMsg.body : SelvageMsg → List Byte
  | .relockReport c h => bytesOf 1 c ++ bytesOf 2 h
  | .hushNote => [0xF4, 5]
  | .sealHello h => helloBytes h
  | .sealProof e s => bytesOf 4 e ++ exactly 114 s
  | .sealFinish e t => bytesOf 4 e ++ exactly 32 t
  | .sealReject e r => bytesOf 4 e ++ bytesOf 1 r
  | .precoder p ts => bytesOf 1 p ++ bytesOf 1 ts.length ++ (ts.map (fun t => bytesOf 2 (unsigned 16 t))).flatten
  | .precoderAck p r => bytesOf 1 p ++ bytesOf 1 r
  | .telemetry ms c u => (ms.map (fun m => bytesOf 2 (unsigned 16 m))).flatten ++ bytesOf 4 c ++ bytesOf 4 u
  | .partnerQuery i => bytesOf 1 i
  | .partnerReply i r ds => bytesOf 1 i ++ bytesOf 1 r ++ ds

/-- Bits of a byte, least significant first (R104). -/
def bitsUp (b : Byte) : List Bool := (List.range 8).map (fun i => b.toNat.testBit i)

/-- One byte into the frame check sequence of ISO/IEC 13239, least significant bit first. -/
def fcsByte (crc b : Nat) : Nat :=
  Nat.rec (motive := fun _ => Nat) (crc ^^^ b)
    (fun _ c => if c.testBit 0 then (c / 2) ^^^ 0x8408 else c / 2) 8

/-- The check of a message; initial value and final inversion as ISO/IEC 13239 has them. Log entry 22. -/
def hdlcCheck (bs : List Byte) : Nat := (bs.foldl (fun c b => fcsByte c b.toNat) 0xFFFF) ^^^ 0xFFFF

/-- A message and its check as bytes. -/
def SelvageMsg.bytes (m : SelvageMsg) : List Byte :=
  let b := bytesOf 1 m.type ++ bytesOf 1 m.body.length ++ m.body
  b ++ (bytesOf 2 (hdlcCheck b)).reverse

/-- Insert a 0 after every five consecutive 1s (R104). -/
def stuff : Nat → List Bool → List Bool
  | _, [] => []
  | n, b :: l => if b then (if n = 4 then true :: false :: stuff 0 l else true :: stuff (n + 1) l) else false :: stuff 0 l

/-- The flag 0x7E. -/
def flagBits : List Bool := bitsUp 0x7E

/-- A message on the stream, with the flag that ends it. -/
def SelvageMsg.stream (m : SelvageMsg) : List Bool := stuff 0 ((m.bytes.map bitsUp).flatten) ++ flagBits

/-- Bytes that received bits spell, least significant bit first; nothing when they do not fill bytes. -/
def bytesFromBits : Nat → List Bool → Option (List Byte)
  | _, [] => some []
  | 0, _ => none
  | fuel + 1, l =>
    if l.length < 8 then none
    else (bytesFromBits fuel (l.drop 8)).map (fun r => BitVec.ofNat 8 (natOfBits (l.take 8).reverse) :: r)

/-- Signed 16-bit values of bytes. -/
def signed16s (bs : List Byte) : List Int := (List.range (bs.length / 2)).map (fun i => signed 16 (natOf ((bs.drop (2 * i)).take 2)))

/-- SEAL_HELLO from its body. -/
def helloOf (b : List Byte) : SealHello where
  version := natOf (b.take 1)
  purpose := natOf ((b.drop 1).take 1)
  epoch := natOf ((b.drop 4).take 4)
  xPub := (b.drop 8).take 56
  nonce := (b.drop 64).take 16
  identity := b.drop 80

/-- A message from its TYPE and BODY; nothing for an unknown TYPE or a body that does not fit it (R105). -/
def SelvageMsg.ofBody (type : Nat) (b : List Byte) : Option SelvageMsg :=
  let n := b.length
  let u := fun o w => natOf ((b.drop o).take w)
  match type with
  | 0x01 => if n = 3 then some (.relockReport (u 0 1) (u 1 2)) else none
  | 0x10 => if n = 2 then some .hushNote else none
  | 0x20 => if n = 137 then some (.sealHello (helloOf b)) else none
  | 0x21 => if n = 118 then some (.sealProof (u 0 4) (b.drop 4)) else none
  | 0x22 => if n = 36 then some (.sealFinish (u 0 4) (b.drop 4)) else none
  | 0x23 => if n = 5 then some (.sealReject (u 0 4) (u 4 1)) else none
  | 0x30 => if 2 ≤ n ∧ n = 2 + 2 * u 1 1 then some (.precoder (u 0 1) (signed16s (b.drop 2))) else none
  | 0x31 => if n = 2 then some (.precoderAck (u 0 1) (u 1 1)) else none
  | 0x40 => if n = 16 then some (.telemetry (signed16s (b.take 8)) (u 8 4) (u 12 4)) else none
  | 0x50 => if n = 1 then some (.partnerQuery (u 0 1)) else none
  | 0x51 => if 2 ≤ n ∧ (n = 2 ∨ n = 27 ∨ n = 18) then some (.partnerReply (u 0 1) (u 1 1) (b.drop 2)) else none
  | _ => none

/-- A message from its bytes, check and all (R105). -/
def SelvageMsg.ofBytes (bs : List Byte) : Option SelvageMsg :=
  let b := bs.take (bs.length - 2)
  if bs.length < 4 || natOf ((b.drop 1).take 1) ≠ b.length - 2 || (bytesOf 2 (hdlcCheck b)).reverse ≠ bs.drop (bs.length - 2) then none
  else SelvageMsg.ofBody (natOf (b.take 1)) (b.drop 2)

/-! ## Queues (R107) -/

/-- Queue a sequencer message: the port sequencer waits for room and never loses one, so those past the fourth wait in line. -/
def Dev.queueSeq (d : Dev) (p : Port) (m : SelvageMsg) : Dev :=
  d.onSelvage p (fun s => { s with sequencer := s.sequencer ++ [m] })

/-- The message is TELEMETRY. -/
def SelvageMsg.isTelemetry : SelvageMsg → Bool
  | .telemetry .. => true
  | _ => false

/-- The message is SEAL_REJECT. -/
def SelvageMsg.isReject : SelvageMsg → Bool
  | .sealReject .. => true
  | _ => false

/-- Queue a service message: TELEMETRY takes the place of a queued one; a message that finds four is dropped and counted. -/
def Dev.queueService (d : Dev) (p : Port) (m : SelvageMsg) : Dev :=
  let q := (d.port p).selvage.service
  if m.isTelemetry && q.any SelvageMsg.isTelemetry then
    d.onSelvage p (fun s => { s with service := s.service.map (fun x => if x.isTelemetry then m else x) })
  else if q.length < 4 then d.onSelvage p (fun s => { s with service := s.service ++ [m] })
  else d.inc (0x4300 + p) 0x19

/-- A message has been received intact. -/
def Dev.gotMessage (d : Dev) (p : Port) : Dev := d.inc (0x4300 + p) 0x1B

/-- The own stream stops in the middle of a message, which is sent whole again (R108). -/
def Dev.streamStops (d : Dev) (p : Port) : Dev :=
  d.onSelvage p (fun s => { s with bits := match s.sending with | some m => flagBits ++ m.stream | none => [] })

/-- The partner's stream stops: what has arrived of a message is discarded uncounted (R108). -/
def Dev.streamLost (d : Dev) (p : Port) : Dev := d.onSelvage p (fun s => { s with rxBits := [], rxOnes := 0, rxOpen := false })

end Sys2Proof.Machine
end

