-- ==== Sys2Proof/Machine/Lanes.lean ====
section
/-! DEFINITION. The lanes of the twill links: states and maps (R270, R289), blocks, scrambling, bit stuffing and lane checks (R271 to R281, R284, R285),
and how a stream is dealt to the lanes: port data and messages. -/

namespace Sys2Proof.Machine

/-- The other direction. -/
def Way.back : Way → Way
  | .down => .up
  | .up => .down

/-- TWILL_LINK_STATE of a die. -/
def Dev.twillState (d : Dev) (n : Die) : Nat := d.get 0x3010 (n + 1)

def Dev.setLane (d : Dev) (n : Die) (w : Way) (lane st : Nat) : Dev :=
  d.put (0x3030 + wayIndex w) (n + 1) (setOctet 35 (d.get (0x3030 + wayIndex w) (n + 1)) lane st)

def Dev.setMap (d : Dev) (n : Die) (w : Way) (l phys : Nat) : Dev :=
  d.put (0x3038 + wayIndex w) (n + 1) (setOctet 32 (d.get (0x3038 + wayIndex w) (n + 1)) l phys)

def Dev.onDir (d : Dev) (n : Die) (w : Way) (f : TwillDir → TwillDir) : Dev :=
  d.onDie n (fun s => match w with
    | .down => { s with down := f s.down }
    | .up => { s with up := f s.up })

/-! ## Headers and bodies (R271, R272, R280, R285) -/

/-- The fields of a header byte. -/
def isData (h : Nat) : Bool := h.testBit 7
def blockKind (h : Nat) : Nat := field h 3 4
def blockSeg (h : Nat) : Nat := field h 1 2
def blockPort (h : Nat) : Fin 16 := ⟨field h 2 4 % 16, by omega⟩

/-- The header of a block that is no data block. -/
def kindHeader (kind seg : Nat) (epoch : Bool) : Nat := kind * 8 + seg * 2 + epoch.toNat

/-- The header of a data block of a port. -/
def dataHeader (delim : Bool) (k : Fin 16) (relock epoch : Bool) : Nat := 128 + delim.toNat * 64 + k.val * 4 + relock.toNat * 2 + epoch.toNat

/-- The body of a MARKER as a number, and read back: nothing without PATTERN. -/
def markerBits (m : MarkerBody) : Nat :=
  (((((((0x9E3C57A10F6DB284 * 256 + m.phys % 256) * 256 + m.logical % 256) * 65536 + m.number % 65536) * 2 + m.switch.toNat) * 128 * 256
    + m.swLogical % 256) * 256 + m.swFrom % 256) * 256 + m.swTo % 256) * 2 ^ 32 * 2 ^ 96 + m.laneCrc % 2 ^ 32 * 2 ^ 96

def readMarker (v : Nat) : Option MarkerBody :=
  if field v 192 64 = 0x9E3C57A10F6DB284 then
    some { phys := field v 184 8, logical := field v 176 8, number := field v 160 16, switch := v.testBit 159
           swLogical := field v 144 8, swFrom := field v 136 8, swTo := field v 128 8, laneCrc := field v 96 32 }
  else none

/-- The fixed fields of a TRAIN body as 56 bits, and read back. -/
def trainFixed (b : TrainBody) : Nat :=
  ((((((((0x6C3BA59E * 256 + b.phys % 256) * 4 + b.reqPre % 4) * 4 + b.reqMain % 4) * 4 + b.reqPost % 4) * 4 + b.stPre % 4) * 4 + b.stMain % 4) * 4
    + b.stPost % 4) * 2 + b.rxReady.toNat) * 8

def readTrain (v : Nat) : Option TrainBody :=
  if field v 224 32 = 0x6C3BA59E then
    some { phys := field v 216 8, reqPre := field v 214 2, reqMain := field v 212 2, reqPost := field v 210 2
           stPre := field v 208 2, stMain := field v 206 2, stPost := field v 204 2, rxReady := v.testBit 203 }
  else none

/-! ## Scrambling and stuffing (R277, R278) -/

/-- The state that a lane's generator takes after each marker. -/
def laneSeed (lane : Nat) : Nat := 0x2AAAAAAAAAAAAAA ^^^ (lane * 2 ^ 48)

/-- Bits through the generator of R93, and the state after them. -/
def scrambleRun : Nat → List Bool → List Bool × Nat
  | s, [] => ([], s)
  | s, b :: l =>
    let o := s.testBit 38 != s.testBit 57
    let (out, s') := scrambleRun ((s * 2 + o.toNat) % 2 ^ 58) l
    ((b != o) :: out, s')

/-- A lane as it is just after a marker. -/
def LaneCode.fresh (c : LaneCode) (lane : Nat) : LaneCode := { c with gen := laneSeed lane, crc := 0xFFFFFFFF }

/-- After 31 equal bits a bit of the opposite value goes in, and starts a new run. -/
def laneStuff : Nat → Bool → List Bool → List Bool × Nat × Bool
  | run, last, [] => ([], run, last)
  | run, last, b :: l =>
    let run' := if b = last then run + 1 else 1
    if 31 ≤ run' then let r := laneStuff 1 (!b) l; (b :: (!b) :: r.1, r.2) else let r := laneStuff run' b l; (b :: r.1, r.2)

/-- The bit that follows 31 equal bits is taken out; it is a violation when it equals them. Answers the bits, whether one was, and the run. `due` says
that the next bit is one to take out. -/
def laneUnstuff : Bool → Nat → Bool → List Bool → List Bool × Bool × Nat × Bool
  | _, run, last, [] => ([], false, run, last)
  | true, _, last, b :: l => let r := laneUnstuff false 1 b l; (r.1, (b == last) || r.2.1, r.2.2)
  | false, run, last, b :: l =>
    let run' := if b = last then run + 1 else 1
    let r := laneUnstuff (31 ≤ run') run' b l
    (b :: r.1, r.2)

/-- CRC-32C over bytes, as a register. -/
def crcBytes (crc : Nat) (b : List Byte) : Nat := b.foldl (fun c x => crc32cByte c x.toNat) crc

/-- Bits of bytes, most significant first; and bytes of bits. -/
def bitsOfBytes (b : List Byte) : List Bool := (b.map (fun x => bitsOf 8 x.toNat)).flatten
def bytesOfBits (l : List Bool) : List Byte := (List.range (l.length / 8)).map (fun i => BitVec.ofNat 8 (natOfBits ((l.drop (8 * i)).take 8)))

/-- The body bits of a block that are scrambled: all but those of MARKER, RATE_FILL and TRAIN, whose generator bits are its own. -/
def scrambled (header : Nat) : Bool := isData header || !(blockKind header = 1 || blockKind header = 2 || blockKind header = 3)

/-- A block as a lane carries it. -/
def laneEncode (c : LaneCode) (header : Nat) (body : List Byte) : List Bool × LaneCode :=
  let (bits, gen) := if scrambled header then scrambleRun c.gen (bitsOfBytes body) else (bitsOfBytes body, c.gen)
  let all := bitsOf 8 header ++ bits
  let (line, run, last) := laneStuff c.run c.last all
  (line, { gen := gen, run := run, last := last, crc := crcBytes c.crc (bytesOfBits all) })

/-- What a receiver reads in a block. -/
structure LaneBlock where
  header : Nat
  body : List Byte
  violation : Bool
  /-- LANE_CRC of what came before it. -/
  crc : Nat
  deriving DecidableEq, Repr

/-- Read a block from a lane. -/
def laneDecode (c : LaneCode) (line : List Bool) : LaneBlock × LaneCode :=
  let (all, bad, run, last) := laneUnstuff false c.run c.last line
  let header := natOfBits (all.take 8)
  let (bits, gen) := if scrambled header then scrambleRun c.gen (all.drop 8) else (all.drop 8, c.gen)
  ({ header := header, body := bytesOfBits bits, violation := bad, crc := c.crc ^^^ 0xFFFFFFFF },
    { gen := gen, run := run, last := last, crc := crcBytes c.crc (bytesOfBits all) })

/-! ## A lane's transmitter -/

/-- The direction's epoch (R295). -/
def Dev.laneEpoch (d : Dev) (n : Die) (w : Way) : Bool := (d.get 0x3011 (n + 1)).testBit (wayIndex w)

def Dev.onTxCode (d : Dev) (n : Die) (w : Way) (x : Fin 34) (c : LaneCode) : Dev :=
  d.onDir n w (fun t => { t with txCode := t.txCode.set x c })

def Dev.onRxCode (d : Dev) (n : Die) (w : Way) (x : Fin 34) (c : LaneCode) : Dev :=
  d.onDir n w (fun t => { t with rxCode := t.rxCode.set x c })

/-- A physical lane as it numbers blocks. -/
def laneOf (x : Fin 34) : Lane := ⟨x.val, by omega⟩

/-- Send a stream block on a physical lane. -/
def Dev.laneSend (d : Dev) (n : Die) (w : Way) (x : Fin 34) (header : Nat) (body : List Byte) : Dev :=
  let e := laneEncode ((d.twillDir n w).txCode.get x) header body
  (d.onTxCode n w x e.2).emit (.block n w (laneOf x) header body e.1)

/-- Send a marker under an epoch: LANE_CRC covers what the lane has sent since the last, and the generator starts again (R277, R280). -/
def Dev.laneMarker (d : Dev) (n : Die) (w : Way) (x : Fin 34) (epoch : Bool) (m : MarkerBody) : Dev :=
  let c := (d.twillDir n w).txCode.get x
  let m := { m with laneCrc := c.crc ^^^ 0xFFFFFFFF }
  let e := laneEncode c (kindHeader 1 0 epoch) (bytesOf 32 (markerBits m))
  (d.onTxCode n w x (e.2.fresh x.val)).emit (.marker n w (laneOf x) m e.1)

/-- Send a training block: its generator bits start anew (R285). -/
def Dev.laneTrain (d : Dev) (n : Die) (w : Way) (x : Fin 34) (b : TrainBody) : Dev :=
  let bits := bitsOf 56 (trainFixed b) ++ genBits 200 (laneSeed x.val)
  let e := laneEncode ((d.twillDir n w).txCode.get x) (kindHeader 3 0 (d.laneEpoch n w)) (bytesOfBits bits)
  (d.onTxCode n w x e.2).emit (.train n w (laneOf x) b e.1)

/-- Lanes of a direction that carry blocks: DATA and SPARE. -/
def Dev.activeLane (d : Dev) (n : Die) (w : Way) (x : Nat) : Bool := d.laneState n w x = 2 || d.laneState n w x = 3

/-- RATE_FILL on every lane of a direction, in one slot (R284). -/
def Dev.fillSlot (d : Dev) (n : Die) (w : Way) : Dev :=
  forAll 34 (fun x d =>
    if d.activeLane n w x.val then
      let e := laneEncode ((d.twillDir n w).txCode.get x) (kindHeader 2 0 (d.laneEpoch n w)) (List.replicate 32 0x55)
      (d.onTxCode n w x e.2).emit (.rateFill n w (laneOf x) e.1)
    else d) d

/-- Every lane in use has sent one more block: in independent clocking a slot of RATE_FILL goes before the 2,048th block (R284). -/
def Dev.roundDone (d : Dev) (n : Die) (w : Way) : Dev :=
  if d.get 0x3000 1 ≠ 1 then d
  else if (d.twillDir n w).sinceFill + 1 < 2047 then d.onDir n w (fun t => { t with sinceFill := t.sinceFill + 1 })
  else (d.fillSlot n w).onDir n w (fun t => { t with sinceFill := 0 })

/-! ## Dealing the stream (R279, R291) -/

/-- Send an IDLE block (R272). -/
def Dev.idleSend (d : Dev) (n : Die) (w : Way) (x : Nat) : Dev :=
  if h : x < 34 then d.laneSend n w ⟨x, h⟩ (kindHeader 0 0 (d.laneEpoch n w)) (List.replicate 32 0) else d

/-- Every spare sends an IDLE block (R289). -/
def Dev.sparesIdle (d : Dev) (n : Die) (w : Way) : Dev :=
  (List.range 34).foldl (fun d x => if d.laneState n w x = 3 then d.idleSend n w x else d) d

/-- The turn passes to the next logical lane; behind the last, the spares have sent a block too. -/
def Dev.turnPasses (d : Dev) (n : Die) (w : Way) : Dev :=
  let l := (d.twillDir n w).txTurn
  let d := d.onDir n w (fun t => { t with txTurn := (l + 1) % 32 })
  if l = 31 then (d.sparesIdle n w).roundDone n w else d

/-- The logical lane whose turn it is takes an IDLE block: a parked one on the lane it left while that still delivers, else on no lane (R279, R296). -/
def Dev.idleTurn (d : Dev) (n : Die) (w : Way) : Dev :=
  let l := (d.twillDir n w).txTurn
  let x := if d.laneMap n w l = 0xFF then
      (((d.twillDir n w).parked.find? (fun k => k.logical = l && k.delivers)).map (·.leaves)).getD 0xFF
    else d.laneMap n w l
  (d.idleSend n w x).turnPasses n w

/-- Fill the round in progress with IDLE blocks, so that every lane has sent as many as the others; `fuel` is the number of logical lanes. -/
def Dev.fillRound (n : Die) (w : Way) : Nat → Dev → Dev
  | 0, d => d
  | fuel + 1, d => if (d.twillDir n w).txTurn = 0 then d else Dev.fillRound n w fuel (d.idleTurn n w)

/-- Deal a stream block: to logical lane 0 of a narrowed direction, else to the lane whose turn it is; a parked lane's turn passes with an IDLE block.
`fuel` is the number of logical lanes. -/
def Dev.deal (n : Die) (w : Way) (header : Nat) (body : List Byte) : Nat → Dev → Dev
  | 0, d => d
  | fuel + 1, d =>
    let narrow := (d.twillDir n w).narrow
    let phys := d.laneMap n w (if narrow then 0 else (d.twillDir n w).txTurn)
    if h : phys < 34 then
      let d := d.laneSend n w ⟨phys, h⟩ header body
      if narrow then d.roundDone n w else d.turnPasses n w
    else if narrow then d
    else Dev.deal n w header body fuel (d.idleTurn n w)

/-- Send a stream block over a link that is UP; none on lanes in electrical idle through a reset of the die (R290). -/
def Dev.streamSend (d : Dev) (n : Die) (w : Way) (header : Nat) (body : List Byte) : Dev :=
  if d.twillState n = 3 && !(d.dies.get n).resetting then Dev.deal n w header body 32 d else d

/-! ## Messages (R272) -/

/-- A message with its CRC-32C, in whole blocks: the check ends the last (log entry 78). -/
def messageBytes (body : List Byte) : List Byte :=
  let b := body ++ List.replicate ((32 - (body.length + 4) % 32) % 32) 0
  b ++ bytesOf 4 (crcBytes 0xFFFFFFFF b ^^^ 0xFFFFFFFF)

/-- SEG of a segment: the whole message, its first, a middle, its last. -/
def segOf (i count : Nat) : Nat := if count = 1 then 0 else if i = 0 then 1 else if i + 1 = count then 3 else 2

/-- Send a message of a KIND, segment after segment. -/
def Dev.sendMessage (d : Dev) (n : Die) (w : Way) (kind : Nat) (body : List Byte) : Dev :=
  let b := messageBytes body
  let count := b.length / 32
  (List.range count).foldl (fun d i =>
    d.streamSend n w (kindHeader kind (segOf i count) (d.laneEpoch n w)) ((b.drop (32 * i)).take 32)) d

/-- Send a message of one block whose layout the spec does not give (log entry 78). -/
def Dev.shortMessage (d : Dev) (n : Die) (w : Way) (kind : Nat) (what : List Nat) : Dev :=
  d.sendMessage n w kind (Vector.ofFn (fun i : Fin 28 => (Config.messageBody kind what).getD i.val 0)).toList

/-- A list as so many bytes, whatever it holds. -/
def sized (n : Nat) (l : List Byte) : List Byte := (Vector.ofFn (fun i : Fin n => l.getD i.val 0)).toList

/-- Send a message of KIND 8 about a port: a transcript, a signature, a verdict or a wrapped key (R211, R223; its layout: log entry 78). -/
def Dev.keySend (d : Dev) (p : Port) (w : Way) (what : List Byte) : Dev :=
  d.sendMessage (dieOf p) w 8 (bytesOf 1 (localOf p) ++ what)

/-- A lane control message: 0 PARK, 1 NARROW, 2 WIDEN, 3 RETRAIN, 4 alignment reported, 5 an in-service request for taps; and what it says. -/
def Dev.laneControl (d : Dev) (n : Die) (w : Way) (what lane : Nat) (more : List Nat := []) : Dev :=
  (d.shortMessage n w 4 (what :: lane :: more)).emit (.laneCtl n w what lane)

/-- TIME, which a line die steers its copy of the time by (R309). -/
def Dev.timeSend (d : Dev) (n : Die) : Dev := d.shortMessage n .down 9 [d.now]

/-- TIMESTAMP, for an entry of a port's ring (R272, R315). -/
def Dev.stampSend (d : Dev) (p : Port) (egress : Bool) (flags time : Nat) : Dev :=
  d.shortMessage (dieOf p) .up 6 [localOf p, egress.toNat, flags, time]

/-- EVENT, for what a line die reports (R272, R408). -/
def Dev.eventSend (d : Dev) (n : Die) (source kind detail : Nat) : Dev := d.shortMessage n .up 7 [source, kind, detail]

/-! ## Test patterns (R301) -/

/-- Bits of a PRBS whose polynomial is x^n + x^m + 1, from a register of ones. -/
def prbsBits (n m : Nat) : Nat → Nat → List Bool
  | 0, _ => []
  | k + 1, s =>
    let o := s.testBit (n - 1) != s.testBit (m - 1)
    o :: prbsBits n m k ((s * 2 + o.toNat) % 2 ^ n)

/-- So many scrambled IDLE blocks from a state of the generator. -/
def idleBlocks : Nat → Nat → List Bool
  | 0, _ => []
  | k + 1, s => let r := scrambleRun s (List.replicate 256 false); bitsOf 8 (kindHeader 0 0 false) ++ r.1 ++ idleBlocks k r.2

/-- The first bits of a pattern on a lane: PRBS7, PRBS15, PRBS31 as ITU-T O.150 has them, the longer two inverted; IDLE blocks scrambled with the lane's own
generator (R277, R301; log entry 92). -/
def patternBits (pattern lane count : Nat) : List Bool :=
  match pattern with
  | 0 => prbsBits 7 6 count (2 ^ 7 - 1)
  | 1 => (prbsBits 15 14 count (2 ^ 15 - 1)).map not
  | 2 => (prbsBits 31 28 count (2 ^ 31 - 1)).map not
  | _ => (idleBlocks (count / 264 + 1) (laneSeed lane)).take count

/-- The injector inverts one bit, the last, in every INJECT × 1,024 bits; `i` numbers the first bit. -/
def injected (every i : Nat) : List Bool → List Bool
  | [] => []
  | b :: l => (if every ≠ 0 && (i + 1) % (every * 1024) = 0 then !b else b) :: injected every (i + 1) l

/-- What a lane under test sends first: the pattern as far as the injector's first period, or one block of it, with the injected error, stuffed. -/
def testLine (pattern every lane : Nat) : List Bool := (laneStuff 0 false (injected every 0 (patternBits pattern lane (max 264 (every * 1024))))).1

/-- Errors that the injector makes in so many bits. -/
def injectedErrors (every bits : Nat) : Nat := if every = 0 then 0 else bits / (every * 1024)

/-! ## Port data (R274) -/

/-- A delimiter block. -/
def delimBody (fin start info : Nat) (area : List Byte) : List Byte := bytesOf 1 fin ++ bytesOf 1 start ++ bytesOf 1 info ++ exactly 29 area

/-- INFO of a queue: class and path. -/
def infoOf (q : Nat) : Nat := q % 8 * 32 + q / 8 % 2 * 16

/-- Send a data block of a port. -/
def Dev.portSend (d : Dev) (n : Die) (w : Way) (k : Fin 16) (delim : Bool) (body : List Byte) : Dev :=
  (d.onDir n w (fun t => { t with lastData := d.uptime })).streamSend n w (dataHeader delim k ((d.port (portAt n k)).link.relockNumber.testBit 0) (d.laneEpoch n w)) body

/-- The block that waits for a start is closed with fill. -/
def Dev.closeBlock (d : Dev) (n : Die) (w : Way) (k : Fin 16) : Dev :=
  match (d.twillDir n w).opened.get k with
  | none => d
  | some o => (d.onDir n w (fun t => { t with opened := t.opened.set k none })).portSend n w k true (delimBody o.fin 0 0 o.area)

/-- What follows the block in which a frame starts: blocks of 32 bytes, one of 29 where a rest of 30 to 32 could not be ended (log entry 79), and the block in
which it ends, which waits for a start. -/
def Dev.frameRest (n : Die) (w : Way) (k : Fin 16) (errored : Bool) : Nat → List Byte → Dev → Dev
  | 0, _, d => d
  | fuel + 1, b, d =>
    if b.length ≤ 29 then
      d.onDir n w (fun t => { t with opened := t.opened.set k (some { fin := 128 + (if errored then 64 else 0) + (b.length - 1), area := b }) })
    else if b.length ≤ 32 then Dev.frameRest n w k errored fuel (b.drop 29) (d.portSend n w k true (delimBody 0 0 0 (b.take 29)))
    else Dev.frameRest n w k errored fuel (b.drop 32) (d.portSend n w k false (b.take 32))

/-- A frame crosses in its port's blocks; `more` says that the port's next frame is at hand, so that the last block stays open for its start. A block holds no frame's
start and end both, so that a short frame starts as late as leaves its last byte to the next block; one of a single byte is followed by a zero (log entry 79). -/
def Dev.crossFrame (d : Dev) (n : Die) (w : Way) (k : Fin 16) (q : Nat) (bytes : List Byte) (errored more : Bool) : Dev :=
  if bytes = [] then d
  else
    let (fin, area, d) := match (d.twillDir n w).opened.get k with
      | some o => if o.area.length ≤ 28 then (o.fin, o.area, d) else (0, [], d.closeBlock n w k)
      | none => (0, [], d)
    let take := min (29 - area.length) (max 1 (bytes.length - 1))
    let d := (d.onDir n w (fun t => { t with opened := t.opened.set k none })).portSend n w k true
      (delimBody fin (128 + (29 - take)) (infoOf q) (exactly (29 - take) area ++ bytes.take take))
    let d := Dev.frameRest n w k errored (bytes.length / 32 + 3) (exactly (max 1 (bytes.length - take)) (bytes.drop take)) d
    if more then d else d.closeBlock n w k

end Sys2Proof.Machine
end

