-- ==== Sys2Proof/Machine/Shed.lean ====
section
/-! DEFINITION. Capacity, demand and shedding of the twill links, narrowing and widening (R282, R291, R292, R298, R299). -/

namespace Sys2Proof.Machine

/-- Trained spares that carry no logical lane, S0 before S1 before lanes that came back (R295, R297). -/
def Dev.freeSpares (d : Dev) (n : Die) (w : Way) : List Nat :=
  ([32, 33] ++ List.range 32).filter (fun x => d.laneState n w x = 3)

/-- Logical lanes that carry data, or that a spare waits for at a pending switch. -/
def Dev.lanesInService (d : Dev) (n : Die) (w : Way) : Nat :=
  ((List.range 32).filter (fun l => d.laneMap n w l ≠ 0xFF)).length
    + min (d.twillDir n w).parked.length (d.freeSpares n w).length

/-- What so many logical lanes carry in Mbit/s, without what is reserved for blocks of KIND 4 to 9 (R282). -/
def Dev.lanesCarry (d : Dev) (k : Nat) : Nat :=
  (if d.get 0x3000 1 = 0 then k * 56250 * 256 * 31 * 16383 / (264 * 32 * 16384)
   else k * 56250 * 256 * 31 * 16383 * 2047 / (264 * 32 * 16384 * 2048)) - 8000

/-- Capacity of a direction in Mbit/s (R282, R298). -/
def Dev.capacity (d : Dev) (n : Die) (w : Way) : Nat :=
  if d.twillState n ≠ 3 then 0 else d.lanesCarry (d.lanesInService n w)

/-- The port is shed. -/
def Dev.shed (d : Dev) (p : Port) : Bool := (d.get 0x3043 (dieOf p + 1)).testBit (localOf p)

/-- The port loads its die's twill link: enabled and not shed. -/
def Dev.loads (d : Dev) (p : Port) : Bool := d.enabled p && !d.shed p

/-- Demand of a die in Mbit/s (R298). -/
def Dev.demand (d : Dev) (n : Die) : Nat :=
  ((allFin 16).map (fun k => if d.loads (portAt n k) then portRate (d.get (0x2000 + portAt n k) 1) else 0)).sum

/-- Two or more lanes of a direction wait for their switch, and those in service carry less than the demand (R300). -/
def Dev.short (d : Dev) (n : Die) (w : Way) : Bool :=
  2 ≤ ((d.twillDir n w).parked.filter (fun k => !k.noted)).length
    && d.lanesCarry ((List.range 32).filter (fun l => d.laneMap n w l ≠ 0xFF)).length < d.demand n

/-- A frame cannot cross a direction while its lanes wait for their switch; which frame that is stays free (R300, log entry 7). -/
def Dev.crowdedOut (d : Dev) (n : Die) (w : Way) : Bool := d.short n w && Config.freeValue d.draws 4 % 2 = 1

/-- What the look at a direction has drawn. -/
def Dev.lookedAt (d : Dev) (n : Die) (w : Way) : Dev := if d.short n w then d.newDraw else d

/-- Shed one port (R299): DOWN, silent, queues discarded as FAULT. -/
def Dev.shedPort (d : Dev) (p : Port) : Dev :=
  let n := dieOf p
  let d := (((d.calUnsuitable p 6).cutLink p faultEnd)).setLinkState p 11
  ((d.event (0x3020 + n) 5).inc (0x3080 + n) 3).put 0x3043 (n + 1) (putBit (d.get 0x3043 (n + 1)) (localOf p) true)

/-- Shed the highest enabled port until the demand fits both directions (R298); `fuel` is the number of ports. -/
def Dev.shedLoop (n : Die) : Nat → Dev → Dev
  | 0, d => d
  | fuel + 1, d =>
    if d.demand n ≤ min (d.capacity n .down) (d.capacity n .up) then d
    else match ((allFin 16).filter (fun k => d.loads (portAt n k))).getLast? with
      | none => d
      | some k => Dev.shedLoop n fuel (d.shedPort (portAt n k))

/-- Evaluate a die whose link is UP. -/
def Dev.shedEval (d : Dev) (n : Die) : Dev := if d.twillState n = 3 then Dev.shedLoop n 16 d else d

/-- A shed port's bit clears at NEG_RESTART and when it is enabled again (R299). -/
def Dev.unshed (d : Dev) (p : Port) : Dev :=
  d.put 0x3043 (dieOf p + 1) (putBit (d.get 0x3043 (dieOf p + 1)) (localOf p) false)

/-- The port's enable bit has become 1 (R159, R298, R299). -/
def Dev.portOn (d : Dev) (p : Port) : Dev :=
  ((d.unshed p).enable p).shedEval (dieOf p)

/-! ## Electrical idle (R291, R292) -/

/-- Lanes of a direction that idle: those trained, but the one that carries logical lane 0. -/
def Dev.idleLanes (d : Dev) (n : Die) (w : Way) : List Nat :=
  (List.range 34).filter (fun l => l ≠ d.laneMap n w 0 && (d.laneState n w l = 2 || d.laneState n w l = 3))

/-- A direction narrows onto logical lane 0: NARROW is dealt as before, and the other lanes idle from the next block on. -/
def Dev.narrow (d : Dev) (n : Die) (w : Way) : Dev :=
  let d := (d.laneControl n w 1 0).onDir n w (fun t => { t with narrow := true, before := d.get (0x3030 + wayIndex w) (n + 1) })
  ((d.idleLanes n w).foldl (fun d l => d.setLane n w l 6) d).inc (0x3080 + n) 8

/-- Periods of the square wave of K in 128 ns at 7.03125 GHz (R283, R292). -/
def burstPeriods : Nat := 900

/-- An idle lane wakes: the burst, which ends in a run of four zeros, and the marker that starts its alignment again. -/
def Dev.wakeLane (d : Dev) (n : Die) (w : Way) (x : Fin 34) : Dev :=
  let still := fun (c : LaneCode) => { c with run := 4, last := false }
  let d := (d.emit (.wakeBurst n w (laneOf x) burstPeriods)).onDir n w (fun t => { t with txCode := upd t.txCode x still, rxCode := upd t.rxCode x still })
  d.laneMarker n w x (d.laneEpoch n w) { phys := x.val, logical := (d.logicalOf n w x.val).getD 0xFE, number := (d.twillDir n w).marker }

/-- The idle lanes of a direction wake, as from a reset: they return to the state they had, and WIDEN goes on logical lane 0 (R290, R292). -/
def Dev.lanesReturn (d : Dev) (n : Die) (w : Way) : Dev :=
  let before := (d.twillDir n w).before
  let wakes := (allFin 34).filter (fun x => d.laneState n w x.val = 6)
  let d := (List.range 34).foldl (fun d l => if d.laneState n w l = 6 then d.setLane n w l (octet 35 before l) else d) d
  let d := ((wakes.foldl (fun d x => d.wakeLane n w x) d).onDir n w (fun t => { t with narrow := true })).laneControl n w 2 0
  d.onDir n w (fun t => { t with narrow := false, before := 0, txTurn := 0, rxTurn := 0, rxHeld := [] })

/-- A narrowed direction widens. -/
def Dev.widen (d : Dev) (n : Die) (w : Way) : Dev := if (d.twillDir n w).narrow then d.lanesReturn n w else d

end Sys2Proof.Machine
end

