-- ==== Sys2Proof/Machine/Exchange.lean ====
section
/-! DEFINITION. The seal exchange as far as training needs it: how it begins, receives the partner's SEAL_HELLO and fails (R221 to R226, R228, R469). -/

namespace Sys2Proof.Machine

/-- Begin the exchange of an epoch: the key unit draws its ephemeral key and nonce and queues SEAL_HELLO (R223 step 1). -/
def Dev.helloSend (d : Dev) (p : Port) (purpose epoch : Nat) : Dev :=
  let own : SealHello := { purpose, epoch, xPub := Config.x448Public d.draws, nonce := Config.draw (d.draws + 1) 16, identity := d.hall.identityPub }
  let x : Exchange := { purpose, epoch, secret := d.draws, own, since := (d.port p).crypt.retrySince.getD d.uptime }
  (d.newDraw.newDraw.onCrypt p (fun c => { c with exchange := some x })).queueSeq p (.sealHello own)

/-- Identity hash of a SEAL_HELLO's public key (R210). -/
def peerHash (h : SealHello) : List Byte := Config.shake256 h.identity 32

/-- First 16 bytes of the partner's identity hash (R237): of the exchange's SEAL_HELLO, else of the link's SEAL_PEER_ID; zeros while it is unknown. -/
def Dev.peerHalf (d : Dev) (p : Port) : List Byte :=
  match (d.port p).crypt.exchange.bind (·.peer) with
  | some h => (peerHash h).take 16
  | none => (bytesOf 32 (d.get (0x4400 + p) 0xC)).take 16

/-- The transcript: the master's SEAL_HELLO body, then the slave's (R222). -/
def transcript (master : Bool) (own peer : SealHello) : List Byte :=
  if master then helloBytes own ++ helloBytes peer else helloBytes peer ++ helloBytes own

/-- The digest d of an exchange. -/
def Exchange.digest (x : Exchange) (master : Bool) : List Byte :=
  Config.shake256 (transcript master x.own (x.peer.getD {})) 64

/-- The reason of a failed exchange, its count and its touchmark entry (R224, R228, R237). -/
def Dev.sealNote (d : Dev) (p : Port) (reason : Nat) : Dev :=
  let epoch := match (d.port p).crypt.exchange with | some x => x.epoch | none => d.get (0x4400 + p) 0xD
  ((d.put (0x4400 + p) 0xB reason).inc (0x4400 + p) 0x27).touchEvent 0x0041
    (bytesOf 1 p.val ++ bytesOf 1 reason ++ bytesOf 4 epoch ++ d.peerHalf p)

/-- SEAL_REJECT for the epoch of the exchange. -/
def Dev.rejectMsg (d : Dev) (p : Port) (reason : Nat) : SelvageMsg :=
  .sealReject (match (d.port p).crypt.exchange with | some x => x.epoch | none => d.get (0x4400 + p) 0xD) reason

/-- The attempt or the link that a failed exchange ends does end: in training under a cause of R179, else as link loss (R224, R228). -/
def Dev.sealEnds (d : Dev) (p : Port) (lastFail : Nat) : Dev :=
  (if d.linkState p = 3 then d.attemptFailed p lastFail else d.lose p).put (0x4400 + p) 0xA 4

/-- The end that a failed check has brought comes now: its SEAL_REJECT has left, or the stage's timer ends. -/
def Dev.sealFailEnd (d : Dev) (p : Port) : Dev :=
  match (d.port p).crypt.failing with
  | some cause => d.sealEnds p cause
  | none => d

/-- An exchange fails (R224, R228, R469): reason, SEAL_REJECT, touchmark entry; in training the attempt ends under a cause of R179; a rekey that fails
with reason 1 or 2 is link loss, any other is retried. SEAL_REJECT is queued, and the end comes when it has left; a received SEAL_REJECT and the
stage's timer end the attempt at once (log entry 24). -/
def Dev.sealFail (d : Dev) (p : Port) (reason lastFail : Nat) : Dev :=
  let m := d.rejectMsg p reason
  let d := d.sealNote p reason
  if d.linkState p = 3 && (reason = 4 || reason = 5) then (d.emit (.selvage p m)).sealEnds p lastFail
  else if d.linkState p = 3 || reason = 1 || reason = 2 then
    let d := (d.queueSeq p m).onCrypt p (fun c => { c with exchange := none, retrySince := none, failing := some lastFail })
    if d.linkState p = 3 then d.put (0x4400 + p) 0xA 4 else d
  else (d.queueSeq p m).onCrypt p (fun c => { c with
    exchange := none
    retrySince := c.retrySince.or (some (match c.exchange with | some x => x.since | none => d.uptime)) })

/-- The allow-list holds a hash; an all-zero entry is empty (R225). -/
def Dev.allowed (d : Dev) (hash : Nat) : Bool :=
  hash ≠ 0 && (List.range 128).any (fun i => d.get 0x6480 (i + 1) = hash || d.get 0x6481 (i + 1) = hash)

/-- The partner's SEAL_HELLO reaches an exchange that waits for it: its version and epoch, Hallmark, and the partner's identity are checked;
then Hallmark is asked to sign (R223 step 2, R224). -/
def Dev.helloGot (d : Dev) (p : Port) (h : SealHello) : Dev :=
  match (d.port p).crypt.exchange with
  | none => d
  | some x =>
    if x.peer.isSome then d
    else if h.version ≠ 1 || h.epoch ≠ x.epoch || h.purpose ≠ x.purpose then d.sealFail p 7 10
    else
      let d := d.onCrypt p (fun c => { c with exchange := some { x with peer := some h } })
      if d.get 0x6400 1 ≠ 1 then d.sealFail p 6 10
      else if !d.allowed (natOf (peerHash h)) then d.sealFail p 1 10
      else
        let x := { x with peer := some h, listed := true }
        ((d.onCrypt p (fun c => { c with exchange := some x })).keySend p .up (sized 57 h.identity ++ sized 64 (x.digest (d.isMaster p)))).onHall
          (fun h => h.askSign (.sealSign p))

/-- Begin an exchange; outside READY of Hallmark it fails with reason 6 (R224). A SEAL_HELLO that came early is taken up. -/
def Dev.sealStart (d : Dev) (p : Port) (purpose epoch : Nat) : Dev :=
  let d := d.helloSend p purpose epoch
  let d := if purpose = 0 then d.put (0x4400 + p) 0xA 1 else d
  if d.get 0x6400 1 ≠ 1 then d.sealFail p 6 10
  else match (d.port p).crypt.early with
    | none => d
    | some h => (d.onCrypt p (fun c => { c with early := none })).helloGot p h

end Sys2Proof.Machine
end

