-- ==== Sys2Proof/Machine/Signal.lean ====
section
/-! DEFINITION. The signal chain: tap counts, which engines adapt, holds, coefficient windows, the coefficient store, margins (R125 to R146).
Adapted values are opaque: an engine that adapts moves on to a fresh draw whenever its values are used (log entry 6). -/

namespace Sys2Proof.Machine

/-! ## Taps -/

/-- PORT_MODE_ACTIVE reads 0 while a warm reset's standard link trains anew (R81). -/
def Dev.retrainsUntold (d : Dev) (p : Port) : Bool := (d.port p).link.untrained && d.linkState p = 3 && !d.native p

/-- The reference mode: that of PORT_MODE_ACTIVE while it does not read 0, else that of the last link (R137). -/
def Dev.refMode (d : Dev) (p : Port) : Nat := if d.mode p ≠ 0 && !d.retrainsUntold p then d.mode p else (d.port p).link.lastMode

/-! ## Which engines adapt (R130, R131) -/

/-- A member is in warm relock or in quiet: its neighbours hold their taps for it. -/
def Dev.away (d : Dev) (q : Port) : Bool := d.linkState q = 5 || d.quiet q

/-- A bundle neighbour is in relock or quiet: one in HUSH or ACTIVE. A member in any other state has no taps to hold, and does not count, in bit 1 of ADAPT_HOLD_CAUSE
either (DESIGN CHOICE, log entry 104). -/
def Dev.neighbourAway (d : Dev) (p : Port) : Bool := (d.neighbours p).any (fun q => d.cancelled q && d.away q)

/-- A hardware hold applies to an engine, as HELD reports it: for ALIEN also one that holds its taps for a neighbour (log entry 76). -/
def Dev.hwHold (d : Dev) (p : Port) (pair : Pair) (e : Nat) (refresh : Bool) : Bool :=
  d.pairHold p pair refresh || (e = 9 && d.neighbourAway p)

/-- An engine of a pair adapts (R130). -/
def Dev.adapts (d : Dev) (p : Port) (pair : Pair) (e : Fin 11) (refresh : Bool) : Bool :=
  d.wouldAdapt p pair e && !d.hwHold p pair e.val refresh

/-- ADAPT_STATE of a pair (R135). -/
def Dev.adaptState (d : Dev) (p : Port) (pair : Pair) : Nat :=
  (allFin 10).foldl (fun n e =>
    let f : Fin 11 := ⟨e.val, by omega⟩
    n + (if (d.engine p pair f).overridden then 2 ^ (20 + e.val) else 0)
      + (if d.hwHold p pair e.val false then 2 ^ (10 + e.val) else 0)
      + (if d.adapts p pair f false then 2 ^ e.val else 0)) 0

/-- ADAPT_HOLD_CAUSE (R135). -/
def Dev.holdCause (d : Dev) (p : Port) : Nat :=
  (if (d.port p).signal.holdUntil.isSome then 32 else 0) + (if (d.port p).link.held then 16 else 0)
    + (if d.relockHolds p then 8 else 0) + (if d.quiet p then 4 else 0) + (if d.neighbourAway p then 2 else 0)
    + (if (d.port p).signal.noSignal.any id then 1 else 0)

/-- The ALIEN taps of a pair for a neighbour adapt, by the port's own holds: as the engine does or, in the neighbour's hush start, whatever
freezes or overrides it (R130, R131, R154). -/
def Dev.learnsFrom (d : Dev) (p q : Port) (pair : Pair) (refresh : Bool) : Bool :=
  d.cancelled p && d.cancelled q && !d.pairHold p pair refresh && (d.wouldAdapt p pair 9 || d.bundleState q = 3)

/-- Local positions of the neighbours whose taps an engine's ALIEN adapts: none that is in relock or quiet (R131). -/
def Dev.learns (d : Dev) (p : Port) (pair : Pair) (refresh : Bool) : List Nat :=
  ((d.neighbours p).filter (fun q => d.learnsFrom p q pair refresh && !d.away q)).map localOf

/-- Taps whose values an adapting engine has moved away from. -/
def Engine.move (g : Engine) (draw : Nat) (members : List Nat) : Engine :=
  { g with
    written := g.written.filter (fun e => !members.contains (e.1 / 96))
    learned := members.foldl (fun l m => assocSet l m draw) g.learned
    scaled := g.scaled.filter (fun m => !members.contains m) }

/-- Every tap for a member times 4 (R154); a written value that leaves the number format is free as an adapted one is (log entry 7). -/
def Engine.quadruple (g : Engine) (m draw : Nat) : Engine :=
  { g with
    written := g.written.map (fun e => if e.1 / 96 = m then
      (e.1, if -(2 ^ 21) ≤ e.2 && e.2 < 2 ^ 21 then 4 * e.2 else signed 24 (unsigned 24 (Config.freeValue draw (2 ^ 41 + e.1)))) else e)
    scaled := if (assocGet g.learned m).isSome then m :: g.scaled else g.scaled }

/-- Every engine of a port that adapts now has moved on to values not known, and so has its timing loop. -/
def Dev.moveOn (d : Dev) (p : Port) (refresh : Bool) : Dev :=
  (forAll 4 (fun k d => forAll 11 (fun e d' =>
    if e.val = 9 then d'.onEngine p k e (fun g => g.move d.draws (d.learns p k refresh))
    else if d.adapts p k e refresh then d'.onEngine p k e (fun g => { g with epoch := d.draws, written := [] })
    else d') d) (d.newDraw.onSignal p (fun s => { s with timing := d.draws })))

/-- The neighbours of a port have learned from what it sends: their taps for it have moved on, where they adapt (R131, R154, R200). -/
def Dev.othersLearn (d : Dev) (p : Port) : Dev :=
  (d.neighbours p).foldl (fun d q => forAll 4 (fun k d =>
    if d.learnsFrom q p k false then d.onEngine q k 9 (fun g => g.move d.draws [localOf p]) else d) d) d.newDraw

/-! ## Values of taps (R127, R150) -/

/-- A 24-bit value. -/
def q24 (i : Int) : Int := signed 24 (unsigned 24 i)

/-- The key of a tap number: ALIEN taps go by the member that holds the disturber's slot; nothing for an empty slot. -/
def Dev.tapKey (d : Dev) (p : Port) (e : Fin 11) (t : Nat) : Option Nat :=
  if e.val ≠ 9 then some t
  else match (d.neighbours p)[t / 96]? with
    | some q => if d.cancelled p && d.cancelled q then some (alienKey q (t / 24 % 4) (t % 24)) else none
    | none => none

/-- A number for each tap of the module. -/
def tapPlace (p : Port) (pair : Pair) (e : Fin 11) (k : Nat) : Nat := 65536 * (64 * p.val + 16 * pair.val + e.val) + k

/-- What adaptation has given a tap: a 24-bit value; of the precoder of a standard mode's clause, a 16-bit one (R127). -/
def Dev.adaptedTap (p : Port) (pair : Pair) (e : Fin 11) (g : Engine) (k : Nat) : Int :=
  let draw := if e.val = 9 then (assocGet g.learned (k / 96)).getD 0 else g.epoch
  if draw = 0 then 0
  else
    let x := Config.adaptedTap p.val pair.val e.val draw k
    let v := if e.val = 10 then signed 16 (unsigned 16 x) else q24 x
    if e.val = 9 && g.scaled.contains (k / 96) then
      (if -(2 ^ 21) ≤ v && v < 2 ^ 21 then 4 * v else q24 (Config.freeValue draw (1 + tapPlace p pair e k)))
    else v

/-- A value on the line from an old one to a new one, at a part of the way in 65,536ths (R138); how it rounds is the model's choice (log entry 91). -/
def onWay (old new : Int) (part : Nat) : Int := old + (new - old) * part / 65536

/-- How long a ramp lasts, in sixteenths of a nanosecond: 64 native frames, or 64 µs in a standard mode (R138). -/
def rampLength (mode : Nat) : Nat := 64 * (if 8 ≤ mode then trimPeriod mode else 16000)

/-- How far a ramp has come at a time, in 65,536ths of its way: linear in time, as exactly as the model's clock tells (R138; log entry 91). -/
def rampPartAt (mode time : Nat) (r : Ramp) : Nat := min 65536 ((time - r.since) * 16000 * 65536 / rampLength mode)

/-- The value that stands for a tap's key: written, or adapted. -/
def Dev.standing (p : Port) (pair : Pair) (e : Fin 11) (g : Engine) (k : Nat) : Int :=
  match assocGet g.written k with
  | some v => v
  | none => Dev.adaptedTap p pair e g k

/-- A ramp begins now, from the values that stand. -/
def Dev.rampFrom (d : Dev) (p : Port) (pair : Pair) (e : Fin 11) (g : Engine) (r : Ramp) : Ramp :=
  { r with since := d.uptime, start := r.values.map (fun x => (x.1, Dev.standing p pair e g x.1)) }

/-- The value of an engine's tap by its key, at a time and in a mode: on a ramp it lies on the line from the old value to the new one. -/
def tapAt (p : Port) (pair : Pair) (e : Fin 11) (g : Engine) (mode time k : Nat) : Int :=
  match g.ramp with
  | none => Dev.standing p pair e g k
  | some r => (match assocGet r.values k with
    | some new => onWay ((assocGet r.start k).getD 0) new (rampPartAt mode time r)
    | none => Dev.standing p pair e g k)

/-- The value of a tap now. -/
def Dev.tapNow (d : Dev) (p : Port) (pair : Pair) (e : Fin 11) (t : Nat) : Int :=
  match d.tapKey p e t with
  | none => 0
  | some k => tapAt p pair e (d.engine p pair e) (d.mode p) d.uptime k

/-! ## The coefficient store (R142 to R146) -/

/-- Offset of a slot in the store of its die (R142). -/
def slotOffset (p : Port) (slot : Fin 2) : Nat := localOf p * 0x10000 + slot.val * 0x8000

/-- The 64 bytes of a slot's header (R142). -/
def Checkpoint.header (c : Checkpoint) : List Byte :=
  bytesOf 4 c.sequence ++ bytesOf 1 c.mode ++ bytesOf 3 0 ++ bytesOf 4 c.epoch ++ bytesOf 2 c.members ++ List.replicate 50 0

/-- What a slot holds, when it is valid: its commit marker is there, its CRC-32C fits, and no error has taken it (R142). -/
def Dev.slotValue (d : Dev) (p : Port) (slot : Fin 2) : Option Checkpoint := ((d.port p).signal.slots.get slot).filter (fun c => c.intact)

/-- The newest valid slot. -/
def Dev.newestCheckpoint (d : Dev) (p : Port) : Option (Fin 2 × Checkpoint) :=
  match d.slotValue p 0, d.slotValue p 1 with
  | none, none => none
  | some a, none => some (0, a)
  | none, some b => some (1, b)
  | some a, some b => if newer b.sequence a.sequence then some (1, b) else some (0, a)

/-- The newest valid slot whose mode and epoch are those of the present link (R145). -/
def Dev.reloadSlot (d : Dev) (p : Port) : Option Checkpoint :=
  let fits := fun c : Checkpoint => c.mode = d.mode p && c.epoch = (d.port p).link.epoch
  match d.slotValue p 0, d.slotValue p 1 with
  | some a, some b =>
    if newer b.sequence a.sequence then (if fits b then some b else if fits a then some a else none)
    else (if fits a then some a else if fits b then some b else none)
  | some a, none => if fits a then some a else none
  | none, some b => if fits b then some b else none
  | none, none => none

/-- The configured members of the port's group, one bit for each local position. -/
def Dev.memberBits (d : Dev) (p : Port) : Nat :=
  if d.groupOf p < 4 then (d.members (dieOf p) (d.groupOf p)).foldl (fun n q => n + 2 ^ localOf q) 0 else 0

/-- A hardware hold of R131 applies to an engine of the port, or the port is in a warm relock. -/
def Dev.portHeld (d : Dev) (p : Port) : Bool :=
  d.relockHolds p || (d.port p).link.held || d.quiet p || d.linkState p = 5 || (d.port p).signal.noSignal.any id || d.neighbourAway p

/-- A checkpoint of a native link falls due: it is latched now, or after the hold, or after the checkpoint being written (R143). With no valid slot its SEQUENCE is 0
(DESIGN CHOICE, log entry 103). -/
def Dev.checkpoint (d : Dev) (p : Port) : Dev :=
  if !d.native p || d.linkState p < 4 || 7 < d.linkState p then d
  else if d.portHeld p || (d.port p).signal.writing.isSome then d.onSignal p (fun s => { s with checkpointDue := true })
  else
    let d := d.moveOn p false
    let k : Fin 2 := match d.newestCheckpoint p with | some (0, _) => 1 | _ => 0
    let c : Checkpoint := {
      sequence := (match d.newestCheckpoint p with | some (_, c) => c.sequence + 1 | none => 0) % 2 ^ 32
      mode := d.mode p, epoch := (d.port p).link.epoch, members := d.memberBits p
      engines := (d.port p).signal.engines, time := d.uptime, timing := (d.port p).signal.timing, shaping := (d.port p).native.shaped }
    (d.onSignal p (fun s => { s with checkpointDue := false, writing := some (k, c), slots := upd s.slots k (fun _ => none) })).moveOn p false

/-- The checkpoint that fell due in a hold is taken when no hold is left, at a frame boundary at the latest. -/
def Dev.checkpointIfDue (d : Dev) (p : Port) : Dev := if (d.port p).signal.checkpointDue then d.checkpoint p else d

/-- A checkpoint has its commit marker (R142, R143). -/
def Dev.checkpointDone (d : Dev) (p : Port) : Dev :=
  match (d.port p).signal.writing with
  | none => d
  | some (k, c) =>
    ((d.onSignal p (fun s => { s with writing := none, slots := upd s.slots k (fun _ => some c) })).inc (0x5200 + p) 0x10).checkpointIfDue p

/-- A relock abandons a checkpoint being written (R144). -/
def Dev.checkpointAbandon (d : Dev) (p : Port) : Dev :=
  if (d.port p).signal.writing.isSome then (d.onSignal p (fun s => { s with writing := none })).inc (0x5200 + p) 0x11 else d

/-- Members whose ALIEN taps a reload keeps: configured at the checkpoint and still (R145). -/
def Engine.reload (live stored : Engine) (members : Nat) : Engine :=
  { stored with
    overridden := live.overridden
    ramp := live.ramp
    waiting := live.waiting
    written := stored.written.filter (fun e => members.testBit (e.1 / 96))
    learned := stored.learned.filter (fun e => members.testBit e.1)
    scaled := stored.scaled.filter (fun m => members.testBit m) }

/-- Reload the port's coefficients, timing loop and shaping filters from a checkpoint. -/
def Dev.reload (d : Dev) (p : Port) (c : Checkpoint) : Dev :=
  let keep := c.members &&& d.memberBits p
  let d := (d.onSignal p (fun s => { s with timing := c.timing })).onNative p (fun n => { n with shaped := c.shaping })
  (forAll 4 (fun k d => forAll 11 (fun e d => d.onEngine p k e (fun g =>
    let s := (c.engines.get k).get e
    if e.val = 9 then g.reload s keep else { s with overridden := g.overridden, ramp := g.ramp, waiting := g.waiting })) d) d).inc (0x5200 + p) 0x12

/-- `CKPT_NOW` as a write (R143, R146). -/
def Dev.ckptNowOp (d : Dev) (r : Req) (p : Port) (v : Nat) : Op :=
  d.one r (0x5200 + p) 4 v [(!(d.native p && d.carriesData p), .state)] (fun d => d.checkpoint p)

/-- `CKPT_NOW` (R143). -/
def execCkptNow (r : Req) (p : Port) (v : Nat) (s : State) : Host.Outcome State Fault Refusal :=
  s.write r (0x5200 + p) 4 (fun _ d => d.ckptNowOp r p v)

/-- `CKPT_TIMER` (R143). -/
def execCkptTimer (p : Port) (s : State) : Host.Outcome State Fault Refusal := s.event (fun d => d.checkpoint p)

/-- `CHECKPOINT_DONE` (R142, R143). -/
def execCheckpointDone (p : Port) (s : State) : Host.Outcome State Fault Refusal := s.event (fun d => d.checkpointDone p)

/-- An ECC error of the store at an offset of a slot is corrected, or takes its slot (R146, R399); its DETAIL is the address in the store (R142, R408). -/
def Dev.storeError (d : Dev) (p : Port) (slot : Fin 2) (correctable : Bool) (offset : Nat) : Dev :=
  let n := dieOf p
  let address := slotOffset p slot + offset % 0x8000
  if correctable then (d.inc 0x5700 (n + 1)).notice (srcStore n) 1 address
  else ((d.onSignal p (fun s => { s with slots := upd s.slots slot (fun _ => none) })).inc 0x5701 (n + 1)).notice (srcStore n) 2 address

/-- `COEF_STORE_ECC_ERROR` (R146). -/
def execCoefStoreEccError (p : Port) (slot : Fin 2) (correctable : Bool) (address : Nat) (s : State) : Host.Outcome State Fault Refusal :=
  s.event (fun d => d.storeError p slot correctable address)

/-! ## Coefficient windows (R136 to R141) -/

/-- A selection: port, pair, engine, first tap, count. -/
structure Selection where
  port : Nat
  pair : Nat
  engine : Nat
  first : Nat
  count : Nat
  deriving DecidableEq, Repr

/-- The selection that eight bytes give. -/
def selectionOf (v : Nat) : Selection :=
  { port := octet8 0, pair := octet8 1, engine := octet8 2, first := field v 16 16, count := field v 0 16 }
where
  octet8 (i : Nat) : Nat := v / 256 ^ (7 - i) % 256

/-- The port of a selection, when it has one. -/
def Selection.port? (s : Selection) : Option Port := if h : s.port < 128 then some ⟨s.port, h⟩ else none

/-- Some check of the selection's port holds. -/
def Selection.portIs (s : Selection) (f : Port → Bool) : Bool := match s.port? with | some p => f p | none => false

/-- The selection lies in what its engine holds (R137). -/
def Dev.selectionInRange (d : Dev) (s : Selection) : Bool :=
  s.port < 128 && s.pair < 4 && s.engine < 11 && 1 ≤ s.count && s.count ≤ 256
  && s.portIs (fun p => s.first + s.count ≤ tapsOn (d.refMode p) s.pair s.engine)

/-- The values of a selection. -/
def Dev.selected (d : Dev) (s : Selection) : List Int :=
  match s.port? with
  | none => []
  | some p => (List.range s.count).map (fun i => d.tapNow p ⟨s.pair % 4, by omega⟩ ⟨s.engine % 11, by omega⟩ (s.first + i))

/-- I32 values as an OCTETS(1024). -/
def packI32 (vs : List Int) : Nat :=
  (List.range 256).foldl (fun n i => n * 2 ^ 32 + unsigned 32 (vs.getD i 0)) 0

/-- The selection of eight bytes without what their reserved byte holds (R8). -/
def storedSelection (sel : Nat) : Nat := sel % 2 ^ 32 + sel / 2 ^ 40 % 2 ^ 24 * 2 ^ 40

/-- The window has an accepted capture since the last warm reset: a selection counts one tap at least (R136, R137). -/
def Dev.captured (d : Dev) (w : Fin 16) : Bool := d.get (0x5400 + w) 5 % 65536 ≠ 0

/-- Latch a selection into a window. COEF_STATE reads CAPTURED even while a request of the window ramps or is held, until that request's next change overwrites it
(DESIGN CHOICE, log entry 102). -/
def Dev.capture (d : Dev) (w : Fin 16) (sel : Nat) : Dev :=
  let s := selectionOf sel
  let d := match s.port? with | some p => d.moveOn p false | none => d
  let d' := ((d.put (0x5400 + w) 6 (packI32 (d.selected s))).put (0x5400 + w) 5 (storedSelection sel)).put (0x5400 + w) 4 2
  let d' := (d'.put (0x5400 + w) 7 ((d.get (0x5400 + w) 7 + 1) % 65536)).newDraw
  match s.port? with | some p => d'.moveOn p false | none => d'

/-- A write to COEF_CAPTURE (R137). -/
def Dev.captureOp (d : Dev) (r : Req) (w : Fin 16) (sel : Nat) : Op :=
  let s := selectionOf sel
  d.command r (0x5400 + w) 1 sel
    [(s.portIs (fun p => (d.port p).tested), .busy),
     (s.engine < 11 && s.portIs (fun p => tapsOn (d.refMode p) (s.pair % 4) s.engine = 0), .state),
     (!d.selectionInRange s, .range)]
    (fun d => d.capture w sel)

/-- `COEF_CAPTURE` (R136, R137). -/
def execCoefCapture (r : Req) (w : Fin 16) (sel : Nat) (s : State) : Host.Outcome State Fault Refusal :=
  s.write r (0x5400 + w) 1 (fun _ d => d.captureOp r w sel)

/-- The I32 values of an OCTETS(1024), as many as a selection counts. -/
def unpackI32 (v count : Nat) : List Int := (List.range count).map (fun i => signed 32 (field v (32 * (255 - i)) 32))

/-- The value fits 24 bits. -/
def fits24 (i : Int) : Bool := -(2 ^ 23) ≤ i && i < 2 ^ 23

/-- Body of a COEF_WRITE touchmark entry (R237). -/
def coefBody (s : Selection) (w action : Nat) : List Byte :=
  bytesOf 1 s.port ++ bytesOf 1 s.pair ++ bytesOf 1 s.engine ++ bytesOf 1 w ++ bytesOf 2 s.first ++ bytesOf 2 s.count ++ bytesOf 1 action

/-- A request to write a selection: a ramp now, or held behind the running one, in place of one held before (R138, R139). -/
def Dev.coefRequest (d : Dev) (p : Port) (w : Fin 16) (s : Selection) (values : Nat) : Dev :=
  let k : Pair := ⟨s.pair % 4, by omega⟩
  let e : Fin 11 := ⟨s.engine % 11, by omega⟩
  let d := d.moveOn p false
  let g := d.engine p k e
  let req : Ramp := { window := some w, values := (List.range s.count).filterMap (fun i =>
    (d.tapKey p e (s.first + i)).map (fun key => (key, (unpackI32 values s.count).getD i 0))) }
  match g.ramp, g.waiting with
  | none, _ => ((d.onEngine p k e (fun g => { g with overridden := true, ramp := some (d.rampFrom p k e g req) })).put (0x5400 + w) 4 3).touch 0x0013 (coefBody s w 0)
  | some _, none => ((d.onEngine p k e (fun g => { g with overridden := true, waiting := some req })).put (0x5400 + w) 4 4).touch 0x0013 (coefBody s w 1)
  | some _, some old =>
    (((d.onEngine p k e (fun g => { g with overridden := true, waiting := some req })).windowShows old.window 6).put (0x5400 + w) 4 4).touch
      0x0013 (coefBody s w 2)

/-- A write to COEF_WRITE (R138). -/
def Dev.coefWriteOp (d : Dev) (r : Req) (w : Fin 16) (values : Nat) : Op :=
  let s := selectionOf (d.get (0x5400 + w) 5)
  let captured := d.captured w
  d.command r (0x5400 + w) 2 values
    [(captured && s.engine = 10, .access),
     (captured && s.portIs (fun p => (d.port p).tested), .busy),
     d.roomToLog,
     (!captured || !s.portIs (fun p => d.carriesData p)
        || (s.engine = 9 && (List.range s.count).any (fun i => s.portIs (fun p => (d.tapKey p 9 (s.first + i)).isNone))), .state),
     (!(unpackI32 values s.count).all fits24, .range)]
    (fun d => match s.port? with | some p => d.coefRequest p w s values | none => d)

/-- `COEF_WRITE` (R138, R139). -/
def execCoefWrite (r : Req) (w : Fin 16) (values : Nat) (s : State) : Host.Outcome State Fault Refusal :=
  s.write r (0x5400 + w) 2 (fun _ d => d.coefWriteOp r w values)

/-- A coefficient ramp ends: its values stand, the held request starts, a checkpoint is taken (R138, R139, R141). -/
def Dev.coefRampEnd (d : Dev) (p : Port) (k : Pair) (e : Fin 11) : Dev :=
  match (d.engine p k e).ramp with
  | none => d
  | some r =>
    let d' := (d.onEngine p k e (fun g => { g.land r with ramp := g.waiting.map (d.rampFrom p k e (g.land r)), waiting := none })).windowShows r.window 5
    let d' := match (d.engine p k e).waiting with
      | some q => d'.windowShows q.window 3
      | none => d'
    d'.checkpoint p

/-- `COEF_RAMP_END` (R138, R139, R141). -/
def execCoefRampEnd (p : Port) (pair : Pair) (engine : Fin 11) (s : State) : Host.Outcome State Fault Refusal :=
  s.event (fun d => d.coefRampEnd p pair engine)

/-- The override of a selection ends; the engine adapts from its present values (R140). Without an accepted capture a release answers OK and does nothing; a ramp of the
engine, and a request held behind it, go on (DESIGN CHOICE, log entry 102). -/
def Dev.coefReleaseOp (d : Dev) (r : Req) (w : Fin 16) (v : Nat) : Op :=
  let s := selectionOf (d.get (0x5400 + w) 5)
  d.one r (0x5400 + w) 3 v [(d.captured w && s.portIs (fun p => (d.port p).tested), .busy)]
    (fun d => if !d.captured w then d else match s.port? with
      | some p => (d.onEngine p ⟨s.pair % 4, by omega⟩ ⟨s.engine % 11, by omega⟩ (fun g => { g with overridden := false })).moveOn p false
      | none => d)

/-- `COEF_RELEASE` (R140). -/
def execCoefRelease (r : Req) (w : Fin 16) (v : Nat) (s : State) : Host.Outcome State Fault Refusal :=
  s.write r (0x5400 + w) 3 (fun _ d => d.coefReleaseOp r w v)

/-! ## Timed hold (R134) -/

/-- A write to ADAPT_HOLD. -/
def Dev.adaptHoldOp (d : Dev) (r : Req) (p : Port) (ms : Nat) : Op :=
  d.command r (0x5000 + p) 0xB ms [(!d.linkUp p, .state), (60000 < ms, .range)]
    (fun d => if ms = 0 then (d.onSignal p (fun s => { s with holdUntil := none })).moveOn p false
      else d.onSignal p (fun s => { s with holdUntil := some (d.uptime + ms * 1000) }))

/-- `ADAPT_HOLD` (R134). -/
def execAdaptHold (r : Req) (p : Port) (ms : Nat) (s : State) : Host.Outcome State Fault Refusal :=
  s.write r (0x5000 + p) 0xB (fun _ d => d.adaptHoldOp r p ms)

/-- `ADAPT_HOLD_EXPIRY` (R134). -/
def execAdaptHoldExpiry (p : Port) (s : State) : Host.Outcome State Fault Refusal :=
  s.event (fun d => if (d.port p).signal.holdUntil.isSome then (d.onSignal p (fun s => { s with holdUntil := none })).moveOn p false else d)

/-! ## Margins (R129, R193) -/

/-- The margin of a signal-to-noise ratio in a mode, Q8.8 dB (R129). -/
def marginOf (mode : Nat) (snr : Int) : Int :=
  snr - (match mode with
    | 10 => 6528 | 9 => 5888 | 8 => 5888 | 7 => 6016 | 6 => 6016 | 5 => 5632 | 4 => 5376 | 3 => 5376 | 2 => 4608 | 1 => 4096 | _ => 0)

/-- The received direction is active and no hold applies (R193). -/
def Dev.rxActive (d : Dev) (p : Port) : Bool :=
  !(d.port p).link.held && !d.relockHolds p && (d.get (0x4200 + p) 5 < 2)

/-- The objects of R129 take the values of one millisecond, for each pair that receives. -/
def Dev.marginsPut (d : Dev) (p : Port) (snr : Vector Int 4) : Dev :=
  let m := fun k : Fin 4 => saturate 16 (marginOf (d.mode p) (snr.get k))
  let used := fun k : Fin 4 => receives (d.mode p) k.val
  let d := forAll 4 (fun k d => if !used k then d else (d.put (0x4300 + p) (1 + k.val) (unsigned 16 (m k))).put (0x4300 + p) (5 + k.val) (unsigned 16 (saturate 16 (snr.get k)))) d
  let low := (allFin 4).foldl (fun l k => if used k then min l (m k) else l) (signed 16 (d.get (0x4300 + p) 9))
  let d := d.put (0x4300 + p) 9 (unsigned 16 low)
  d.onLink p (fun l => { l with lowMargin := Vector.ofFn (fun k : Fin 4 =>
    if used k && m k < signed 16 (d.get (0x4180 + p) 0x15) then l.lowMargin.get k + 1 else 0) })

end Sys2Proof.Machine
end

