-- ==== Sys2Proof/Machine/Train.lean ====
section
/-! DEFINITION. Training of native links (R151, R153, R154, R172 to R177). -/

namespace Sys2Proof.Machine

/-! ## Hush start (R153, R154) -/

/-- Another member of the port's group is in HUSH. -/
def Dev.hushTaken (d : Dev) (p : Port) : Bool := (d.neighbours p).any (fun q => d.bundleState q = 3)

/-- Training of a native link enters stage 1: counts and taps start from zero, overrides end (R137, R140, R174), the trims are those of the present
temperature (R364). -/
def Dev.trainStart (d : Dev) (p : Port) (hushDone : Bool) : Dev :=
  let d := d.onPort p (fun s => { s with
    train := { since := d.uptime, hushDone := hushDone }
    selvage := { heardAt := s.selvage.heardAt }
    native := {}
    signal := { s.signal with engines := Vector.replicate 4 (Vector.replicate 11 {}) } })
  (d.trimsLoad p).put (0x4180 + p) 1 1

/-- The port's hush start begins: HUSH, HUSH_NOTE queued, training at the hush-start level; neighbours learn the port from zero taps (R154). -/
def Dev.hushStart (d : Dev) (p : Port) : Dev :=
  let d := (((d.samplerSees p 8).setBundle p 3).trainStart p false).queueSeq p .hushNote
  ((d.neighbours p).foldl (fun d q => d.clearTapsFor q p) d).othersLearn p

/-- Another member of the port's group waits for its hush start. -/
def Dev.hushQueued (d : Dev) (p : Port) : Bool := (d.neighbours p).any (fun q => d.bundleState q = 2)

/-- The member in HUSH whose place this port takes: it came in this same window, and its local position is higher (R153, R463). -/
def Dev.hushYields (d : Dev) (p : Port) : Option Port :=
  (d.neighbours p).find? (fun q => d.bundleState q = 3 && p < q && (d.port q).signal.hushOrder = d.uptime && (d.port q).train.since = d.uptime)

/-- A member that began its hush start in this window waits instead. -/
def Dev.hushBack (d : Dev) (q : Port) : Dev :=
  (((d.leaveCancelling q).setBundle q 2).onPort q (fun s => { s with
    train := {}, native := {}, selvage := { heardAt := s.selvage.heardAt } })).put (0x4180 + q) 1 0

/-- The port is about to enter stage 1: a member that is master hushes, or waits behind those that hush or wait, in the order of the windows in which they came, and of
their local positions in one window (R463); every other port trains at full level (R151, R153). -/
def Dev.enterTraining (d : Dev) (p : Port) : Dev :=
  if d.bundleState p = 1 && d.isMaster p then
    let d := d.onSignal p (fun s => { s with hushOrder := d.uptime })
    match d.hushYields p with
    | some q => (d.hushBack q).hushStart p
    | none => if d.hushTaken p || d.hushQueued p then d.setBundle p 2 else d.hushStart p
  else d.trainStart p true

/-! ## Stages (R174) -/

def Dev.stage (d : Dev) (p : Port) : Nat := d.get (0x4180 + p) 1

/-- The exit condition of the present stage holds. Stage 5 ends when sealing is established, stage 6 at the data frames. -/
def Dev.stageExit (d : Dev) (p : Port) : Bool :=
  let t := (d.port p).train
  match d.stage p with
  | 1 => t.hushDone && 8 ≤ t.validRun
  | 2 => t.locked && 8 ≤ t.lockedRun
  | 3 => t.converged && t.partnerConverged
  | 4 => t.acksSent.all id && t.acksGot.all id && 1 ≤ t.marginRun
  | _ => false

/-- The taps that this end's receiver asks of the partner for a pair: chosen by the receiver (log entry 6). -/
def Dev.wantedTaps (d : Dev) (p : Port) (pair : Nat) : List Int :=
  (List.range (1 + Config.drawBelow d.draws 32)).map (fun i => signed 16 (unsigned 16 (Config.adaptedTap p.val pair 10 d.draws i)))

/-- Enter a stage: its timer and its counts start, but the partner's runs of LOCKED and of STAGE 6, which may have begun before (R174,
R177); stage 4 sends PRECODER for every pair, stage 5 begins the seal exchange. The engines have adapted in the stage that ends (R130). -/
def Dev.enterStage (d : Dev) (p : Port) (s : Nat) : Dev :=
  let d := ((d.moveOn p false).put (0x4180 + p) 1 s).onTrain p (fun t => { t with
    since := d.uptime, validRun := 0, stage6Sent := 0, marginRun := 0 })
  match s with
  | 4 => (forAll 4 (fun k d => d.queueSeq p (.precoder k.val (d.wantedTaps p k.val))) d).newDraw
  | 5 => d.sealStart p 0 0
  | _ => d

/-- The stage after a stage: sealing is left out of a link that is not sealed. -/
def Dev.nextStage (d : Dev) (p : Port) : Nat :=
  if d.stage p = 4 && !(d.port p).link.toSeal then 6 else d.stage p + 1

/-- Enter the next stage when the exit condition of the present one holds. -/
def Dev.stageAdvance (d : Dev) (p : Port) : Dev :=
  if d.linkState p = 3 && d.native p && d.stageExit p then d.enterStage p (d.nextStage p) else d

/-- The timer of the present stage ends: an exit condition takes precedence (R175); a stage 5 timeout is a sealing failure (R224). -/
def Dev.stageTimeout (d : Dev) (p : Port) : Dev :=
  if d.stageExit p then d.stageAdvance p
  else if d.stage p = 5 then if (d.port p).crypt.failing.isSome then d.sealFailEnd p else d.sealFail p 5 5
  else d.attemptFailed p (d.stage p)

/-- Data flows: LINK_UP, a new LINK_EPOCH, the first checkpoint falls due, received telemetry and adaptation begin (R142, R143, R177). -/
def Dev.dataEntry (d : Dev) (p : Port) : Dev :=
  ((((d.moveOn p false).linkEstablished p).onLink p (fun l => { l with epoch := l.epoch + 1 })).moveOn p false).checkpoint p

/-- The native end has both sent and received a data frame: it enters DATA (R177). -/
def Dev.dataCheck (d : Dev) (p : Port) : Dev :=
  let t := (d.port p).train
  if d.linkState p = 3 && t.dataSent && t.dataGot then d.dataEntry p else d

end Sys2Proof.Machine
end

