-- ==== Sys2Proof/Machine/Sending.lean ====
section
/-! DEFINITION. What the transmitter of a native port sends: the payload's block stream (R94, R95, R471), flags (R101, R102), symbols through the precoder
and the shaping filter (R86, R122, R123), and whole frames: data frames, and the training frames of bursts and refreshes (R172, R173). -/

namespace Sys2Proof.Machine

/-! ## Blocks (R94, R95, R471) -/

/-- An EVENT word. -/
def eventWord (type offset : Nat) : List Byte := bytesOf 2 (type * 2 ^ 14 + offset)

/-- The data area of a CONTROL block with so many events. -/
def areaSize (events : Nat) : Nat := 255 - 2 * events

/-- A CONTROL block: its events and its data area, filled up with zeros. -/
def controlBlock (events : List (Nat × Nat)) (area : List Byte) : List Bool :=
  false :: bitsOfBytes (bytesOf 1 events.length ++ (events.map (fun e => eventWord e.1 e.2)).flatten ++ exactly (areaSize events.length) area)

/-- A DATA block. -/
def dataBlock (area : List Byte) : List Bool := true :: bitsOfBytes (exactly 256 area)

/-- So many bytes of a frame can still be ended: after its DATA blocks its last CONTROL block takes 1 to 253 (log entry 29). -/
def endable (r : Nat) : Bool := 1 ≤ r % 256 && r % 256 ≤ 253

/-- How much fill goes before the START of a frame of so many bytes, with `at_` bytes of the data area taken and `n` events placed, when the frame does not
end in this block: the least after which the rest can be ended; nothing when the frame cannot start here. -/
def fillBefore (at_ n len : Nat) : Option Nat :=
  if 12 < n + 1 then none
  else (List.range 4).find? (fun k => at_ + k < areaSize (n + 1) && areaSize (n + 1) < at_ + k + len && endable (len - (areaSize (n + 1) - (at_ + k))))

/-- A block being filled: its events and its data area; the frames left, in order; those that have started in it, by their place in the line and by the place
of their first byte in the data area; and those that have ended. -/
structure Packed where
  events : List (Nat × Nat) := []
  area : List Byte := []
  left : List TxFrame
  starts : List (Nat × Nat) := []
  done : List TxFrame := []
  deriving DecidableEq, Repr

/-- TYPE of the event that ends a frame. -/
def endType (t : TxFrame) : Nat := if t.abort then 2 else 1

/-- Place what fits of the frames in a CONTROL block, event by event. -/
def packControl : Nat → Packed → Packed
  | 0, k => k
  | fuel + 1, k =>
    match k.left with
    | [] => k
    | t :: rest =>
      let at_ := k.area.length
      let n := k.events.length
      let len := t.line.length
      if t.sent ≠ 0 then
        packControl fuel { k with
          events := k.events ++ [(endType t, at_ + (len - t.sent) - 1)], area := k.area ++ t.line.drop t.sent
          left := rest, done := k.done ++ [{ t with sent := len }] }
      else if n + 2 ≤ 12 && at_ + len ≤ areaSize (n + 2) then
        packControl fuel { k with
          events := k.events ++ [(0, at_), (endType t, at_ + len - 1)], area := k.area ++ t.line
          left := rest, starts := k.starts ++ [(k.done.length, at_)], done := k.done ++ [{ t with sent := len }] }
      else match fillBefore at_ n len with
        | none => k
        | some f =>
          let take := areaSize (n + 1) - (at_ + f)
          { k with
            events := k.events ++ [(0, at_ + f)], area := k.area ++ List.replicate f 0 ++ t.line.take take
            left := { t with sent := take } :: rest, starts := k.starts ++ [(k.done.length, at_ + f)] }

/-- A frame that has begun and would leave a rest that no block can end stops there with ABORT: the transmitter never lets it come to that (log entry 29). -/
def endingHere (t : TxFrame) : TxFrame :=
  if t.sent ≠ 0 && 253 < t.line.length - t.sent then { t with line := t.line.take (t.sent + 253), abort := true } else t

/-- The next block of the stream: its bits, and what is left; starts by the byte of the block at which they lie. -/
def nextBlock (frames : List TxFrame) : List Bool × Packed :=
  match frames with
  | t :: rest =>
    if t.sent ≠ 0 && 257 ≤ t.line.length - t.sent then
      (dataBlock ((t.line.drop t.sent).take 256), { left := { t with sent := t.sent + 256 } :: rest })
    else
      let k := packControl 13 { left := endingHere t :: rest }
      (controlBlock k.events k.area, { k with starts := k.starts.map (fun s => (s.1, 1 + 2 * k.events.length + s.2)) })
  | [] => (controlBlock [] [], { left := [] })

/-- What fills the payload of a frame: the bits gathered, the frames not ended, the starts by the place of the frame among all and the bit of the payload, and
the frames ended. -/
structure Filling where
  bits : List Bool
  frames : List TxFrame
  starts : List (Nat × Nat) := []
  finished : List TxFrame := []
  deriving DecidableEq, Repr

/-- Add blocks until the payload is full; eight suffice. -/
def fillPayload (want : Nat) : Nat → Filling → Filling
  | 0, s => s
  | fuel + 1, s =>
    if want ≤ s.bits.length then s
    else
      let (b, k) := nextBlock s.frames
      fillPayload want fuel {
        bits := s.bits ++ b, frames := k.left
        starts := s.starts ++ k.starts.map (fun e => (s.finished.length + e.1, s.bits.length + 1 + 8 * e.2))
        finished := s.finished ++ k.done }

/-- The frames a port's transmitter holds: the one in transmission and those behind it. -/
def Dev.txFrames (d : Dev) (p : Port) : List TxFrame := (d.port p).native.tx.toList ++ (d.port p).native.after

/-- The transmitter's block stream after a payload. -/
def Dev.fillKept (d : Dev) (p : Port) (want : Nat) (f : Filling) : Dev :=
  d.onNative p (fun n => { n with txBits := f.bits.drop want, tx := f.frames.head?, after := f.frames.tail })

/-! ## Flags (R101) -/

/-- LF and RF of this end. -/
def Dev.faultFlags (d : Dev) (p : Port) : Nat :=
  (if d.hlState p ≠ 2 || (d.port p).host.switchSends = .localFault then 32 else 0)
    + (if (d.port p).link.held || !(d.port p).native.rxValid || (d.port p).native.partnerLf then 16 else 0)

/-! ## Symbols (R86, R122, R123) -/

/-- Taps accepted before this frame boundary take effect; they become the PRECODER engine's values. -/
def Dev.tapsTakeEffect (d : Dev) (p : Port) : Dev :=
  forAll 4 (fun k d => match (d.port p).train.newTaps.get k with
    | none => d
    | some ts =>
      (d.onEngine p k 10 (fun _ => { written := (List.range ts.length).map (fun i => (i, ts.getD i 0)) })).onTrain p (fun t => { t with
        newTaps := upd t.newTaps k (fun _ => none), precoding := upd t.precoding k (fun _ => true) })) d

/-- The taps a pair precodes with. -/
def Dev.precoderTaps (d : Dev) (p : Port) (k : Pair) : List Int :=
  if (d.port p).train.precoding.get k then (List.range 32).map (fun i => d.tapNow p k 10 i) else []

/-- The taps of the shaping filter in Q1.14: the custom profile, or the mode's default. -/
def Dev.shapingTaps (d : Dev) (p : Port) : List Int :=
  (List.range 8).map (fun i => if d.get (0x5100 + p) 1 = 1 then signed 16 (d.get (0x5100 + p) (2 + i)) else Config.shapingTap (d.mode p) i)

/-- Values through the shaping filter: taps, what it took before, newest first. -/
def shape (taps : List Int) : List Rat → List Rat → List Rat × List Rat
  | seen, [] => ([], seen)
  | seen, x :: l =>
    let (out, seen') := shape taps ((x :: seen).take 7) l
    ((List.zipWith (fun (t : Int) (v : Rat) => (t : Rat) / 16384 * v) taps (x :: seen)).sum :: out, seen')

/-- The factor of a level reduction of so many quarters of a dB, 10 to the power of a negative 80th: the greatest multiple of 2^-32 that is not above it
(R123; log entry 80). -/
def levelFactor (quarters : Nat) : Rat :=
  ((List.range 33).foldl (fun x i => if (x + 2 ^ (32 - i)) ^ 80 * 10 ^ quarters ≤ 2 ^ 2560 then x + 2 ^ (32 - i) else x) 0 : Nat) / (2 ^ 32 : Nat)

/-- Line values at the level of the port: a quarter in its hush start (R154), and reduced by TX_LEVEL (R123). -/
def Dev.lineLevel (d : Dev) (p : Port) (x : Rat) : Rat :=
  (if d.bundleState p = 3 then x / 4 else x) * levelFactor (signed 16 (d.get (0x5100 + p) 0xA)).natAbs

/-- Send a frame's symbols through the precoders, at the port's level, and through the shaping filters. -/
def Dev.sendSymbols (d : Dev) (p : Port) (syms : Nat → List Int) : Dev :=
  let coded := (allFin 4).map (fun k => precode (d.precoderTaps p k) ((d.port p).native.thp.get k) (syms k.val))
  let taps := d.shapingTaps p
  let line := (allFin 4).map (fun k => shape taps ((d.port p).native.shaped.get k) ((coded.getD k.val ([], [])).1.map (d.lineLevel p)))
  (d.onNative p (fun n => { n with
    thp := Vector.ofFn (fun k : Fin 4 => (coded.getD k.val ([], [])).2)
    shaped := Vector.ofFn (fun k : Fin 4 => (line.getD k.val ([], [])).2) })).emit (.symbols p (line.map (·.1)))

/-! ## Whole frames -/

/-- Send a data frame with flags, a selvage bit and a payload (R84 to R93). -/
def Dev.dataFrame (d : Dev) (p : Port) (flags : Nat) (sv : Option Bool) (payload : List Bool) : Dev :=
  let mode := d.mode p
  let number := (d.port p).native.txNumber
  let info := overhead mode number flags sv ++ scramble mode number payload
  (d.sendSymbols p (pairSymbols (labels mode (codewords mode info)))).onNative p (fun n => { n with txNumber := (n.txNumber + 1) % 65536 })

/-- Frames that have ended on the line, errored or whole. -/
def Dev.framesOut (d : Dev) (p : Port) (l : List TxFrame) : Dev := (l.foldl (fun d t => d.frameGone p t) d).flowCheck p .egress

/-- Send data frames that carry a flag, LF and RF as they stand: the block stream ends what it has begun and is filled (R102, R184, R199). The selvage stream stops
with the first of them: they carry no bit of it, and its clock does not run (R108; DESIGN CHOICE, log entry 101). -/
def Dev.flagFrames (p : Port) (flag : Nat) : Nat → Dev → Dev
  | 0, d => d
  | count + 1, d =>
    let want := payloadBits (d.mode p)
    let f := fillPayload want 8 { bits := (d.port p).native.txBits, frames := (d.port p).native.tx.toList }
    let d := (d.dataFrame p (d.faultFlags p + flag) none (f.bits.take want)).fillKept p want f
    Dev.flagFrames p flag count (d.framesOut p f.finished)

/-- Send training frames of a burst or refresh: STAGE 7, the flags as they stand with QUIET and DEEP where deep quiet is asked for (R172, R173, R203). LOCKED and
CONVERGED are 1, in a relock's burst too, before this end has reacquired (DESIGN CHOICE, log entry 106). -/
def Dev.sendBurst (p : Port) (flag : Nat) : Nat → Dev → Dev
  | 0, d => d
  | count + 1, d =>
    let t := (d.port p).train
    let h := trainHeader 7 true true (d.faultFlags p + flag) none false t.number
    Dev.sendBurst p flag count ((d.sendSymbols p (trainSymbols (d.mode p) 7 h)).onTrain p (fun t => { t with number := t.number + 1 }))

/-- A fault takes what the line has taken of the port's frames: the one in transmission ends with ABORT, those that have not begun are discarded; all count as
FAULT. -/
def Dev.flightLost (d : Dev) (p : Port) : Dev :=
  let d := d.faultTx p
  let waiting := (d.txFrames p).filter (fun t => decide (t.sent = 0))
  let d := d.onNative p (fun n => { n with tx := n.tx.filter (fun t => decide (t.sent ≠ 0)), after := [] })
  (waiting.foldl (fun d t => d.countFault p t) d).flowCheck p .egress

/-- Frames in flight at a relock, both ways (R184, R185, R268). -/
def Dev.relockFlight (d : Dev) (p : Port) : Dev := (d.faultRx p).flightLost p

/-- The host lane gives nothing more of the frames on their way to the line: one that has begun ends with ABORT at its next byte (R95), the others go back to their
queues; those that the line die holds whole, out of the twill link's blocks, go on. -/
def Dev.abortStream (d : Dev) (p : Port) : Dev :=
  let stays := fun t : TxFrame => t.away || decide (t.sent ≠ 0)
  let kept := ((d.txFrames p).filter stays).map (fun t => if t.away then t else { t with line := t.line.take (t.sent + 1), abort := true })
  ((d.txFrames p).filter (fun t => !stays t)).foldr (fun t d => d.putBack p 9 t) (d.onNative p (fun n => { n with tx := kept.head?, after := kept.tail }))

/-- A host lane starts over in ACQUIRING: what crosses it ends errored, and the switch's fault sequences are no longer seen (R249, R250, R268). -/
def Dev.laneAcquire (d : Dev) (p : Port) : Dev :=
  if d.hlState p = 0 then d
  else (((d.abortStream p).cutArrival p).put (0x2100 + p) 1 1).onHost p (fun h => { h with switchSends := .none })

end Sys2Proof.Machine
end

