-- ==== Sys2Proof/Machine/Ports.lean ====
section
/-! DEFINITION. Ports: what they offer, enabling, negotiation, roles, training, back-off, bundle membership (R77 to R81, R147 to R156,
R157 to R182). -/

namespace Sys2Proof.Machine

/-- The port's line die is RUNNING and its twill link UP: the port may send (R15, R16, R160). -/
def Dev.lineServes (d : Dev) (p : Port) : Bool :=
  d.get 0x1010 (dieOf p + 1) = 2 && d.twillState (dieOf p) = 3 && !d.safe

/-! ## Offers and rates -/

/-- The highest mode code of a set in the layout of R77 (R81). -/
def highestMode (modes : Nat) : Nat :=
  match (List.range 10).reverse.find? (fun b => modes.testBit b) with
  | some b => b + 1
  | none => 0

/-- The port's standard-mode setting, as the window's mode register reads it (R74; log entry 62). -/
def Dev.standardSet (d : Dev) (p : Port) (mode : Nat) : Dev :=
  if 1 ≤ mode && mode ≤ 7 then d.onMgmt (fun m => { m with windowRegs := assocSet m.windowRegs (p.val, 1, 7) (Config.clause45Type mode % 65536) }) else d

/-- A write to PORT_ADVERTISE (R79). -/
def Dev.advertiseOp (d : Dev) (r : Req) (p : Port) (v : Nat) : Op :=
  d.plainWrite r (0x4000 + p) 4 v [] (fun d => (d.standardSet p (highestMode (v % 128))).readvertise p)

/-- `PORT_ADVERTISE_WRITE` (R77 to R79). -/
def execPortAdvertiseWrite (r : Req) (p : Port) (v : Nat) (s : State) : Host.Outcome State Fault Refusal :=
  s.write r (0x4000 + p) 4 (fun _ d => d.advertiseOp r p v)

/-- A host lane takes a new rate: ACQUIRING, RATE_CHANGED, R79 for the port, R298 for the die (R249). -/
def Dev.rateChanged (d : Dev) (p : Port) : Dev :=
  let d := d.laneAcquire p
  ((d.event (0x2080 + p) 2).readvertise p).shedEval (dieOf p)

/-- A write to HL_RATE: the present rate changes nothing (R249). -/
def Dev.rateOp (d : Dev) (r : Req) (p : Port) (v : Nat) : Op :=
  d.plainWrite r (0x2000 + p) 1 v [] (fun d' => if v = d.get (0x2000 + p) 1 then d' else d'.rateChanged p)

/-- `HL_RATE_WRITE` (R247, R249). -/
def execHlRateWrite (r : Req) (p : Port) (v : Nat) (s : State) : Host.Outcome State Fault Refusal :=
  s.write r (0x2000 + p) 1 (fun _ d => d.rateOp r p v)

/-- The pairs of a standard mode, crossed and corrected as its negotiation took PORT_CONTROL (R425). -/
def Dev.mdiShow (d : Dev) (p : Port) : Dev :=
  let c := (d.port p).link.control
  d.emit (.mdi p (field c 2 2) (c.testBit 1))

/-- The link monitor of a forced 100BASE-TX port finds the link good (R80, R128). -/
def Dev.forcedOk (d : Dev) (p : Port) : Dev :=
  if d.linkState p = 2 && d.forced p && d.lineServes p && !(d.port p).diag.any (·.outOfService) then
    let d := ((((d.widen (dieOf p) .down).put (0x4080 + p) 4 1).put (0x5180 + p) 4 3).put (0x4100 + p) 3 5)
    ((d.onLink p (fun l => { l with secy := d.get (0x4400 + p) 1 = 3 })).mdiShow p).linkEstablished p
  else d

/-- `FORCED_LINK_OK` (R80). -/
def execForcedLinkOk (p : Port) (s : State) : Host.Outcome State Fault Refusal := s.event (fun d => d.forcedOk p)

/-! ## Enabling -/

/-- What follows from a new value of one word of PORT_ENABLE_MAP, port by port in ascending order (R157 to R159). -/
def Dev.enableChanges (d : Dev) (sub old new : Nat) : Dev :=
  forAll 64 (fun k d =>
    let p : Port := ⟨(sub - 1) % 2 * 64 + k.val, by omega⟩
    if new.testBit k.val then (if old.testBit k.val then d else d.portOn p)
    else if old.testBit k.val then d.disable p else d) d

/-- A write to one word of PORT_ENABLE_MAP; none after a SHUTDOWN (R418). -/
def Dev.enableOp (d : Dev) (r : Req) (sub v : Nat) : Op :=
  d.plainWrite r 0x1030 sub v [((d.hall.logClosed && v ≠ 0) || d.get 0x6800 5 = 2, .state)] (fun d' => d'.enableChanges sub (d.get 0x1030 sub) v)

/-- The word of PORT_ENABLE_MAP with a port's bit set or cleared. -/
def Dev.enableWord (d : Dev) (p : Port) (b : Bool) : Nat := putBit (d.get 0x1030 (1 + p.val / 64)) (p.val % 64) b

/-- `PORT_ENABLE` (R157, R159): the port's bit is set, through its bit alias. -/
def execPortEnable (r : Req) (p : Port) (s : State) : Host.Outcome State Fault Refusal :=
  s.write r 0x1030 (1 + p.val / 64) (fun _ d => d.enableOp r (1 + p.val / 64) (d.enableWord p true))

/-- `PORT_DISABLE` (R157, R158). -/
def execPortDisable (r : Req) (p : Port) (s : State) : Host.Outcome State Fault Refusal :=
  s.write r 0x1030 (1 + p.val / 64) (fun _ d => d.enableOp r (1 + p.val / 64) (d.enableWord p false))

/-- A write to NEG_RESTART (R171, R182, R299). -/
def Dev.negRestartOp (d : Dev) (r : Req) (p : Port) (v : Nat) : Op :=
  d.one r (0x4100 + p) 2 v [(d.linkState p = 0 || d.linkState p = 10, .state)]
    (fun d => ((d.unshed p).restart p).shedEval (dieOf p))

/-- `NEG_RESTART` (R171). -/
def execNegRestart (r : Req) (p : Port) (v : Nat) (s : State) : Host.Outcome State Fault Refusal :=
  s.write r (0x4100 + p) 2 (fun _ d => d.negRestartOp r p v)

/-! ## Negotiation -/

/-- ROLE_RANK that the port sends (R167). -/
def Dev.ownRank (d : Dev) (p : Port) : Nat :=
  if d.get (0x4100 + p) 1 = 2 then 3
  else if d.groupOf p < 4 then 2
  else if d.get (0x4100 + p) 1 = 0 then 1 else 0

def Dev.sealOffer (d : Dev) (p : Port) : Bool := d.get (0x4400 + p) 1 = 1 || d.get (0x4400 + p) 1 = 2
def Dev.sealRequire (d : Dev) (p : Port) : Bool := d.get (0x4400 + p) 1 = 2

/-- Gwynale's identifier (R164). -/
def gwynaleOui : Nat := 0x4AD9E6

/-- Unformatted page 4 of the port (R165). -/
def Dev.nativePage (d : Dev) (p : Port) : Nat :=
  field (d.effAdvertise p) 7 3 * 256 + d.ownRank p * 64 + (d.sealOffer p).toNat * 32 + (d.sealRequire p).toNat * 16 + 0xD

/-- The native page set: Gwynale's identifier, the SEED, the abilities. -/
def Dev.nativePages (d : Dev) (p : Port) (seed : Nat) : List NextPage :=
  [.message 5, .unformatted (gwynaleOui / 2 ^ 13), .unformatted (field gwynaleOui 2 11), .unformatted (gwynaleOui % 4 * 512 + seed % 512),
    .unformatted (d.nativePage p)]

/-- A message page with the unformatted pages its clause gives; fast retrain is advertised while FAST_RETRAIN_ENABLE is 1 (R164, R170, R197). -/
def Dev.clauseMessage (d : Dev) (p : Port) (code : Nat) : List NextPage :=
  .message code :: (Config.clausePages code (d.effAdvertise p % 128) (d.get (0x4100 + p) 1) (d.flag (0x4180 + p) 0x16)).map NextPage.unformatted

/-- The next pages of a negotiation in their order, null messages while the partner has more (R164). -/
def Dev.nextPages (d : Dev) (p : Port) (seed theirs : Nat) : List NextPage :=
  let own := (if (d.effAdvertise p).testBit 1 then d.clauseMessage p 8 else [])
    ++ (if field (d.effAdvertise p) 2 5 ≠ 0 then d.clauseMessage p 9 else [])
    ++ (if d.get (0x4200 + p) 1 ≠ 0 then d.clauseMessage p 10 else [])
    ++ (if field (d.effAdvertise p) 7 3 ≠ 0 then d.nativePages p seed else [])
  own ++ List.replicate (theirs - own.length) (.message 1)

/-- The native page set that the partner sent: unformatted page 4 and the SEED of its OUI tagged message under Gwynale's identifier; others are ignored. -/
def nativeSet (tagged : List (Vector Nat 4)) : Option (Nat × Nat) :=
  (tagged.find? (fun v => v.get 0 % 2048 * 2 ^ 13 + v.get 1 % 2048 * 4 + v.get 2 / 512 % 4 = gwynaleOui)).map
    (fun v => (v.get 3 % 2048, v.get 2 % 512))

/-- The native modes of an unformatted page 4, in the layout of R77. -/
def pageModes (page : Nat) : Nat := field page 8 3 * 0x80

/-- The native modes common to both ends (R166). -/
def Dev.commonNative (d : Dev) (p : Port) (page : Nat) : Nat :=
  if field page 0 2 ≠ 1 || (d.sealRequire p && !page.testBit 5) || (page.testBit 4 && !d.sealOffer p) then 0
  else d.effAdvertise p &&& pageModes page

/-- The role that two ranks and two seeds give this end: master, slave, or a restart with new seeds (R168). -/
def resolveRole (own partner ownSeed seed : Nat) : Option Bool :=
  if partner < own then some true
  else if own < partner then some false
  else if seed < ownSeed then some true
  else if ownSeed < seed then some false
  else none

/-- Negotiation ends without a link: result, LAST_FAIL and the event that says so. -/
def Dev.negFail (d : Dev) (p : Port) (result cause bit : Nat) : Dev :=
  (((d.put (0x4100 + p) 3 result).event (0x4080 + p) bit).attemptFailed p cause)

/-- A mode and a role are selected: TRAINING, and PORT_MODE_ACTIVE is set (R160; log entry 84). A bundle member that is slave or in a standard mode is
excluded (R169). Both ends' EEE is kept (R198). -/
def Dev.selectMode (d : Dev) (p : Port) (mode result role : Nat) (toSeal retrain : Bool) (able : Nat) : Dev :=
  let d := (((((d.widen (dieOf p) .down).put (0x4080 + p) 4 mode).put (0x5180 + p) 4 role).put (0x4100 + p) 3 result).put (0x4200 + p) 6 able).setLinkState p 3
  let d := d.onLink p (fun l => { l with toSeal := toSeal, secy := d.get (0x4400 + p) 1 = 3, fastRetrainAble := retrain, eee := able.testBit 2 && d.get (0x4200 + p) 1 ≠ 0 })
  if mode < 8 then ((if d.bundleState p = 1 then d.exclude p 2 else d).standardSet p mode).mdiShow p
  else (if d.bundleState p = 1 && role = 2 then d.exclude p 1 else d).enterTraining p

/-- What the partner offered, reported (R171). Found by parallel detection it has offered 100BASE-TX alone (DESIGN CHOICE, log entry 105). -/
def Dev.partnerSeen (d : Dev) (p : Port) (modes : Nat) (native : Option (Nat × Nat)) : Dev :=
  match native with
  | none => (d.put (0x4100 + p) 4 modes).put (0x4100 + p) 5 0
  | some (page, seed) => (d.put (0x4100 + p) 4 (modes ||| pageModes page)).put (0x4100 + p) 5 (page * 2 ^ 16 + seed)

/-- PARTNER_QUIET_ABLE (R208). -/
def quietAble (native : Option (Nat × Nat)) (eee : Bool) : Nat :=
  (match native with
   | some (page, _) => (if page.testBit 3 then 1 else 0) + (if page.testBit 2 then 2 else 0)
   | none => 0) + (if eee then 4 else 0)

/-- A native mode has been selected: roles by rank and seed (R168). -/
def Dev.negNative (d : Dev) (p : Port) (mode page seed ownSeed able : Nat) (retrain : Bool) : Dev :=
  let own := d.ownRank p
  let partner := field page 6 2
  let d := d.put (0x4100 + p) 6 (own * 4 + partner)
  if own = 3 && partner = 3 then d.negFail p 3 8 4
  else match resolveRole own partner ownSeed seed with
    | none => d
    | some m => d.selectMode p mode 1 (if m then 1 else 2) (d.sealOffer p && page.testBit 5) retrain able

/-- A standard mode has been selected: roles as its clause resolved them (R170); a port configured as master by hand becomes nothing else. -/
def Dev.negStandard (d : Dev) (p : Port) (mode able : Nat) (clauseMaster : Option Bool) (retrain : Bool) : Dev :=
  if mode = 1 then d.selectMode p 1 1 3 false false able
  else match clauseMaster with
    | none => d.negFail p 3 8 4
    | some m => d.selectMode p mode 1 (if m || d.get (0x4100 + p) 1 = 2 then 1 else 2) false (retrain && d.flag (0x4180 + p) 0x16 && 3 ≤ mode) able

/-- Clause 28 negotiation ends (R163 to R170). -/
def Dev.negotiated (d : Dev) (p : Port) (partner : NegPartner) : Dev :=
  if !(d.linkState p = 2 && !d.forced p && d.enabled p && d.lineServes p && !(d.port p).diag.any (·.outOfService)) then d
  else match partner with
    | .parallel =>
      let d := d.partnerSeen p 1 none
      if (d.effAdvertise p).testBit 0 then d.selectMode p 1 4 3 false false 0 else d.negFail p 2 7 14
    | .pages modes tagged theirs eee retrain clauseMaster =>
      let native := nativeSet tagged
      let ownSeed := Config.drawBelow d.draws 512
      let d := (d.newDraw.emit (.pages p (Config.basePage (d.effAdvertise p % 128)) (d.nextPages p ownSeed theirs))).partnerSeen p (field modes 0 7) native
      let able := quietAble native eee
      match native with
      | none =>
        let m := highestMode (d.effAdvertise p &&& field modes 0 7)
        if m = 0 then d.negFail p 2 7 14 else d.negStandard p m able clauseMaster retrain
      | some (page, seed) =>
        let m := highestMode ((d.effAdvertise p &&& field modes 0 7) ||| d.commonNative p page)
        if m = 0 then d.negFail p 2 7 14
        else if 8 ≤ m then d.negNative p m page seed ownSeed able retrain
        else d.negStandard p m able clauseMaster retrain

/-- `NEGOTIATION_COMPLETE` (R166, R168 to R170). -/
def execNegotiationComplete (p : Port) (partner : NegPartner) (s : State) : Host.Outcome State Fault Refusal :=
  s.event (fun d => d.negotiated p partner)

/-! ## Training -/

/-- `TRAIN_STAGE_TIMEOUT` (R175, R179). -/
def execTrainStageTimeout (p : Port) (s : State) : Host.Outcome State Fault Refusal :=
  s.event (fun d => if d.linkState p = 3 && 1 ≤ d.stage p then d.stageTimeout p else d)

/-- The stage in progress has lasted as long as its new timeout (R175). -/
def Dev.timeoutNow (d : Dev) (p : Port) (stage v : Nat) : Dev :=
  if d.linkState p = 3 && d.stage p = stage && (d.port p).train.since + v * 1000 ≤ d.uptime then d.stageTimeout p else d

/-- A write to TRAIN_TIMEOUT_1 to TRAIN_TIMEOUT_6. -/
def Dev.timeoutOp (d : Dev) (r : Req) (p : Port) (stage : Fin 6) (v : Nat) : Op :=
  d.plainWrite r (0x4180 + p) (2 + stage) v [] (fun d => d.timeoutNow p (stage + 1) v)

/-- `TRAIN_TIMEOUT_WRITE` (R175). -/
def execTrainTimeoutWrite (r : Req) (p : Port) (stage : Fin 6) (v : Nat) (s : State) : Host.Outcome State Fault Refusal :=
  s.write r (0x4180 + p) (2 + stage) (fun _ d => d.timeoutOp r p stage v)

/-- Training of a standard mode ends (R178, R179): its engines, and the precoder of its clause, have adapted in it (R126, R130). -/
def Dev.standardTrained (d : Dev) (p : Port) (ok : Bool) : Dev :=
  if d.linkState p = 3 && !d.native p then
    (if ok then
      let d := forAll 4 (fun k d => d.onEngine p k 10 (fun g => { g with epoch := d.draws, written := [] })) (d.moveOn p false)
      (d.newDraw.linkEstablished p).moveOn p false
    else d.attemptFailed p 9)
  else d

/-- `STANDARD_TRAINING_DONE` (R178). -/
def execStandardTrainingDone (p : Port) (ok : Bool) (s : State) : Host.Outcome State Fault Refusal :=
  s.event (fun d => d.standardTrained p ok)

/-- `BACKOFF_END` (R180): ATTEMPTS is 0 and the port negotiates. -/
def execBackoffEnd (p : Port) (s : State) : Host.Outcome State Fault Refusal :=
  s.event (fun d => if d.linkState p = 9 then
    ((d.onLink p (fun l => { l with backoffUntil := none })).put (0x4180 + p) 0xB 0).negotiate p else d)

/-! ## Bundle groups -/

/-- A waiting member starts its hush start when none is in HUSH and it is first in line (R151, R153). -/
def Dev.hushNext (d : Dev) (p : Port) : Dev :=
  if d.bundleState p = 2 && !d.hushTaken p
      && (d.neighbours p).all (fun q => d.bundleState q ≠ 2
        || (d.port p).signal.hushOrder < (d.port q).signal.hushOrder
        || ((d.port p).signal.hushOrder = (d.port q).signal.hushOrder && p < q))
  then d.hushStart p else d

/-- `HUSH_START` (R154). -/
def execHushStart (p : Port) (s : State) : Host.Outcome State Fault Refusal := s.event (fun d => d.hushNext p)

/-- The hush start of a port ends: the neighbours that could have learned it, full level, every neighbour's taps for it times 4, ACTIVE, stage 1 may end
(R154, R176). -/
def Dev.hushDone (d : Dev) (p : Port) : Dev :=
  let d := d.othersLearn p
  let d := ((d.setBundle p 4).inc (0x4380 + p) 0x10).onTrain p (fun t => { t with hushDone := true })
  let d := (d.neighbours p).foldl (fun d q =>
    if d.cancelled q then forAll 4 (fun k d => d.onEngine q k 9 (fun g => g.quadruple (localOf p) d.draws)) d else d) d
  (d.newDraw.othersLearn p).stageAdvance p

/-- `HUSH_END` (R154). -/
def execHushEnd (p : Port) (s : State) : Host.Outcome State Fault Refusal :=
  s.event (fun d => if d.bundleState p = 3 then d.hushDone p else d)

/-- A member leaves its group (R151, R156); BUNDLE_STATE becomes NONE. -/
def Dev.leaveGroup (d : Dev) (p : Port) : Dev :=
  match d.bundleState p with
  | 2 => (d.setBundle p 0).trainStart p true
  | 3 => ((((d.leaveCancelling p).setBundle p 0).onTrain p (fun t => { t with hushDone := true }))).stageAdvance p
  | 4 => (d.leaveCancelling p).setBundle p 0
  | _ => d.setBundle p 0

/-- A port joins a group: WAITING without a link, else as R155 places it. -/
def Dev.joinGroup (d : Dev) (p : Port) : Dev :=
  if d.linkUp p then d.placeMember p else d.setBundle p 1

/-- A write to BUNDLE_GROUP (R147): leaving first, then joining. -/
def Dev.groupOp (d : Dev) (r : Req) (p : Port) (v : Nat) : Op :=
  let old := d.groupOf p
  { checks := d.plainChecks r (0x4380 + p) 1 v ++
      [(3 < v && v ≠ 0xFF, .range), (v < 4 && old ≠ v && 8 ≤ (d.members (dieOf p) v).length, .range)]
    effect := fun d =>
      if v = old then (d.put (0x4380 + p) 1 v).configured
      else
        let d := ((if old < 4 then d.leaveGroup p else d).put (0x4380 + p) 1 v).configured
        if v < 4 then d.joinGroup p else d }

/-- `BUNDLE_GROUP_WRITE` (R147, R151, R155, R156). -/
def execBundleGroupWrite (r : Req) (p : Port) (v : Nat) (s : State) : Host.Outcome State Fault Refusal :=
  s.write r (0x4380 + p) 1 (fun _ d => d.groupOp r p v)

end Sys2Proof.Machine
end

