-- ==== Sys2Proof/Machine/Quiet.lean ====
section
/-! DEFINITION. Quiet, deep quiet, low-power idle and wakes (R198 to R206). -/

namespace Sys2Proof.Machine

/-- QUIET_STATE_TX and QUIET_STATE_RX (R208). -/
def Dev.txQuiet (d : Dev) (p : Port) : Nat := d.get (0x4200 + p) 4
def Dev.rxQuiet (d : Dev) (p : Port) : Nat := d.get (0x4200 + p) 5
def Dev.setTxQuiet (d : Dev) (p : Port) (v : Nat) : Dev := d.put (0x4200 + p) 4 v
def Dev.setRxQuiet (d : Dev) (p : Port) (v : Nat) : Dev := d.put (0x4200 + p) 5 v

/-- Quiet is over: the engines it held have moved on, the neighbours' taps for the port too, and a checkpoint that fell due is taken (R131, R143). -/
def Dev.quietOver (d : Dev) (p : Port) : Dev := (((d.setLinkState p 4).moveOn p false).othersLearn p).checkpointIfDue p

/-- LINK_STATE as the two directions give it: DATA when both are active, DEEP_QUIET until both are again, else QUIET (R160). -/
def Dev.quietLink (d : Dev) (p : Port) : Dev :=
  if d.linkState p = 5 then d
  else if d.txQuiet p = 0 && d.rxQuiet p = 0 then (if d.linkState p = 4 then d else d.quietOver p)
  else if d.linkState p = 7 then d
  else d.setLinkState p 6

/-- Whole training frames of a burst of at least so many nanoseconds in a mode (R82). -/
def burstFrames (mode ns : Nat) : Nat :=
  match mode with
  | 10 => (ns + 74) / 75
  | 9 => (2 * ns + 254) / 255
  | _ => (ns + 254) / 255

/-- The own transmitter is quiet. -/
def Dev.txAsleep (d : Dev) (p : Port) : Bool := d.txQuiet p = 2 || d.txQuiet p = 3 || d.txQuiet p = 4

/-- A frame or a flow-control frame towards the line is pending: a quiet direction wakes with a burst, a deep-quiet link with a tone (R201,
R205); not during a relock, whose end looks again (R190). The twill link widens (R292). -/
def Dev.wake (d : Dev) (p : Port) : Dev :=
  if !d.txAsleep p || (d.port p).link.relock.isSome then d
  else
    let d := (((d.samplerSees p 9).widen (dieOf p) .down).widen (dieOf p) .up).quietLeave p
    if !d.native p then ((d.setTxQuiet p 0).onLink p (fun l => { l with dataSince := d.uptime })).quietLink p
    else if d.linkState p = 7 then (d.setTxQuiet p 5).emit (.wakeTone p)
    else Dev.sendBurst p 0 (burstFrames (d.mode p) 600) (d.setTxQuiet p 5)

/-- The port has something to send to the line, or on its way there. -/
def Dev.linePending (d : Dev) (p : Port) : Bool :=
  d.occupancy p .egress ≠ 0 || (d.flow p .ingress).pending.isSome || !(d.txFrames p).isEmpty

/-- Wake when something is pending. -/
def Dev.wakeIfPending (d : Dev) (p : Port) : Dev := if d.linePending p then (d.widen (dieOf p) .down).wake p else d

/-- A frame by the in-band route, a response or a NOTIFY, can make a flow-control frame to the line pending: a quiet direction wakes for it (R201, R205). -/
def Dev.inbandWake (d : Dev) : Dev := if h : d.get 0x1424 1 < 128 then d.wakeIfPending ⟨d.get 0x1424 1, h⟩ else d

/-- A sequencer message waits or is in transit (R108). -/
def Dev.seqInTransit (d : Dev) (p : Port) : Bool :=
  !(d.port p).selvage.sequencer.isEmpty
  || (match (d.port p).selvage.sending with
      | some m => 0x10 ≤ m.type && m.type < 0x40
      | none => false)

/-- The conditions of R198, R199 and R355 for the own direction, but the time. -/
def Dev.mayQuiet (d : Dev) (p : Port) : Bool :=
  1 ≤ d.get (0x4200 + p) 1 && d.txQuiet p = 0 && (d.linkState p = 4 || d.linkState p = 6)
  && !d.linePending p && !(d.port p).link.held && (d.port p).cal.isNone
  && (if d.native p then (d.get (0x4200 + p) 6).testBit 0 && !d.seqInTransit p else (d.port p).link.eee)

/-- The own direction enters quiet: QUIET in four frames, or LPI. -/
def Dev.enterQuiet (d : Dev) (p : Port) : Dev :=
  let d := if d.native p then
      ((Dev.flagFrames p 2 4 d).onNative p (fun n => { n with txBits := [] })).streamStops p else d
  let d := (((d.setTxQuiet p 2).event (0x4080 + p) 11).inc (0x4280 + p) 0xA).onLink p (fun l => { l with quietSince := some d.uptime, deepSent := false })
  d.quietLink p

/-- `QUIET_ENTRY` (R199). -/
def execQuietEntry (p : Port) (s : State) : Host.Outcome State Fault Refusal :=
  s.event (fun d => if d.mayQuiet p then d.enterQuiet p else d)

/-- The partner's direction enters quiet (R101): its frames end, and what has arrived of a message is discarded (R108). -/
def Dev.partnerQuiet (d : Dev) (p : Port) : Dev :=
  (((((((d.calUnsuitable p 1).abortRx p).streamLost p).onNative p (fun n => { n with rxBits := [] })).onLink p (fun l => { l with deepGot := false })).setRxQuiet p 2).event
    (0x4080 + p) 11).quietLink p

/-- Both ends have sent and received QUIET with DEEP: deep quiet (R203), unless a relock runs. The pair no longer carries data: a trim request takes its target at once
(R364, R365). -/
def Dev.deepCheck (d : Dev) (p : Port) : Dev :=
  if d.linkState p = 6 && (d.port p).link.deepSent && (d.port p).link.deepGot && (d.txQuiet p = 3) && d.rxQuiet p = 3 then
    (((((d.setTxQuiet p 4).setRxQuiet p 4).setLinkState p 7).trimsAtOnce p).event (0x4080 + p) 12).inc (0x4280 + p) 0xB
  else d

/-- A refresh of 8 training frames is sent or received: engines update (R131, R200); deep quiet may begin at its end. A refresh that is sent asks for deep
quiet where the direction does (R203); none is sent in a relock. The frames of one that is received, in a relock too, looked like a wake until now. -/
def Dev.refresh (d : Dev) (p : Port) (sent : Bool) : Dev :=
  if !d.native p || !(d.linkState p = 6 || (d.linkState p = 5 && !sent)) then d
  else if sent then
    if d.txQuiet p = 2 || d.txQuiet p = 3 then
      ((((Dev.sendBurst p (if d.txQuiet p = 3 then 3 else 0) 8 d).moveOn p true).othersLearn p).onLink p (fun l => { l with deepSent := l.deepSent || d.txQuiet p = 3 })).deepCheck p
    else d
  else if d.rxQuiet p = 2 || d.rxQuiet p = 3 then ((d.tlmRefreshed p).moveOn p true).deepCheck p
  else if d.rxQuiet p = 5 then (((d.setRxQuiet p 2).tlmRefreshed p).moveOn p true).deepCheck p
  else d

/-- `QUIET_REFRESH` (R200, R203): sent by this end, or received. -/
def execQuietRefresh (p : Port) (sent : Bool) (s : State) : Host.Outcome State Fault Refusal := s.event (fun d => d.refresh p sent)

/-- `DEEP_REQUEST` (R203). -/
def execDeepRequest (p : Port) (s : State) : Host.Outcome State Fault Refusal :=
  s.event (fun d => if d.native p && d.linkState p = 6 && d.txQuiet p = 2 && d.get (0x4200 + p) 1 = 2 && (d.get (0x4200 + p) 6).testBit 1
    then d.setTxQuiet p 3 else d)

/-- The partner's direction wakes: the stream of its first data frame will be a new one (R201, R205). -/
def Dev.rxWaking (d : Dev) (p : Port) : Dev := (d.onNative p (fun n => { n with rxBits := [], rxSkip := 0 })).setRxQuiet p 5

/-- The partner's wake tone: the answer to the own one, or the start of a wake; converters power up, the trims of the present temperature apply,
both ends send their burst (R205). -/
def Dev.wakeTone (d : Dev) (p : Port) : Dev :=
  if d.linkState p ≠ 7 || !d.native p then d
  else
    let d := if d.txQuiet p = 5 then d else ((d.quietLeave p).setTxQuiet p 5).emit (.wakeTone p)
    Dev.sendBurst p 0 (burstFrames (d.mode p) 600) (((((d.rxWaking p).widen (dieOf p) .up).widen (dieOf p) .down).trimsLoad p).moveOn p true)

/-- `WAKE_TONE_RX` (R205). -/
def execWakeToneRx (p : Port) (s : State) : Host.Outcome State Fault Refusal := s.event (fun d => d.wakeTone p)

/-- `PRESENCE_PULSE` (R204): the master's pulse. -/
def execPresencePulse (p : Port) (s : State) : Host.Outcome State Fault Refusal :=
  s.event (fun d => if d.linkState p = 7 && d.isMaster p then d.emit (.presence p) else d)

/-- `PRESENCE_PULSE_RX` (R204): the slave answers. -/
def execPresencePulseRx (p : Port) (s : State) : Host.Outcome State Fault Refusal :=
  s.event (fun d => if d.linkState p = 7 && !d.isMaster p then d.emit (.presence p) else d)

/-- `REFRESH_MISSING` (R194). -/
def execRefreshMissing (p : Port) (s : State) : Host.Outcome State Fault Refusal :=
  s.event (fun d => if d.native p && (d.linkState p = 7 || ((d.linkState p = 5 || d.linkState p = 6) && 2 ≤ d.rxQuiet p && d.rxQuiet p ≤ 4))
    then d.loseAny p else d)

/-- `WAKE_FAILED` (R206). -/
def execWakeFailed (p : Port) (s : State) : Host.Outcome State Fault Refusal :=
  s.event (fun d => if d.native p && 5 ≤ d.linkState p && d.linkState p ≤ 7 && (d.txQuiet p = 5 || d.rxQuiet p = 5)
    then (d.event (0x4080 + p) 13).loseAny p else d)

/-- A standard-mode partner enters or leaves low-power idle (R198). -/
def Dev.lpi (d : Dev) (p : Port) (enter : Bool) : Dev :=
  if d.native p || !(d.linkState p = 4 || d.linkState p = 6) then d
  else if enter then (((d.calUnsuitable p 1).setRxQuiet p 2).event (0x4080 + p) 11).quietLink p
  else ((d.widen (dieOf p) .up).setRxQuiet p 0).quietLink p

/-- `PARTNER_LPI` (R198). -/
def execPartnerLpi (p : Port) (enter : Bool) (s : State) : Host.Outcome State Fault Refusal := s.event (fun d => d.lpi p enter)

end Sys2Proof.Machine
end

