-- ==== Sys2Proof/Machine/Relock.lean ====
section
/-! DEFINITION. Warm relock, link loss, fast retrain, margins (R129, R183 to R197, R470). -/

namespace Sys2Proof.Machine

/-! ## The relocking end -/

/-- A write to RELOCK_NOW (R192). -/
def Dev.relockNowOp (d : Dev) (r : Req) (p : Port) (v : Nat) : Op :=
  d.one r (0x4180 + p) 0x10 v
    [(d.native p && (d.linkState p = 5 || (d.port p).link.relockPending.isSome), .busy), (!d.nativeLink p, .state)]
    (fun d => d.relockTrigger p 5)

/-- `RELOCK_NOW` (R183, R192). -/
def execRelockNow (r : Req) (p : Port) (v : Nat) (s : State) : Host.Outcome State Fault Refusal :=
  s.write r (0x4180 + p) 0x10 (fun _ d => d.relockNowOp r p v)

/-- Step 7 of R184: the burst of at least 2 µs, which goes on at each frame boundary until the end has reacquired (R188). -/
def Dev.relockBurst (d : Dev) (p : Port) : Dev :=
  Dev.sendBurst p 0 (burstFrames (d.mode p) 2000) (d.onLink p (fun l => { l with relock := l.relock.map (fun r => { r with burst := true }) }))

/-- The burst of this end's relock is going on. -/
def Dev.bursting (d : Dev) (p : Port) : Bool := (d.port p).link.relock.any (fun r => r.burst && !r.resumed)

/-- Both ends relock and this one is slave: its burst waits for the master's (R188). -/
def Dev.burstWaits (d : Dev) (p : Port) : Bool :=
  (d.port p).link.held && !d.isMaster p && !(d.port p).link.relock.any (·.heard)

/-- Steps 1 to 7 of R184, in which what had arrived of a message of the partner is dropped with the stream, and nothing makes the partner send it again (R108; DESIGN
CHOICE, log entry 101): frames in flight ended and counted, HOLD in four frames (the die's down direction widens, R292), coefficients and trims loaded, the burst; in quiet, without HOLD and
burst (R190). Without a checkpoint the link is lost (R145, R470). -/
def Dev.relockStart (d : Dev) (p : Port) (cause : Nat) : Dev :=
  let silent := d.txAsleep p || d.linkState p = 7
  let back := d.linkState p
  let d := ((d.widen (dieOf p) .down).checkpointAbandon p).calUnsuitable p 6
  let d := d.onLink p (fun l => { l with relockPending := none, relock := some { cause, back, silent }, relockNumber := l.relockNumber + 1 })
  let d := (d.setLinkState p 5).relockFlight p
  let d := if silent then d else
    (((Dev.flagFrames p 8 4 (d.samplerSees p 4)).onNative p (fun n => { n with txBits := [], rxBits := [] })).streamStops p).streamLost p
  match d.reloadSlot p with
  | none => (d.inc (0x5200 + p) 0x13).loseRelock p
  | some c =>
    let d := (d.reload p c).trimsAtOnce p
    let d := d.onLink p (fun l => { l with relock := l.relock.map (fun r => { r with reloaded := true }) })
    if silent || d.burstWaits p then d else d.relockBurst p

/-- `RELOCK_START` (R184): a trigger waits. -/
def execRelockStart (p : Port) (s : State) : Host.Outcome State Fault Refusal :=
  s.event (fun d => match (d.port p).link.relockPending with
    | some c => if d.nativeLink p && (d.port p).link.relock.isNone then d.relockStart p c else d
    | none => d)

/-- A local relock has completed (R162, R184, R189, R190, R192): counted, reported; back to the state held before. A quiet transmitter that owes the partner RESUME
wakes for it (R185). -/
def Dev.relockDone (d : Dev) (p : Port) (r : Relock) (tenths : Nat) : Dev :=
  let t := min tenths 65535
  let d := ((d.event (0x4080 + p) 6).inc (0x4280 + p) 5).put (0x4180 + p) 0x11 r.cause
  let d := (d.put (0x4180 + p) 0x12 t).put (0x4180 + p) 0x13 (max t (d.get (0x4180 + p) 0x13))
  let d := ((d.onLink p (fun l => { l with relock := none, dataSince := d.uptime })).setLinkState p r.back).reactionEnd (srcPort p)
  let d := d.diagLatch p
  let d := if r.silent then
      let d := d.onLink p (fun l => { l with reportDue := some (r.cause, t) })
      if (d.port p).native.resumeLeft ≠ 0 then d.wake p else d.wakeIfPending p
    else ((((d.queueService p (.relockReport r.cause t)).moveOn p false).othersLearn p).checkpoint p).quietLink p
  d.inbandWake

/-- The end has reacquired, on the partner's burst when both relock (R188): it sends RESUME in four frames; a relock in quiet is complete (R184 step 8, R190). -/
def Dev.relockReacquired (d : Dev) (p : Port) (tenths : Nat) : Dev :=
  match (d.port p).link.relock with
  | none => d
  | some r =>
    if !r.reloaded || r.resumed then d
    else if r.silent then d.relockDone p r tenths
    else if !r.burst || ((d.port p).link.held && !r.heard) then d
    else
      let d := ((d.moveOn p false).onLink p (fun l => { l with relock := some { r with resumed := true, tenths } })).onNative p
        (fun n => { n with resumeLeft := 4, txBits := [], rxBits := [] })
      if r.answered then d.relockDone p r tenths else d

/-- `RELOCK_REACQUIRED` (R184, R188, R190). -/
def execRelockReacquired (p : Port) (tenths : Nat) (s : State) : Host.Outcome State Fault Refusal :=
  s.event (fun d => d.relockReacquired p tenths)

/-- `RELOCK_FAILED` (R470): 60 µs have passed since the first HOLD frame and no frame with RESUME has arrived; a relock without HOLD has no such limit. -/
def execRelockFailed (p : Port) (s : State) : Host.Outcome State Fault Refusal :=
  s.event (fun d => if (d.port p).link.relock.any (fun r => !r.silent && !r.answered) then d.loseRelock p else d)

/-! ## The partner's relock (R185, R186) -/

/-- The partner's HOLD arrives. When this end relocks too, its slave's burst waits for the master's (R188). -/
def Dev.holdReceived (d : Dev) (p : Port) : Dev :=
  if (d.port p).link.held then d
  else ((((d.samplerSees p 3).calUnsuitable p 6).relockFlight p).streamLost p).onPort p (fun s => { s with
    link := { s.link with
      held := true
      relock := s.link.relock.map (fun r => { r with heard := false, burst := r.burst && (d.isMaster p || r.resumed) }) }
    native := { s.native with rxBits := [], rxValid := false } })

/-- The partner's RESUME arrives: the hold ends, or the own relock completes; RESUME is answered, for which a quiet transmitter wakes, and a new payload stream
starts. -/
def Dev.resumeReceived (d : Dev) (p : Port) : Dev :=
  let l := (d.port p).link
  let d := if l.held then
      ((d.onLink p (fun l => { l with held := false, dataSince := d.uptime })).onNative p
        (fun n => { n with resumeLeft := 4, rxBits := [], rx := none })) else d
  let d := if l.held && l.relock.isNone then ((d.moveOn p false).checkpoint p).wake p else d
  match l.relock with
  | some r => if r.resumed then d.relockDone p r r.tenths else d.onLink p (fun l => { l with relock := some { r with answered := true } })
  | none => d

/-- The hold ends without RESUME (R186). -/
def Dev.holdExpired (d : Dev) (p : Port) : Dev :=
  if (d.port p).link.held then ((d.event (0x4080 + p) 9).inc (0x4280 + p) 8).loseAny p else d

/-- `HOLD_EXPIRED` (R186). -/
def execHoldExpired (p : Port) (s : State) : Host.Outcome State Fault Refusal := s.event (fun d => d.holdExpired p)

/-! ## Loss (R179, R193 to R196) -/

/-- Link pulses of the partner end an attempt, a hold, a relock or a native link. -/
def Dev.linkPulses (d : Dev) (p : Port) : Dev :=
  if d.linkState p = 3 then d.attemptFailed p 12
  else if !d.native p || d.linkState p < 4 || 7 < d.linkState p then d
  else if (d.port p).link.held then d.holdExpired p
  else d.loseAny p

/-- `LINK_PULSES_RECEIVED` (R179, R193, R194). -/
def execLinkPulsesReceived (p : Port) (s : State) : Host.Outcome State Fault Refusal := s.event (fun d => d.linkPulses p)

/-- The receiver reports on which pairs there is no signal; engines that were held move on (R131). -/
def Dev.signalSeen (d : Dev) (p : Port) (absent : Vector Bool 4) : Dev :=
  if (d.linkState p = 3 || d.linkUp p) && absent ≠ (d.port p).signal.noSignal then
    (d.onSignal p (fun s => { s with noSignal := absent })).moveOn p false
  else d

/-- One millisecond's signal-to-noise ratios: the objects while data flows; in training, the conditions of stages 3 and 4 (R129, R174, R193). -/
def Dev.marginUpdate (d : Dev) (p : Port) (snr : Vector Int 4) : Dev :=
  if d.linkState p = 3 && d.native p then
    let good := (allFin 4).all (fun k => 256 ≤ marginOf (d.mode p) (snr.get k))
    let run := if good && (d.stage p ≠ 4 || (d.port p).train.acksGot.all id) then (d.port p).train.marginRun + 1 else 0
    (d.onTrain p (fun t => { t with marginRun := run, converged := t.converged || (d.stage p = 3 && good) })).stageAdvance p
  else if (d.linkState p = 4 || d.linkState p = 6) && d.rxActive p then d.marginsPut p snr
  else d

/-- `MARGIN_UPDATE` (R129, R131). -/
def execMarginUpdate (p : Port) (snr : Vector Int 4) (absent : Vector Bool 4) (s : State) : Host.Outcome State Fault Refusal :=
  s.event (fun d => (d.marginUpdate p snr).signalSeen p absent)

/-- `LOSS_MARGIN_TIMEOUT` (R193): a margin has been below LOSS_MARGIN for ten updates. -/
def execLossMarginTimeout (p : Port) (s : State) : Host.Outcome State Fault Refusal :=
  s.event (fun d => if d.nativeLink p && d.rxActive p && (d.port p).link.lowMargin.any (fun n => 10 ≤ n) then d.lose p else d)

/-- `STANDARD_LINK_FAIL` (R196). -/
def execStandardLinkFail (p : Port) (s : State) : Host.Outcome State Fault Refusal :=
  s.event (fun d => if d.linkUp p && !d.native p then d.lose p else d)

/-! ## Fast retrain (R197) -/

/-- A fast retrain begins: the port leaves the states in which its twill directions may be narrow (R291, R292), and no longer carries data, so that a trim request takes
its target at once (R364, R365). -/
def Dev.fastRetrain (d : Dev) (p : Port) : Dev :=
  (((((((d.widen (dieOf p) .down).calUnsuitable p 6).quietLeave p).setTxQuiet p 0).setRxQuiet p 0).setLinkState p 8).trimsAtOnce p)

/-- The link may retrain fast. -/
def Dev.mayFastRetrain (d : Dev) (p : Port) : Bool :=
  !d.native p && 3 ≤ d.mode p && (d.linkState p = 4 || d.linkState p = 6) && (d.port p).link.fastRetrainAble && d.flag (0x4180 + p) 0x16

/-- `FAST_RETRAIN_START` (R197). -/
def execFastRetrainStart (p : Port) (s : State) : Host.Outcome State Fault Refusal :=
  s.event (fun d => if d.mayFastRetrain p then d.fastRetrain p else d)

/-- `FAST_RETRAIN_DONE` (R197). -/
def execFastRetrainDone (p : Port) (s : State) : Host.Outcome State Fault Refusal :=
  s.event (fun d => if d.linkState p = 8 then
    ((((((d.setLinkState p 4).reactionEnd (srcPort p)).event (0x4080 + p) 10).inc (0x4280 + p) 9).onLink p (fun l => { l with dataSince := d.uptime })).moveOn p false).inbandWake else d)

/-- `FAST_RETRAIN_TIMEOUT` (R197). -/
def execFastRetrainTimeout (p : Port) (s : State) : Host.Outcome State Fault Refusal :=
  s.event (fun d => if d.linkState p = 8 then d.lose p else d)

end Sys2Proof.Machine
end

