-- ==== Sys2Proof/Machine/Messages.lean ====
section
/-! DEFINITION. Messages of the selvage channel, but sealing's: what each does when it arrives, and when one is sent (R105 to R110, R122). -/

namespace Sys2Proof.Machine

/-- The native link is in training or up: its selvage stream runs. -/
def Dev.selvageRuns (d : Dev) (p : Port) : Bool :=
  d.native p && ((d.linkState p = 3 && 1 ≤ d.stage p) || (4 ≤ d.linkState p && d.linkState p ≤ 6))

/-- Native data flows in the own direction (R109, R110). -/
def Dev.nativeData (d : Dev) (p : Port) : Bool := d.native p && (d.linkState p = 4 || d.linkState p = 6) && d.txQuiet p = 0

/-- A RELOCK_REPORT of the partner (R162, R185, R190, R192, R209). -/
def Dev.rxRelockReport (d : Dev) (p : Port) (held : Nat) : Dev :=
  let d := ((d.gotMessage p).event (0x4080 + p) 8).inc (0x4280 + p) 6
  ((d.put (0x4180 + p) 0x11 6).put (0x4180 + p) 0x12 held).put (0x4180 + p) 0x13 (max held (d.get (0x4180 + p) 0x13))

/-- `RELOCK_REPORT` (R106). -/
def execRelockReport (p : Port) (_cause held : Nat) (s : State) : Host.Outcome State Fault Refusal :=
  s.event (fun d => if d.selvageRuns p then d.rxRelockReport p (held % 65536) else d)

/-- `HUSH_NOTE` (R106): it changes nothing but the count of messages received. -/
def execHushNote (p : Port) (_level : Int) (_duration : Nat) (s : State) : Host.Outcome State Fault Refusal :=
  s.event (fun d => if d.selvageRuns p then d.gotMessage p else d)

/-- The taps are 1 to 32 valid Q2.13 values of a pair (R122). -/
def goodTaps (pair : Nat) (taps : List Int) : Bool :=
  pair < 4 && 1 ≤ taps.length && taps.length ≤ 32 && taps.all (fun t => -32768 ≤ t && t < 32768)

/-- A PRECODER of the partner: accepted taps wait until the acknowledgement has left, and for the first frame boundary after it (R122). -/
def Dev.rxPrecoder (d : Dev) (p : Port) (pair : Nat) (taps : List Int) : Dev :=
  let d := d.gotMessage p
  if goodTaps pair taps then
    let k : Pair := ⟨pair % 4, by omega⟩
    (d.queueSeq p (.precoderAck pair 0)).onTrain p (fun t => { t with asked := upd t.asked k (fun _ => some taps) })
  else d.queueSeq p (.precoderAck pair 1)

/-- `PRECODER` (R122). -/
def execPrecoder (p : Port) (pair : Nat) (taps : List Int) (s : State) : Host.Outcome State Fault Refusal :=
  s.event (fun d => if d.selvageRuns p then d.rxPrecoder p pair taps else d)

/-- A PRECODER_ACK of the partner (R174, R179). -/
def Dev.rxPrecoderAck (d : Dev) (p : Port) (pair result : Nat) : Dev :=
  let d := d.gotMessage p
  if d.linkState p ≠ 3 || d.stage p ≠ 4 || 4 ≤ pair then d
  else if result = 0 then
    (d.onTrain p (fun t => { t with acksGot := upd t.acksGot ⟨pair % 4, by omega⟩ (fun _ => true) })).stageAdvance p
  else if result = 1 then d.attemptFailed p 11
  else d

/-- `PRECODER_ACK` (R174). -/
def execPrecoderAck (p : Port) (pair result : Nat) (s : State) : Host.Outcome State Fault Refusal :=
  s.event (fun d => if d.selvageRuns p then d.rxPrecoderAck p pair result else d)

/-- A TELEMETRY of the partner (R108 table, R110). -/
def Dev.rxTelemetry (d : Dev) (p : Port) (margins : List Int) : Dev :=
  let d := forAll 4 (fun k d => d.put (0x4300 + p) (0x20 + k.val) (unsigned 16 (margins.getD k.val 0))) (d.gotMessage p)
  d.onSelvage p (fun s => { s with heardAt := some d.uptime })

/-- `TELEMETRY` (R106). -/
def execTelemetry (p : Port) (margins : Vector Int 4) (_corrected _uncorrectable : Nat) (s : State) : Host.Outcome State Fault Refusal :=
  s.event (fun d => if d.selvageRuns p then d.rxTelemetry p margins.toList else d)

/-- A write to PARTNER_QUERY (R109). -/
def Dev.queryOp (d : Dev) (r : Req) (p : Port) (v : Nat) : Op :=
  d.command r (0x4100 + p) 0x20 v
    [(!d.nativeData p, .state), (d.get (0x4100 + p) 0x21 = 1, .busy), (v ≠ 1 && v ≠ 2, .range)]
    (fun d => (d.put (0x4100 + p) 0x21 1).queueService p (.partnerQuery v))

/-- `PARTNER_QUERY` (R109). -/
def execPartnerQuery (r : Req) (p : Port) (v : Nat) (s : State) : Host.Outcome State Fault Refusal :=
  s.write r (0x4100 + p) 0x20 (fun _ d => d.queryOp r p v)

/-- What an item of PARTNER_REPLY holds (R106, R210). -/
def Dev.replyData (d : Dev) (item : Nat) : List Byte :=
  if item = 1 then bytesOf 8 (d.get 0x1000 1) ++ bytesOf 1 (d.get 0x1000 2) ++ d.hall.identityHash.take 16
  else bytesOf 4 (d.get 0x1020 1) ++ bytesOf 4 (d.get 0x1020 2) ++ bytesOf 4 (d.get 0x1020 3) ++ bytesOf 4 (d.get 0x1020 4)

/-- A PARTNER_QUERY of the partner: answered, or refused when PARTNER_ANSWER is 0 or the item is neither 1 nor 2. -/
def Dev.rxQuery (d : Dev) (p : Port) (item : Nat) : Dev :=
  let d := d.gotMessage p
  if d.flag (0x4000 + p) 6 && (item = 1 || item = 2) then d.queueService p (.partnerReply item 0 (d.replyData item))
  else d.queueService p (.partnerReply item 1 [])

/-- `PARTNER_QUERY_RX` (R106). -/
def execPartnerQueryRx (p : Port) (item : Nat) (s : State) : Host.Outcome State Fault Refusal :=
  s.event (fun d => if d.selvageRuns p then d.rxQuery p item else d)

/-- A PARTNER_REPLY: DATA of the length its item has, or none when refused; else it is discarded and counted (R105, R109). -/
def Dev.rxReply (d : Dev) (p : Port) (item result : Nat) (data : List Byte) : Dev :=
  if data.length ≠ (if result ≠ 0 then 0 else if item = 1 then 25 else 16) then d.inc (0x4300 + p) 0x18
  else
    let d := d.gotMessage p
    if d.get (0x4100 + p) 0x21 ≠ 1 then d
    else if result = 0 then (d.put (0x4100 + p) (if item = 1 then 0x22 else 0x23) (natOf data)).put (0x4100 + p) 0x21 2
    else d.put (0x4100 + p) 0x21 3

/-- `PARTNER_REPLY` (R109). -/
def execPartnerReply (p : Port) (item result : Nat) (data : List Byte) (s : State) : Host.Outcome State Fault Refusal :=
  s.event (fun d => if d.selvageRuns p then d.rxReply p item result data else d)

/-- `PARTNER_QUERY_TIMEOUT` (R109). -/
def execPartnerQueryTimeout (p : Port) (s : State) : Host.Outcome State Fault Refusal := s.event (fun d => d.queryEnd p)

/-- The TELEMETRY message of this moment (R106, R110): margins, and codewords since the last one. -/
def Dev.telemetryNow (d : Dev) (p : Port) : SelvageMsg :=
  .telemetry ((List.range 4).map (fun k => signed 16 (d.get (0x4300 + p) (1 + k))))
    ((d.port p).selvage.corrected % 2 ^ 32) ((d.port p).selvage.uncorrectable % 2 ^ 32)

/-- An interval of SELVAGE_TELEMETRY_MS ends: its report is queued where data flows, and the counts start again for the next (R106, R107, R110). -/
def Dev.telemetryTick (d : Dev) (p : Port) : Dev :=
  (if d.nativeData p && d.get (0x4000 + p) 7 ≠ 0 then d.queueService p (d.telemetryNow p) else d).onSelvage p
    (fun s => { s with corrected := 0, uncorrectable := 0 })

/-- `SELVAGE_TELEMETRY_TIMER` (R106, R107, R110). -/
def execSelvageTelemetryTimer (p : Port) (s : State) : Host.Outcome State Fault Refusal := s.event (fun d => d.telemetryTick p)

/-- A frame's codewords count in the present interval; without intervals nothing does (R106). -/
def Dev.telemetryCount (d : Dev) (p : Port) (corrected uncorrectable : Nat) : Dev :=
  d.onSelvage p (fun s => if d.get (0x4000 + p) 7 = 0 then { s with corrected := 0, uncorrectable := 0 }
    else { s with corrected := s.corrected + corrected, uncorrectable := s.uncorrectable + uncorrectable })

/-- The next message in turn begins: a service message only when no sequencer message waits (R107). -/
def Dev.msgStart (d : Dev) (p : Port) : Dev :=
  let s := (d.port p).selvage
  if s.sending.isSome || !d.selvageRuns p then d
  else match s.sequencer, s.service with
    | m :: rest, _ => d.onSelvage p (fun s => { s with sequencer := rest, sending := some m, bits := (if s.bits.isEmpty then flagBits else s.bits) ++ m.stream })
    | [], m :: rest => d.onSelvage p (fun s => { s with service := rest, sending := some m, bits := (if s.bits.isEmpty then flagBits else s.bits) ++ m.stream })
    | [], [] => d

/-- `SELVAGE_MSG_TX_START` (R107). -/
def execSelvageMsgTxStart (p : Port) (s : State) : Host.Outcome State Fault Refusal := s.event (fun d => d.msgStart p)

end Sys2Proof.Machine
end

