-- ==== Sys2Proof/Machine/Seal.lean ====
section
/-! DEFINITION. Sealed links: modes, the exchange and its keys, rekeys, 802.1AE associations (R219 to R229, R232, R233). -/

namespace Sys2Proof.Machine

/-! ## Mode (R219, R220) -/

/-- A mode of SEAL_MODE negotiates native sealing. -/
def sealsNative (m : Nat) : Bool := m = 1 || m = 2

/-- A new mode ends a native link that would negotiate differently. -/
def Dev.modeEndsLink (d : Dev) (p : Port) (v : Nat) : Bool :=
  d.native p && d.linkUp p
  && (sealsNative (d.get (0x4400 + p) 1) != sealsNative v
      || (v = 2 && d.get (0x4400 + p) 1 ≠ 2 && d.get (0x4400 + p) 0xA ≠ 2))

/-- A write to SEAL_MODE. -/
def Dev.sealModeOp (d : Dev) (r : Req) (p : Port) (v : Nat) : Op :=
  d.plainWrite r (0x4400 + p) 1 v [] (fun d' => if d.modeEndsLink p v then d'.lose p else d')

/-- `SEAL_MODE_WRITE` (R219, R220, R229). -/
def execSealModeWrite (r : Req) (p : Port) (v : Nat) (s : State) : Host.Outcome State Fault Refusal :=
  s.write r (0x4400 + p) 1 (fun _ d => d.sealModeOp r p v)

/-! ## What the exchange computes (R222) -/

/-- ROLE: 1 for the master, 2 for the slave. -/
def roleByte (master : Bool) : List Byte := bytesOf 1 (if master then 1 else 2)

/-- The keying material KM. -/
def Exchange.material (x : Exchange) (master : Bool) : List Byte :=
  let z := Config.x448Shared x.secret (match x.peer with | some h => h.xPub | none => [])
  let own := x.ownProof.getD []
  let peer := x.peerProof.getD []
  Config.shake256 (ascii "DZ12800 SEAL KDF" ++ z ++ x.digest master ++ (if master then own ++ peer else peer ++ own)) 128

/-- TAG of an end. -/
def Exchange.tag (x : Exchange) (master role : Bool) : List Byte :=
  Config.kmac256 (((x.material master).drop 88).take 32) (x.digest master ++ roleByte role) 256 (ascii "DZ12800 SEAL FIN")

/-- The association of one sense: the master's frames use the first key and salt and SSCI 1, the slave's the second and SSCI 2. -/
def Exchange.assoc (x : Exchange) (master sender : Bool) : Sa :=
  let km := x.material master
  { key := (km.drop (if sender then 0 else 32)).take 32, salt := (km.drop (if sender then 64 else 76)).take 12, ssci := if sender then 1 else 2, pn := 1 }

/-- AN of an epoch (R227). -/
def anOf (epoch : Nat) : Fin 4 := ⟨epoch % 4, by omega⟩

/-! ## Steps of the exchange -/

def Dev.onExchange (d : Dev) (p : Port) (f : Exchange → Exchange) : Dev :=
  d.onCrypt p (fun c => { c with exchange := c.exchange.map f })

/-- Both SEAL_FINISH have gone: keys are installed. In training the port enters stage 6; at a rekey the transmitter switches at its next frame
boundary and the receiver accepts both keys (R223 step 5, R227). -/
def Dev.sealDone (d : Dev) (p : Port) (x : Exchange) : Dev :=
  let m := d.isMaster p
  let an := anOf x.epoch
  let d := (d.put (0x4400 + p) 0xC (match x.peer with | some h => natOf (peerHash h) | none => 0)).put (0x4400 + p) 0xD x.epoch
  let d := d.onCrypt p (fun c => { c with
    exchange := none, retrySince := none, epochSince := d.uptime, sentInEpoch := 0
    tx := upd c.tx an (fun _ => some (x.assoc m m)), rx := upd c.rx an (fun _ => some (x.assoc m !m))
    txAn := if x.purpose = 0 then an else c.txAn
    nextAn := if x.purpose = 0 then none else some an
    oldAn := if x.purpose = 0 then none else some c.txAn })
  let d := d.touchEvent 0x0040 (bytesOf 1 p.val ++ bytesOf 1 2 ++ bytesOf 4 x.epoch
    ++ (match x.peer with | some h => (peerHash h).take 16 | none => List.replicate 16 0))
  if x.purpose = 0 then (d.put (0x4400 + p) 0xA 2).enterStage p 6 else d.inc (0x4400 + p) 0x26

/-- The exchange is complete when SEAL_FINISH has been sent and received. -/
def Dev.sealCheck (d : Dev) (p : Port) : Dev :=
  match (d.port p).crypt.exchange with
  | some x => if x.finishSent && x.finishGot then d.sealDone p x else d
  | none => d

/-- Check the partner's TAG once this end can compute it (R223 step 4). -/
def Dev.tagCheck (d : Dev) (p : Port) : Dev :=
  match (d.port p).crypt.exchange with
  | none => d
  | some x =>
    match x.peerTag with
    | none => d
    | some t =>
      if !(x.verified && x.ownProof.isSome) then d
      else if t = x.tag (d.isMaster p) (!d.isMaster p) then (d.onExchange p (fun x => { x with finishGot := true })).sealCheck p
      else d.sealFail p 3 10

/-- The partner's proof is good and the own one made: SEAL_FINISH is queued. In training it counts as sent at once; in data when it has left. -/
def Dev.finishStart (d : Dev) (p : Port) : Dev :=
  match (d.port p).crypt.exchange with
  | none => d
  | some x =>
    if x.verified && x.ownProof.isSome then
      ((d.queueSeq p (.sealFinish x.epoch (x.tag (d.isMaster p) (d.isMaster p)))).onExchange p
        (fun x => { x with finishSent := x.purpose = 0 })).tagCheck p
    else d

/-- An acknowledgement of precoder taps has left: they take effect at the next frame boundary, and stage 4 counts it as sent (R122, R174). -/
def Dev.ackSent (d : Dev) (p : Port) (k : Pair) : Dev :=
  (d.onTrain p (fun t => { t with
    asked := upd t.asked k (fun _ => none), newTaps := upd t.newTaps k (fun o => (t.asked.get k).or o)
    acksSent := upd t.acksSent k (fun _ => true) })).stageAdvance p

/-- A sequencer message has left whole (R107); a SEAL_FINISH of a rekey has then been sent, and an acknowledgement of taps. -/
def Dev.messageSent (d : Dev) (p : Port) : SelvageMsg → Dev
  | .sealFinish .. => (d.onExchange p (fun x => { x with finishSent := true })).sealCheck p
  | .precoderAck pair 0 => d.ackSent p ⟨pair % 4, by omega⟩
  | _ => d

/-- Hallmark has signed the transcript of a port (R223 step 3). -/
def Dev.sealSigned (d : Dev) (p : Port) : Dev :=
  match (d.port p).crypt.exchange with
  | none => d
  | some x =>
    let m := d.isMaster p
    let sig := Config.sign (ascii "DZ12800 SEAL") (x.digest m ++ roleByte m)
    (((d.keySend p .down (sized 114 sig)).onExchange p (fun x => { x with ownProof := some sig })).queueSeq p (.sealProof x.epoch sig)).finishStart p

/-- Hallmark has verified the partner's SEAL_PROOF (R223 step 3). -/
def Dev.sealVerified (d : Dev) (p : Port) (sig : List Byte) : Dev :=
  match (d.port p).crypt.exchange with
  | none => d
  | some x =>
    let m := d.isMaster p
    let good := Config.verify (match x.peer with | some h => h.identity | none => []) (ascii "DZ12800 SEAL") (x.digest m ++ roleByte (!m)) sig
    let d := d.keySend p .down (bytesOf 1 good.toNat)
    if good then
      (d.onExchange p (fun x => { x with verified := true, peerProof := some sig })).finishStart p
    else d.sealFail p 2 10

/-- The SEAL_REJECT of a failed check has left, or stands in the sequencer's queue no longer (R469): the attempt or the link ends. -/
def Dev.rejectGone (d : Dev) (p : Port) : Dev :=
  let s := (d.port p).selvage
  if (s.sending.toList ++ s.sequencer).any SelvageMsg.isReject then d else d.sealFailEnd p

/-! ## Messages -/

/-- The link is sealed natively and up. -/
def Dev.sealedUp (d : Dev) (p : Port) : Bool := d.get (0x4400 + p) 0xA = 2 && d.native p && d.linkUp p

/-- A SEAL_HELLO: of the exchange that runs, of a training this end will soon join, or the beginning of a rekey (R223, R226). -/
def Dev.rxHello (d : Dev) (p : Port) (h : SealHello) : Dev :=
  let d := d.gotMessage p
  if (d.port p).crypt.exchange.isSome then d.helloGot p h
  else if (d.port p).crypt.failing.isSome then d
  else if d.linkState p = 3 && (d.port p).link.toSeal && d.stage p < 5 then d.onCrypt p (fun c => { c with early := some h })
  else if d.sealedUp p then (d.helloSend p 1 (d.get (0x4400 + p) 0xD + 1)).helloGot p h
  else d

/-- `SEAL_HELLO` (R221 to R226, R469). -/
def execSealHello (p : Port) (hello : SealHello) (s : State) : Host.Outcome State Fault Refusal :=
  s.event (fun d => if d.selvageRuns p then d.rxHello p hello else d)

/-- A SEAL_PROOF waits for Hallmark's verifying engine (R223 step 3). -/
def Dev.rxProof (d : Dev) (p : Port) (epoch : Nat) (sig : List Byte) : Dev :=
  let d := d.gotMessage p
  match (d.port p).crypt.exchange with
  | none => d
  | some x =>
    if epoch ≠ x.epoch then d.sealFail p 7 10
    else if !x.listed || x.peerProof.isSome then d
    else ((d.keySend p .up (sized 114 sig)).onExchange p (fun x => { x with peerProof := some sig })).onHall (fun h => { h with verifyQueue := h.verifyQueue ++ [.sealVerify p sig] })

/-- `SEAL_PROOF` (R223). -/
def execSealProof (p : Port) (epoch : Nat) (signature : List Byte) (s : State) : Host.Outcome State Fault Refusal :=
  s.event (fun d => if d.selvageRuns p then d.rxProof p epoch signature else d)

/-- A SEAL_FINISH: its TAG is checked when both proofs are done (R223 step 4). -/
def Dev.rxFinish (d : Dev) (p : Port) (epoch : Nat) (tag : List Byte) : Dev :=
  let d := d.gotMessage p
  match (d.port p).crypt.exchange with
  | none => d
  | some x =>
    if epoch ≠ x.epoch then d.sealFail p 7 10
    else if x.peerTag.isSome then d
    else (d.onExchange p (fun x => { x with peerTag := some tag })).tagCheck p

/-- `SEAL_FINISH` (R223). -/
def execSealFinish (p : Port) (epoch : Nat) (tag : List Byte) (s : State) : Host.Outcome State Fault Refusal :=
  s.event (fun d => if d.selvageRuns p then d.rxFinish p epoch tag else d)

/-- A SEAL_REJECT ends the exchange with reason 4 (R224, R469), also one that this end has completed: in training the attempt ends, whatever the stage; after a rekey, while
the old key is still there, the rekey has failed and is tried again (R228). Where a check of this end has failed already, the end that waited comes at once. -/
def Dev.rxReject (d : Dev) (p : Port) : Dev :=
  let d := d.gotMessage p
  let c := (d.port p).crypt
  if c.failing.isSome then d.sealFailEnd p
  else if c.exchange.isSome || (d.linkState p = 3 && (d.port p).link.toSeal && 5 ≤ d.stage p) then d.sealFail p 4 10
  else if d.sealedUp p && c.oldAn.isSome then (d.sealNote p 4).onCrypt p (fun c => { c with retrySince := c.retrySince.or (some d.uptime) })
  else d

/-- `SEAL_REJECT` (R224, R469). -/
def execSealReject (p : Port) (_epoch _reason : Nat) (s : State) : Host.Outcome State Fault Refusal :=
  s.event (fun d => if d.selvageRuns p then d.rxReject p else d)

/-! ## Rekey (R226 to R228) -/

/-- The port carries native sealed data. -/
def Dev.sealedData (d : Dev) (p : Port) : Bool := d.sealedUp p && (d.linkState p = 4 || d.linkState p = 6)

/-- A rekey runs, waits to be tried again, or has failed for good; the exchange of training is none. -/
def Dev.rekeying (d : Dev) (p : Port) : Bool :=
  let c := (d.port p).crypt
  c.exchange.any (fun x => x.purpose ≠ 0) || c.retrySince.isSome || (c.failing.isSome && d.linkState p ≠ 3)

/-- Start a rekey: the exchange with PURPOSE 1 and the next EPOCH. -/
def Dev.rekey (d : Dev) (p : Port) : Dev := d.sealStart p 1 (d.get (0x4400 + p) 0xD + 1)

/-- A write to SEAL_REKEY_NOW (R228). -/
def Dev.rekeyOp (d : Dev) (r : Req) (p : Port) (v : Nat) : Op :=
  d.one r (0x4400 + p) 0xF v [(d.rekeying p, .busy), (!d.sealedData p, .state)] (fun d => d.rekey p)

/-- `SEAL_REKEY_NOW` (R226, R228). -/
def execSealRekeyNow (r : Req) (p : Port) (v : Nat) (s : State) : Host.Outcome State Fault Refusal :=
  s.write r (0x4400 + p) 0xF (fun _ d => d.rekeyOp r p v)

/-- `REKEY_TIMER` (R226): the epoch's time is over. -/
def execRekeyTimer (p : Port) (s : State) : Host.Outcome State Fault Refusal :=
  s.event (fun d => if d.sealedUp p && !d.rekeying p then d.rekey p else d)

/-- The transmitter's switch to the new key, at a frame boundary; its old key goes (R227). -/
def Dev.keySwitch (d : Dev) (p : Port) : Dev :=
  match (d.port p).crypt.nextAn with
  | none => d
  | some an => d.onCrypt p (fun c => { c with tx := upd (if c.txAn = an then c.tx else upd c.tx c.txAn (fun _ => none)) an id, txAn := an, nextAn := none })

/-- The receiver's old key goes, 1 ms after the first frame under the new AN (R227). -/
def Dev.oldKeyErase (d : Dev) (p : Port) : Dev :=
  match (d.port p).crypt.oldAn with
  | none => d
  | some an => (d.keySwitch p).onCrypt p (fun c => { c with rx := upd c.rx an (fun _ => none), oldAn := none })

/-- `OLD_KEY_ERASE` (R227). -/
def execOldKeyErase (p : Port) (s : State) : Host.Outcome State Fault Refusal := s.event (fun d => d.oldKeyErase p)

/-- µs of uptime at which the rekey that has not succeeded was triggered. -/
def Dev.rekeySince (d : Dev) (p : Port) : Option Nat :=
  (d.port p).crypt.retrySince.or ((d.port p).crypt.exchange.map (·.since))

/-- The old key is still in use 60 s after the trigger: the link ends with reason 5; else a failed rekey is tried again (R228). -/
def Dev.rekeyRetry (d : Dev) (p : Port) : Dev :=
  if !d.sealedUp p then d
  else match d.rekeySince p with
    | none => d
    | some t =>
      if t + 60000000 ≤ d.uptime then ((d.sealNote p 5).lose p).put (0x4400 + p) 0xA 4
      else if (d.port p).crypt.exchange.isSome then d
      else d.rekey p

/-- `REKEY_RETRY` (R228). -/
def execRekeyRetry (p : Port) (s : State) : Host.Outcome State Fault Refusal := s.event (fun d => d.rekeyRetry p)

/-! ## 802.1AE associations (R232, R233) -/

/-- The key-encryption key of the requester's session. -/
def Dev.kekOf (d : Dev) (r : Req) : List Byte :=
  match d.session? r with
  | some s => Config.kmac256 s.keyIn [] 256 (ascii "DZ12800 KEK")
  | none => []

/-- The SAK of an installation, when its wrapping is intact. -/
def Dev.unwrapped (d : Dev) (r : Req) (v : SaInstall) : Option (List Byte) := Config.aesUnwrap (d.kekOf r) v.wrapped

/-- Install one SA, in the place of one that is there: Hallmark wraps the SAK under the die's transport key, and it crosses to the sealing unit as a key message
(R13, R211, R232). The unit unwraps what was wrapped (log entry 78). -/
def Dev.saPut (d : Dev) (p : Port) (v : SaInstall) (sak : List Byte) : Dev :=
  let crossing := sized 40 (Config.aesWrap (d.dies.get (dieOf p)).transport sak)
  let d := (d.keySend p .down (bytesOf 1 v.an ++ bytesOf 4 v.ssci ++ sized 12 v.salt ++ bytesOf 8 v.lowestPn ++ crossing)).emit (.key (dieOf p) crossing)
  let sa : Sa := { key := sak, salt := v.salt, ssci := v.ssci, pn := v.lowestPn }
  let d := d.onCrypt p (fun c => if v.an.testBit 7 then { c with rx := upd c.rx (anOf v.an) (fun _ => some sa) }
    else { c with tx := upd c.tx (anOf v.an) (fun _ => some sa) })
  d.touchEvent 0x0040 (bytesOf 1 p.val ++ bytesOf 1 3 ++ bytesOf 4 (v.an % 4) ++ List.replicate 16 0)

/-- A write to SA_INSTALL. -/
def Dev.saInstallOp (d : Dev) (r : Req) (p : Port) (v : SaInstall) : Op :=
  d.command r (0x4400 + p) 0x10 0 [((d.unwrapped r v).isNone, .auth), (d.hall.logClosed || d.get (0x4400 + p) 1 ≠ 3, .state)]
    (fun d => match d.unwrapped r v with | some k => d.saPut p v k | none => d)

/-- `SA_INSTALL` (R232). -/
def execSaInstall (r : Req) (p : Port) (v : SaInstall) (s : State) : Host.Outcome State Fault Refusal :=
  s.write r (0x4400 + p) 0x10 (fun _ d => d.saInstallOp r p v)

/-- A transmit SA is installed. -/
def Dev.txHas (d : Dev) (p : Port) (an : Nat) : Bool := ((d.port p).crypt.tx.get (anOf an)).isSome

/-- A write to SA_TX_SELECT (R233). -/
def Dev.saSelectOp (d : Dev) (r : Req) (p : Port) (v : Nat) : Op :=
  d.command r (0x4400 + p) 0x11 v [(v < 4 && !d.txHas p v, .state), (3 < v, .range)]
    (fun d => d.onCrypt p (fun c => { c with txAn := anOf v }))

/-- `SA_TX_SELECT` (R233). -/
def execSaTxSelect (r : Req) (p : Port) (v : Nat) (s : State) : Host.Outcome State Fault Refusal :=
  s.write r (0x4400 + p) 0x11 (fun _ d => d.saSelectOp r p v)

/-- A write to SA_DELETE (R233). -/
def Dev.saDeleteOp (d : Dev) (r : Req) (p : Port) (v : Nat) : Op :=
  d.command r (0x4400 + p) 0x12 v []
    (fun d => d.onCrypt p (fun c => if v.testBit 7 then { c with rx := upd c.rx (anOf v) (fun _ => none) }
      else { c with tx := upd c.tx (anOf v) (fun _ => none) }))

/-- `SA_DELETE` (R233). -/
def execSaDelete (r : Req) (p : Port) (v : Nat) (s : State) : Host.Outcome State Fault Refusal :=
  s.write r (0x4400 + p) 0x12 (fun _ d => d.saDeleteOp r p v)

/-- SA_STATUS. -/
def Dev.saStatus (d : Dev) (p : Port) : Nat :=
  let c := (d.port p).crypt
  (allFin 4).foldl (fun n a => n + (if (c.tx.get a).isSome then 2 ^ a.val else 0) + (if (c.rx.get a).isSome then 16 * 2 ^ a.val else 0)) 0
    + 256 * c.txAn.val

/-- SEAL_KEY_AGE: seconds since the present epoch began. -/
def Dev.keyAge (d : Dev) (p : Port) : Nat := if d.get (0x4400 + p) 0xA = 2 then (d.uptime - (d.port p).crypt.epochSince) / 1000000 else 0

end Sys2Proof.Machine
end

