-- ==== Sys2Proof/Machine/Frames.lean ====
section
/-! DEFINITION. What happens to an Ethernet frame on its way: sealing and unsealing (R230, R231), recognition and timestamps of event messages
(R310 to R316), admission to the queues (R65, R253 to R260, R267). -/

namespace Sys2Proof.Machine

/-! ## Sealed frames (R230) -/

/-- TCI and AN: E and C set, SC when the SCI is included. -/
def tciByte (sci : Bool) (an : Fin 4) : Nat := 0x0C + (if sci then 0x20 else 0) + an.val

/-- The SecTAG of a frame with a text of so many bytes (IEEE 802.1AE: SL counts a text shorter than 48 bytes). Log entry 27. -/
def secTag (sci : Option Nat) (an : Fin 4) (pn text : Nat) : List Byte :=
  bytesOf 2 0x88E5 ++ bytesOf 1 (tciByte sci.isSome an) ++ bytesOf 1 (if text < 48 then text else 0) ++ bytesOf 4 (pn % 2 ^ 32)
    ++ (match sci with | some s => bytesOf 8 s | none => [])

/-- The SCI that a port puts into its SecTAG: in 802.1AE mode, when SECY_CONFIG says so. -/
def Dev.sciOf (d : Dev) (p : Port) : Option Nat :=
  if d.get (0x4400 + p) 0xA = 3 && (d.get (0x4400 + p) 7).testBit 0 then some (d.get (0x4400 + p) 9) else none

/-- A text with the key stream of a packet number added, or taken away (R230). -/
def gcmAdd (sa : Sa) (pn : Nat) (text : List Byte) : List Byte :=
  List.zipWith (fun a i => a ^^^ Config.gcmStream sa.key sa.salt sa.ssci pn i) text (List.range text.length)

/-- A frame as the sealing unit makes it. -/
def sealedBytes (sa : Sa) (sci : Option Nat) (an : Fin 4) (f : EthFrame) : List Byte :=
  let head := f.bytes.take 12
  let text := (f.bytes.take (f.bytes.length - 4)).drop 12
  let tag := secTag sci an sa.pn text.length
  let cipher := gcmAdd sa sa.pn text
  let b := head ++ tag ++ cipher ++ exactly 16 (Config.gcmIcv sa.key sa.salt sa.ssci sa.pn (head ++ tag) cipher)
  b ++ fcsOf b

/-- Seal a frame under the current key: its bytes, or nothing when no key is installed (then it is dropped and counted, log entry 28). A native epoch
that has sent 2^40 frames is followed by a rekey (R226). -/
def Dev.sealFrame (d : Dev) (p : Port) (f : EthFrame) : Option (List Byte) × Dev :=
  let c := (d.port p).crypt
  match c.tx.get c.txAn with
  | none => (none, d.inc (0x4400 + p) 0x24)
  | some sa =>
    let d := (d.inc (0x4400 + p) 0x20).onCrypt p (fun c => { c with
      tx := upd c.tx c.txAn (fun _ => some { sa with pn := sa.pn + 1 }), sentInEpoch := c.sentInEpoch + 1 })
    (some (sealedBytes sa (d.sciOf p) c.txAn f), if d.sealedUp p && c.sentInEpoch + 1 = 2 ^ 40 && !d.rekeying p then d.rekey p else d)

/-- The packet number whose low 32 bits a SecTAG carries (IEEE 802.1AEbw). Log entry 27. -/
def fullPn (next low : Nat) : Nat :=
  (next / 2 ^ 32 + (if next.testBit 31 && !low.testBit 31 then 1 else 0)) * 2 ^ 32 + low

/-- A packet number passes the replay check: in native mode greater than the last, in 802.1AE mode inside the window. -/
def Dev.fresh (d : Dev) (p : Port) (sa : Sa) (pn : Nat) : Bool :=
  if d.get (0x4400 + p) 0xA = 3 then !(d.get (0x4400 + p) 7).testBit 1 || sa.pn ≤ pn + d.get (0x4400 + p) 8
  else sa.pn ≤ pn

/-- Unseal a frame with a SecTAG, or drop and count it. -/
def Dev.openFrame (d : Dev) (p : Port) (f : EthFrame) : Option EthFrame × Dev :=
  let tci := natOf ((f.bytes.drop 14).take 1)
  let an := anOf tci
  let skip := if tci.testBit 5 then 28 else 20
  match (d.port p).crypt.rx.get an with
  | none => (none, d.inc (0x4400 + p) 0x24)
  | some sa =>
    let pn := fullPn sa.pn (natOf ((f.bytes.drop 16).take 4))
    if !d.fresh p sa pn then (none, d.inc (0x4400 + p) 0x23)
    else
      let body := (f.bytes.take (f.bytes.length - 4)).drop skip
      let cipher := body.take (body.length - 16)
      if body.length < 16 || exactly 16 (Config.gcmIcv sa.key sa.salt sa.ssci pn (f.bytes.take skip) cipher) ≠ body.drop (body.length - 16) then
        (none, d.inc (0x4400 + p) 0x22)
      else
        let b := f.bytes.take 12 ++ gcmAdd sa pn cipher
        (some { f with bytes := b ++ fcsOf b, wasSealed := true },
          (d.inc (0x4400 + p) 0x21).onCrypt p (fun c => { c with rx := upd c.rx an (fun _ => some { sa with pn := max sa.pn (pn + 1) }) }))

/-- A frame from the line: unsealed, passed on the clear path, or dropped and counted (R231). -/
def Dev.unsealFrame (d : Dev) (p : Port) (f : EthFrame) : Option EthFrame × Dev :=
  if !d.sealsFrames p || f.wasSealed || f.errored then (some f, d)
  else if etherTypeAt12 f = 0x88E5 then d.openFrame p f
  else if d.goesClear p f (d.classOf p f) then (some f, d)
  else (none, d.inc (0x4400 + p) 0x25)

/-! ## Event messages (R310) -/

/-- One of the message types Sync, Delay_Req, Pdelay_Req, Pdelay_Resp of version 2 at an offset. -/
def eventAt (b : List Byte) (o : Nat) : Bool :=
  o + 34 ≤ b.length && natOf ((b.drop o).take 1) % 16 ≤ 3 && natOf ((b.drop (o + 1)).take 1) % 16 = 2

/-- Offset of the EtherType, past at most one tag. -/
def typeOffset (f : EthFrame) : Nat := if isTag (etherTypeAt12 f) then 16 else 12

/-- UDP over IPv4, whole, to port 319: the offset of the UDP header. -/
def udp4 (f : EthFrame) (o : Nat) : Option Nat :=
  let byte := fun i => natOf ((f.bytes.drop i).take 1)
  let u := o + 4 * (byte o % 16)
  if byte o / 16 = 4 && byte (o + 9) = 17 && EthFrame.u16 f (o + 6) % 0x4000 = 0 && EthFrame.u16 f (u + 2) = 319 then some u else none

/-- UDP over IPv6 to port 319. -/
def udp6 (f : EthFrame) (o : Nat) : Option Nat :=
  let byte := fun i => natOf ((f.bytes.drop i).take 1)
  if byte o / 16 = 6 && byte (o + 6) = 17 && EthFrame.u16 f (o + 42) = 319 then some (o + 40) else none

/-- The transport of an event message: its message's offset, and the offset of a UDP header with whether it is over IPv6. -/
def eventIn (en : Nat) (f : EthFrame) : Option (Nat × Option (Nat × Bool)) :=
  let o := typeOffset f
  let t := EthFrame.u16 f o
  let hit := if t = 0x88F7 && en.testBit 5 then some (o + 2, none)
    else if t = 0x0800 && en.testBit 3 then (udp4 f (o + 2)).map (fun u => (u + 8, some (u, false)))
    else if t = 0x86DD && en.testBit 4 then (udp6 f (o + 2)).map (fun u => (u + 8, some (u, true)))
    else none
  match hit with
  | some (m, u) => if eventAt f.bytes m then some (m, u) else none
  | none => none

/-! ## Ring (R311 to R316) -/

/-- An entry of the ring as OCTETS(32). -/
def ringEntry (n : Nat) (egress : Bool) (flags time : Nat) (msg : List Byte) : Nat :=
  natOf (bytesOf 4 n ++ bytesOf 1 (if egress then 0 else 1) ++ msg.take 1 ++ (msg.drop 4).take 1 ++ bytesOf 1 flags
    ++ (msg.drop 30).take 2 ++ (msg.drop 28).take 2 ++ bytesOf 6 (secondsOf time) ++ bytesOf 4 (nanosOf time) ++ bytesOf 1 (time % 16)
    ++ bytesOf 1 0 ++ (msg.drop 20).take 8)

/-- A time moved by a signed number of sixteenths, not below zero. -/
def shift (t : Nat) (by_ : Int) : Nat := ((t : Int) + by_).toNat

/-- The internal path delay now applied: TS_INTERNAL_TX and TS_INTERNAL_RX (R312). -/
def Dev.pathDelay (d : Dev) (p : Port) (egress : Bool) : Nat :=
  Config.pathDelay p.val egress (signed 16 (d.get 0x5A10 (1 + dieOf p))) % 2 ^ 32

/-- A time at the framer as a timestamp at the connector: past the internal path and the board's on the way out, before them on the way in (R312). -/
def Dev.stampTime (d : Dev) (p : Port) (egress : Bool) (t : Nat) : Nat :=
  if egress then shift t (d.pathDelay p true + signed 32 (d.get (0x4480 + p) 2))
  else shift t (-(d.pathDelay p false : Int) - signed 32 (d.get (0x4480 + p) 3))

/-- The unit's events: none while it is in its FATAL safe state (R404). -/
def Dev.stampEnable (d : Dev) (p : Port) : Nat := if d.faultState (srcStamp p) = 4 then 0 else d.get (0x4480 + p) 1

/-- Flags that a die's copy of the time, the unit's reaction and the time base give: unqualified, unset (R315, R404). -/
def Dev.stampFlags (d : Dev) (p : Port) : Nat :=
  (if d.time.copyQualified.get (dieOf p) && d.faultState (srcStamp p) ≠ 3 then 0 else 8) + (if d.flag 0x6000 5 then 0 else 16)

/-- The flag of a set or step that took effect after the frame's period was fixed (R315). -/
def movedFlag (moved : Bool) : Nat := if moved then 32 else 0

/-- Write an entry into the ring of a port, if its direction is enabled (R315); one that nothing has read is overwritten (R319; log entry 26). -/
def Dev.ringWrite (d : Dev) (p : Port) (egress : Bool) (flags time : Nat) (msg : List Byte) : Dev :=
  if !(d.stampEnable p).testBit (if egress then 0 else 1) then d
  else
    let n := d.get (0x4480 + p) 4
    let d := if n % 64 ∈ (d.port p).ringUnread then d.inc (0x4480 + p) 5 else d.onPort p (fun s => { s with ringUnread := n % 64 :: s.ringUnread })
    (d.put (0x4480 + p) (0x40 + n % 64) (ringEntry n egress flags time msg)).put (0x4480 + p) 4 ((n + 1) % 2 ^ 32)

/-- A line die takes a timestamp: it goes up in a TIMESTAMP message, and into the ring. -/
def Dev.ringAdd (d : Dev) (p : Port) (egress : Bool) (flags time : Nat) (msg : List Byte) : Dev :=
  (if (d.stampEnable p).testBit (if egress then 0 else 1) then d.stampSend p egress flags time else d).ringWrite p egress flags time msg

/-! ## One step (R313, R314) -/

/-- Bytes with some replaced. -/
def overwrite (b : List Byte) (o : Nat) (new : List Byte) : List Byte := b.take o ++ new ++ b.drop (o + new.length)

/-- Add to the correctionField of a message. -/
def correct (b : List Byte) (m : Nat) (v : Int) : List Byte :=
  overwrite b (m + 8) (bytesOf 8 (unsigned 64 (signed 64 (natOf ((b.drop (m + 8)).take 8)) + v)))

/-- What the framer writes into a Sync or Pdelay_Resp with twoStepFlag 0; nothing for other messages. -/
def oneStep (b : List Byte) (m t : Nat) : Option (List Byte) :=
  let type := natOf ((b.drop m).take 1) % 16
  if (natOf ((b.drop (m + 6)).take 1)).testBit 1 then none
  else if type = 0 then some (correct (overwrite b (m + 34) (bytesOf 6 (secondsOf t) ++ bytesOf 4 (nanosOf t))) m (t % 16 * 4096 : Nat))
  else if type = 3 then
    let r := natOf ((b.drop (m + 34)).take 6) * perSecond + natOf ((b.drop (m + 40)).take 4) * 16
    some (correct (overwrite b (m + 34) (List.replicate 10 0)) m (((t : Int) - r) * 4096))
  else none

/-- Ones' complement sum of 16-bit words. -/
def onesSum (b : List Byte) : Nat :=
  (List.range ((b.length + 1) / 2)).foldl (fun s i =>
    let v := s + natOf (exactly 2 ((b.drop (2 * i)).take 2))
    if 65536 ≤ v then v - 65535 else v) 0

/-- The UDP checksum after an update: zero over IPv4, corrected incrementally over IPv6. -/
def fixChecksum (old new : List Byte) (u : Nat) (v6 : Bool) : List Byte :=
  if v6 then
    let hc := natOf ((old.drop (u + 6)).take 2)
    let a := onesSum (bytesOf 2 (65535 - hc) ++ bytesOf 2 (65535 - onesSum (old.drop (u + 8))) ++ bytesOf 2 (onesSum (new.drop (u + 8))))
    overwrite new (u + 6) (bytesOf 2 (if 65535 - a = 0 then 65535 else 65535 - a))
  else overwrite new (u + 6) (bytesOf 2 0)

/-- A frame leaves the framer at a time: its timestamp, its one-step update, its entry. Answers the bytes the line carries. -/
def Dev.stampOut (d : Dev) (p : Port) (f : EthFrame) (sealed : Bool) (line : List Byte) (t : Nat) : List Byte × Dev :=
  match eventIn (d.stampEnable p) f with
  | none => (line, d)
  | some (m, u) =>
    let time := d.stampTime p true t
    let one := if (d.stampEnable p).testBit 2 then oneStep (f.bytes.take (f.bytes.length - 4)) m time else none
    let flags := d.stampFlags p + (if sealed then 2 else 0)
    match one with
    | none => (line, d.ringAdd p true flags time (f.bytes.drop m))
    | some b =>
      if sealed then (line, (d.inc (0x4480 + p) 0xD).ringAdd p true (flags + 4) time (f.bytes.drop m))
      else
        let b := match u with | some (o, v6) => fixChecksum (f.bytes.take (f.bytes.length - 4)) b o v6 | none => b
        (b ++ fcsOf b, d.ringAdd p true (flags + 1) time (f.bytes.drop m))

/-- A line die reports a timestamp at its framer of an event message, with what it has done to the frame (R309, R312 to R315). -/
def Dev.stampMessage (d : Dev) (p : Port) (egress wasSealed moved : Bool) (t : Nat) (msg : List Byte) : Dev :=
  let time := d.stampTime p egress t
  let one := egress && (d.stampEnable p).testBit 2 && (oneStep msg 0 time).isSome
  (if one && wasSealed then d.inc (0x4480 + p) 0xD else d).ringWrite p egress
    (d.stampFlags p + (if wasSealed then 2 else 0) + (if one then (if wasSealed then 4 else 1) else 0) + movedFlag moved) time msg

/-- The entries of a port's ring that have been read since they were written (R319). -/
def Dev.ringSeen (d : Dev) (p : Port) (place : Nat) : Dev :=
  d.onPort p (fun s => { s with ringUnread := s.ringUnread.filter (· ≠ place) })

/-- A frame has arrived from the line. -/
def Dev.stampIn (d : Dev) (p : Port) (f : EthFrame) : Dev :=
  match f.mdiTime, eventIn (d.stampEnable p) f with
  | some t, some (m, _) => d.ringAdd p false (d.stampFlags p + (if f.wasSealed then 2 else 0) + movedFlag f.moved) (d.stampTime p false t) (f.bytes.drop m)
  | _, _ => d

/-! ## Admission -/

/-- The FCS of a frame does not fit its bytes. -/
def badFcs (b : List Byte) : Bool := fcsOf (b.take (b.length - 4)) != b.drop (b.length - 4)

/-- The frame ended in error. -/
def badEnd (f : EthFrame) : Bool := f.errored || f.fcsBad

/-- The frame's first byte left its queue before it ended: never where the queue waits for the whole frame (R114, R259, R260). -/
def Dev.cutThrough (d : Dev) (p : Port) (dir : Dir) (f : EthFrame) : Bool := f.begun && !(dir = .ingress && d.wholeFirst p)

/-- Cause under which a frame is discarded at its arrival (R267): the lowest that applies; nothing when it is queued. `tested` says that room was looked for
as its first byte arrived. -/
def Dev.refuses (d : Dev) (p : Port) (dir : Dir) (f : EthFrame) (tested : Bool) : Option Nat :=
  if dir = .egress && !d.linkUp p then some 3
  else if !tested && !d.hasRoom p dir then some (match dir with | .egress => 5 | .ingress => 6)
  else if !d.cutThrough p dir f && d.get (0x2000 + p) 4 < f.bytes.length then some 7
  else if f.bytes.length < 64 then some 8
  else if !d.cutThrough p dir f && badEnd f then some 9
  else none

/-- Queue a frame or discard it; one that was cut through and is too long ends errored (R260). -/
def Dev.enqueue (d : Dev) (p : Port) (dir : Dir) (q : Fin 32) (f : EthFrame) (tested : Bool := false) : Dev :=
  match d.refuses p dir f tested with
  | some c => d.countDiscard p q c 1
  | none =>
    let f := if d.get (0x2000 + p) 4 < f.bytes.length then { f with errored := true } else f
    (d.onQueue p q (fun l => l ++ [f])).flowCheck p dir

/-- The frame is a management frame that the in-band route takes from a host lane (R65). -/
def Dev.takesInband (d : Dev) (p : Port) (f : EthFrame) : Bool :=
  d.get 0x1424 1 = p.val && etherTypeAt12 f = 0x88B5 && natOf (f.bytes.take 6) = d.get 0x1420 1

/-- A frame exceeds HL_MAX_FRAME, a limit from either side: OVERSIZE (R252). -/
def Dev.sizeSeen (d : Dev) (p : Port) (n : Nat) : Dev := if d.get (0x2000 + p) 4 < n then d.event (0x2080 + p) 5 else d

/-- A frame's counts on the host lane. -/
def Dev.countFromSwitch (d : Dev) (p : Port) (f : EthFrame) : Dev :=
  let d := (d.inc (0x2180 + p) 1).count (0x2180 + p) 2 f.bytes.length
  let d := if f.fcsBad then d.inc (0x2180 + p) 5 else d
  let d := if f.errored then d.inc (0x2180 + p) 6 else d
  d.sizeSeen p f.bytes.length

/-- A frame from the switch (R253 to R260). -/
def Dev.egressArrival (d : Dev) (p : Port) (f : EthFrame) : Dev :=
  let d := d.countFromSwitch p f
  match flowFrame? f with
  | some fc => d.fcFromSwitch p fc (!badEnd f)
  | none =>
    if d.takesInband p f then d
    else
      let cls := d.classOf p f
      let sealed := d.sealsFrames p && !d.goesClear p f cls
      (d.enqueue p .egress (queueOf .egress sealed cls) f).wakeIfPending p

/-- The cause under which a frame from the line is refused as its first byte arrives (R257, R267, R300). -/
def Dev.refusedNow (d : Dev) (p : Port) : Option Nat :=
  if d.crowdedOut (dieOf p) .up then some 1 else if d.hasRoom p .ingress then none else some 6

/-- What the ingress buffer holds of the bytes that have come from the line: all; on a link that seals those of a frame that goes clear, once that is known, and
nothing of any other, whose path is found by its checks when it is whole (R231, R254, R256). -/
def Dev.heldOf (d : Dev) (p : Port) (bytes : List Byte) : List Byte :=
  let f : EthFrame := { bytes := bytes }
  if d.sealsFrames p && (bytes.length < 24 || etherTypeAt12 f = 0x88E5 || !d.goesClear p f (d.classOf p f)) then [] else bytes

/-- A frame in arrival after more of its bytes: its class and path are found once, from its first sixteen bytes (R253, R254). -/
def Dev.moreOf (d : Dev) (p : Port) (r : RxFrame) (bytes held : List Byte) : RxFrame :=
  let f : EthFrame := { bytes := held }
  let r := { r with bytes := bytes, held := held }
  if held.length < 16 || r.flow then r
  else if (flowFrame? f).isSome then { r with flow := true }
  else { r with queue := r.queue.or (some (queueOf .ingress false (d.classOf p f))) }

/-- A frame that has begun on the host lane is whole: it ends there, with an error code when it is bad or too long (R260). -/
def Dev.begunEnds (d : Dev) (p : Port) (q : Fin 32) (f : EthFrame) : Dev :=
  let d := (d.sizeSeen p f.bytes.length).sendToSwitch p { f with errored := badEnd f || d.get (0x2000 + p) 4 < f.bytes.length }
  ((d.countLeft p q f.bytes.length).flowCheck p .ingress).wakeIfPending p

/-- A frame crosses the twill link up (R274). -/
def Dev.crossUp (d : Dev) (p : Port) (q : Fin 32) (f : EthFrame) (more : Bool) : Dev :=
  d.crossFrame (dieOf p) .up (placeOf p) q.val f.bytes (badEnd f) more

/-- A frame from the line that has passed the sealing unit crosses the twill link; flow control is consumed, the rest queued, unless it was refused (R253 to R260,
R274, R300). `queue` is what was found of it as it arrived. -/
def Dev.ingressAdmit (d : Dev) (p : Port) (f : EthFrame) (queue : Option (Fin 32)) (refused : Option Nat) (more : Bool) : Dev :=
  let d := d.stampIn p f
  let q := queue.getD (queueOf .ingress f.wasSealed (d.classOf p f))
  match flowFrame? f, refused with
  | some fc, _ => (d.crossUp p q f more).fcFromLine p fc (!badEnd f)
  | none, some c => (d.sizeSeen p f.bytes.length).countDiscard p q c 1
  | none, none => (((d.sizeSeen p f.bytes.length).crossUp p q f more).enqueue p .ingress q f true).wakeIfPending p

/-- A frame from the line, with what was found of it, and what the test at its first byte gave. -/
def Dev.ingressArrival (d : Dev) (p : Port) (f : EthFrame) (queue : Option (Fin 32)) (refused : Option Nat) (more : Bool) : Dev :=
  if queue.isSome then d.ingressAdmit p f queue refused more
  else match d.unsealFrame p f with
    | (none, d) => d
    | (some f, d) => d.ingressAdmit p f none refused more

end Sys2Proof.Machine
end

