-- ==== Sys2Proof/Machine/HostLane.lean ====
section
/-! DEFINITION. Host lanes, arrivals, schedulers and flow control (R247 to R266). -/

namespace Sys2Proof.Machine

/-! ## Lane states (R250, R251) -/

/-- A lane in ACQUIRING or RELOCKING reaches UP; that ends its reaction (R404). -/
def Dev.laneUp (d : Dev) (p : Port) : Dev :=
  if d.hlState p = 1 || d.hlState p = 3 then (((d.put (0x2100 + p) 1 2).event (0x2080 + p) 0).reactionEnd (srcHostLane p)).inbandWake else d

/-- `HL_LOCK_ACQUIRED` (R250). -/
def execHlLockAcquired (p : Port) (s : State) : Host.Outcome State Fault Refusal := s.event (fun d => d.laneUp p)

/-- A lane in UP loses a lock: RELOCKING, frames on their way across it end errored, and the switch's fault sequences are no longer seen (R250, R268). -/
def Dev.laneDown (d : Dev) (p : Port) : Dev :=
  if d.hlState p = 2 then
    (((((d.abortStream p).cutArrival p).put (0x2100 + p) 1 3).event (0x2080 + p) 1).inc (0x2180 + p) 9).onHost p (fun h => { h with switchSends := .none })
  else d

/-- `HL_LOCK_LOST` (R250). -/
def execHlLockLost (p : Port) (s : State) : Host.Outcome State Fault Refusal := s.event (fun d => d.laneDown p)

/-- The switch begins or ends sending a fault sequence: while one lasts nothing more of a frame crosses the lane, and under local fault the line's payload is
idle (R251). -/
def Dev.faultSequence (d : Dev) (p : Port) (fault : HostFault) : Dev :=
  if d.hlState p ≠ 2 || (d.port p).host.switchSends = fault then d
  else
    let d := d.onHost p (fun h => { h with switchSends := fault })
    match fault with
    | .localFault => ((d.abortStream p).cutArrival p).event (0x2080 + p) 6
    | .remoteFault => (d.cutArrival p).event (0x2080 + p) 7
    | .none => d

/-- `HL_FAULT_SEQUENCE_RX` (R251). -/
def execHlFaultSequenceRx (p : Port) (fault : HostFault) (s : State) : Host.Outcome State Fault Refusal :=
  s.event (fun d => d.faultSequence p fault)

/-! ## Arrivals -/

/-- The codewords that the lane's FEC corrected, and that it could not, since the frame before: rates 1 and 2 have FEC (R248, R252). -/
def Dev.fecSeen (d : Dev) (p : Port) (corrected uncorrectable : Nat) : Dev :=
  if 2 < d.get (0x2000 + p) 1 then d
  else
    let d := d.count (0x2180 + p) 7 corrected
    if uncorrectable = 0 then d else (d.count (0x2180 + p) 8 uncorrectable).event (0x2080 + p) 4

/-- `EGRESS_FRAME_ARRIVAL` (R252 to R260, R65): the lane is UP. -/
def execEgressFrameArrival (p : Port) (f : EthFrame) (corrected uncorrectable : Nat) (s : State) : Host.Outcome State Fault Refusal :=
  s.event (fun d => if d.hlState p = 2 then (d.fecSeen p corrected uncorrectable).egressArrival p f else d)

/-- `INGRESS_FRAME_ARRIVAL` (R231, R253 to R260): the link carries data. -/
def execIngressFrameArrival (p : Port) (f : EthFrame) (s : State) : Host.Outcome State Fault Refusal :=
  s.event (fun d => if d.linkUp p then (d.lookedAt (dieOf p) .up).ingressArrival p f none (d.refusedNow p) false else d)

/-! ## Schedulers (R258 to R260) -/

/-- Something has left a direction's buffer: thresholds are looked at again. -/
def Dev.afterSend (d : Dev) (p : Port) (dir : Dir) : Dev := (d.flowCheck p dir).wakeIfPending p

/-- The host lane takes a frame: the pending flow-control frame, else what the scheduler picks, which may be one that still arrives (R259, R263). Nothing while
such a frame is on its way. -/
def Dev.pickIngress (d : Dev) (p : Port) : Dev :=
  if d.hlSignal p ≠ 4 || (d.arrivals p).any (fun r => r.begun && !r.cut) then d
  else match (d.flow p .egress).pending with
    | some fc =>
      let b := flowBytes (d.get (0x2200 + p) 0xD) fc
      let d := (d.onFlow p .egress (fun f => { f with pending := none })).inc (0x2180 + p) 0xB
      ((d.inc (0x2180 + p) 3).count (0x2180 + p) 4 b.length).emit (.fcToSwitch p fc b)
    | none =>
      match d.takeFrame p .ingress with
      | none => d.startArriving p
      | some (f, q, d) => ((d.sendToSwitch p { f with errored := badEnd f }).countLeft p q f.bytes.length).afterSend p .ingress

/-- A frame has left on the line whole, or ended there with an error code. -/
def Dev.frameLeft (d : Dev) (p : Port) (t : TxFrame) : Dev := (d.frameGone p t).afterSend p .egress

/-- A standard link takes a frame when the one before it has left. -/
def Dev.standardLeft (d : Dev) (p : Port) : Dev :=
  match (d.port p).native.tx with
  | some t => if d.native p then d else (d.onNative p (fun n => { n with tx := none })).frameLeft p t
  | none => d

/-- Bytes that the line has taken and not sent. -/
def Dev.lineOwes (d : Dev) (p : Port) : Nat := (d.txFrames p).foldl (fun n t => n + (t.line.length - t.sent)) 0

/-- The line is open to frames: data flows in the own direction, no hold, no relock, and the host lane gives frames; the pewter window has not asked a standard port to
idle (R73). -/
def Dev.lineOpen (d : Dev) (p : Port) : Bool :=
  !(d.port p).link.held && (d.port p).native.resumeLeft = 0
  && d.hlState p = 2 && (d.port p).host.switchSends ≠ .localFault
  && (d.native p || !d.mgmt.idleAsked.contains p.val)
  && (if d.native p then (d.linkState p = 4 || d.linkState p = 6 || d.linkState p = 7) && (d.txQuiet p = 0 || d.txQuiet p = 5)
      else (d.linkState p = 4 || d.linkState p = 6) && d.txQuiet p = 0)

/-- The line can take a frame: it is open, and the line die of a native port holds less than a payload block's worth of frames (log entry 81). -/
def Dev.lineTakes (d : Dev) (p : Port) : Bool := d.lineOpen p && (!d.native p || d.lineOwes p < 2048)

/-- A frame goes to the line: behind what the native framer holds, or onto a standard link, where it is stamped as it starts. Queue 32 is that of a flow-control
frame; `away` says that the frame has left the host die in blocks, `lost` that a fault has discarded it. -/
def Dev.toLine (d : Dev) (p : Port) (f : EthFrame) (q : Nat) (sealed : Bool) (line : List Byte) (away : Bool := false) (lost : Bool := false) : Dev :=
  let t : TxFrame := { frame := f, queue := q, sealed := sealed, line := line, abort := badEnd f, away := away, lost := lost }
  if d.native p then
    d.onNative p (fun n => match n.tx with | none => { n with tx := some t } | some _ => { n with after := n.after ++ [t] })
  else
    let (b, d) := d.stampOut p f sealed line d.now
    d.onNative p (fun n => { n with tx := some { t with line := b, sent := 1 } })

/-- A frame crosses the twill link down (R274), and on to the line, sealed when its path is. -/
def Dev.sendDown (d : Dev) (p : Port) (f : EthFrame) (q : Nat) : Dev :=
  let more := (d.pickClass p .egress).isSome
  let d := d.crossFrame (dieOf p) .down (Fin.ofNat 16 (localOf p)) q f.bytes (badEnd f) more
  if 8 ≤ q && q < 16 then
    match d.sealFrame p f with
    | (some b, d) => d.toLine p f q true b
    | (none, d) => if h : q < 32 then (d.countLeft p ⟨q, h⟩ f.bytes.length).afterSend p .egress else d
  else d.toLine p f q false f.bytes

/-- The flow-control frame that waits for the line, if one does. -/
def Dev.flowWaits (d : Dev) (p : Port) : Option EthFrame := (d.flow p .ingress).pending.map (fun fc => { bytes := flowBytes (d.get (0x2200 + p) 0xD) fc })

/-- The line takes a frame: on a standard link the pending flow-control frame, which a native line sends at its own next frame boundary (R263), else what the scheduler
picks, unless the down direction is short of lanes for it (R300). -/
def Dev.pickEgress (d : Dev) (p : Port) : Dev :=
  let d := d.standardLeft p
  if !d.lineTakes p then d
  else match (if d.native p then none else d.flowWaits p) with
    | some f => (d.onFlow p .ingress (fun f => { f with pending := none })).sendDown p f 32
    | none =>
      match d.takeFrame p .egress with
      | none => d
      | some (f, q, d') => if d.crowdedOut (dieOf p) .down then d.newDraw else (d'.lookedAt (dieOf p) .down).sendDown p f q.val

/-- `SCHEDULER_PICK` (R258 to R260, R263). -/
def execSchedulerPick (p : Port) (dir : Dir) (s : State) : Host.Outcome State Fault Refusal :=
  s.event (fun d => match dir with | .egress => d.pickEgress p | .ingress => d.pickIngress p)

/-! ## Flow control (R261 to R264) -/

/-- `FC_FRAME_FROM_SWITCH` (R252, R264): a frame of 64 bytes from the switch. -/
def execFcFrameFromSwitch (p : Port) (fc : FcFrame) (s : State) : Host.Outcome State Fault Refusal :=
  s.event (fun d => if d.hlState p = 2 then ((d.inc (0x2180 + p) 1).count (0x2180 + p) 2 64).fcFromSwitch p fc true else d)

/-- `FC_FRAME_FROM_LINE` (R264). -/
def execFcFrameFromLine (p : Port) (fc : FcFrame) (s : State) : Host.Outcome State Fault Refusal :=
  s.event (fun d => if d.linkUp p then d.fcFromLine p fc true else d)

/-- Priorities left paused when a class is released. -/
def Dev.release (d : Dev) (p : Port) (cls : Fin 8) (prios : Nat) : Nat :=
  (allFin 8).foldl (fun m i => if mapClass (d.get (0x2280 + p) 1) i.val = cls.val then putBit m i.val false else m) prios

/-- The quanta time of a received pause ends: of a PAUSE for every class, else of the class's priorities. -/
def Dev.pauseExpiry (d : Dev) (p : Port) (dir : Dir) (cls : Fin 8) : Dev :=
  d.onFlow p dir (fun f => if f.pausedAll then { f with pausedAll := false } else { f with pausedPrios := d.release p cls f.pausedPrios })

/-- `PAUSE_EXPIRY` (R264). -/
def execPauseExpiry (p : Port) (dir : Dir) (cls : Fin 8) (s : State) : Host.Outcome State Fault Refusal :=
  s.event (fun d => d.pauseExpiry p dir cls)

/-- Half the quanta time has passed while a pause holds: it is sent again (R263). -/
def Dev.pauseResend (d : Dev) (p : Port) (dir : Dir) : Dev :=
  if (d.flow p dir).pausing = 0 then d
  else (d.onFlow p dir (fun f => { f with pending := some (d.flowFrame p dir f.pausing) })).wakeIfPending p

/-- `PAUSE_RESEND` (R263). -/
def execPauseResend (p : Port) (dir : Dir) (s : State) : Host.Outcome State Fault Refusal := s.event (fun d => d.pauseResend p dir)

end Sys2Proof.Machine
end

