-- ==== Sys2Proof/Machine/Native.lean ====
section
/-! DEFINITION. Native and training frames: what the transmitter sends at a frame boundary, and what the receiver makes of a frame
(R84 to R108, R172 to R177, R185 to R190, R193, R311). -/

namespace Sys2Proof.Machine

/-! ## Flags and the selvage stream (R101 to R104) -/

/-- Symbol periods in a tick of the 2 MHz clock. -/
def selvageDivisor (mode : Nat) : Nat := if mode = 8 then 2000 else 4000

/-- The symbol clock has run for a frame: bits fall due. -/
def Dev.selvageTick (d : Dev) (p : Port) : Dev :=
  d.onSelvage p (fun s =>
    let n := s.phase + framePeriods (d.mode p)
    { s with phase := n % selvageDivisor (d.mode p), due := s.due + n / selvageDivisor (d.mode p) })

/-- The next bit of the stream: of the message in transmission, else of flags. -/
def Dev.selvageBit (d : Dev) (p : Port) : Option Bool × Dev :=
  let s := (d.port p).selvage
  if s.due = 0 then (none, d)
  else
    let bits := if s.bits.isEmpty then flagBits else s.bits
    let d := d.onSelvage p (fun s => { s with due := s.due - 1, bits := bits.tail })
    match bits.tail, s.sending with
    | [], some m => (bits.head?, ((d.onSelvage p (fun s => { s with sending := none })).inc (0x4300 + p) 0x1A).messageSent p m)
    | _, _ => (bits.head?, d)

/-! ## Training frames (R172, R173) -/

/-- The transmitter of a training end is silent: slave in stage 1. -/
def Dev.trainSilent (d : Dev) (p : Port) : Bool := d.stage p = 1 && !d.isMaster p

/-- The next frame of a training end is its first data frame (R177). -/
def Dev.dataNext (d : Dev) (p : Port) : Bool :=
  d.stage p = 6 && 4 ≤ (d.port p).train.stage6Sent && 4 ≤ (d.port p).train.stage6Run

/-- Send a training frame. -/
def Dev.sendTraining (d : Dev) (p : Port) : Dev :=
  let d := d.tapsTakeEffect p
  let (sv, d) := (d.selvageTick p).selvageBit p
  let t := (d.port p).train
  let h := trainHeader (d.stage p) t.locked t.converged (d.faultFlags p) sv (d.bundleState p = 3) t.number
  let d := d.sendSymbols p (trainSymbols (d.mode p) (d.stage p) h)
  (d.onTrain p (fun t => { t with
    number := t.number + 1, stage6Sent := if d.stage p = 6 then t.stage6Sent + 1 else t.stage6Sent })).stageAdvance p

/-! ## Data frames -/

/-- A frame starts in this native frame: its timestamp, and one-step bytes in place of its own. The byte's place does not move, so that blocks may be filled
again. -/
def Dev.stampStart (d : Dev) (p : Port) (t : TxFrame) (startBit : Nat) : TxFrame × Dev :=
  let mode := d.mode p
  let time := d.now + periodOfBit mode (overheadBits mode + startBit) * periodUnits mode
  let (line, d) := d.stampOut p t.frame t.sealed t.line time
  ({ t with line := line }, d)

/-- Stamp the frames that start, each given by its place among those held and by the bit of the payload; a start past the payload comes with the next frame. -/
def Dev.stampStarts (p : Port) (want : Nat) : List (Nat × Nat) → List TxFrame × Dev → List TxFrame × Dev
  | [], s => s
  | (i, b) :: l, (frames, d) =>
    if want ≤ b then Dev.stampStarts p want l (frames, d)
    else match frames[i]? with
      | some t => let (t', d') := d.stampStart p t b; Dev.stampStarts p want l (frames.set i t', d')
      | none => Dev.stampStarts p want l (frames, d)

/-- The frames for the payload of this native frame: the one begun, the flow-control frame that waits, and the rest (R263). -/
def Dev.framesNow (d : Dev) (p : Port) : List TxFrame :=
  let held := d.txFrames p
  match (if d.lineOpen p then d.flowWaits p else none) with
  | some f => held.filter (fun t => decide (t.sent ≠ 0)) ++ { frame := f, queue := 32, line := f.bytes } :: held.filter (fun t => decide (t.sent = 0))
  | none => held

/-- The frame is a flow-control frame that has not begun. -/
def TxFrame.unsentFlow (t : TxFrame) : Bool := t.queue = 32 && t.sent = 0

/-- The flow-control frame that waited has begun, so that none waits; or it still does, and is none of those that the line has taken. -/
def Dev.flowSent (d : Dev) (p : Port) (frames : List TxFrame) (f : Filling) : Filling × Dev :=
  ({ f with frames := f.frames.filter (fun t => !t.unsentFlow) },
    match frames.find? TxFrame.unsentFlow with
    | some t => if f.frames.any TxFrame.unsentFlow then d
        else (d.onFlow p .ingress (fun w => { w with pending := none })).crossFrame (dieOf p) .down (placeOf p) 32 t.line false false
    | none => d)

/-- Blocks for the payload of this frame, timestamps and one-step updates included. -/
def Dev.payloadFor (d : Dev) (p : Port) (want : Nat) (frames : List TxFrame) : Filling × Dev :=
  let s : Filling := { bits := (d.port p).native.txBits, frames := frames }
  let f := fillPayload want 8 s
  let (frames, d) := Dev.stampStarts p want f.starts (s.frames, d)
  (fillPayload want 8 { s with frames := frames }, d)

/-- Send a data frame (R84 to R95). What carries RESUME still belongs to the stream before it: a new one starts after the last (R185). -/
def Dev.sendData (d : Dev) (p : Port) : Dev :=
  let d := (d.tapsTakeEffect p).keySwitch p
  let want := payloadBits (d.mode p)
  let resume := (d.port p).native.resumeLeft
  let flags := d.faultFlags p + (if 0 < resume then 4 else 0)
  let (sv, d) := (d.selvageTick p).selvageBit p
  let frames := d.framesNow p
  let (f, d) := d.payloadFor p want frames
  let (f, d) := d.flowSent p frames f
  let d := ((d.dataFrame p flags sv (f.bits.take want)).fillKept p want f).onNative p (fun n => { n with
    resumeLeft := n.resumeLeft - 1, txBits := if resume = 1 then [] else n.txBits })
  f.finished.foldl (fun d t => d.frameLeft p t) d

/-- The first data frame after a wake: the own direction is active, and reports that waited are queued (R190, R201, R205). -/
def Dev.txAwake (d : Dev) (p : Port) : Dev :=
  if d.txQuiet p ≠ 5 then d
  else
    let d := (((d.onNative p (fun n => { n with txBits := [] })).setTxQuiet p 0).onLink p (fun l => { l with dataSince := d.uptime })).quietLink p
    match (d.port p).link.reportDue with
    | none => d
    | some (c, t) => (d.onLink p (fun l => { l with reportDue := none })).queueService p (.relockReport c t)

/-- The own transmitter sends data frames at this boundary. -/
def Dev.txRuns (d : Dev) (p : Port) : Bool :=
  (match (d.port p).link.relock with | some r => r.resumed | none => true)
  && ((d.linkState p = 4 || d.linkState p = 5 || d.linkState p = 6) && (d.txQuiet p = 0 || d.txQuiet p = 5)
      || d.linkState p = 7 && d.txQuiet p = 5 && (d.rxQuiet p = 5 || d.rxQuiet p = 0))

/-- A native frame boundary of the transmitter: a training frame, a data frame, or one more frame of a relock's burst (R188). -/
def Dev.nativeTx (d : Dev) (p : Port) : Dev :=
  if !d.native p then d
  else if d.linkState p = 3 then
    if d.stage p = 0 || d.trainSilent p then d
    else if (d.port p).train.dataSent then d.sendData p
    else if d.dataNext p then (((d.onNative p (fun n => { n with txNumber := 0 })).sendData p).onTrain p (fun t => { t with dataSent := true })).dataCheck p
    else d.sendTraining p
  else if d.txRuns p then (d.txAwake p).sendData p
  else if d.bursting p && !d.burstWaits p then Dev.sendBurst p 0 1 d
  else d

/-- `NATIVE_FRAME_TX` (R84 to R95, R101 to R104, R122, R172, R173, R201, R311, R313, R469). -/
def execNativeFrameTx (p : Port) (s : State) : Host.Outcome State Fault Refusal := 
  s.event (fun d => ((d.nativeTx p).rejectGone p).checkpointIfDue p)

/-! ## The selvage receiver (R104, R105, R108) -/

/-- A message received intact acts. -/
def Dev.rxMessage (d : Dev) (p : Port) : SelvageMsg → Dev
  | .relockReport _ h => d.rxRelockReport p h
  | .hushNote => d.gotMessage p
  | .sealHello h => d.rxHello p h
  | .sealProof e s => d.rxProof p e s
  | .sealFinish e t => d.rxFinish p e t
  | .sealReject .. => d.rxReject p
  | .precoder k ts => d.rxPrecoder p k ts
  | .precoderAck k r => d.rxPrecoderAck p k r
  | .telemetry ms _ _ => d.rxTelemetry p ms
  | .partnerQuery i => d.rxQuery p i
  | .partnerReply i r ds => d.rxReply p i r ds

/-- The bits between two flags. -/
def Dev.rxContent (d : Dev) (p : Port) (bits : List Bool) : Dev :=
  if bits.isEmpty then d
  else match (bytesFromBits 256 bits).bind SelvageMsg.ofBytes with
    | some m => d.rxMessage p m
    | none => d.inc (0x4300 + p) 0x18

/-- One bit of the partner's stream. -/
def Dev.rxSelvage (d : Dev) (p : Port) (b : Bool) : Dev :=
  let s := (d.port p).selvage
  let keep := fun bits ones is => d.onSelvage p (fun s => { s with rxBits := bits, rxOnes := ones, rxOpen := is })
  if b then
    if 6 ≤ s.rxOnes then keep [] 7 false else keep (s.rxBits ++ [true]) (s.rxOnes + 1) s.rxOpen
  else if s.rxOnes = 5 then keep s.rxBits 0 s.rxOpen
  else if s.rxOnes = 6 then
    let d := keep [] 0 true
    if s.rxOpen then d.rxContent p (s.rxBits.take (s.rxBits.length - 7)) else d
  else keep (s.rxBits ++ [false]) 0 s.rxOpen

/-! ## Training frames received -/

/-- Flags of a frame or header: none where both HOLD and RESUME are set, which is counted (R101). -/
def Dev.flagsIn (d : Dev) (p : Port) (flags : Nat) : Nat × Dev :=
  if flags.testBit 3 && flags.testBit 2 then (0, d.inc (0x4300 + p) 0x14) else (flags, d)

/-- A valid header of the partner in training. Four headers in a row with STAGE 6, once received, stay received (R177). -/
def Dev.trainHeaderRx (d : Dev) (p : Port) (h : Nat) : Dev :=
  let d := d.onTrain p (fun t =>
    let valid := t.validRun + 1
    { t with
      validRun := valid
      lockedRun := if h.testBit 44 then t.lockedRun + 1 else 0
      stage6Run := if field h 45 3 = 6 || 4 ≤ t.stage6Run then t.stage6Run + 1 else 0
      locked := t.locked || (d.stage p = 2 && 8 ≤ valid) || (d.isMaster p && d.stage p = 2)
      partnerConverged := h.testBit 43 })
  let (flags, d) := d.flagsIn p (field h 37 6)
  let d := d.onNative p (fun n => { n with partnerLf := flags.testBit 5, partnerRf := flags.testBit 4 })
  let d := if h.testBit 36 then d.rxSelvage p (h.testBit 35) else d
  d.stageAdvance p

/-- A training frame of a burst or refresh: its LF and RF (R102); the partner's direction wakes, unless a refresh proves to be under way (R200), or asks for deep quiet
(R201, R203), which counts only without HOLD and RESUME (R101). -/
def Dev.burstRx (d : Dev) (p : Port) (h : Nat) : Dev :=
  if field h 45 3 ≠ 7 then d
  else
    let (flags, d) := d.flagsIn p (field h 37 6)
    let d := d.onNative p (fun n => { n with partnerLf := flags.testBit 5, partnerRf := flags.testBit 4 })
    if !(d.rxQuiet p = 2 || d.rxQuiet p = 3) || d.linkState p = 7 then d
    else if flags % 16 = 3 then (d.setRxQuiet p 3).onLink p (fun l => { l with deepGot := true })
    else ((d.widen (dieOf p) .up).rxWaking p).onLink p (fun l => { l with deepGot := false })

/-- A burst of the partner reaches an end that relocks too: a slave that waited for the master's sends its own (R188). -/
def Dev.masterBurst (d : Dev) (p : Port) (h : Nat) : Dev :=
  match (d.port p).link.relock with
  | some r =>
    if field h 45 3 ≠ 7 || r.silent then d
    else
      let d := d.onLink p (fun l => { l with relock := some { r with heard := true } })
      if r.reloaded && !r.burst then d.relockBurst p else d
  | none => d

/-- A training frame arrives. -/
def Dev.trainingRx (d : Dev) (p : Port) (h : Nat) : Dev :=
  if !d.native p then d
  else if d.linkState p = 3 then
    if d.stage p = 0 then d
    else if headerValid h then d.trainHeaderRx p h
    else d.onTrain p (fun t => { t with validRun := 0, lockedRun := 0, stage6Run := if 4 ≤ t.stage6Run then t.stage6Run else 0 })
  else if headerValid h && 5 ≤ d.linkState p && d.linkState p ≤ 7 then (d.masterBurst p h).burstRx p h
  else d

/-- `TRAINING_FRAME_RX` (R172, R174, R177, R201, R203). -/
def execTrainingFrameRx (p : Port) (header : Nat) (s : State) : Host.Outcome State Fault Refusal :=
  s.event (fun d => d.trainingRx p header)

/-! ## Payload blocks of the receiver (R96) -/

/-- The test at a frame's first byte, and the frame in progress from there (R257, R300). -/
def Dev.rxStart (d : Dev) (p : Port) (time : Nat) : Dev :=
  let refused := d.refusedNow p
  (d.lookedAt (dieOf p) .up).onNative p (fun n => { n with rx := some { mdiTime := time, refused := refused } })

/-- A received Ethernet frame is whole. One that has begun on the host lane ends there, with an error code when its FCS is bad or it is too long (R260); a runt is
ended with an error code and discarded (R96, R259); the rest goes to the sealing unit and on. `more` says that the next frame begins within 2 ns (R274). -/
def Dev.rxComplete (d : Dev) (p : Port) (r : RxFrame) (more : Bool) : Dev :=
  let d := d.onNative p (fun n => { n with rx := none })
  let f : EthFrame := { bytes := r.bytes, fcsBad := badFcs r.bytes, mdiTime := some r.mdiTime, moved := r.moved }
  if r.cut then d
  else if r.begun then ((d.stampIn p f).crossUp p (d.lostQueue p r) f more).begunEnds p (d.lostQueue p r) f
  else if r.bytes.length < 64 then ((d.inc (0x4300 + p) 0x17).countDiscard p (d.lostQueue p r) (r.refused.getD 8) 1).flowCheck p .ingress
  else (d.ingressArrival p f r.queue r.refused more).flowCheck p .ingress

/-- A block is not well formed. -/
def Dev.rxMalformed (d : Dev) (p : Port) : Dev := (d.abortRx p).inc (0x4300 + p) 0x16

/-- Add bytes to the frame in progress: what the ingress buffer holds of them counts at once (R256, R262). -/
def Dev.rxBytes (d : Dev) (p : Port) (b : List Byte) : Dev :=
  match (d.port p).native.rx with
  | none => d
  | some r =>
    let r := d.moreOf p r (r.bytes ++ b) (d.heldOf p (r.bytes ++ b))
    ((d.onNative p (fun n => { n with rx := some r })).flowCheck p .ingress).wakeIfPending p

/-- The events of a CONTROL block, as type and offset. -/
def eventsOf (area : List Byte) (n : Nat) : List (Nat × Nat) :=
  (List.range n).map (fun i => (natOf ((area.drop (1 + 2 * i)).take 1) / 64, natOf ((area.drop (2 + 2 * i)).take 1)))

/-- The events are those of a well-formed block, with a frame in progress or without. -/
def eventsGood (size : Nat) : List (Nat × Nat) → Bool → Option Nat → Bool
  | [], _, _ => true
  | (t, o) :: l, busy, last =>
    o < size && (match last with | some k => k < o | none => true)
    && (if t = 0 then !busy else (t = 1 || t = 2) && busy) && eventsGood size l (t = 0) (some o)

/-- The data area, event by event: `pos` is the first byte not yet looked at. The MDI time of a START is that of its byte. -/
def Dev.rxEvents (p : Port) (area : List Byte) (time : Nat → Nat) : List (Nat × Nat) → Nat → Dev → Dev
  | [], pos, d => if (d.port p).native.rx.isSome then d.rxBytes p (area.drop pos) else d
  | (t, o) :: l, pos, d =>
    if t = 0 then Dev.rxEvents p area time l o (d.rxStart p (time o))
    else
      let d := d.rxBytes p ((area.drop pos).take (o + 1 - pos))
      let more := match l with | (_, o') :: _ => decide (time o' ≤ time o + 32) | [] => false
      let d := if t = 2 then d.abortRx p else match (d.port p).native.rx with | some r => d.rxComplete p r more | none => d
      Dev.rxEvents p area time l (o + 1) d

/-- A block: KIND and its 256 bytes. `time` gives the MDI time of each of its bytes. -/
def Dev.rxBlock (d : Dev) (p : Port) (kind : Bool) (b : List Byte) (time : Nat → Nat) : Dev :=
  let busy := (d.port p).native.rx.isSome
  if kind then (if busy then d.rxBytes p b else d.rxMalformed p)
  else
    let n := natOf (b.take 1) % 16
    let ev := eventsOf b n
    if 12 < n || !eventsGood (255 - 2 * n) ev busy none then d.rxMalformed p
    else Dev.rxEvents p (b.drop (1 + 2 * n)) (fun o => time (1 + 2 * n + o)) ev 0 d

/-- A block that a lost frame has cut short: what had arrived of it takes effect; of what lies in the lost frame, a frame in progress or started there ends in
error (R98). -/
def Dev.rxCut (d : Dev) (p : Port) (bits : List Bool) (time : Nat → Nat) : Dev :=
  let b := bytesOfBits bits.tail
  let busy := (d.port p).native.rx.isSome
  if bits.headD false then (if busy then d.rxBytes p b else d)
  else
    let n := natOf (b.take 1) % 16
    let ev := eventsOf b n
    if b.length < 1 + 2 * n || 12 < n || !eventsGood (255 - 2 * n) ev busy none then d
    else
      let area := b.drop (1 + 2 * n)
      let at_ := fun o => time (1 + 2 * n + o)
      let d := Dev.rxEvents p area at_ (ev.filter (fun e => e.2 < area.length)) 0 d
      (ev.filter (fun e => area.length ≤ e.2)).foldl (fun d e => if e.1 = 0 then d.rxStart p (at_ e.2) else d.abortRx p) d

/-- The MDI time of a byte of a block, from that of the frame's first symbol: `base` is the payload bit at which the block began, which may lie in an earlier
frame. -/
def byteTime (mdi mode : Nat) (base : Int) (i : Nat) : Nat :=
  let bit := base + 1 + 8 * (i : Int)
  if bit < 0 then mdi + periodOfBit mode (overheadBits mode + (payloadBits mode + bit).toNat) * periodUnits mode - framePeriods mode * periodUnits mode
  else mdi + periodOfBit mode (overheadBits mode + bit.toNat) * periodUnits mode

/-- Every whole block among the bits received; `base` is the payload bit at which the first bit held came. -/
def Dev.rxBlocks (p : Port) (mdi mode : Nat) : Nat → Int → List Bool → Dev → Dev
  | 0, _, bits, d => d.onNative p (fun n => { n with rxBits := bits })
  | fuel + 1, base, bits, d =>
    if bits.length < 2049 then d.onNative p (fun n => { n with rxBits := bits })
    else
      Dev.rxBlocks p mdi mode fuel (base + 2049) (bits.drop 2049)
        (d.rxBlock p (bits.headD false) (bytesOfBits ((bits.take 2049).tail)) (byteTime mdi mode base))

/-! ## Native frames received (R98 to R102) -/

/-- Frames in a millisecond. -/
def framesPerMs (mode : Nat) : Nat := match mode with | 10 => 13333 | 9 => 7843 | _ => 3921

/-- Of the partner's four frames with RESUME some have come, and some are to come: a frame lost now is taken for one of them, behind which a new stream starts
(R98, R185; log entry 108). -/
def Dev.resuming (d : Dev) (p : Port) : Bool := 0 < (d.port p).native.resumeIn && (d.port p).native.resumeIn < 4

/-- A frame is lost: frames in progress or started in it end in error, and the stream goes on at the first block that starts after it. -/
def Dev.rxLost (d : Dev) (p : Port) (mdi : Nat) : Dev :=
  let len := payloadBits (d.mode p)
  let resuming := d.resuming p
  let held := (d.port p).native.rxBits
  let d := (((d.samplerSees p 1).rxCut p held (byteTime mdi (d.mode p) (-(held.length : Int)))).abortRx p).inc (0x4300 + p) 0x13
  let d := d.onNative p (fun n => { n with
    rxValid := false, lostRun := n.lostRun + 1, rxNumber := n.rxNumber + 1, frames := n.frames + 1, rxBits := []
    resumeIn := if resuming then n.resumeIn + 1 else n.resumeIn
    rxSkip := if resuming then 0 else if len ≤ n.rxSkip then n.rxSkip - len else (2049 - (n.rxBits.length + (len - n.rxSkip)) % 2049) % 2049 })
  if d.linkState p ≠ 3 && d.rxActive p && d.get (0x4180 + p) 0x14 ≤ (d.port p).native.lostRun then d.loseAny p else d

/-- The number of a frame that is not lost: a slip is counted; more than eight in a millisecond lose the link (R99, R193). -/
def Dev.rxSlip (d : Dev) (p : Port) (number : Nat) : Dev :=
  let size := if d.mode p = 10 then 4096 else 65536
  let n := (d.port p).native
  let d := d.onNative p (fun n => { n with rxNumber := number + 1, frames := n.frames + 1, lostRun := 0, rxValid := true })
  if number = n.rxNumber % size then d
  else
    let recent := (n.frames :: n.slips).filter (fun t => n.frames < t + framesPerMs (d.mode p))
    let d := (d.inc (0x4300 + p) 0x15).onNative p (fun n => { n with slips := recent })
    if 8 < recent.length && d.linkState p ≠ 3 && d.rxActive p then d.loseAny p else d

/-- HOLD, RESUME, QUIET, LF and RF of a frame, without invalid flags (R101). -/
def Dev.rxFlags (d : Dev) (p : Port) (flags : Nat) : Dev :=
  let d := d.onNative p (fun n => { n with partnerLf := flags.testBit 5, partnerRf := flags.testBit 4 })
  let up := 4 ≤ d.linkState p && d.linkState p ≤ 7
  if flags.testBit 3 && up then d.holdReceived p
  else if flags.testBit 2 && up then d.resumeReceived p
  else if flags.testBit 1 && up then d.partnerQuiet p
  else d

/-- The payload of a frame that is not lost. Nothing of it counts in a hold, in a frame with RESUME, or in the own relock. -/
def Dev.rxPayload (d : Dev) (p : Port) (expected flags mdi : Nat) (bits : List Bool) : Dev :=
  let n := (d.port p).native
  if (d.port p).link.held || d.linkState p = 5 || flags.testBit 2 || flags.testBit 3 || !d.native p || d.linkState p < 3 || 7 < d.linkState p then
    d.onNative p (fun n => { n with rxBits := [], rxSkip := 0, resumeIn := if flags.testBit 2 && !flags.testBit 3 then n.resumeIn + 1 else 0 })
  else
    let d := d.onNative p (fun n => { n with resumeIn := 0 })
    let clear := scramble (d.mode p) expected bits
    let kept := clear.drop n.rxSkip
    let d' := d.onNative p (fun n => { n with rxSkip := n.rxSkip - clear.length })
    Dev.rxBlocks p mdi (d.mode p) 8 ((n.rxSkip : Int) - n.rxBits.length) (n.rxBits ++ kept) d'

/-- The first data frame of the partner after a wake (R201, R205). -/
def Dev.rxAwake (d : Dev) (p : Port) : Dev :=
  if d.rxQuiet p = 5 then (d.setRxQuiet p 0).quietLink p else d

/-- A frame that is not lost. -/
def Dev.rxGood (d : Dev) (p : Port) (f : NativeRx) (oh : Overhead) (payload : List Bool) : Dev :=
  let d := d.rxAwake p
  let expected := (d.port p).native.rxNumber
  let d := if d.linkState p = 3 then d.onTrain p (fun t => { t with dataGot := true }) else d
  let d := d.rxSlip p oh.number
  let (flags, d) := d.flagsIn p oh.flags
  let d := d.rxFlags p flags
  let d := match oh.sv with | some b => if flags.testBit 3 then d else d.rxSelvage p b | none => d
  let d := d.rxPayload p expected flags f.mdiTime payload
  d.dataCheck p

/-- The port receives native frames: training that awaits data, or data, with the partner's direction active or waking. -/
def Dev.rxRuns (d : Dev) (p : Port) : Bool :=
  d.native p && ((d.linkState p = 3 && d.stage p = 6)
    || (4 ≤ d.linkState p && d.linkState p ≤ 7 && (d.rxQuiet p = 0 || d.rxQuiet p = 5)))

/-- The partner's direction has entered quiet with the first of its frames with QUIET: the others arrive yet (R102, R199). -/
def Dev.rxTail (d : Dev) (p : Port) : Bool :=
  d.native p && (d.linkState p = 5 || d.linkState p = 6) && (d.rxQuiet p = 2 || d.rxQuiet p = 3)

/-- Such a frame counts in the numbering (R92, R99), and nothing else of it. -/
def Dev.rxLast (d : Dev) (p : Port) (lost : Bool) (number : Nat) : Dev :=
  if lost then ((d.samplerSees p 1).inc (0x4300 + p) 0x13).onNative p (fun n => { n with rxNumber := n.rxNumber + 1, frames := n.frames + 1 })
  else d.rxSlip p number

/-- The receiver's decisions on the samples of a frame: a pair that the partner precodes is reduced first (R86). Nothing where a symbol pair is none of the
alphabet's. -/
def decided (mode : Nat) (precoded : Nat → Bool) (samples : List (List Rat)) : Option (List (List Bool)) :=
  let level := fun (k : Nat) (v : Rat) => 2 * (((if precoded k then reduce24 v else v) + 12) / 2).floor - 11
  let sym := fun k i => level k ((samples.getD k []).getD i 0)
  let ls := (List.range (2 * framePeriods mode)).map (fun g =>
    allowedPairs.findIdx? (fun s => s = (sym (g % 4) (g / 4 * 2), sym (g % 4) (g / 4 * 2 + 1))))
  if ls.any (·.isNone) then none
  else
    let bits := ls.map (fun l => bitsOf 7 (l.getD 0))
    if mode = 10 then some ((List.range 7).map (fun k => (bits.flatten.drop (1200 * k)).take 1200))
    else some ((List.range 7).map (fun k => bits.map (fun l => l.getD k false)))

/-- The codewords of a frame: those that its samples spell without an error stand for what decoding gave. -/
def Dev.codewordsIn (d : Dev) (p : Port) (f : NativeRx) : List CwRx :=
  let mode := d.mode p
  let size := if mode = 10 then 1080 else 1836
  match f.samples.bind (decided mode (fun k => (d.port p).train.acksGot[k]?.getD false)) with
  | none => f.cws
  | some words =>
    List.zipWith (fun (c : CwRx) w =>
      if (if mode = 10 then rsEncode (w.take size) else ldpcEncode (w.take size)) = w then { info := w.take size } else c) f.cws words

/-- A native frame arrives whole. -/
def Dev.nativeRx (d : Dev) (p : Port) (f : NativeRx) : Dev :=
  if !d.rxRuns p && !d.rxTail p then d
  else
    let tail := d.rxTail p
    let cws := d.codewordsIn p f
    let info := gatherInfo (d.mode p) (cws.map (·.info))
    let k := overheadBits (d.mode p)
    let oh := readOverhead (d.mode p) (info.take k)
    let bad := cws.any (·.uncorrectable)
    let corrected := (cws.filter (fun c => c.corrected && !c.uncorrectable)).length
    let failed := (cws.filter (·.uncorrectable)).length
    let d := ((d.inc (0x4300 + p) 0x10).count (0x4300 + p) 0x11 corrected).count (0x4300 + p) 0x12 failed
    let d := d.telemetryCount p corrected failed
    let d := if failed = 0 then d else d.samplerSees p 2
    let d := if oh.ok then d else d.inc (0x4300 + p) 0x14
    let d := if tail then d.rxLast p (bad || !oh.ok) oh.number
      else if bad || !oh.ok then d.rxLost p f.mdiTime
      else d.rxGood p f oh (info.drop k)
    (d.wakeIfPending p).inbandWake

/-- `NATIVE_FRAME_RX` (R98 to R102, R104, R105, R177, R185, R187, R188, R193). -/
def execNativeFrameRx (p : Port) (frame : NativeRx) (s : State) : Host.Outcome State Fault Refusal :=
  s.event (fun d => d.nativeRx p frame)

end Sys2Proof.Machine
end

