-- ==== Sys2Proof/Machine/Sessions.lean ====
section
/-! DEFINITION. Management frames as they arrive and as they are answered, and the life of a session (R54 to R62, R64). -/

namespace Sys2Proof.Machine

/-! ## Frames that arrive (R54 to R56, R58, R61, R64) -/

/-- The payload of a request up to its last body byte. -/
def requestBytes (h : MHdr) (op : Nat) (body : List Byte) : List Byte :=
  bytesOf 1 h.version ++ bytesOf 1 h.flags ++ bytesOf 2 h.reqId ++ bytesOf 1 op ++ bytesOf 1 0 ++ bytesOf 1 h.session
    ++ bytesOf 1 h.itemCount ++ bytesOf 8 h.counter ++ body

/-- A read item and a write item as they travel (R55); a write item is padded as a whole (log entry 83). -/
def readItemBytes (i : RItem) : List Byte := bytesOf 2 i.index ++ bytesOf 1 i.sub ++ bytesOf 1 0
def writeItemBytes (w : WItem) : List Byte :=
  bytesOf 2 w.index ++ bytesOf 1 w.sub ++ bytesOf 1 w.type ++ bytesOf 2 w.length ++ bytesOf w.length w.value
    ++ List.replicate (pad4 (6 + w.length) - (6 + w.length)) 0

/-- The frame is malformed (R56): version, items that do not fit, or a response, which asks for nothing (log entry 83). -/
def malformed (h : MHdr) (items : Nat) (body : List Byte) : Bool :=
  h.version ≠ 1 || h.flags.testBit 7 || h.itemCount ≠ items
    || h.payloadLen < 16 + body.length + (if h.session = 0 then 0 else 32) || 1500 < h.payloadLen

/-- The requester of a header (R58). -/
def MHdr.req (h : MHdr) : Req := { route := h.route, mac := h.mac, session := h.session }

/-- Tag failure: counted and flagged. -/
def Dev.tagFail (d : Dev) : Dev := (d.inc 0x1404 4).event 0x1400 3

/-- Replay: counted and flagged. -/
def Dev.replayFail (d : Dev) : Dev := (d.inc 0x1404 5).event 0x1400 4

/-- The kept entry of a requester. -/
def Dev.keptOf (d : Dev) (h : MHdr) : Option Kept :=
  d.mgmt.kept.find? (fun k => k.mac = h.mac && k.route = h.route && k.session = h.session)

/-- Keep an entry for a requester, in place of the one before. -/
def Dev.keep (d : Dev) (k : Kept) : Dev :=
  d.onMgmt (fun m => { m with kept := k :: m.kept.filter (fun o => !(o.mac = k.mac && o.route = k.route && o.session = k.session)) })

/-- A response to a request that was accepted: one with STATUS OK, and not every item of which is refused (log entry 12). -/
def Reply.accepts (r : Reply) : Bool := r.status = 0 && (r.items = [] || r.items.any (fun i => i.code = 0))

/-- The entry kept for the requester is of another request, which came after this one. -/
def Dev.overtaken (d : Dev) (h : MHdr) : Bool := match d.keptOf h with | some k => k.reqId ≠ h.reqId | none => false

/-- Keep a response, unless the requester has asked for something else meanwhile (R58). -/
def Dev.keepReply (d : Dev) (h : MHdr) (r : Reply) : Dev :=
  if d.overtaken h then d else d.keep { mac := h.mac, route := h.route, session := h.session, reqId := h.reqId, reply := some r }

/-- Answer a request: counted, numbered and tagged in a session, kept, sent (R54, R58, R61). A session that has ended is answered no more. -/
def Dev.respond (d : Dev) (h : MHdr) (r : Reply) : Dev :=
  if h.session ≠ 0 && (d.session? (MHdr.req h)).isNone then d else
  let d := if r.accepts then d.inc 0x1404 1 else d
  let (r, d) := d.tagReply { r with reqId := h.reqId, session := h.session }
  ((d.keepReply h r).sendFinished h.route h.mac r).inbandWake

/-- Answer with a frame-level code alone. -/
def Dev.respondCode (d : Dev) (h : MHdr) (op : Nat) (c : Code) : Dev := d.respond h { op := op, status := c.value }

/-- The session of a frame is open, its tag fits and its counter rises (R61): the state with the counter taken, or the state after the discard. A number
that no session has is a tag failure (log entry 83). -/
def Dev.sessionCheck (d : Dev) (h : MHdr) (op : Nat) (body : List Byte) : Bool × Dev :=
  if h.session = 0 then (true, d)
  else if hs : 1 ≤ h.session ∧ h.session ≤ 4 then
    let n : Fin 4 := ⟨h.session - 1, by omega⟩
    let s := d.mgmt.sessions.get n
    if s.phase ≠ 2 || h.tag ≠ Config.kmac256 s.keyIn (requestBytes h op body) 256 (ascii "DZ12800 MGMT") then (false, d.tagFail)
    else if h.counter ≤ s.rxCounter then (false, d.replayFail)
    else (true, d.onMgmt (fun m => { m with sessions := upd m.sessions n (fun s => { s with rxCounter := h.counter }) }))
  else (false, d.tagFail)

/-- The request waits for its answer: a SNAPSHOT for its capture, a COMMIT for its pass (R58). -/
def Dev.awaits (d : Dev) (h : MHdr) : Bool :=
  let same := fun (o : MHdr) => o.mac = h.mac && o.route = h.route && o.session = h.session && o.reqId = h.reqId
  d.mgmt.snaps.any (fun j => same j.hdr) || d.mgmt.commits.any (fun j => same j.hdr)

/-- A management frame reaches the device: addressed to it, well formed, with a valid session, no repeat; then it is served. -/
def Dev.frameTaken (d : Dev) (h : MHdr) (op items : Nat) (body : List Byte) : Bool × Dev :=
  if !d.hears h.route || h.dest ≠ d.get 0x1420 1 then (false, d)
  else if malformed h items body then (false, (d.inc 0x1404 6).event 0x1400 2)
  else match d.sessionCheck h op body with
    | (false, d) => (false, d)
    | (true, d) =>
      if d.awaits h then (false, d)
      else match d.keptOf h with
      | some k =>
        if k.reqId = h.reqId then (false, match k.reply with | some r => (d.sendFinished h.route h.mac r).inbandWake | none => d)
        else (true, d.keep { mac := h.mac, route := h.route, session := h.session, reqId := h.reqId })
      | none => (true, d.keep { mac := h.mac, route := h.route, session := h.session, reqId := h.reqId })

/-- The same with what serves it. -/
def Dev.frameIn (d : Dev) (h : MHdr) (op items : Nat) (body : List Byte) (serve : Dev → Dev) : Dev :=
  if (d.frameTaken h op items body).1 then serve (d.frameTaken h op items body).2 else (d.frameTaken h op items body).2

/-! ## Sessions (R60, R62) -/

/-- Change a session. -/
def Dev.onSession (d : Dev) (n : Fin 4) (f : Session → Session) : Dev :=
  d.onMgmt (fun m => { m with sessions := upd m.sessions n f })

/-- The job belongs to the opening of a session. -/
def HallJob.opens (n : Fin 4) : HallJob → Bool
  | .open2 k => k = n
  | .open3 k _ => k = n
  | _ => false

/-- A session ends; staging that it owned has no owner (R244), and what Hallmark was still to sign or verify for its opening is abandoned (R60). -/
def Dev.sessionEnd (d : Dev) (n : Fin 4) : Dev :=
  let d := d.onSession n (fun _ => {})
  let d := d.onMgmt (fun m => { m with kept := m.kept.filter (fun k => k.session ≠ n.val + 1) })
  d.onHall (fun h => { h with
    signQueue := h.signQueue.filter (fun j => !j.opens n), verifyQueue := h.verifyQueue.filter (fun j => !j.opens n)
    fw := if h.fw.owner = n.val + 1 then { h.fw with owner := 0 } else h.fw })

/-- Every session ends. -/
def Dev.sessionsEnd (d : Dev) : Dev := forAll 4 (fun n d => d.sessionEnd n) d

/-- Every session opened with a key ends (R214). -/
def Dev.sessionsOf (d : Dev) (keyId : List Byte) : Dev :=
  forAll 4 (fun n d => if (d.mgmt.sessions.get n).phase ≠ 0 && (d.mgmt.sessions.get n).keyId = keyId then d.sessionEnd n else d) d

/-- Key ID of a public key (R60). -/
def keyIdOf (pub : List Byte) : List Byte := (Config.shake256 pub 32).take 8

/-- Gwynale test keys are present in MANUFACTURE and RETURNED only (R212). -/
def Vault.testsOn (v : Vault) : Bool := v.lifecycle = 1 || v.lifecycle = 4

/-- The public key and role that a key ID names (R60, R212, R214). -/
def Vault.keyFor (v : Vault) (keyId : List Byte) : Option (List Byte × Nat) :=
  let all := (v.managers.toList.filterMap (fun m => m.map (fun m => (m.pub, m.role))))
    ++ (match v.ownerRoot with | some k => [(k, 2)] | none => [])
    ++ (if v.testsOn then v.testKeys.map (fun k => (k, 3)) else [])
  all.find? (fun e => keyIdOf e.1 = keyId)

/-- The opening session of a requester. -/
def Dev.openingOf (d : Dev) (h : MHdr) : Option (Fin 4) :=
  (allFin 4).find? (fun n => (d.mgmt.sessions.get n).phase = 1 && (d.mgmt.sessions.get n).mac = h.mac && (d.mgmt.sessions.get n).route = h.route)

/-- Step data of OPEN_2 before its signature: session number, X448 public key, nonce. -/
def open2Data (n : Fin 4) (secret : Nat) : List Byte :=
  bytesOf 1 (n.val + 1) ++ bytesOf 3 0 ++ exactly 56 (Config.x448Public secret) ++ exactly 16 (Config.draw (secret + 1) 16)

/-- OPEN_1: an opening session of the requester is abandoned; a free number opens, and Hallmark is asked to sign OPEN_2; sessions in opening state count
toward the four (R62; log entry 83). Outside READY and RECOVERY no session can open (R393, R406; log entry 31). -/
def Dev.openFirst (d : Dev) (h : MHdr) (keyId xPub nonce : List Byte) : Dev :=
  if h.session ≠ 0 then d.respondCode h 9 .state
  else
    let d := match d.openingOf h with | some n => d.sessionEnd n | none => d
    match (allFin 4).find? (fun n => (d.mgmt.sessions.get n).phase = 0) with
    | none => d.respondCode h 9 .busy
    | some n =>
      if d.hall.logClosed || (d.get 0x6400 1 ≠ 1 && d.get 0x6400 1 ≠ 2) then d.respondCode h 9 .state
      else
        let secret := d.draws
        let t := exactly 8 keyId ++ exactly 56 xPub ++ exactly 16 nonce ++ open2Data n secret
        let fresh : Session := { phase := 1, mac := h.mac, route := h.route, keyId := keyId, peerX := xPub, secret := secret, reqId := h.reqId, transcript := t }
        (d.newDraw.newDraw.onSession n (fun _ => fresh)).onHall (fun q => q.askSign (.open2 n))

/-- `OPEN_1` (R60, R62). -/
def execOpen1 (h : MHdr) (keyId xPub nonce : List Byte) (s : State) : Host.Outcome State Fault Refusal :=
  s.event (fun d => d.frameIn h 9 0 (bytesOf 1 1 ++ bytesOf 3 0 ++ exactly 8 keyId ++ exactly 56 xPub ++ exactly 16 nonce)
    (fun d => d.openFirst h keyId xPub nonce))

/-- Header of the frame that answers a session's step. -/
def Session.hdr (s : Session) : MHdr := { mac := s.mac, route := s.route, reqId := s.reqId }

/-- Hallmark has signed OPEN_2: it is sent. The identity key signs without a context, since R212 names none for sessions (log entry 31). -/
def Dev.open2Signed (d : Dev) (n : Fin 4) : Dev :=
  let s := d.mgmt.sessions.get n
  if s.phase ≠ 1 || s.offered then d
  else
    let sig := exactly 114 (Config.sign [] s.transcript)
    let body := bytesOf 1 2 ++ bytesOf 3 0 ++ open2Data n s.secret ++ sig
    (d.onSession n (fun s => { s with offered := true, transcript := s.transcript ++ sig })).respond s.hdr { op := 9, body := body }

/-- OPEN_3: the signature waits for Hallmark's verification. -/
def Dev.openThird (d : Dev) (h : MHdr) (sig : List Byte) : Dev :=
  if h.session ≠ 0 then d.respondCode h 9 .state
  else match d.openingOf h with
    | none => d.respondCode h 9 .state
    | some n =>
      (d.onSession n (fun s => { s with proving := true, reqId := h.reqId })).onHall (fun q => { q with verifyQueue := q.verifyQueue ++ [.open3 n sig] })

/-- `OPEN_3` (R60). -/
def execOpen3 (h : MHdr) (signature : List Byte) (s : State) : Host.Outcome State Fault Refusal :=
  s.event (fun d => d.frameIn h 9 0 (bytesOf 1 3 ++ bytesOf 3 0 ++ exactly 114 signature) (fun d => d.openThird h signature))

/-- Hallmark has verified OPEN_3: the session opens under the role of its key, or ends with ERR_AUTH. -/
def Dev.open3Verified (d : Dev) (v : Vault) (n : Fin 4) (sig : List Byte) : Dev :=
  let s := d.mgmt.sessions.get n
  if s.phase ≠ 1 || !s.proving then d
  else match v.keyFor s.keyId with
    | some (pub, role) =>
      if Config.verify pub [] s.transcript sig then
        let keys := Config.shake256 (Config.x448Shared s.secret s.peerX ++ s.transcript ++ exactly 114 sig) 64
        (d.onSession n (fun s => { s with phase := 2, proving := false, pub := pub, role := role, keyIn := keys.take 32, keyOut := keys.drop 32 })).respond
          s.hdr { op := 9, status := 0 }
      else (d.sessionEnd n).respondCode s.hdr 9 .auth
    | none => (d.sessionEnd n).respondCode s.hdr 9 .auth

/-- CLOSE: answered under the session's tag, then the session ends. -/
def Dev.closeSession (d : Dev) (h : MHdr) : Dev :=
  if hs : 1 ≤ h.session ∧ h.session ≤ 4 then (d.respondCode h 9 .ok).sessionEnd ⟨h.session - 1, by omega⟩
  else d.respondCode h 9 .state

/-- A SESSION frame whose step data is missing: malformed (R56). -/
def Dev.lacksStep (d : Dev) (h : MHdr) : Dev :=
  if !d.hears h.route || h.dest ≠ d.get 0x1420 1 then d else (d.inc 0x1404 6).event 0x1400 2

/-- `CLOSE` (R60): a SESSION request without step data. STEP 4 closes, STEPs 1 and 3 lack theirs, and any other answers ERR_RANGE. -/
def execClose (v : SessionAsk) (s : State) : Host.Outcome State Fault Refusal :=
  s.event (fun d =>
    if v.step = 1 || v.step = 3 then d.lacksStep v.hdr
    else d.frameIn v.hdr 9 0 (bytesOf 1 v.step ++ bytesOf 3 0) (fun d => if v.step = 4 then d.closeSession v.hdr else d.respondCode v.hdr 9 .range))

/-- `SESSION_OPEN_TIMEOUT` (R60): OPEN_3 has not arrived. -/
def execSessionOpenTimeout (n : Fin 4) (s : State) : Host.Outcome State Fault Refusal :=
  s.event (fun d => if (d.mgmt.sessions.get n).phase = 1 && !(d.mgmt.sessions.get n).proving then d.sessionEnd n else d)

/-- `SESSION_IDLE_TIMEOUT` (R62). -/
def execSessionIdleTimeout (n : Fin 4) (s : State) : Host.Outcome State Fault Refusal :=
  s.event (fun d => if (d.mgmt.sessions.get n).phase = 2 then (d.sessionEnd n).event 0x1400 5 else d)

end Sys2Proof.Machine
end

