-- ==== Sys2Proof/Machine/Images.lean ====
section
/-! DEFINITION. Sets of images: the header, what a staged set is rejected for, and Hallmark's verifying engine (R212, R241 to R244). -/

namespace Sys2Proof.Machine

/-! ## The flash (R241) -/

/-- A region of the flash, in bytes. -/
structure Region where
  offset : Nat
  size : Nat
  deriving DecidableEq, Repr

def optionRegion : Region := { offset := 0, size := 0x100000 }
def slotRegion (k : Fin 2) : Region := { offset := if k = 0 then 0x100000 else 0xD00000, size := 0xC00000 }
def logRegion : Region := { offset := 0x1900000, size := 0x400000 }

/-- Bytes of a slot, and entries of the log's ring. -/
def slotBytes : Nat := (slotRegion 0).size
def logEntries : Nat := logRegion.size / 256

/-! ## Room in the staging area (R238) -/

/-- A GAP entry when room has returned (R238). -/
def Dev.gapEntry (d : Dev) : Dev :=
  if d.hall.gapLost = 0 || d.stagingFull then d
  else (d.touch 0x0002 (bytesOf 4 d.hall.gapLost ++ bytesOf 8 d.hall.gapTime)).onHall (fun h => { h with gapLost := 0 })

/-- So many reservations of staging entries are given back unused (R238). -/
def Dev.giveBack (d : Dev) (n : Nat) : Dev := (d.onHall (fun h => { h with reserved := h.reserved - n })).gapEntry

/-! ## Staging's state (R244) -/

def Dev.onFw (d : Dev) (f : FwJob → FwJob) : Dev := d.onHall (fun h => { h with fw := f h.fw })

/-- FW_STAGE_STATE, and entering one; IDLE and REJECTED end the ownership of staging (R244). -/
def Dev.stage6440 (d : Dev) : Nat := d.get 0x6440 5

def Dev.setStage (d : Dev) (st : Nat) : Dev :=
  (d.put 0x6440 5 st).onFw (fun f => if st = 0 || st = 4 then { f with owner := 0 } else f)

/-- Another session owns staging (R244). -/
def Dev.stagedByOther (d : Dev) (r : Req) : Bool := d.hall.fw.owner ≠ 0 && d.hall.fw.owner ≠ r.session

/-- A slot of a number. -/
def slotOf (n : Nat) : Fin 2 := if n = 0 then 0 else 1

/-- FW_SLOT_VERSIONS. -/
def Dev.showVersions (d : Dev) : Dev :=
  let ver := fun (k : Fin 2) => let s := d.hall.slots.get k; if s.valid then s.setVersion else 0
  d.put 0x6440 0xA (ver 0 * 2 ^ 32 + ver 1)

/-! ## Verification (R242, R243) -/

/-- Bytes of a list from an offset. -/
def slice (l : List Byte) (offset n : Nat) : List Byte := (l.drop offset).take n

/-- An entry of the header: its 80 bytes, and its fields. -/
def headerEntry (h : List Byte) (i : Fin 4) : List Byte := slice h (12 + 80 * i.val) 80
def entryClass (e : List Byte) : Nat := natOf (slice e 0 1)
def entryLevel (e : List Byte) : Nat := natOf (slice e 1 1)
def entryVersion (e : List Byte) : Nat := natOf (slice e 4 4)
def entryOffset (e : List Byte) : Nat := natOf (slice e 8 4)
def entryLength (e : List Byte) : Nat := natOf (slice e 12 4)
def entryDigest (e : List Byte) : List Byte := slice e 16 64

/-- The entry of a class, 1 to 4. -/
def entryOf (h : List Byte) (cls : Nat) : Option (List Byte) := ((allFin 4).map (headerEntry h)).find? (fun e => entryClass e = cls)

/-- The header is one that R242 lays out, and Gwynale signed it. -/
def headerGood (h : List Byte) : Bool :=
  slice h 0 4 = ascii "DZFW" && natOf (slice h 4 1) = 1 && (allFin 4).all (fun i => (entryOf h (i.val + 1)).isSome)
    && Config.verify Config.gwynaleImageKey (ascii "DZ12800 IMAGE") (slice h 0 398) (slice h 398 114)

/-- Why a staged set is rejected: FW_REJECT_REASON, or 0. The order in which the reasons are looked at is the model's (log entry 60). -/
def rejectReason (v : Vault) (length : Nat) (bytes : List Byte) : Nat :=
  let es := (allFin 4).map (fun i => (i, (entryOf bytes (i.val + 1)).getD []))
  if length < 512 then 4
  else if !headerGood bytes then 1
  else if es.any (fun e => length < entryOffset e.2 + entryLength e.2) then 4
  else if es.any (fun e => Config.shake256 (slice bytes (entryOffset e.2) (entryLength e.2)) 64 ≠ entryDigest e.2) then 2
  else if es.any (fun e => entryLevel e.2 < v.fuseLevels.get e.1 || 63 < entryLevel e.2) then 3
  else 0

/-- The set of a verified header. -/
def setOf (bytes : List Byte) : ImageSet :=
  let e := fun (i : Fin 4) => (entryOf bytes (i.val + 1)).getD []
  { setVersion := natOf (slice bytes 8 4)
    levels := Vector.ofFn (fun i => entryLevel (e i))
    versions := Vector.ofFn (fun i => entryVersion (e i))
    digests := Vector.ofFn (fun i => entryDigest (e i))
    headerDigest := Config.shake256 (bytes.take 512) 64
    bytes := bytes
    valid := true }

/-- The port sequencers' microcode of a set, and whether it fits the digest that Hallmark has verified (R31). -/
def ImageSet.microcode (s : ImageSet) : List Byte :=
  let e := (entryOf s.bytes 3).getD []
  slice s.bytes (entryOffset e) (entryLength e)

def ImageSet.codeFits (s : ImageSet) : Bool := Config.shake256 s.microcode 64 = s.digests.get 2

/-- A write of the flash failed while the set was staged: nothing of the spec says when, so that it is free (log entry 7). -/
def Dev.flashFailed (d : Dev) : Bool := Config.freeValue d.draws 3 % 2 = 1

/-- FW_REJECT_REASON of the set that waits, or 0: a fault of its bytes, else a failure of the flash (R243, R244). -/
def Dev.stageVerdict (d : Dev) (v : Vault) : Nat :=
  let f := d.hall.fw
  match rejectReason v f.length (f.received ++ List.replicate (f.length - f.received.length) 0xFF) with
  | 0 => if d.flashFailed then 5 else 0
  | n => n

/-- Verification of the staged set ends. -/
def Dev.imageVerified (d : Dev) (v : Vault) : Dev :=
  if d.stage6440 ≠ 2 then d
  else
    let f := d.hall.fw
    let bytes := f.received ++ List.replicate (f.length - f.received.length) 0xFF
    let why := d.stageVerdict v
    let d := d.newDraw.onHall (fun h => { h with
      reserved := h.reserved - 1
      verifyQueue := h.verifyQueue.filter (fun j => match j with | .image _ => false | _ => true) })
    if why ≠ 0 then ((d.put 0x6440 6 why).setStage 4).gapEntry
    else
      let s := setOf bytes
      ((d.onHall (fun h => { h with slots := upd h.slots (slotOf f.slot) (fun _ => s) })).setStage 3).showVersions.touch 0x0020
        (bytesOf 1 f.slot ++ bytesOf 4 s.setVersion ++ exactly 64 s.headerDigest)

/-- The verifying engine has finished the request at the front of its queue. -/
def Dev.verifyDone (d : Dev) (v : Vault) : Dev :=
  match d.hall.verifyQueue with
  | [] => d
  | j :: rest =>
    match j with
    | .open3 n sig => (d.onHall (fun h => { h with verifyQueue := rest })).open3Verified v n sig
    | .sealVerify p sig => (d.onHall (fun h => { h with verifyQueue := rest })).sealVerified p sig
    | .image _ => (d.onHall (fun h => { h with verifyQueue := rest })).imageVerified v
    | _ => d.onHall (fun h => { h with verifyQueue := rest })

/-- Hallmark's verifying engine serves everything that waits, in arrival order (R212). -/
def Dev.verifyAll (d : Dev) (v : Vault) : Dev := (List.range d.hall.verifyQueue.length).foldl (fun d _ => d.verifyDone v) d

/-- The job is the verification of a staged set. -/
def HallJob.isImage : HallJob → Bool
  | .image _ => true
  | _ => false

end Sys2Proof.Machine
end

