-- ==== Sys2Proof/Machine/Hallmark.lean ====
section
/-! DEFINITION. Hallmark: its engines, managers, the life cycle, the service flag, attestation and the touchmark log (R210 to R218, R235 to R240). -/

namespace Sys2Proof.Machine

/-! ## Writes that reach the one-way store -/

/-- A write whose effect may change the one-way store; `always` happens even when it is refused. -/
structure VOp where
  checks : List (Bool × Code)
  effect : Vault → Dev → Vault × Dev
  always : Code → Dev → Dev := fun _ d => d
  /-- What follows once the answer has been sent: sessions that end. -/
  later : Dev → Dev := id

/-- Apply it: its code and the state after it. -/
def VOp.apply (o : VOp) (r : Req) (idx sub : Nat) (s : State) : Code × State :=
  match firstCode o.checks with
  | .ok => let (v, d) := o.effect s.vault s.dev; (.ok, { s with vault := v, dev := o.always .ok d })
  | c => (c, s.onDev (fun d => o.always c (d.refused r idx sub c)))

/-- A whole command made of such a write; `heard` says whether anyone hears it. -/
def State.vaultWrite (s : State) (r : Req) (idx sub : Nat) (heard : Bool) (o : VOp) : Host.Outcome State Fault Refusal :=
  .next (if heard then (o.apply r idx sub s).2.onDev (fun d =>
    if (o.apply r idx sub s).1 = .ok then o.later (d.answer r .ok) else d.answer r (o.apply r idx sub s).1) else s)

/-! ## Managers (R214) -/

/-- Body of a MANAGER entry. -/
def Dev.managerBody (d : Dev) (r : Req) (action role : Nat) (keyId : List Byte) : List Byte :=
  bytesOf 1 action ++ bytesOf 1 role ++ keyId ++ d.keyIdOf r

/-- The lowest empty entry. -/
def Vault.freeSlot (v : Vault) : Option (Fin 16) := (allFin 16).find? (fun i => (v.managers.get i).isNone)

/-- The entry of a key ID. -/
def Vault.slotOf (v : Vault) (keyId : List Byte) : Option (Fin 16) :=
  (allFin 16).find? (fun i => match v.managers.get i with | some m => keyIdOf m.pub = keyId | none => false)

/-- A write to MANAGER_ENROL. -/
def enrolOp (v : Vault) (d : Dev) (r : Req) (pub : List Byte) (role : Nat) : VOp where
  checks := d.gate r 0x6424 ++ [(v.freeSlot.isNone, .busy), d.roomToLog, (2 < role, .range)]
  effect := fun v d => match v.freeSlot with
    | some i => ({ v with managers := upd v.managers i (fun _ => some { pub, role }) }, d.touch 0x0031 (d.managerBody r 0 role (keyIdOf pub)))
    | none => (v, d)

/-- `MANAGER_ENROL` (R214). -/
def execManagerEnrol (r : Req) (pub : List Byte) (role : Nat) (s : State) : Host.Outcome State Fault Refusal :=
  s.vaultWrite r 0x6424 1 (s.dev.hears r.route) (enrolOp s.vault s.dev r pub role)

/-- A write to MANAGER_REVOKE: the entry is empty, and sessions opened with its key end. -/
def revokeOp (v : Vault) (d : Dev) (r : Req) (keyId : List Byte) : VOp where
  checks := d.gate r 0x6424 ++ [d.roomToLog, ((v.slotOf keyId).isNone, .range)]
  effect := fun v d => match v.slotOf keyId with
    | some i =>
      let role := match v.managers.get i with | some m => m.role | none => 0
      ({ v with managers := upd v.managers i (fun _ => none) }, d.touch 0x0031 (d.managerBody r 1 role keyId))
    | none => (v, d)
  later := fun d => d.sessionsOf keyId

/-- `MANAGER_REVOKE` (R214). -/
def execManagerRevoke (r : Req) (keyId : List Byte) (s : State) : Host.Outcome State Fault Refusal :=
  s.vaultWrite r 0x6424 2 (s.dev.hears r.route) (revokeOp s.vault s.dev r keyId)

/-! ## Life cycle (R215 to R217) -/

/-- The transition is one of R216. -/
def lifeAllowed (from_ dest : Nat) : Bool :=
  (from_ = 0 && dest = 1) || (from_ = 1 && dest = 2) || (from_ = 2 && dest = 3) || (from_ = 3 && dest = 4)
    || ((from_ = 2 || from_ = 3 || from_ = 4) && dest = 5)

/-- The message that a token signs. -/
def Dev.tokenMessage (d : Dev) (dest : Nat) : List Byte :=
  bytesOf 1 dest ++ d.hall.identityHash ++ exactly 32 (Config.draw d.hall.challenge 32)

/-- A token fits a key: `Config.gwynaleReturnKey` for Gwynale's, the owner root for the owner's. -/
def Dev.tokenGood (d : Dev) (key : List Byte) (dest : Nat) (token : List Byte) : Bool :=
  Config.verify key (ascii "DZ12800 LIFECYCLE") (d.tokenMessage dest) token

/-- The session has the role that a transition asks for: Gwynale's, or OWNER itself; for a transition that is not in the table, one of the two. In BLANK
the management link belongs to Gwynale's test station (log entry 30). -/
def Dev.lifeRole (d : Dev) (r : Req) (from_ dest : Nat) : Bool :=
  if from_ = 0 then r.route = .mgmtLink || d.role? r = some 3
  else if !lifeAllowed from_ dest then d.role? r = some 2 || d.role? r = some 3
  else if from_ = 4 && dest = 5 then d.role? r = some 3
  else d.role? r = some 2

/-- The tokens of DEPLOYED to RETURNED. -/
def Dev.lifeTokens (d : Dev) (v : Vault) (dest : Nat) (gwynale owner : List Byte) : Bool :=
  if v.lifecycle = 3 && dest = 4 then
    d.tokenGood Config.gwynaleReturnKey dest gwynale
    && (match v.ownerRoot with | some k => d.tokenGood k dest owner | none => false)
  else true

/-- An owner-role entry or the owner root is there. -/
def Vault.hasOwner (v : Vault) : Bool := v.ownerRoot.isSome || v.managers.any (fun m => match m with | some m => m.role = 2 | none => false)

/-- Every key of every sealing unit is erased (R229). -/
def Dev.sealKeysErase (d : Dev) : Dev := d.eachPort (fun p d => d.onCrypt p (fun _ => {}))

/-- What leaving PROVISIONED or DEPLOYED for RETURNED or RETIRED erases beside every session: owner root, manager keys, allow-list, sealing keys (R216). -/
def eraseOwner (v : Vault) (d : Dev) : Vault × Dev :=
  let d := (List.range 128).foldl (fun d i => (d.put 0x6480 (i + 1) 0).put 0x6481 (i + 1) 0) d
  ({ v with ownerRoot := none, managers := Vector.replicate 16 none }, d.sealKeysErase)

/-- Hallmark makes the identity key at entry to MANUFACTURE; the log's chain begins with its hash, so that the key comes before the record (R236). -/
def Dev.born (d : Dev) (dest : Nat) : Dev :=
  if dest = 1 then d.newDraw.onHall (fun h => { h with identityPub := Config.identityPublic d.draws }) else d

/-- The changes of a transition (R216, R229), after its record. In MANUFACTURE Gwynale's station writes the owner root of the order (R215; log entry 30). -/
def lifeEffect (dest : Nat) (testKeys : List (List Byte)) (root : Option (List Byte)) (v : Vault) (d : Dev) : Vault × Dev :=
  match dest with
  | 1 => ({ v with lifecycle := 1, identityKey := true, testKeys := testKeys, ownerRoot := root }, d)
  | 2 => ({ v with lifecycle := 2 }, d)
  | 3 => ({ v with lifecycle := 3 }, d)
  | 4 => let (v, d) := eraseOwner v d; ({ v with lifecycle := 4 }, d)
  | _ =>
    let (v, d) := if v.lifecycle = 4 then (v, d.sealKeysErase) else eraseOwner v d
    ({ v with lifecycle := 5, identityKey := false },
      (d.eachPort (fun p d => d.disable p)).onHall (fun h => { h with logClosed := true }))

/-- The sessions that a transition ends: Gwynale's at PROVISIONED, every one at RETURNED and RETIRED. -/
def lifeSessions (v : Vault) (dest : Nat) (d : Dev) : Dev :=
  if dest = 2 then v.testKeys.foldl (fun d k => d.sessionsOf (keyIdOf k)) d else if 4 ≤ dest then d.sessionsEnd else d

/-- Firmware activation runs. -/
def Dev.activating (d : Dev) : Bool := d.get 0x6440 5 = 5

/-- What waits for the verifying engine comes before the tokens of DEPLOYED to RETURNED, whether or not they fit (R212). A session without the role
has its request refused before a token is looked at. -/
def Dev.tokensWait (d : Dev) (r : Req) (v : Vault) (dest : Nat) : Dev :=
  if v.lifecycle = 3 && dest = 4 && d.lifeRole r 3 4 then d.verifyAll v else d

/-- A write to LIFECYCLE_REQUEST. A new challenge is drawn and the result kept whether it succeeds or fails (R217). -/
def lifeOp (v : Vault) (d : Dev) (r : Req) (dest : Nat) (gwynale owner : List Byte) (testKeys : List (List Byte)) (root : Option (List Byte)) :
    VOp where
  checks := [(!d.lifeRole r v.lifecycle dest, .auth), (lifeAllowed v.lifecycle dest && !d.lifeTokens v dest gwynale owner, .auth),
    (d.busyIndex 0x6410, .busy), (d.activating, .busy), d.roomToLog, (d.modeRefuses 0x6410, .state), (!lifeAllowed v.lifecycle dest, .state),
    (v.lifecycle = 1 && dest = 2 && !v.hasOwner, .state)]
  effect := fun v d => lifeEffect dest testKeys root v (((d.tokensWait r v dest).born dest).touch 0x0030 (bytesOf 1 v.lifecycle ++ bytesOf 1 dest ++ d.keyIdOf r))
  always := fun c d =>
    let d := if c = .ok then d else d.tokensWait r v dest
    (d.newDraw.onHall (fun h => { h with challenge := d.draws })).put 0x6410 3 c.value
  later := fun d => lifeSessions v dest d

/-- Somebody hears a life-cycle request: in BLANK, Hallmark's boot ROM (R217). -/
def lifeHeard (v : Vault) (d : Dev) (r : Req) : Bool := v.lifecycle = 0 || d.hears r.route

/-- `LIFECYCLE_TO_MANUFACTURE` (R216). -/
def execLifecycleToManufacture (r : Req) (gwynaleToken ownerToken : List Byte) (keys : FactoryKeys) (s : State) : Host.Outcome State Fault Refusal :=
  s.vaultWrite r 0x6410 1 (lifeHeard s.vault s.dev r) (lifeOp s.vault s.dev r 1 gwynaleToken ownerToken keys.testKeys keys.ownerRoot)

/-- `LIFECYCLE_TO_PROVISIONED` (R216). -/
def execLifecycleToProvisioned (r : Req) (gwynaleToken ownerToken : List Byte) (s : State) : Host.Outcome State Fault Refusal :=
  s.vaultWrite r 0x6410 1 (lifeHeard s.vault s.dev r) (lifeOp s.vault s.dev r 2 gwynaleToken ownerToken [] none)

/-- `LIFECYCLE_TO_DEPLOYED` (R216). -/
def execLifecycleToDeployed (r : Req) (gwynaleToken ownerToken : List Byte) (s : State) : Host.Outcome State Fault Refusal :=
  s.vaultWrite r 0x6410 1 (lifeHeard s.vault s.dev r) (lifeOp s.vault s.dev r 3 gwynaleToken ownerToken [] none)

/-- `LIFECYCLE_TO_RETURNED` (R216, R217). -/
def execLifecycleToReturned (r : Req) (gwynaleToken ownerToken : List Byte) (s : State) : Host.Outcome State Fault Refusal :=
  s.vaultWrite r 0x6410 1 (lifeHeard s.vault s.dev r) (lifeOp s.vault s.dev r 4 gwynaleToken ownerToken [] none)

/-- `LIFECYCLE_TO_RETIRED` (R216, R217). -/
def execLifecycleToRetired (r : Req) (gwynaleToken ownerToken : List Byte) (s : State) : Host.Outcome State Fault Refusal :=
  s.vaultWrite r 0x6410 1 (lifeHeard s.vault s.dev r) (lifeOp s.vault s.dev r 5 gwynaleToken ownerToken [] none)

/-! ## Service flag (R218) -/

/-- Body of a SERVICE entry. -/
def serviceBody (minutes : Nat) (keyId : List Byte) : List Byte := bytesOf 2 minutes ++ keyId

/-- A write to SERVICE_REQUEST. -/
def Dev.serviceOp (d : Dev) (r : Req) (minutes : Nat) : Op :=
  d.command r 0x6418 1 minutes [d.roomToLog, (480 < minutes, .range)]
    (fun d => (d.onHall (fun h => { h with
        serviceUntil := if minutes = 0 then none else some (d.uptime + minutes * 60000000) })).touch 0x0032 (serviceBody minutes (d.keyIdOf r)))

/-- `SERVICE_REQUEST` (R218). -/
def execServiceRequest (r : Req) (minutes : Nat) (s : State) : Host.Outcome State Fault Refusal :=
  s.write r 0x6418 1 (fun _ d => d.serviceOp r minutes)

/-- The service flag clears on its own: expiry, or a warm reset. -/
def Dev.serviceClear (d : Dev) : Dev :=
  if d.hall.serviceUntil.isSome then
    (d.onHall (fun h => { h with serviceUntil := none })).touchEvent 0x0032 (serviceBody 0 (List.replicate 8 0))
  else d

/-- `SERVICE_EXPIRY` (R218). -/
def execServiceExpiry (s : State) : Host.Outcome State Fault Refusal := s.event Dev.serviceClear

/-- SERVICE_REMAINING: minutes left, rounded up. -/
def Dev.serviceLeft (d : Dev) : Nat :=
  match d.hall.serviceUntil with
  | some t => (t - d.uptime + 59999999) / 60000000
  | none => 0

/-! ## Attestation (R235) -/

/-- An entry of IMAGES. -/
def imageEntry (v : Vault) (s : ImageSet) (i : Fin 4) : List Byte :=
  bytesOf 1 (i.val + 1) ++ bytesOf 1 (s.levels.get i) ++ bytesOf 1 (v.fuseLevels.get i) ++ bytesOf 1 0 ++ bytesOf 4 (s.versions.get i)
    ++ exactly 64 (s.digests.get i)

/-- Bytes 0 to 535 of the report. -/
def Dev.reportBytes (d : Dev) (v : Vault) (nonce : List Byte) : List Byte :=
  let h := d.hall
  let flags := (if h.serviceUntil.isSome then 1 else 0) + (if d.get 0x1408 1 = 0 then 2 else 0) + (if h.activeSlot = 1 then 4 else 0)
    + (if d.get 0x6440 5 = 6 then 8 else 0)
  ascii "DZAT" ++ bytesOf 1 1 ++ bytesOf 1 v.lifecycle ++ bytesOf 2 flags ++ bytesOf 8 (d.get 0x1000 1) ++ bytesOf 1 0xA1 ++ List.replicate 7 0
    ++ exactly 32 h.identityHash
    ++ (match v.ownerRoot with | some k => exactly 32 (Config.shake256 k 32) | none => List.replicate 32 0) ++ exactly 32 nonce
    ++ bytesOf 8 (secondsOf d.now) ++ bytesOf 4 (nanosOf d.now) ++ bytesOf 4 0
    ++ ((allFin 4).map (imageEntry v (h.slots.get h.activeSlot))).flatten ++ exactly 64 d.options.digest
    ++ bytesOf 4 (d.get 0x1408 3) ++ bytesOf 1 (d.get 0x1408 1) ++ bytesOf 3 0 ++ bytesOf 8 (h.nextSeq - 1) ++ exactly 32 h.lastChain

/-- A write to ATTEST_REQUEST: Hallmark builds and signs. No signing key remains in RETIRED (R217). -/
def attestOp (v : Vault) (d : Dev) (r : Req) (nonce : List Byte) : Op :=
  d.command r 0x6460 1 0 [(d.get 0x6460 2 = 1, .busy), (!v.identityKey || d.get 0x6400 1 ≠ 1, .state)]
    (fun d => ((d.put 0x6460 2 1).onHall (fun h => { h with attestNonce := some nonce })).onHall (fun h => h.askSign .attest))

/-- `ATTEST_REQUEST` (R235). -/
def execAttestRequest (r : Req) (nonce : List Byte) (s : State) : Host.Outcome State Fault Refusal :=
  s.write r 0x6460 1 (fun v d => attestOp v d r nonce)

/-- The report is built and signed. -/
def Dev.attestDone (d : Dev) (v : Vault) : Dev :=
  match d.hall.attestNonce with
  | none => d
  | some nonce =>
    let b := d.reportBytes v nonce
    ((d.put 0x6460 3 (natOf (b ++ exactly 114 (Config.sign (ascii "DZ12800 ATTEST") b)))).put 0x6460 2 2).onHall
      (fun h => { h with attestNonce := none, signQueue := without h.signQueue .attest })

/-- `ATTEST_DONE` (R212, R235): the report is signed when its request has come to the front of the signing engine's queue. -/
def execAttestDone (s : State) : Host.Outcome State Fault Refusal :=
  s.event (fun d => if d.hall.signQueue.head? = some .attest then d.attestDone s.vault else d)

/-! ## Touchmark log (R236 to R240) -/

/-- The oldest staged entry goes to flash: a ring of 16,384 entries. -/
def Dev.flashCopy (d : Dev) : Dev :=
  match d.hall.staging with
  | [] => d
  | e :: rest => (d.onHall (fun h => { h with staging := rest, flash := (e :: h.flash).take logEntries })).gapEntry

/-- `TOUCH_FLASH_COPY` (R238, R240). -/
def execTouchFlashCopy (s : State) : Host.Outcome State Fault Refusal := s.event Dev.flashCopy

/-- A write to TOUCH_SIGN: its own record is reserved (R238, R239). -/
def Dev.touchSignOp (d : Dev) (r : Req) (v : Nat) : Op :=
  d.one r 0x6600 6 v [d.roomToLog, (d.hall.logClosed, .state)]
    (fun d => d.onHall (fun h => { h with reserved := h.reserved + 1, signQueue := h.signQueue ++ [.touch true] }))

/-- `TOUCH_SIGN` (R239). -/
def execTouchSign (r : Req) (v : Nat) (s : State) : Host.Outcome State Fault Refusal :=
  s.write r 0x6600 6 (fun _ d => d.touchSignOp r v)

/-- `TOUCH_SIGN_TIMER` (R239): 10 s have passed since the first unsigned entry. -/
def execTouchSignTimer (s : State) : Host.Outcome State Fault Refusal :=
  s.event (fun d => if d.hall.unsigned = 0 then d else d.onHall (fun h => h.askSign (.touch false)))

/-- SIGNATURE over the last entry. -/
def Dev.touchSigned (d : Dev) (reserved : Bool) : Dev :=
  let d := if reserved then d.onHall (fun h => { h with reserved := h.reserved - 1 }) else d
  if d.hall.nextSeq = 0 then d.gapEntry
  else
    let m := bytesOf 8 (d.hall.nextSeq - 1)
    let body := m ++ exactly 114 (Config.sign (ascii "DZ12800 TOUCHMARK") (m ++ d.hall.headChain))
    if reserved then d.touch 0x0001 body else d.touchEvent 0x0001 body

/-- Oldest SEQ held and the head (R240). -/
def Hall.oldest (h : Hall) : Nat := (h.flash ++ h.staging).foldl (fun m e => min m e.seq) (h.nextSeq - 1)

/-- A write to TOUCH_SELECT. -/
def Dev.touchSelectOp (d : Dev) (r : Req) (seq : Nat) : Op :=
  d.command r 0x6600 1 seq [(d.hall.nextSeq ≤ seq || seq < d.hall.oldest, .range)]
    (fun d => d.onHall (fun h => { h with touchSelect := some seq }))

/-- `TOUCH_SELECT` (R240). -/
def execTouchSelect (r : Req) (seq : Nat) (s : State) : Host.Outcome State Fault Refusal :=
  s.write r 0x6600 1 (fun _ d => d.touchSelectOp r seq)

/-- An entry as 256 bytes. -/
def TouchEntry.bytes (e : TouchEntry) : List Byte := touchBytes e.seq e.time e.type e.body ++ exactly 32 e.chain

/-- TOUCH_ENTRIES: four entries from the selection. -/
def Hall.entries (h : Hall) : Nat :=
  match h.touchSelect with
  | none => 0
  | some k => natOf (((List.range 4).map (fun i => match (h.flash ++ h.staging).find? (fun e => e.seq = k + i) with
      | some e => e.bytes
      | none => List.replicate 256 0)).flatten)

/-! ## Engines (R212) -/

/-- Hallmark restarts: what waits for its engines is gone but the signatures whose entries TOUCH_SIGN has reserved (R238). -/
def Hall.restarted (h : Hall) : Hall :=
  let kept := h.signQueue.filter (fun j => j = .touch true)
  { h with signQueue := kept, verifyQueue := [], attestNonce := none, reserved := kept.length }

/-- The signing engine has finished the request at the front of its queue. -/
def Dev.signDone (d : Dev) (v : Vault) : Dev :=
  match d.hall.signQueue with
  | [] => d
  | j :: rest =>
    let d := d.onHall (fun h => { h with signQueue := rest })
    match j with
    | .open2 n => d.open2Signed n
    | .sealSign p => d.sealSigned p
    | .touch reserved => d.touchSigned reserved
    | .attest => d.attestDone v
    | _ => d

/-- `HALLMARK_SIGN_DONE` (R212). -/
def execHallmarkSignDone (s : State) : Host.Outcome State Fault Refusal := s.event (fun d => d.signDone s.vault)

end Sys2Proof.Machine
end

