-- ==== Sys2Proof/Machine/Diag.lean ====
section
/-! DEFINITION. Cable diagnostics and the sampler (R325 to R343). What the analogue measurements give is an operand; status, length, flags and results follow
from it. -/

namespace Sys2Proof.Machine

/-! ## Starting and ending runs (R326, R329, R330, R335) -/

/-- The port's link is up: states 4 to 8. -/
def Dev.diagState (d : Dev) (p : Port) (v : Nat) : Bool :=
  if v = 1 then !d.linkUp p else if v = 2 then 3 ≤ d.linkState p && d.linkState p ≤ 8 else false

/-- A write to DIAG_START (R330). -/
def Dev.diagStartOp (d : Dev) (r : Req) (p : Port) (v : Nat) : Op :=
  d.command r (0x5C80 + p) 1 v [((d.port p).diag.isSome, .busy), (d.diagState p v, .state), (v != 1 && v != 2, .range)]
    (fun d => (d.diagStart p (v = 2) false).diagStale p)

/-- `DIAG_START_IN_SERVICE` (R326, R330). -/
def execDiagStartInService (r : Req) (p : Port) (s : State) : Host.Outcome State Fault Refusal :=
  s.write r (0x5C80 + p) 1 (fun _ d => d.diagStartOp r p 1)

/-- `DIAG_START_OUT_OF_SERVICE` (R330, R331). -/
def execDiagStartOutOfService (r : Req) (p : Port) (s : State) : Host.Outcome State Fault Refusal :=
  s.write r (0x5C80 + p) 1 (fun _ d => d.diagStartOp r p 2)

/-- The diagnosis interval ends: a run starts, or is skipped (R326). -/
def Dev.diagPeriodic (d : Dev) (p : Port) : Dev :=
  if d.get (0x5C00 + p) 2 ≠ 0 && (d.port p).diag.isNone && d.linkUp p && d.linkState p ≠ 5 then (d.diagStart p false true).diagStale p else d

/-- `DIAG_PERIODIC` (R326). -/
def execDiagPeriodic (p : Port) (s : State) : Host.Outcome State Fault Refusal := s.event (fun d => d.diagPeriodic p)

/-- A pair's pulse set is interfered and is repeated after 0.5 ms to 2 ms, three times at most (R332). -/
def Dev.diagRepeat (d : Dev) (p : Port) (pair : Pair) : Dev :=
  match (d.port p).diag with
  | none => d
  | some r =>
    if r.outOfService && r.repeats.get pair < 3 then
      let at_ := d.uptime + 500 + Config.drawBelow d.draws 1501
      (d.newDraw.onPort p (fun s => { s with diag := some { r with repeats := upd r.repeats pair (· + 1), again := at_ } })).inc 0x5F38 4
    else d

/-- `DIAG_REPEAT` (R332). -/
def execDiagRepeat (p : Port) (pair : Pair) (s : State) : Host.Outcome State Fault Refusal := s.event (fun d => d.diagRepeat p pair)

/-- A write to DIAG_ABORT (R335). -/
def Dev.diagAbortOp (d : Dev) (r : Req) (p : Port) (v : Nat) : Op := d.one r (0x5C80 + p) 2 v [] (fun d => d.diagEnd p)

/-- `DIAG_ABORT` (R335). -/
def execDiagAbort (r : Req) (p : Port) (v : Nat) (s : State) : Host.Outcome State Fault Refusal :=
  s.write r (0x5C80 + p) 2 (fun _ d => d.diagAbortOp r p v)

/-! ## Results (R325, R327, R328, R333, R337) -/

/-- Length in 0.01 m of a delay in 1/16 ns (R325), rounded to the nearest. -/
def cableLength (delay nvp : Nat) : Nat := min 0xFFFE ((delay * nvp * 299792 + 80000000) / 160000000)

/-- The magnitude of a reflection's ρ is at least 0.6: its return loss is at most 20·log10(1/0.6) = 4.437 dB, which is 1,135.9 in Q8.8 (R325, R333). -/
def largeReflection (r : Reflection) : Bool := r.loss ≤ 1135

/-- A reflection of a SHORT. -/
def shortReflection (r : Reflection) : Bool := largeReflection r && r.falls

/-- A reflection of an OPEN: nothing returns after it. -/
def openReflection (m : DiagPair) (r : Reflection) : Bool := largeReflection r && !r.falls && m.reflections.all (fun x => x.distance ≤ r.distance)

/-- The reflection is that of the far end. -/
def farReflection (m : DiagPair) (nvp : Nat) (r : Reflection) : Bool := m.delay.any (fun t => r.distance = cableLength t nvp)

/-- The pulse set of a pair is interfered (R332). -/
def pairInterfered (m : DiagPair) : Bool := 8 < m.outliers

/-- The status of a pair (R333); `interfered` after its last repeat. -/
def pairStatus (m : DiagPair) (outOfService interfered : Bool) (threshold nvp : Nat) : Nat :=
  if outOfService && interfered then 7
  else if outOfService && m.coupled.isSome then 4
  else if outOfService && m.reflections.any shortReflection then 3
  else if outOfService && m.reflections.any (openReflection m) then 2
  else if m.reflections.any (fun r => r.loss ≤ threshold && !farReflection m nvp r) then 5
  else if m.delay.isNone then 8
  else 1

/-- The distance of a SHORT, OPEN or CROSSED pair's fault. -/
def pairFaultDistance (m : DiagPair) (status : Nat) : Nat :=
  let first := fun (f : Reflection → Bool) => ((m.reflections.find? f).map (·.distance)).getD 0
  if status = 4 then (m.coupled.map (·.distance)).getD 0
  else if status = 3 then first shortReflection
  else if status = 2 then first (openReflection m)
  else 0

/-- One-way range in service of a mode, in 1/16 ns (R327). -/
def echoRange (mode : Nat) : Nat :=
  match mode with
  | 2 => 12288 | 3 => 15360 | 4 => 7680 | 5 => 5120 | 6 => 2560 | 7 => 1600 | 8 => 2304 | 9 => 896 | 10 => 896 | _ => 0

/-- A delay lies within the reach of a run: that of the mode in service, 150 m out of service (R327, R333). -/
def inRange (oos : Bool) (mode nvp delay : Nat) : Bool := if oos then cableLength delay nvp ≤ 15000 else delay ≤ echoRange mode

/-- What a run reports of a pair: reflections beyond the board's dead zone and, like the far end, within its reach; a coupling of -10 dB or more before the far end
(R325, R327, R333). -/
def pairSeen (m : DiagPair) (oos : Bool) (mode nvp : Nat) : DiagPair :=
  let far := m.delay.filter (inRange oos mode nvp)
  { m with
    reflections := m.reflections.filter (fun r => 20 ≤ r.distance && (oos || r.distance ≤ cableLength (echoRange mode) nvp))
    coupled := m.coupled.filter (fun c => -2560 ≤ c.coupling && far.all (fun t => c.distance < cableLength t nvp))
    delay := far }

/-- The ECHO coefficients of a pair as a run has latched them (R326). -/
def EchoLatch.taps (l : EchoLatch) (p : Port) (k : Pair) : List Int :=
  (List.range (tapsOn l.mode k 0)).map (tapAt p k 0 (l.engines.get k) l.mode l.time)

/-- A tap is an echo peak: not zero, and no smaller in magnitude than the taps beside it (log entry 109). -/
def echoPeak (taps : List Int) (i : Nat) : Bool :=
  let size := fun i => (taps.getD i 0).natAbs
  size i ≠ 0 && size (i + 1) ≤ size i && (i = 0 || size (i - 1) ≤ size i)

/-- An amplitude stands at least 6 dB above a floor: 20·log10(c / floor) is at least 6 when (c / floor)^10 is at least 10^3. -/
def stands6dB (c floor : Nat) : Bool := 1000 * floor ^ 10 ≤ c ^ 10

/-- The tap of the far end: the latest peak that stands at least 6 dB above the floor of the taps that follow it (R328). -/
def farTap (taps : List Int) : Option Nat :=
  (List.range taps.length).reverse.find? (fun i => echoPeak taps i && stands6dB (taps.getD i 0).natAbs (Config.echoFloor (taps.drop (i + 1))))

/-- What the coefficients of a pair say in a mode: its reflections and, at the place of its tap in the echo span, the far end's delay (R326 to R328; log entry 109). -/
def echoPair (mode : Nat) (taps : List Int) : DiagPair where
  reflections := (Config.echoReflections mode taps).map (fun r => { distance := r.1, loss := r.2.1, falls := r.2.2 })
  delay := (farTap taps).map (fun i => (i * 65536 + Config.echoPlace taps i % 65536) * echoRange mode / (65536 * tapCount mode 0))

/-- What a run finds on its pairs: in service by what it has latched, out of service by its pulses (R326, R331). -/
def Dev.diagSeen (d : Dev) (p : Port) (r : DiagRun) (m : DiagMeas) : DiagMeas :=
  let nvp := d.get (0x5C00 + p) 1
  { m with pairs := Vector.ofFn (fun k =>
      match r.echo with
      | some l => pairSeen (echoPair l.mode (l.taps p k)) false l.mode nvp
      | none => pairSeen (m.pairs.get k) true 0 nvp) }

/-- The four strongest reflections, nearest first (R337); of equally strong ones the nearer go first. -/
def strongest (rs : List Reflection) : List Reflection :=
  ((rs.mergeSort (fun a b => a.loss ≤ b.loss)).take 4).mergeSort (fun a b => a.distance ≤ b.distance)

/-- The result of a pair that is not measured: in service in 100BASE-TX a run reports residual noise only, and LENGTH, DELAY and SKEW stay (R327, R337; log entry
109). -/
def pairUnmeasured (old : Nat) : Nat :=
  natOf (bytesOf 2 0 ++ ((bytesOf 40 old).drop 2).take 10 ++ bytesOf 2 0x8000 ++ List.replicate 18 0 ++ bytesOf 1 0xFF ++ List.replicate 7 0)

/-- A pair's result as OCTETS(40) (R337); a pair in service beyond its range keeps its delay and length (R327). -/
def pairResult (old : Nat) (m : DiagPair) (outOfService interfered : Bool) (threshold nvp : Nat) (skew : Int) : Nat :=
  let st := pairStatus m outOfService interfered threshold nvp
  let oldBytes := bytesOf 40 old
  let keep := !outOfService && m.delay.isNone
  let refl := ((strongest m.reflections).map (fun r => bytesOf 2 r.distance ++ bytesOf 2 (unsigned 16 (if r.falls then -(r.loss : Int) else r.loss)))).flatten
  natOf (bytesOf 1 st ++ bytesOf 1 (min 255 m.reflections.length)
    ++ (if keep then (oldBytes.drop 2).take 6 else
        bytesOf 2 ((m.delay.map (fun t => cableLength t nvp)).getD 0xFFFF) ++ bytesOf 4 (m.delay.getD 0xFFFFFFFF))
    ++ bytesOf 4 (unsigned 32 skew)
    ++ bytesOf 2 (if outOfService then unsigned 16 m.alien else 0x8000)
    ++ bytesOf 2 (pairFaultDistance m st)
    ++ refl ++ List.replicate (16 - refl.length) 0
    ++ bytesOf 1 ((if st = 4 then m.coupled.map (·.pair.val) else none).getD 0xFF) ++ List.replicate 7 0)

/-- The skew of a pair, 0 for pair A: out of service the delay of the pair less that of pair A, in service the deskew's (R325, R327); of a pair out of service
without a far end, the measurement's own (log entry 109). -/
def skewOf (m : DiagMeas) (oos : Bool) (pair : Pair) : Int :=
  if h : 0 < pair.val then
    match oos, (m.pairs.get pair).delay, (m.pairs.get 0).delay with
    | true, some t, some a => (t : Int) - a
    | _, _, _ => m.skew.get ⟨pair.val - 1, by omega⟩
  else 0

/-- A pair of a run out of service is interfered when its third repeat was too (R332). -/
def DiagRun.interfered (r : DiagRun) (m : DiagMeas) (pair : Pair) : Bool := pairInterfered (m.pairs.get pair) && 3 ≤ r.repeats.get pair

/-- The run is in service in 100BASE-TX, which has no ECHO engine: no pair is measured (R327). -/
def DiagRun.noiseOnly (r : DiagRun) : Bool := r.echo.any (fun l => l.mode = 1)

/-- The status of a pair. -/
def Dev.diagStatus (d : Dev) (p : Port) (r : DiagRun) (m : DiagMeas) (pair : Pair) : Nat :=
  if r.noiseOnly then 0
  else pairStatus (m.pairs.get pair) r.outOfService (r.interfered m pair) (d.get (0x5C00 + p) 3) (d.get (0x5C00 + p) 1)

/-- The results of the four pairs. -/
def Dev.diagPairs (d : Dev) (p : Port) (r : DiagRun) (m : DiagMeas) : Dev :=
  forAll 4 (fun k d =>
    let old := d.get (0x5D00 + p) (0x10 + k)
    d.put (0x5D00 + p) (0x10 + k) (if r.noiseOnly then pairUnmeasured old
      else pairResult old (m.pairs.get k) r.outOfService (r.interfered m k) (d.get (0x5C00 + p) 3) (d.get (0x5C00 + p) 1) (skewOf m r.outOfService k))) d

/-- A far end of pair A gives the delay and skews beside the timestamps (R328). -/
def Dev.cablePut (d : Dev) (p : Port) (r : DiagRun) (m : DiagMeas) : Dev :=
  match (m.pairs.get 0).delay with
  | none => d
  | some t =>
    let d := (d.put (0x4480 + p) 6 t).onPort p (fun s => { s with cableAt := some d.uptime })
    forAll 3 (fun k d => d.put (0x4480 + p) (7 + k) (unsigned 32 (skewOf m r.outOfService ⟨k.val + 1, by omega⟩))) d

/-- A run in service holds its results: it has not latched, or a calibration run or a ramp is in progress (R326, R329, R367). -/
def Dev.diagHeld (d : Dev) (p : Port) (r : DiagRun) : Bool := !r.outOfService && (r.echo.isNone || d.calBusy p)

/-- A run commits (R328, R331, R336). -/
def Dev.diagCommit (d : Dev) (p : Port) (m : DiagMeas) : Dev :=
  match (d.port p).diag with
  | none => d
  | some r =>
    if d.diagHeld p r then d
    else
      let oos := r.outOfService
      let m := d.diagSeen p r m
      let sts := (allFin 4).map (fun k => d.diagStatus p r m k)
      let d := d.diagPairs p r m
      let d := if oos then d else d.put (0x5D00 + p) 5 (unsigned 16 m.noise)
      let d := if r.noiseOnly then d else d.cablePut p r m
      let d := (d.put (0x5D00 + p) 1 ((d.get (0x5D00 + p) 1 + 1) % 2 ^ 32)).put (0x5D00 + p) 2 (if oos then 2 else 1)
      let d := (d.put (0x5D00 + p) 3 (timeOctets d.now)).put (0x5D00 + p) 4
        ((if !oos && r.overridden then 2 else 0) + (if 7 ∈ sts then 4 else 0))
      let d := (d.onPort p (fun s => { s with diag := none })).put (0x5C80 + p) 3 2
      let d := (d.event 0x5F30 2).inc 0x5F38 (if oos then 2 else 1)
      let d := if sts.any (fun s => 2 ≤ s && s ≤ 5) then d.event 0x5F30 4 else d
      if 7 ∈ sts then d.event 0x5F30 5 else d

/-- `DIAG_COMMIT` (R326 to R333). -/
def execDiagCommit (p : Port) (meas : DiagMeas) (s : State) : Host.Outcome State Fault Refusal := s.event (fun d => d.diagCommit p meas)

/-! ## The sampler (R338 to R343) -/

/-- A port number lies on the die. -/
def onDie (n : Die) (port : Nat) : Bool := port / 16 = n.val

/-- A field of an arm is outside its range (R339, R340). -/
def armBad (n : Die) (arm : Nat) : Bool :=
  let thr := armByte arm 8 * 256 + armByte arm 9
  !onDie n (armByte arm 0) || 15 < armByte arm 1 || (armPairs arm).length = 0 || (armPairs arm).length = 3
  || 8 < armByte arm 2 || 3 < armByte arm 3 || !onDie n (armByte arm 4)
  || (2 ≤ armByte arm 3 && 3 < armByte arm 5)
  || (armByte arm 3 = 1 && (armByte arm 6 = 0 || 9 < armByte arm 6))
  || 15 < armByte arm 7
  || (armByte arm 3 = 2 && (thr = 0 || 127 < thr)) || (armByte arm 3 = 3 && thr = 0)
  || 60000 < armByte arm 10 * 256 + armByte arm 11

/-- A port of the arm is in SELF_TEST. -/
def Dev.armTested (d : Dev) (arm : Nat) : Bool :=
  [armByte arm 0, armByte arm 4].any (fun q => if h : q < 128 then (d.port ⟨q, h⟩).tested else false)

/-- A write to SAMPLER_ARM (R339); SAMPLER_LAST_ARM reads the reserved bytes as zeros (R8). -/
def Dev.armOp (d : Dev) (r : Req) (n : Die) (arm : Nat) : Op :=
  d.command r (0x5F10 + n) 1 arm
    [(d.get 0x1010 (n + 1) = 4 || d.armTested arm || d.samplerState n = 1 || d.samplerState n = 2, .busy), (armBad n arm, .range)]
    (fun d =>
      let d := ((d.onSampler n (fun _ => { arm := arm, armedAt := d.uptime })).put (0x5F10 + n) 3 1).put (0x5F10 + n) 4 (arm / 2 ^ 32 * 2 ^ 32)
      let d := ((d.put (0x5F10 + n) 5 0).put (0x5F10 + n) 6 0).put (0x5F10 + n) 7 0
      if armByte arm 3 = 0 then d.samplerTriggers n 0 0 else d)

/-- `SAMPLER_ARM` (R339). -/
def execSamplerArm (r : Req) (die : Die) (arm : Nat) (s : State) : Host.Outcome State Fault Refusal :=
  s.write r (0x5F10 + die) 1 (fun _ d => d.armOp r die arm)

/-- The port of an arm, and the port that triggers. -/
def armPort (arm : Nat) (f : Port → Bool) : Bool := if h : armByte arm 0 < 128 then f ⟨armByte arm 0, h⟩ else false
def armTrigPort (arm : Nat) (f : Port → Bool) : Bool := if h : armByte arm 4 < 128 then f ⟨armByte arm 4, h⟩ else false

/-- The capture is armed for a condition that the model does not see itself: a sample's magnitude, the slicer's error, an FEC failure of a standard mode's clause.
Every other event of R340 triggers where it happens. -/
def Dev.samplerWaits (d : Dev) (n : Die) : Bool :=
  let arm := (d.sampler n).arm
  d.samplerState n = 1 && (2 ≤ armByte arm 3 || (armByte arm 3 = 1 && armByte arm 6 = 2 && armTrigPort arm (fun p => d.linkUp p && !d.native p)))

/-- `SAMPLER_TRIGGER` (R340, R341): such a condition is met. -/
def execSamplerTrigger (die : Die) (position : Nat) (s : State) : Host.Outcome State Fault Refusal :=
  s.event (fun d => if d.samplerWaits die then d.samplerTriggers die position 1 else d)

/-- `SAMPLER_TIMEOUT` (R339): an armed capture with a TIMEOUT triggers itself. -/
def execSamplerTimeout (die : Die) (position : Nat) (s : State) : Host.Outcome State Fault Refusal :=
  s.event (fun d =>
    let arm := (d.sampler die).arm
    if d.samplerState die = 1 && armByte arm 10 * 256 + armByte arm 11 ≠ 0 then d.samplerTriggers die position 0x20 else d)

/-- A span of uptime is longer by the present µs, or a new one begins. -/
def spanAdd (now : Nat) : List (Nat × Nat) → List (Nat × Nat)
  | (a, b) :: l => if b = now then (a, now + 1) :: l else (now, now + 1) :: (a, b) :: l
  | [] => [(now, now + 1)]

/-- In each µs a capture that is under way sees what R338 and R343 ask of the captured port: a trim ramp, a warm relock or quiet state, converters that are off. -/
def Dev.samplerSeen (d : Dev) (n : Die) : SamplerSt :=
  let s := d.sampler n
  if d.samplerState n ≠ 1 && d.samplerState n ≠ 2 then s
  else
    { s with
      rampAt := if armPort s.arm (fun p => (allFin 4).any (d.ramps p)) then some d.uptime else s.rampAt
      quietAt := if armPort s.arm (fun p => 5 ≤ d.linkState p && d.linkState p ≤ 7) then some d.uptime else s.quietAt
      off := if armPort s.arm (fun p => d.linkState p = 7) then spanAdd d.uptime s.off else s.off }

/-- The instant of a sample of the record, in eighths of a nanosecond of uptime: samples are 2^DECIMATE eighths apart (R338). -/
def SamplerSt.instant (s : SamplerSt) (i : Nat) : Int := s.trigAt * 8000 + ((i : Int) - s.trigIndex) * 2 ^ armByte s.arm 2

/-- The record's span reaches back to a µs of uptime. -/
def SamplerSt.reaches (s : SamplerSt) (at_ : Option Nat) : Bool := at_.any (fun t => s.instant 0 < ((t : Int) + 1) * 8000)

/-- The converters were off at a sample. -/
def SamplerSt.offAt (s : SamplerSt) (i : Nat) : Bool := s.off.any (fun e => (e.1 : Int) * 8000 ≤ s.instant i && s.instant i < (e.2 : Int) * 8000)

/-- The record of a pair: I8 codes as the converters gave them, zeros where they were off. A code that the command does not give is free (log entry 7). -/
def SamplerSt.record (s : SamplerSt) (draw : Nat) (pair : Pair) (codes : List Int) : List Int :=
  (List.range s.length).map (fun i =>
    if s.offAt i then 0
    else saturate 8 (codes.getD i (signed 8 (Config.freeValue draw (2 ^ 24 * pair.val + i) % 256))))

/-- A capture commits (R338, R341, R343): every selected pair's samples, the trigger's place and time, and what overlapped the record, as the state has seen it in
each µs (log entry 93). -/
def Dev.samplerCommit (d : Dev) (n : Die) (samples : List (Pair × List Int)) : Dev :=
  if d.samplerState n ≠ 2 then d
  else
    let d := (d.onSampler n (fun _ => d.samplerSeen n)).newDraw
    let s := d.sampler n
    let kept := (armPairs s.arm).map (fun k => (k, s.record d.draws k ((assocGet samples k).getD [])))
    let off := (List.range s.length).any s.offAt
    let d := d.onSampler n (fun s => { s with samples := kept, committed := true })
    let d := ((d.put (0x5F10 + n) 3 3).event 0x5F30 (8 + n)).inc 0x5F38 7
    let d := (d.put (0x5F10 + n) 5 (timeOctets s.trigTime)).put (0x5F10 + n) 6 s.trigIndex
    d.put (0x5F10 + n) 7 (d.get (0x5F10 + n) 7 |||
      ((if s.reaches s.rampAt then 2 else 0) + (if s.reaches s.quietAt then 4 else 0) + (if off then 16 else 0)))

/-- `SAMPLER_DONE` (R341, R343). What the command says of ramps, quiet states and relocks the state knows better. -/
def execSamplerDone (die : Die) (samples : List (Pair × List Int)) (_ramped _quiet _relocked : Bool) (s : State) :
    Host.Outcome State Fault Refusal := s.event (fun d => d.samplerCommit die samples)

/-- An armed or triggered capture ends ABORTED and leaves no record (R341, R343). -/
def Dev.samplerEnd (d : Dev) (n : Die) : Dev :=
  if d.samplerState n = 1 || d.samplerState n = 2 then
    (d.onSampler n (fun s => { s with samples := [], committed := false, select := 0 })).put (0x5F10 + n) 3 4
  else d

/-- A write to SAMPLER_ABORT (R341). -/
def Dev.samplerAbortOp (d : Dev) (r : Req) (n : Die) (v : Nat) : Op := d.one r (0x5F10 + n) 2 v [] (fun d => d.samplerEnd n)

/-- `SAMPLER_ABORT` (R341). -/
def execSamplerAbort (r : Req) (die : Die) (v : Nat) (s : State) : Host.Outcome State Fault Refusal :=
  s.write r (0x5F10 + die) 2 (fun _ d => d.samplerAbortOp r die v)

/-- PAIR and OFFSET of a selection (R342). -/
def selPair (sel : Nat) : Nat := sel / 256 ^ 7 % 256
def selOffset (sel : Nat) : Nat := sel % 2 ^ 32

/-- A write to SAMPLER_SELECT (R342). -/
def Dev.samplerSelectOp (d : Dev) (r : Req) (n : Die) (sel : Nat) : Op :=
  let arm := (d.sampler n).arm
  d.command r (0x5F10 + n) 8 sel
    [(d.samplerState n != 3, .state),
      (!((armPairs arm).map Fin.val).contains (selPair sel) || armSamples arm ≤ selOffset sel, .range)]
    (fun d => d.onSampler n (fun s => { s with select := selPair sel * 2 ^ 32 + selOffset sel }))

/-- `SAMPLER_SELECT` (R342). -/
def execSamplerSelect (r : Req) (die : Die) (sel : Nat) (s : State) : Host.Outcome State Fault Refusal :=
  s.write r (0x5F10 + die) 8 (fun _ d => d.samplerSelectOp r die sel)

/-- The 1,024 samples at the selection, with zeros past the end (R342); zeros without a record. -/
def Dev.samplerData (d : Dev) (n : Die) : Nat :=
  let s := d.sampler n
  let off := s.select % 2 ^ 32
  let all := match s.samples.find? (fun e => e.1.val = s.select / 2 ^ 32) with | some e => e.2 | none => []
  let got := (all.drop off).take 1024
  natOf (got.map (fun i => BitVec.ofNat 8 (unsigned 8 i)) ++ List.replicate (1024 - got.length) 0)

/-- A read advances the selection by 1,024 (R342). -/
def Dev.samplerAdvance (d : Dev) (n : Die) : Dev :=
  if d.samplerState n = 3 then d.onSampler n (fun s => { s with select := s.select / 2 ^ 32 * 2 ^ 32 + min (2 ^ 32 - 1) (s.select % 2 ^ 32 + 1024) }) else d

/-- A read of SAMPLER_DATA as an access of its own. -/
def Dev.samplerRead (d : Dev) (r : Req) (n : Die) : Dev :=
  if !d.hears r.route then d
  else if d.busyIndex (0x5F10 + n) then d.answer r .busy
  else if d.modeRefuses (0x5F10 + n) && !d.safe then d.answer r .state
  else ((d.samplerAdvance n).answer r .ok).emit (.data r (d.samplerData n))

/-- `SAMPLER_DATA_READ` (R342). -/
def execSamplerDataRead (r : Req) (die : Die) (s : State) : Host.Outcome State Fault Refusal := s.event (fun d => d.samplerRead r die)

end Sys2Proof.Machine
end

