-- ==== Sys2Proof/Machine/Telemetry.lean ====
section
/-! DEFINITION. The telemetry chain of each pair, and its synchronisation (R344 to R351). -/

namespace Sys2Proof.Machine

/-! ## Chains -/

/-- The chain of a port runs (R350). -/
def Dev.tlmOn (d : Dev) (p : Port) : Bool := (d.get 0x5F00 (1 + p.val / 64)).testBit (p.val % 64)

/-- Some chain of the module runs. -/
def Dev.tlmAny (d : Dev) : Bool := d.get 0x5F00 1 ≠ 0 || d.get 0x5F00 2 ≠ 0

def Dev.onTlm (d : Dev) (p : Port) (pair : Pair) (f : TlmPair → TlmPair) : Dev :=
  d.onPort p (fun s => { s with tlm := upd s.tlm pair f })

/-- Prototype span S in output periods (R346). -/
def tlmSpan (shape : Nat) : Nat := if shape = 0 then 4 else if shape = 1 then 8 else 16

/-- A symbol period of a mode in 1/16 ns (R75, R82). -/
def symbolUnits (mode : Nat) : Nat :=
  match mode with
  | 1 => 128 | 2 => 128 | 3 => 80 | 4 => 40 | 5 => 20 | 6 => 8 | 7 => 5 | 8 => 4 | 9 => 2 | 10 => 2 | _ => 0

/-! ## The sample grid (R346, R349) -/

/-- Sample instants that the grid of the module has reached: sample k lies k / TLM_RATE after t0 on the time base. -/
def Dev.tlmCount (d : Dev) : Nat :=
  let t0 := octetsTime (d.get 0x5F00 6)
  if d.now < t0 then 0 else (d.now - t0) * d.get 0x5F00 3 / perSecond + 1

/-- A span of the time base in output periods, in 1/16 ns. -/
def Dev.tlmPeriods (d : Dev) (n : Nat) : Rat := n * perSecond / d.get 0x5F00 3

/-- The instant of a sample in 1/16 ns of uptime: the time base and the uptime run together (log entry 110). -/
def Dev.tlmInstant (d : Dev) (k : Nat) : Rat := d.uptime * 16000 - (d.now - octetsTime (d.get 0x5F00 6)) + d.tlmPeriods k

/-- How long the chains of a port settle: L / f_s + S / TLM_RATE (R348). -/
def Dev.tlmSettles (d : Dev) (p : Port) : Rat := d.get (0x5D80 + p) 1 * symbolUnits (d.mode p) + d.tlmPeriods (tlmSpan (d.get 0x5F00 4))

/-- The symbols of a pair are valid at an instant. -/
def TlmPair.validAt (t : TlmPair) (u : Rat) : Bool := ((t.looks.find? (fun e => (e.1 * 16000 : Nat) ≤ u)).map (·.2)).getD false

/-- The last event before an instant that made a chain settle: a sync, a start, a first valid symbol after invalid ones (R348). -/
def TlmPair.settleAt (t : TlmPair) (u : Rat) : Nat :=
  max t.settle (((t.looks.find? (fun e => e.2 && (e.1 * 16000 : Nat) ≤ u)).map (·.1)).getD 0)

/-- A sample at an instant is settled. -/
def Dev.tlmSettled (d : Dev) (p : Port) (t : TlmPair) (u : Rat) : Bool := (t.settleAt u * 16000 : Nat) + d.tlmSettles p ≤ u

/-- TLM_STATE: 0 stopped, 1 settling, 2 running (R348, R351). -/
def Dev.tlmState (d : Dev) (p : Port) : Nat :=
  if !d.tlmOn p then 0 else if (d.port p).tlm.all (fun t => d.tlmSettled p t (d.uptime * 16000 : Nat)) then 2 else 1

/-- Every chain of a port settles anew; the grid goes on (R351). -/
def Dev.tlmSettle (d : Dev) (p : Port) : Dev :=
  forAll 4 (fun k d => d.onTlm p k (fun t => { t with settle := d.uptime, env := none })) d

/-- A write of TLM_ENABLE_MAP: chains that start join the present grid and settle (R348 to R350). -/
def Dev.tlmEnabled (d : Dev) (sub old new : Nat) : Dev :=
  let next := d.tlmCount / d.get 0x5F00 9
  forAll 64 (fun i d =>
    if h : (sub - 1) * 64 + i.val < 128 then
      if new.testBit i && !old.testBit i then
        forAll 4 (fun k d => d.onTlm ⟨(sub - 1) * 64 + i.val, h⟩ k (fun _ => { settle := d.uptime, next := next })) d
      else d
    else d) d

/-- A write of TLM_ATTACK or TLM_DECAY takes effect at the next sample: what they were until now stays known for the samples before (R350). -/
def Dev.tlmRated (d : Dev) (p : Port) (attack decay : Nat) : Dev :=
  d.onPort p (fun s => { s with tlmRates := (d.uptime, attack, decay) :: s.tlmRates })

/-! ## Blocks (R345 to R348) -/

/-- One symbol passes the averager: it holds the last L valid symbols and emits their average every D symbols. -/
def tlmAverage (length decimate : Nat) (time : Rat) (v : Nat) (t : TlmPair) : TlmPair :=
  let window := if t.validAt time then (v :: t.window).take length else t.window
  if t.phase + 1 < decimate then { t with window := window, phase := t.phase + 1 }
  else
    { t with
      window := window, phase := 0
      averages := if window = [] then t.averages else (time.floor, (window.sum : Rat) / window.length) :: t.averages }

/-- The symbols of a block pass the averager; the last of them is that of the block's end. -/
def Dev.tlmFeed (d : Dev) (p : Port) (last : Rat) (symbols : List Nat) (t : TlmPair) : TlmPair :=
  let period := symbolUnits (d.mode p)
  (symbols.foldl (fun (a : Nat × TlmPair) v =>
    (a.1 - 1, tlmAverage (d.get (0x5D80 + p) 1) (d.get (0x5D80 + p) 2) (last - ((a.1 - 1) * period : Nat)) v a.2)) (symbols.length, t)).2

/-- The resampler's output at an instant: what the prototype filter makes of the averages of its span. -/
def Dev.tlmSampleAt (d : Dev) (t : TlmPair) (u : Rat) : Nat :=
  let shape := d.get 0x5F00 4
  let span := d.tlmPeriods (tlmSpan shape)
  Config.tlmSample shape ((t.averages.filter (fun a => (a.1 : Rat) ≤ u && u < a.1 + span)).map (fun a => ((u - a.1).floor, a.2)))

/-- The values of TLM_ATTACK and TLM_DECAY at an instant. -/
def Dev.tlmRatesAt (d : Dev) (p : Port) (u : Rat) : Nat × Nat :=
  match (d.port p).tlmRates.reverse.find? (fun e => u ≤ (e.1 * 16000 : Nat)) with
  | some e => e.2
  | none => (d.get (0x5D80 + p) 3, d.get (0x5D80 + p) 4)

/-- What the samples of a block make of a chain: its envelope, unsettled samples, valid settled samples newest first, invalid samples. -/
structure TlmScan where
  env : Option Rat
  unsettled : Nat := 0
  valid : List Nat := []
  invalid : Nat := 0

/-- A valid sample moves the envelope, with n = TLM_ATTACK above it and TLM_DECAY otherwise (R347); the first settled one begins it. -/
def tlmEnvelope (rates : Nat × Nat) (y : Nat) : Option Rat → Rat
  | none => y
  | some e => e + (y - e) / 2 ^ (if e < y then rates.1 else rates.2)

/-- One sample of a block. -/
def Dev.tlmSample (d : Dev) (p : Port) (t : TlmPair) (s : TlmScan) (u : Rat) : TlmScan :=
  if !d.tlmSettled p t u then { s with env := none, unsettled := s.unsettled + 1 }
  else if !t.validAt u then { s with invalid := s.invalid + 1 }
  else
    let y := d.tlmSampleAt t u
    { s with env := some (tlmEnvelope (d.tlmRatesAt p u) y s.env), valid := y :: s.valid }

/-- What a chain still needs of its looks after an instant: every later one and the last that made symbols valid. -/
def looksKept (u : Rat) : List (Nat × Bool) → List (Nat × Bool)
  | [] => []
  | e :: l => if (e.1 * 16000 : Nat) ≤ u && e.2 then [e] else e :: looksKept u l

/-- Flags of a pair: SETTLING 1, STALE 2, GAPPED 4. -/
def Dev.tlmFlags (d : Dev) (p : Port) (pair : Pair) (v : Nat) : Dev :=
  let old := d.get (0x5E00 + p) 0xE
  d.put (0x5E00 + p) 0xE (old - field old (4 * pair) 4 * 2 ^ (4 * pair.val) + v * 2 ^ (4 * pair.val))

/-- PEAK, RMS and ENV of a pair. -/
def Dev.tlmPut (d : Dev) (p : Port) (pair : Pair) (peak rms env : Nat) : Dev :=
  ((d.put (0x5E00 + p) (1 + pair) (min peak 0xFFFF)).put (0x5E00 + p) (5 + pair) (min rms 0xFFFF)).put (0x5E00 + p) (9 + pair) (min env 0xFFFF)

/-- The end of a block of one pair: the last block whose W samples the grid has reached, unless it has been published. -/
def Dev.tlmBlock (d : Dev) (p : Port) (pair : Pair) (symbols : List Nat) : Dev :=
  let w := d.get 0x5F00 9
  let done := d.tlmCount / w
  let t := (d.port p).tlm.get pair
  if !d.tlmOn p || done ≤ t.next then d
  else
    let b := done - 1
    let last := d.tlmInstant (b * w + w - 1)
    let t := d.tlmFeed p last symbols t
    let s := (List.range w).foldl (fun s i => d.tlmSample p t s (d.tlmInstant (b * w + i))) { env := t.env }
    let span := d.tlmPeriods (tlmSpan (d.get 0x5F00 4))
    let stale := d.runCovers p pair || d.ramps p pair || t.held
    let d := d.onTlm p pair (fun _ => { t with
      env := s.env, next := done, held := false, looks := looksKept last t.looks, averages := t.averages.filter (fun a => last - span ≤ a.1) })
    let d := d.onPort p (fun s => { s with tlmRates := s.tlmRates.filter (fun e => d.tlmInstant (b * w) ≤ (e.1 * 16000 : Nat)) })
    let d := d.put (0x5E00 + p) 0xD (b % 2 ^ 32)
    if s.unsettled ≠ 0 then (d.tlmPut p pair 0 0 0).tlmFlags p pair 1
    else if stale then d.tlmFlags p pair 2
    else if s.valid = [] then d.tlmFlags p pair 4
    else
      let rms := Nat.sqrt ((s.valid.map (fun v => v * v)).sum / s.valid.length)
      (d.tlmPut p pair (s.valid.foldl max 0) rms ((s.env.getD 0).floor.toNat)).tlmFlags p pair (if s.invalid = 0 then 0 else 4)

/-- `TLM_BLOCK_END` (R347, R348), with the magnitude of the slicer's error of every symbol since the pair's last block (R344). -/
def execTlmBlockEnd (p : Port) (pair : Pair) (symbols : List Nat) (s : State) : Host.Outcome State Fault Refusal :=
  s.event (fun d => d.tlmBlock p pair symbols)

/-- The pair makes data decisions (R344; log entry 110). -/
def Dev.tlmValid (d : Dev) (p : Port) (pair : Pair) : Bool :=
  (d.linkState p = 4 || (d.linkState p = 6 && d.rxQuiet p ≤ 1)) && receives (d.mode p) pair && !(d.port p).signal.noSignal.get pair

/-- The port with what its chains see in this µs: symbols that have become valid or invalid. -/
def Dev.tlmLook (d : Dev) (p : Port) : PortSt :=
  let s := d.port p
  { s with tlm := Vector.ofFn (fun k => (s.tlm.get k).look d.uptime (d.tlmValid p k)) }

/-! ## Synchronisation (R349) -/

/-- The first whole microsecond of the time base at least so many sixteenths after now. -/
def Dev.wholeMicro (d : Dev) (after : Nat) : Nat := (d.now + after + 15999) / 16000 * 16000

/-- A sync is taken, on an edge, a command or, with both, a step of the time base: t0 is the first whole microsecond at least 10 µs away. -/
def Dev.tlmSyncTake (d : Dev) (edge write : Bool) : Dev :=
  { d with tlm := { d.tlm with syncAt := some (d.wholeMicro 160000), lastAt := some d.uptime, lastEdge := edge, lastWrite := write } }

/-- An edge or a command, which captures see: an edge and a command in one window make one sync; one within 100 µs after the last is ignored and counted. -/
def Dev.tlmSyncAsk (d : Dev) (edge : Bool) : Dev :=
  let d := d.samplerSync
  match d.tlm.lastAt with
  | none => d.tlmSyncTake edge !edge
  | some t =>
    if d.uptime = t && !(if edge then d.tlm.lastEdge else d.tlm.lastWrite) then { d with tlm := { d.tlm with lastEdge := true, lastWrite := true } }
    else if d.uptime < t + 100 then (d.event 0x5F30 7).inc 0x5F38 6
    else d.tlmSyncTake edge !edge

/-- `TSYNC_EDGE` (R349). -/
def execTsyncEdge (s : State) : Host.Outcome State Fault Refusal := s.event (fun d => d.tlmSyncAsk true)

/-- A write to TLM_SYNC. -/
def Dev.tlmSyncOp (d : Dev) (r : Req) (v : Nat) : Op := d.one r 0x5F00 5 v [] (fun d => d.tlmSyncAsk false)

/-- `TLM_SYNC` (R349). -/
def execTlmSync (r : Req) (v : Nat) (s : State) : Host.Outcome State Fault Refusal := s.write r 0x5F00 5 (fun _ d => d.tlmSyncOp r v)

/-- t0 has come: every chain restarts its averager and resampler, the numbering with it. t0 is a sample instant of the new grid, which a waiting latch takes. -/
def Dev.tlmSyncApply (d : Dev) : Dev :=
  match d.tlm.syncAt with
  | none => d
  | some t0 =>
    let d := { d with tlm := { d.tlm with syncAt := none, latchAt := d.tlm.latchAt.map (fun _ => 0) } }
    let d := ((d.put 0x5F00 6 (timeOctets t0)).event 0x5F30 6).inc 0x5F38 5
    d.eachPort (fun p d => forAll 4 (fun k d => d.onTlm p k (fun t => { settle := d.uptime, looks := t.looks })) d)

/-- `TLM_SYNC_APPLY` (R349). -/
def execTlmSyncApply (s : State) : Host.Outcome State Fault Refusal := s.event (fun d => d.tlmSyncApply)

/-- A write to TLM_LATCH waits for the first sample instant after its grant. -/
def Dev.tlmLatchOp (d : Dev) (r : Req) (v : Nat) : Op :=
  d.one r 0x5F00 7 v [] (fun d => { d with tlm := { d.tlm with latchAt := some d.tlmCount } })

/-- The instant has come: the outputs of every pair, with block, flags and state, go into their twins. -/
def Dev.tlmCopy (d : Dev) : Dev :=
  d.eachPort (fun p d =>
    ((List.range 14).foldl (fun d i => d.put (0x5E00 + p) (0x81 + i) (d.get (0x5E00 + p) (1 + i))) d).put (0x5E00 + p) 0x8F (d.tlmState p))

/-- At the end of each µs a latch whose sample instant has come copies, after the blocks that ended there. -/
def Dev.tlmLatches (d : Dev) : Dev :=
  match d.tlm.latchAt with
  | some k => if k < d.tlmCount then { d with tlm := { d.tlm with latchAt := none } }.tlmCopy else d
  | none => d

/-- `TLM_LATCH` (R351). -/
def execTlmLatch (r : Req) (v : Nat) (s : State) : Host.Outcome State Fault Refusal := s.write r 0x5F00 7 (fun _ d => d.tlmLatchOp r v)

end Sys2Proof.Machine
end

