-- ==== Sys2Proof/Machine/Timekeeping.lean ====
section
/-! DEFINITION. The time base, its steps and its frequency, PPS input and output, the line dies' copies (R305 to R309, R320, R321). -/

namespace Sys2Proof.Machine

/-! ## Setting and stepping (R306, R307) -/

/-- What the waiting adjustments make of a count. -/
def adjusted (count : Int) : List TimeAdj → Int
  | [] => count
  | .set c :: l => adjusted c l
  | .step o :: l => adjusted (count + o) l

/-- The instant at which a write granted now applies: the first whole microsecond at least 2 µs away. -/
def Dev.adjustInstant (d : Dev) : Nat := d.wholeMicro 32000

/-- A granted set or step waits for its instant. -/
def Dev.adjustAdd (d : Dev) (a : TimeAdj) : Dev := { d with time := { d.time with adjust := d.time.adjust ++ [a] } }

/-- A write to TIME_SET, an OCTETS(12). -/
def Dev.timeSetOp (d : Dev) (r : Req) (v : Nat) : Op :=
  d.command r 0x6000 2 v [(1000000000 ≤ v / 2 ^ 16 % 2 ^ 32, .range)] (fun d => d.adjustAdd (.set (octetsTime v)))

/-- `TIME_SET` (R307). -/
def execTimeSet (r : Req) (seconds ns frac : Nat) (s : State) : Host.Outcome State Fault Refusal :=
  s.write r 0x6000 2 (fun _ d => d.timeSetOp r (seconds * 2 ^ 48 + ns % 2 ^ 32 * 2 ^ 16 + frac % 256 * 256))

/-- A write to TIME_STEP, an OCTETS(8) offset in sixteenths of a nanosecond. -/
def Dev.timeStepOp (d : Dev) (r : Req) (v : Nat) : Op :=
  d.command r 0x6000 3 v
    [(1000 * perSecond < (signed 64 v).natAbs || adjusted d.adjustInstant (d.time.adjust ++ [.step (signed 64 v)]) < 0, .range)]
    (fun d => d.adjustAdd (.step (signed 64 v)))

/-- `TIME_STEP` (R307). -/
def execTimeStep (r : Req) (v : Nat) (s : State) : Host.Outcome State Fault Refusal := s.write r 0x6000 3 (fun _ d => d.timeStepOp r v)

/-- One waiting adjustment takes effect; a set ends the time base's FATAL safe state (R306, R404). -/
def Dev.adjustOne (d : Dev) (a : TimeAdj) : Dev :=
  let d := { d with time := { d.time with count := (adjusted d.now [a]).toNat } }
  let d := (d.event 0x6030 0).put 0x6000 5 1
  match a with
  | .set _ => if d.faultState srcTime = 4 then d.blockNormal srcTime else d
  | .step _ => d

/-- Frames whose period is fixed and whose entry is yet to come are marked (R315). -/
def Dev.markMoved (d : Dev) : Dev :=
  d.eachPort (fun p d => d.onNative p (fun n => { n with rx := n.rx.map (fun r => { r with moved := true }) }))

/-- The instant has come: the waiting writes apply one after another, every line die hears the new time, and telemetry synchronises (R307, R309, R315, R349). -/
def Dev.timeAdjust (d : Dev) : Dev :=
  match d.time.adjust with
  | [] => d
  | l => ((l.foldl Dev.adjustOne { d with time := { d.time with adjust := [] } }).eachDie (fun n d => d.timeSend n)).markMoved.tlmSyncTake true true

/-- `TIME_ADJUST_APPLY` (R307). -/
def execTimeAdjustApply (s : State) : Host.Outcome State Fault Refusal := s.event (fun d => d.timeAdjust)

/-- A value outside plus or minus a bound, as a two's-complement word. -/
def beyond (w bound v : Nat) : Bool := bound < (signed w v).natAbs

/-- A write to TIME_FREQ_ADJ; in mode 2 it suspends the discipline (R308, R320). -/
def Dev.freqAdjOp (d : Dev) (r : Req) (v : Nat) : Op :=
  d.plainWrite r 0x6000 4 v [(beyond 32 500000000 v, .range)] (fun d =>
    if d.get 0x6010 1 = 2 && !d.pps.suspended then { d with pps := { d.pps with suspended := true, holdover := false } }.event 0x6030 9 else d)

/-- `TIME_FREQ_ADJ_WRITE` (R308). -/
def execTimeFreqAdjWrite (r : Req) (v : Nat) (s : State) : Host.Outcome State Fault Refusal := s.write r 0x6000 4 (fun _ d => d.freqAdjOp r v)

/-- A microsecond passes on the time base: its nominal period and the correction of TIME_FREQ_ADJ, in 10^-12 (log entry 1). -/
def TimeBase.tick (t : TimeBase) (adj : Int) : TimeBase :=
  let f := t.frac + 16000 * adj
  { t with count := (t.count + 16000 + f / 1000000000000).toNat, frac := f % 1000000000000 }

/-! ## PPS input (R320) -/

/-- An edge's offset from its nearest whole second, in sixteenths. -/
def ppsOffset (t : Int) : Int :=
  let m := t % (perSecond : Int)
  if m ≤ 8000000000 then m else m - perSecond

/-- An edge that may be used. -/
def Dev.ppsAccepted (d : Dev) (off : Int) : Dev :=
  let n := if off.natAbs ≤ 160 then d.pps.edges + 1 else 0
  let d := { d with pps := { d.pps with edges := n, missing := 0 } }
  let d := if n = 10 then d.event 0x6030 1 else d
  if d.get 0x6010 1 = 2 && !d.pps.suspended then
    ({ d with pps := { d.pps with holdover := false } }.newDraw).put 0x6000 4
      (unsigned 32 ((Config.freeValue d.draws 0 % 1000000001 : Nat) - 500000000))
  else d

/-- A rising edge on PPS_IN. -/
def Dev.ppsEdge (d : Dev) (time : Nat) : Dev :=
  if d.get 0x6010 1 = 0 then d
  else
    let t : Int := (time : Int) - signed 32 (d.get 0x6010 2)
    let off := ppsOffset t
    let d := (d.put 0x6010 3 (timeOctets t.toNat)).put 0x6010 4 (unsigned 32 (saturate 32 off))
    if 16000 < off.natAbs then { d with pps := { d.pps with edges := 0, missing := 0 } }.event 0x6030 3 else d.ppsAccepted off

/-- `PPS_IN_EDGE` (R320). -/
def execPpsInEdge (time : Nat) (s : State) : Host.Outcome State Fault Refusal := s.event (fun d => d.ppsEdge time)

/-- An expected edge has not come; the third in a row is reported. With three or more missing the discipline is in holdover. -/
def Dev.ppsMissing (d : Dev) : Dev :=
  if d.get 0x6010 1 = 0 then d
  else
    let d := { d with pps := { d.pps with edges := 0, missing := d.pps.missing + 1 } }
    let d := if d.pps.missing = 3 then d.event 0x6030 2 else d
    if 3 ≤ d.pps.missing && d.get 0x6010 1 = 2 && !d.pps.suspended && !d.pps.holdover then
      { d with pps := { d.pps with holdover := true } }.event 0x6030 4
    else d

/-- `PPS_IN_MISSING` (R320). -/
def execPpsInMissing (s : State) : Host.Outcome State Fault Refusal := s.event (fun d => d.ppsMissing)

/-- A write of PPS_IN_MODE: 2 starts or resumes the discipline, in holdover until the next accepted edge where it was; without it there is none. With 0 the input
counts no edge. -/
def Dev.ppsMode (d : Dev) : Dev :=
  let mode := d.get 0x6010 1
  { d with pps := { d.pps with
    suspended := false, holdover := mode = 2 && d.pps.holdover
    edges := if mode = 0 then 0 else d.pps.edges, missing := if mode = 0 then 0 else d.pps.missing } }

/-! ## PPS output (R321, R395) -/

/-- The pins have their functions: from step 4 of a start, and through a warm reset (R395). -/
def Dev.pinsLive (d : Dev) : Bool := d.life = .running && !d.mgmt.recovery

/-- The instant before a whole second comes: PPS_OUT rises, unless its last pulse is still high. -/
def Dev.ppsRise (d : Dev) : Dev :=
  if d.flag 0x6014 1 && d.pinsLive && d.options.pinEnable.testBit 1 && !d.time.ppsOutHigh then
    { d with time := { d.time with ppsOutHigh := true } }.emit (.ppsOut true)
  else d

/-- `PPS_OUT_EDGE` (R321). -/
def execPpsOutEdge (s : State) : Host.Outcome State Fault Refusal := s.event (fun d => d.ppsRise)

/-- The pulse's width has passed, or its enable is cleared: the output is low. -/
def Dev.ppsFall (d : Dev) : Dev :=
  if d.time.ppsOutHigh then { d with time := { d.time with ppsOutHigh := false } }.emit (.ppsOut false) else d

/-- `PPS_OUT_FALL` (R321). -/
def execPpsOutFall (s : State) : Host.Outcome State Fault Refusal := s.event (fun d => d.ppsFall)

/-! ## The line dies' copies (R309) -/

/-- Change what is known of a die's copy. -/
def Dev.onCopy (d : Dev) (n : Die) (qualified : Bool) (since : Option Nat) (offset : Int) : Dev :=
  { d with time := { d.time with
    copyQualified := d.time.copyQualified.set n qualified
    copySince := d.time.copySince.set n since
    copyError := d.time.copyError.set n offset } }

/-- The copy of a die cannot be held, or its link is not UP: DIST_FAULT, and its timestamps are unqualified. -/
def Dev.copyLost (d : Dev) (n : Die) : Dev := (d.onCopy n false none (d.time.copyError.get n)).event 0x6030 5

/-- A copy that has been within ±60 ps for 1 ms is qualified; one that leaves ±1 ns is lost. ±60 ps is less than a sixteenth of a nanosecond. -/
def Dev.copyCheck (d : Dev) (n : Die) (offset : Int) : Dev :=
  if 16 < offset.natAbs then
    let held := d.time.copyQualified.get n || (d.time.copyError.get n).natAbs ≤ 16
    let d := d.onCopy n false none offset
    if held then d.copyLost n else d
  else if offset ≠ 0 then d.onCopy n (d.time.copyQualified.get n) none offset
  else
    let t := (d.time.copySince.get n).getD d.uptime
    d.onCopy n (d.time.copyQualified.get n || t + 1000 ≤ d.uptime) (some t) offset

end Sys2Proof.Machine
end

