-- ==== Sys2Proof/Machine/Calibration.lean ====
section
/-! DEFINITION. Calibration runs, temper slots and trims (R352 to R369). -/

namespace Sys2Proof.Machine

/-! ## The pre-check (R354) -/

/-- The selected pairs of a mask. -/
def pairsOf (mask : Nat) : List Pair := (allFin 4).filter (fun k => mask.testBit k.val)

/-- The mode's symbol rate is at least 3.2 GBd. -/
def fastMode (mode : Nat) : Bool := 7 ≤ mode && mode ≤ 10

/-- A segment's power lies within ±0.5 dB of the mean of the sixteen: (16·P / S)^20 lies between 1/10 and 10. -/
def steadyPower (segments : Vector Nat 16) : Bool :=
  let s := segments.toList.sum
  segments.all (fun x => (16 * x) ^ 20 ≤ 10 * s ^ 20 && s ^ 20 ≤ 10 * (16 * x) ^ 20)

/-- An event that ends a run has occurred within the last 1 ms (R357). -/
def Dev.disturbed (d : Dev) (p : Port) : Bool := (d.port p).link.disturbedAt.any (fun t => d.uptime < t + 1000)

/-- The lowest failing code of R354, or 0. -/
def Dev.calCheck (d : Dev) (p : Port) (classes pairMask : Nat) (m : CalMeas) : Nat :=
  let ps := pairsOf pairMask
  if d.linkState p ≠ 4 || (d.port p).link.held || d.get (0x4200 + p) 4 ≠ 0 || d.get (0x4200 + p) 5 ≠ 0 then 1
  else if ps.any (fun k => 100 * m.valid.get k < 99 * m.symbols) then 2
  else if d.mode p = 1 || (classes.testBit 1 && !fastMode (d.mode p)) then 3
  else if ps.any (fun k => !steadyPower (m.power.get k)) then 4
  else if ps.any (fun k => signed 16 (d.get (0x4300 + p) (1 + k)) < 0x100) then 5
  else if d.disturbed p then 6
  else if ps.any (fun k => m.samples ≤ 10000 * m.fullScale.get k) then 7
  else 0

/-- Runs in progress on the port's line die. -/
def Dev.calRuns (d : Dev) (p : Port) : Nat :=
  ((allFin 16).filter (fun k => (d.port (portAt (dieOf p) k)).cal.isSome)).length

/-! ## Starting (R353, R354, R368) -/

/-- A run begins. -/
def Dev.calBegin (d : Dev) (p : Port) (classes pairMask : Nat) (automatic : Bool) : Dev :=
  ((d.onPort p (fun s => { s with
    cal := some { classes := classes, pairMask := pairMask, automatic := automatic, since := d.uptime }
    calAsked := 0 })).calState p).diagStale p

/-- The pre-check refuses a run. -/
def Dev.calRefuse (d : Dev) (p : Port) (code : Nat) : Dev :=
  (((d.put (0x5880 + p) 3 code).put (0x5880 + p) 2 3).event (0x5A80 + p) 2).inc (0x5900 + p) 6

/-- A write to CAL_START. -/
def Dev.calStartOp (d : Dev) (r : Req) (p : Port) (v : Nat) (m : CalMeas) : Op :=
  let classes := field v 8 5
  let mask := field v 0 4
  let code := d.calCheck p classes mask m
  { d.command r (0x5800 + p) 1 v
      [((d.port p).cal.isSome || 4 ≤ d.calRuns p, .busy), (d.get (0x5800 + p) 6 = 1 || code ≠ 0, .state), (classes = 0 || mask = 0, .range)]
      (fun d => d.calBegin p classes mask false) with
    refusal := fun c d => if c = .state && d.get (0x5800 + p) 6 ≠ 1 && !d.modeRefuses (0x5800 + p) then d.calRefuse p code else d }

/-- `CAL_START` (R353, R354). -/
def execCalStart (r : Req) (p : Port) (v : Nat) (meas : CalMeas) (s : State) : Host.Outcome State Fault Refusal :=
  s.write r (0x5800 + p) 1 (fun _ d => d.calStartOp r p v meas)

/-- The classes of an automatic request: without ADC_DELAY where only that class fails criterion 3, which fails for every class in 100BASE-TX. -/
def Dev.autoClasses (d : Dev) (p : Port) : Nat :=
  let c := d.get (0x5800 + p) 5
  if c.testBit 1 && d.mode p ≠ 1 && !fastMode (d.mode p) then c - 2 else c

/-- An automatic request: it starts, waits its turn behind four runs or a lower port, or is refused and tried again. -/
def Dev.calAuto (d : Dev) (p : Port) (m : CalMeas) : Dev :=
  let ask := fun n => d.onPort p (fun s => { s with calAsked := n })
  let lower := (allFin 16).any (fun k => k.val < localOf p && (d.port (portAt (dieOf p) k)).calAsked = 1)
  if d.get (0x5800 + p) 3 = 0 || d.get (0x5800 + p) 6 = 1 || (d.port p).cal.isSome || (d.port p).tested then ask 0
  else if 4 ≤ d.calRuns p || lower then ask 1
  else
    let code := d.calCheck p (d.autoClasses p) 0xF m
    if code ≠ 0 then (ask 2).calRefuse p code else if d.autoClasses p = 0 then ask 0 else d.calBegin p (d.autoClasses p) 0xF true

/-- `CAL_AUTO_TIMER` (R368). -/
def execCalAutoTimer (p : Port) (meas : CalMeas) (s : State) : Host.Outcome State Fault Refusal := s.event (fun d => d.calAuto p meas)

/-- `CAL_AUTO_RETRY` (R368): a request that waits. -/
def execCalAutoRetry (p : Port) (meas : CalMeas) (s : State) : Host.Outcome State Fault Refusal :=
  s.event (fun d => if (d.port p).calAsked = 0 then d else d.calAuto p meas)

/-! ## Rounds (R356, R357) -/

/-- The estimates of eight consecutive rounds have, for every selected trim, changed by at most one unit from any of them to any other (log entry 112). -/
def settledBy (classes : Nat) (ps : List Pair) (rounds : List (Vector (List Int) 4)) : Bool :=
  8 ≤ rounds.length
  && ps.all (fun k => (List.range 57).all (fun i =>
    !classes.testBit (trimClass i)
    || rounds.all (fun a => rounds.all (fun b => ((a.get k).getD i 0 - (b.get k).getD i 0).natAbs ≤ 1))))

/-- A round of 1 ms ends. -/
def Dev.calRound (d : Dev) (p : Port) (m : CalMeas) : Dev :=
  match (d.port p).cal with
  | none => d
  | some c =>
    if c.storing then d
    else
      let code := d.calCheck p c.classes c.pairMask m
      if code ≠ 0 then d.calFails p code
      else
        let rounds := (m.estimate :: c.rounds).take 8
        (d.onPort p (fun s => { s with
          cal := some { c with rounds := rounds, storing := settledBy c.classes (pairsOf c.pairMask) rounds } })).calState p

/-- `CAL_ROUND` (R356). -/
def execCalRound (p : Port) (meas : CalMeas) (s : State) : Host.Outcome State Fault Refusal := s.event (fun d => d.calRound p meas)

/-- `CAL_TIMEOUT` (R357): the run has not converged. -/
def execCalTimeout (p : Port) (s : State) : Host.Outcome State Fault Refusal :=
  s.event (fun d => if (d.port p).cal.any (fun c => !c.storing) then d.calEnd p 2 else d)

/-- A write to CAL_ABORT. -/
def Dev.calAbortOp (d : Dev) (r : Req) (p : Port) (v : Nat) : Op := d.one r (0x5800 + p) 2 v [] (fun d => d.calEnd p 5)

/-- `CAL_ABORT` (R357). -/
def execCalAbort (r : Req) (p : Port) (v : Nat) (s : State) : Host.Outcome State Fault Refusal :=
  s.write r (0x5800 + p) 2 (fun _ d => d.calAbortOp r p v)

/-! ## Storing (R358, R361) -/

/-- The point nearest to a temperature, the lower of two. -/
def nearestPoint (t : Int) : Fin 8 :=
  (allFin 8).foldl (fun best k => if (t - pointAt k.val).natAbs < (t - pointAt best.val).natAbs then k else best) 0

/-- The other point that brackets a temperature. -/
def otherPoint (t : Int) : Option (Fin 8) :=
  let k := nearestPoint t
  if t = pointAt k.val then none
  else if pointAt k.val < t then (allFin 8).find? (fun j => j.val = k.val + 1)
  else (allFin 8).find? (fun j => j.val + 1 = k.val)

/-- The value to store for one trim, before clamping. -/
def storeValue (recs : PairRecs) (t : Int) (i : Nat) (run : Int) : Int :=
  match (otherPoint t).filter (fun j => (recs.get j).isSome) with
  | none => run
  | some j => roundDiv (trimValue recs j i * (t - pointAt j.val) + (run - trimValue recs j i) * (pointAt (nearestPoint t).val - pointAt j.val))
      (t - pointAt j.val)

/-- The record that a run writes, and whether a value was clamped. -/
def runRecord (recs : PairRecs) (t : Int) (classes : Nat) (run : List Int) : TrimRec × Bool :=
  let raw := (List.range 57).map (fun i =>
    if classes.testBit (trimClass i) then storeValue recs t i (run.getD i 0) else trimValue recs (nearestPoint t) i)
  let vals := (List.range 57).map (fun i => saturate (trimWidth (trimClass i)) (raw.getD i 0))
  ({ values := vals
     source := if ((otherPoint t).filter (fun j => (recs.get j).isSome)).isSome then 2 else 1
     runTemp := saturate 8 (roundDiv t 256) }, raw != vals)

/-- The slot that a commit of a port overwrites. -/
def Dev.commitSlot (d : Dev) (p : Port) : Fin 2 := commitSlotOf (d.port p).slots

/-- The commit at the die's temperature: the copy of the newest slot with the new records, in use from now on, then a trim request for each selected pair. -/
def Dev.calStore (d : Dev) (p : Port) (c : CalRun) : Dev :=
  let base : TemperSlot := match d.newestSlot p with | some k => (d.port p).slots.get k | none => {}
  let ps := pairsOf c.pairMask
  let t := d.dieTemp p
  let out := fun (k : Pair) => runRecord (base.recs k) t c.classes ((c.rounds.head?.map (fun e => e.get k)).getD [])
  let recs := Vector.ofFn (fun k : Pair => if k ∈ ps then (base.recs k).set (nearestPoint t).val (some (out k).1) (nearestPoint t).isLt else base.recs k)
  let slot := d.commitSlot p
  let d := (d.tlmHold p (d.runCovers p)).onPort p (fun s => { s with
    cal := none
    slots := s.slots.set slot.val { cond := 0, bytes := slotImage p ((base.sequence + 1) % 2 ^ 32) recs } slot.isLt })
  let d := ((d.put (0x5980 + p) (1 + slot.val) 0).put (0x5880 + p) 5 slot.val).put (0x5880 + p) 4 (unsigned 16 t)
  let d := (d.put (0x5880 + p) 2 1).event (0x5A80 + p) 0
  let d := if ps.any (fun k => (out k).2) then d.event (0x5A80 + p) 7 else d
  let d := ps.foldl (fun d k => (d.put (0x5880 + p) (0x10 + k) (timeOctets d.now)).inc (0x5900 + p) (1 + k)) d
  (ps.foldl (fun d k => d.trimRequest p k (d.trimsNow p k)) d).calState p

/-- The slot write of step 3 ends, verified or not. -/
def Dev.calCommit (d : Dev) (p : Port) (verifyOk : Bool) : Dev :=
  match (d.port p).cal with
  | none => d
  | some c => if !c.storing then d else if verifyOk then d.calStore p c else d.calEnd p 6

/-- `CAL_COMMIT` (R356 to R358, R361). -/
def execCalCommit (p : Port) (verifyOk : Bool) (s : State) : Host.Outcome State Fault Refusal := s.event (fun d => d.calCommit p verifyOk)

/-! ## Slots and trims (R360, R363, R365) -/

/-- The slot that a value of CAL_SLOT_USE gives: the newest valid one, or the other. -/
def Dev.slotFor (d : Dev) (p : Port) (v : Nat) : Option (Fin 2) :=
  match d.newestSlot p with
  | none => none
  | some k =>
    let k' : Fin 2 := if v = 0 then k else if k = 0 then 1 else 0
    if ((d.port p).slots.get k').cond = 0 then some k' else none

/-- A write of CAL_SLOT_USE changes the slot in use. -/
def Dev.slotChanges (d : Dev) (p : Port) (v : Nat) : Bool :=
  match d.slotFor p v with
  | some k => v ≤ 1 && k.val ≠ d.get (0x5880 + p) 5
  | none => false

/-- A write to CAL_SLOT_USE. -/
def Dev.slotUseOp (d : Dev) (r : Req) (p : Port) (v : Nat) : Op :=
  d.plainWrite r (0x5800 + p) 6 v
    [(v = 1 && (d.port p).cal.isSome, .busy), (d.slotChanges p v && d.stagingFull, .busy), (v = 1 && (d.slotFor p 1).isNone, .state)]
    (fun d' =>
      if d.slotChanges p v then
        let d' := (d'.put (0x5880 + p) 5 ((d.slotFor p v).getD 0).val).onHall (fun h => { h with reserved := h.reserved + 1 })
        let d' := (forAll 4 (fun k d => d.trimRequest p k (d.trimsNow p k)) d').onHall (fun h => { h with reserved := h.reserved - 1 })
        d'.touch 0x0014 (bytesOf 1 p.val ++ bytesOf 1 0xFF ++ bytesOf 1 0)
      else d')

/-- `CAL_SLOT_USE_WRITE` (R363). -/
def execCalSlotUseWrite (r : Req) (p : Port) (v : Nat) (s : State) : Host.Outcome State Fault Refusal :=
  s.write r (0x5800 + p) 6 (fun _ d => d.slotUseOp r p v)

/-- `TRIM_RAMP_END` (R364, R365). -/
def execTrimRampEnd (p : Port) (pair : Pair) (s : State) : Host.Outcome State Fault Refusal := s.event (fun d => d.trimEnd p pair)

/-- One unit towards a value. -/
def stepTo (a b : Int) : Int := if a < b then a + 1 else if b < a then a - 1 else a

/-- The 10 ms recomputation of one pair: while it carries data a tracking step of each trim that differs, at once otherwise; a ramp or a held request suspends
what its target does not bring (R359, R360, R365; log entry 98). -/
def Dev.trackPair (d : Dev) (p : Port) (pair : Pair) : Dev :=
  let t := (d.port p).trims.get pair
  let want := d.trimsNow p pair
  let now := (List.range 57).map (fun i => t.active.getD i 0)
  match t.waiting.or t.ramp with
  | some target => if target = want then d else d.onTrim p pair (fun t => { t with suspended := true })
  | none =>
  if now = want then d
  else if d.carriesData p then
    (d.onTrim p pair (fun t => { t with active := (List.range 57).map (fun i => stepTo (now.getD i 0) (want.getD i 0)) })).count (0x5900 + p) 0xA
      ((List.range 57).filter (fun i => now.getD i 0 ≠ want.getD i 0)).length
  else d.onTrim p pair (fun t => { t with active := want })

/-- Every 10 ms: the temperatures, and the trims of every pair. -/
def Dev.tracking (d : Dev) (temps : Vector Int 9) : Dev :=
  let d := forAll 9 (fun i d => d.put 0x5A10 (1 + i) (unsigned 16 (temps.get i))) d
  d.eachPort (fun p d => forAll 4 (fun k d => d.trackPair p k) d)

/-- `CAL_TRACKING` (R359, R360). -/
def execCalTracking (temps : Vector Int 9) (s : State) : Host.Outcome State Fault Refusal := s.event (fun d => d.tracking temps)

/-! ## Reading records (R369) -/

/-- Fields of a selection: port, pair, point, slot. -/
def temperField (v i : Nat) : Nat := v / 256 ^ (3 - i) % 256

/-- A field of a selection is out of range. -/
def temperBad (v : Nat) : Bool :=
  127 < temperField v 0 || 3 < temperField v 1 || 8 < temperField v 2 || (temperField v 2 ≠ 8 && 1 < temperField v 3)

/-- The slot that a selection names is not valid. -/
def Dev.temperInvalid (d : Dev) (v : Nat) : Bool :=
  if h : temperField v 0 < 128 then
    if h' : temperField v 3 < 2 then
      temperField v 2 < 8 && ((d.port ⟨temperField v 0, h⟩).slots.get ⟨temperField v 3, h'⟩).cond ≠ 0
    else false
  else false

/-- A write to TEMPER_SELECT. -/
def Dev.temperSelectOp (d : Dev) (r : Req) (v : Nat) : Op :=
  d.command r 0x5A00 1 v [(d.temperInvalid v, .state), (temperBad v, .range)] (fun d => { d with temperSelect := some v })

/-- `TEMPER_SELECT` (R369). -/
def execTemperSelect (r : Req) (v : Nat) (s : State) : Host.Outcome State Fault Refusal := s.write r 0x5A00 1 (fun _ d => d.temperSelectOp r v)

/-- TEMPER_RECORD: the selected record, or the active trims; zeros for a record that is not valid. -/
def Dev.temperRecord (d : Dev) : Nat :=
  match d.temperSelect with
  | none => 0
  | some v =>
    let p : Port := ⟨temperField v 0 % 128, by omega⟩
    let k : Pair := ⟨temperField v 1 % 4, by omega⟩
    if h : temperField v 2 < 8 then
      match (((d.port p).slots.get ⟨temperField v 3 % 2, by omega⟩).recs k).get ⟨temperField v 2, h⟩ with
      | some r => natOf (recordBytes r)
      | none => 0
    else natOf (recordBytes { values := d.trimsStand p k, source := 0, runTemp := 0 })

end Sys2Proof.Machine
end

