-- ==== Sys2Proof/Machine/Barrier.lean ====
section
/-! DEFINITION. Taking ports, lanes, twill links and dies out of service, and bringing them back (R11, R15 to R17, R161, R287 to R297, R382, R386, R403,
R406): the operations that faults, resets, clocks, self-test and the start share. -/

namespace Sys2Proof.Machine

/-! ## Dies and ports -/

/-- DIE_STATE of a line die: 0 ABSENT, 1 STARTING, 2 RUNNING, 3 RESETTING, 4 SELF_TEST, 5 BARRIER_LOST, 6 SAFE (R11). -/
def Dev.dieState (d : Dev) (n : Die) : Nat := d.get 0x1010 (n + 1)

def Dev.setDie (d : Dev) (n : Die) (st : Nat) : Dev := d.put 0x1010 (n + 1) st

/-- A port leaves service with its queues discarded as FAULT: runs of its own end, frames end errored, its link ends without HOLD (R195, R268, R288). -/
def Dev.portOut (d : Dev) (p : Port) : Dev := ((d.calUnsuitable p 6).diagEnd p).cutLink p faultEnd

/-- A port whose die became ABSENT or BARRIER_LOST: one that is not DISABLED reads NEGOTIATING (R15, R16, R160), unless a test holds its die. -/
def Dev.portBarrier (d : Dev) (p : Port) : Dev :=
  let st := d.linkState p
  if st = 10 then d
  else
    let d := d.portOut p
    if st = 0 then d else (d.reactionEnd (srcPort p)).setLinkState p 2

/-- A port that a test held while its die became ABSENT or BARRIER_LOST (R15, R16). -/
def Dev.testedLost (d : Dev) (p : Port) : Dev := if d.linkState p = 10 then d.setLinkState p (if d.enabled p then 2 else 0) else d

/-- A port that read NEGOTIATING while its die was lost, as the die runs again: SELF_TEST where a test still holds it, DOWN where it is shed or in a safe state that
nothing has ended, SILENT where it offers no mode (R78, R161, R299, R404; log entry 47). -/
def Dev.portBack (d : Dev) (p : Port) : Dev :=
  if (d.port p).tested then d.setLinkState p 10
  else if d.linkState p ≠ 2 then d
  else if d.shed p || 4 ≤ d.faultState (srcPort p) || 4 ≤ d.faultState (srcHostLane p) || 4 ≤ d.faultState (srcCore (dieOf p)) then d.setLinkState p 11
  else if d.effAdvertise p = 0 && !d.forced p then d.negotiate p
  else d

/-- A self-test takes a port: SELF_TEST, silent, its host lane idle; a calibration run ends ABORTED (R161, R250, R268, R335, R357). -/
def Dev.portTest (d : Dev) (p : Port) : Dev :=
  let d := ((((d.calEnd p 5).diagEnd p).cutLink p faultEnd).setLinkState p 10).put (0x2100 + p) 1 0
  d.onPort p (fun s => { s with tested := true, host := { s.host with switchSends := .none } })

/-- A self-test gives a port back: reinitialised, negotiating when it is enabled; shed or taken down by a fault, it stays DOWN (R161, R299, R404). -/
def Dev.portReturn (d : Dev) (p : Port) : Dev :=
  let d := d.onPort p (fun s => { s with tested := false })
  let d := if d.startComplete && d.get 0x6800 5 = 0 && d.faultState (srcHostLane p) < 4 then d.laneStarts p else d
  if !d.enabled p || !d.startComplete then d.setLinkState p 0
  else if d.shed p || 4 ≤ d.faultState (srcPort p) then d.setLinkState p 11
  else (d.setLinkState p 0).negotiate p

/-- A port's transmitter is silent and its link DOWN, keys erased; its egress is discarded as LINK_DOWN, and whole ingress frames are delivered (R268, R404,
R406; log entry 89). -/
def Dev.portDown (d : Dev) (p : Port) : Dev :=
  ((((d.calUnsuitable p 6).diagEnd p).cutLink p lossEnd).onCrypt p (fun _ => {})).setLinkState p (if d.linkState p = 10 then 10 else if d.enabled p then 11 else 0)

/-- A port that only a safe state around it has taken DOWN comes back when that safe state ends (R404, R406; log entry 42). -/
def Dev.portRise (d : Dev) (p : Port) : Dev :=
  if d.linkState p = 11 && d.faultState (srcPort p) < 4 && d.faultState (srcHostLane p) < 4 && !d.shed p && !d.safe
      && d.faultState (srcCore (dieOf p)) < 4 then
    (d.setLinkState p 0).negotiate p
  else d

/-! ## Frames on the twill link (R293) -/

/-- A frame has reached the line die: on to the line behind what it holds; discarded where the link is down, or in a relock (R267, R268). `lost` says that a fault
has counted it. -/
def Dev.deliverDown (d : Dev) (p : Port) (q : Fin 32) (f : EthFrame) (lost : Bool) : Dev :=
  let gone := fun (d : Dev) cause => if lost then d else d.countDiscard p q cause 1
  if !d.linkUp p then gone d 3
  else if d.linkState p = 5 || (d.port p).link.held then gone d 1
  else if 8 ≤ q.val && q.val < 16 then
    match d.sealFrame p f with
    | (some b, d) => d.toLine p f q.val true b true lost
    | (none, d) => d
  else d.toLine p f q.val false f.bytes true lost

/-- A frame in progress ends with an error code, on the host lane or on the line (R275), and counts as FAULT (R293). -/
def Dev.frameEnds (d : Dev) (p : Port) (w : Way) (q : Fin 32) (r : RxFrame) : Dev :=
  match w with
  | .up => (d.endArrival p r 1 true).flowCheck p .ingress
  | .down => (d.countDiscard p q 1 1).deliverDown p q { bytes := r.bytes, errored := true } true

/-- Every frame in progress of a die's ports in a direction ends errored, counted as FAULT; each port resumes at its next valid START. -/
def Dev.framesEnd (d : Dev) (n : Die) (w : Way) : Dev :=
  d.eachPortOf n (fun p d =>
    let held := (d.twillDir n w).frames.get (placeOf p)
    let d := d.onDir n w (fun t => { t with
      resync := upd t.resync (placeOf p) (fun b => b || held.isSome), frames := upd t.frames (placeOf p) (fun _ => none) })
    let d := match held with
      | some (q, r) => d.frameEnds p w q r
      | none => d
    match w with | .down => d.faultTx p | .up => d.faultRx p)

/-! ## Lanes (R289, R294 to R297) -/

/-- The block of a lane. -/
def laneSrc (n : Die) (w : Way) (lane : Nat) : Nat := srcLane n w lane

/-- The transmitter parks a logical lane (R294, R295); `delivers` says that the lane it leaves has lost no lock (R296). -/
def Dev.park (d : Dev) (n : Die) (w : Way) (l : Nat) (delivers : Bool) : Dev :=
  let phys := d.laneMap n w l
  if phys = 0xFF || 31 < l then d
  else (d.onDir n w (fun t => { t with parked := t.parked ++ [{ logical := l, leaves := phys, delivers := delivers }] })).setMap n w l 0xFF

/-- A physical lane becomes LOST: LANE_LOST, and PARK goes to the other end when it carried a logical lane; a narrowed direction widens first when that was
logical lane 0 (R289, R292, R294). -/
def Dev.laneLost (d : Dev) (n : Die) (w : Way) (lane : Nat) : Dev :=
  let d := if (d.twillDir n w).narrow && d.laneMap n w 0 = lane then d.widen n w else d
  let d := (d.setLane n w lane 4).event (0x3020 + n) 2
  match d.logicalOf n w lane with
  | some l => d.laneControl n (Way.back w) 0 l
  | none => d

/-- A SEVERE or FATAL lane retires without losing lock: LOST, its logical lane parked, what it carries delivered until the switch; nothing to switch ends the
reaction at once (R296, R404). -/
def Dev.laneRetire (d : Dev) (n : Die) (w : Way) (lane : Nat) : Dev :=
  if d.twillState n ≠ 3 || !(d.laneState n w lane = 2 || d.laneState n w lane = 3 || d.laneState n w lane = 6) then
    d.reactionEnd (laneSrc n w lane)
  else
    let carried := d.logicalOf n w lane
    let d := d.laneLost n w lane
    match carried with
    | some l => d.park n w l true
    | none => d.reactionEnd (laneSrc n w lane)

/-! ## Twill links (R287, R288) -/

/-- A twill test ends with a result, and its lanes return to the state they had: spares in service, off when the die was taken out of service (R303,
R304). -/
def Dev.testEnd (d : Dev) (n : Die) (result : Nat) : Dev :=
  match (d.dies.get n).test with
  | none => d
  | some _ =>
    let d := (d.put 0x3402 (n + 1) result).event (0x3020 + n) 11
    let back := if (d.dies.get n).testHolds then 0 else 3
    let restore := fun (w : Way) (d : Dev) => (List.range 34).foldl (fun d l =>
      if d.laneState n w l = 7 then d.setLane n w l back else d) d
    (restore .up (restore .down d)).onDie n (fun s => { s with test := none })

/-- What both ends forget when a link is DOWN: lanes OFF, no lane FAILED or FATAL, nothing parked (R289, R297, R404). -/
def Dev.linkClear (d : Dev) (n : Die) (w : Way) : Dev :=
  let d := (List.range 34).foldl (fun d l =>
    let d := if d.faultState (laneSrc n w l) = 4 then d.blockNormal (laneSrc n w l) else d.reactionEnd (laneSrc n w l)
    d.setLane n w l 0) d
  d.onDir n w (fun t => { marker := t.marker })

/-- A twill link is DOWN, whatever the cause: its ports' links end, the copy of the time is lost (R16, R288, R309). An in-service test ends ABORTED. -/
def Dev.linkDown (d : Dev) (n : Die) : Dev :=
  if d.twillState n = 0 then d
  else
    let up := d.twillState n = 3
    let d := if (d.dies.get n).testHolds then d else d.testEnd n 3
    let d := ((d.framesEnd n .down).framesEnd n .up)
    let d := (d.put 0x3010 (n + 1) 0)
    let d := if up then (d.event (0x3020 + n) 1).copyLost n else d
    let d := (d.linkClear n .down).linkClear n .up
    d.eachPortOf n (fun p d => d.portBarrier p)

/-- A link that was UP is lost: BARRIER_LOST from any state but ABSENT and SELF_TEST (R16). -/
def Dev.linkLost (d : Dev) (n : Die) : Dev :=
  if d.twillState n ≠ 3 then d.linkDown n
  else
    let d := d.linkDown n
    if d.dieState n = 0 || d.dieState n = 4 then d else (d.setDie n 5).eachPortOf n (fun p d => d.testedLost p)

/-- A line die is absent: its rails are gone (R15). -/
def Dev.dieAbsent (d : Dev) (n : Die) : Dev := ((d.linkDown n).setDie n 0).eachPortOf n (fun p d => d.testedLost p)

/-! ## Die resets (R290, R382) -/

/-- Lanes of a die go to electrical idle with their states kept, until they return by the wake of R292 (R290). -/
def Dev.lanesIdle (d : Dev) (n : Die) (w : Way) : Dev :=
  let d := d.widen n w
  let d := d.onDir n w (fun t => { t with before := d.get (0x3030 + wayIndex w) (n + 1) })
  (List.range 34).foldl (fun d l => if d.laneState n w l = 2 || d.laneState n w l = 3 then d.setLane n w l 6 else d) d

def Dev.lanesWake (d : Dev) (n : Die) (w : Way) : Dev :=
  if d.twillState n = 3 then (d.lanesReturn n w).onDir n w (fun t => { t with sentIn := [] }) else d

/-- A port of a reset die, or a port that is reset: a native link warm-relocks; any other attempt or link starts again (R160, R183, R382). A calibration run ends
ABORTED with its die's reset, and UNSUITABLE with its port's, which is none (R357). -/
def Dev.portLogicReset (d : Dev) (p : Port) (cause : Nat) : Dev :=
  let d := if cause = 1 then d.calUnsuitable p 6 else d.calEnd p 5
  let st := d.linkState p
  if d.nativeLink p || (d.native p && st = 5) then d.relockTrigger p cause
  else if st = 3 || 4 ≤ st && st ≤ 8 then ((d.cutLink p lossEnd).setLinkState p 2).negotiate p
  else d

/-- A line die takes its microcode in management messages, when Hallmark has found the active slot's images good (R30); it refuses an image whose digest does not fit
(R31). -/
def Dev.loadCode (d : Dev) (n : Die) : Dev :=
  let s := d.hall.slots.get d.hall.activeSlot
  (if d.hall.imagesGood then d.sendMessage n .down 5 s.microcode else d).onDie n (fun e => { e with imageBad := !(d.hall.imagesGood && s.codeFits) })

/-- A die reset begins: the die's logic, but its coefficient store, trim cache, keys and twill state. FATAL states of its core, ports' units and store
end (R382, R404); a die that waits for new microcode has taken it (R245), and one that has refused its microcode takes it again (R31). -/
def Dev.dieReset (d : Dev) (n : Die) (cause : Nat) : Dev :=
  let d := d.setDie n 3
  let d := if 4 ≤ d.faultState (srcCore n) then d.blockNormal (srcCore n) else d
  let d := if d.faultState (srcStore n) = 4 then d.blockNormal (srcStore n) else d
  let d := if n ∈ d.hall.fw.diesLeft then
      (d.loadCode n).onHall (fun h => { h with fw := { h.fw with diesLeft := without h.fw.diesLeft n, diesDone := n :: h.fw.diesDone } })
    else if (d.dies.get n).imageBad then d.loadCode n else d
  let d := (((d.samplerEnd n).lanesIdle n .down).lanesIdle n .up).onDie n (fun s => { s with resetting := true })
  d.eachPortOf n (fun p d =>
    let d := if d.faultState (srcStamp p) = 4 then d.blockNormal (srcStamp p) else d
    ((d.portLogicReset p cause).tlmSettle p).portRise p)

/-- A die can be reset: its link is UP, and neither a test nor a program holds it. -/
def Dev.dieReachable (d : Dev) (n : Die) : Bool := d.twillState n = 3 && d.dieState n ≠ 4 && d.dieState n ≠ 0 && d.dieState n ≠ 5

/-- A die reaches RUNNING, or stays SAFE while its core is FATAL or in its last resort (R11, R404). -/
def Dev.dieRuns (d : Dev) (n : Die) : Dev :=
  let d := d.onDie n (fun s => { s with resetting := false })
  let d := (d.lanesWake n .down).lanesWake n .up
  (if 4 ≤ d.faultState (srcCore n) then d.setDie n 6 else (d.setDie n 2).reactionEnd (srcCore n)).eachPortOf n (fun p d => d.portBack p)

/-- The safe state of a line die (R404): transmitters silent, ports DOWN, keys erased, twill link kept. -/
def Dev.dieSafe (d : Dev) (n : Die) : Dev :=
  (if d.dieState n = 0 || d.dieState n = 5 then d else d.setDie n 6).eachPortOf n (fun p d => d.portDown p)

/-! ## Host lanes, queues and blocks -/

/-- A host lane in electrical idle. -/
def Dev.laneOff (d : Dev) (p : Port) : Dev := (d.put (0x2100 + p) 1 0).onHost p (fun h => { h with switchSends := .none })

/-- Every slot of a die's coefficient store is invalid (R146, R404). -/
def Dev.storeInvalid (d : Dev) (n : Die) : Dev :=
  d.eachPortOf n (fun p d => (d.checkpointAbandon p).onSignal p (fun s => { s with slots := Vector.replicate 2 none }))

/-- The management controller stops: its sessions end, and the requests it was serving, the replies it has kept and what waited to be sent or read on are gone
(R38, R58). -/
def Dev.controllerStops (d : Dev) : Dev :=
  let n := d.mgmt.commits.length
  ((d.sessionsEnd).onMgmt (fun m => { m with kept := [], snaps := [], commits := [], notify := [], readLatch := [], writeLatch := [] })).giveBack n

/-- A software measurement of a die's frequency counter ends (R379). -/
def Dev.counterEnd (d : Dev) (n : DieId) (state : Nat) : Dev := if d.get (0x1830 + n) 2 = 1 then d.put (0x1830 + n) 2 state else d

/-- Every copy of the time is to qualify again. -/
def Dev.redistribute (d : Dev) : Dev := d.eachDie (fun n d => (d.onCopy n false none (d.time.copyError.get n)).timeSend n)

/-- A timestamp unit is reinitialised: its ring is empty. -/
def Dev.stampClear (d : Dev) (p : Port) : Dev :=
  ((List.range 64).foldl (fun d i => d.put (0x4480 + p) (0x40 + i) 0) (d.put (0x4480 + p) 4 0)).onPort p (fun s => { s with ringUnread := [] })

/-- The time base is reinitialised: what waits on it is gone, and the line dies hear the time again; it runs on, set as it is (R306). -/
def Dev.timeClear (d : Dev) : Dev :=
  { d with time := { d.time with adjust := [] }, pps := { d.pps with edges := 0, missing := 0 } }.redistribute

/-- A power controller starts its waits again; its voltages stand. -/
def Dev.powerClear (d : Dev) (dom : Domain) : Dev :=
  { d with pace := upd d.pace (domainIndex dom) (fun l => { l with highSince := none, goodSince := none, avsFails := 0 }) }

/-- The fault system forgets the windows it keeps beside the blocks' states, and a pending injection. -/
def Dev.faultsClear (d : Dev) : Dev :=
  { d with injection := none, faults := d.faults.map (fun (f : FaultSt) => { f with window := [], severeAt := [], leftAt := none }) }.put 0x1FF8 2 0

/-- What a block reset does to the block and to the frames in it (R382, R386; log entry 111). -/
def Dev.blockClear (d : Dev) (s : Nat) : Dev :=
  match block? s with
  | some (.port p) => (d.endFlight p 1).portLogicReset p 1
  | some (.stamp p) => d.stampClear p
  | some (.hostLane p) => d.laneAcquire p
  | some (.lane n w l) => if d.laneState n w l = 2 || d.laneState n w l = 3 then d.laneRetire n w l else d
  | some (.link n) => d.linkLost n
  | some (.core n) => if d.dieReachable n then d.dieReset n 2 else d
  | some (.store n) => d.storeInvalid n
  | some .controller => d.controllerStops
  | some .hallmark =>
    ((d.sessionsEnd).onHall (fun h => { h.restarted with verifyQueue := h.verifyQueue.filter HallJob.isImage, reserved := h.reserved })).put 0x6460 2
      (if d.get 0x6460 2 = 1 then 0 else d.get 0x6460 2)
  | some .queues => d.eachPort (fun p d => ((d.endFlight p 1).discardIf p .egress (some 1)).discardIf p .ingress (some 1))
  | some .time => d.timeClear
  | some (.clock n) => d.counterEnd n 3
  | some (.power dom) => d.powerClear dom
  | some .faultSystem => d.faultsClear
  | some .emram => d
  | none => d

/-- A block reset begins (R386). -/
def Dev.blockResetStart (d : Dev) (s : Nat) : Dev :=
  if s ∈ d.blockReset then d else { d.blockClear s with blockReset := d.blockReset ++ [s] }

/-- A block has been reinitialised; the block reset was its reaction (R386, R404). -/
def Dev.blockResetEnd (d : Dev) (s : Nat) : Dev :=
  if s ∈ d.blockReset then
    let d := { d with blockReset := without d.blockReset s }
    match block? s with
    | some (.stamp _) => d.reactionEnd s
    | some .queues => d.reactionEnd s
    | _ => d
  else d

/-! ## The module safe state (R406) -/

/-- The management controller has failed: Hallmark's boot ROM serves in its place. -/
def Dev.controllerFails (d : Dev) : Dev := (d.controllerStops).onMgmt (fun m => { m with romServes := true })

/-- The module enters its safe state. `controller`: the management controller is the cause, whether or not the module is in that state already. -/
def Dev.moduleSafe (d : Dev) (controller : Bool) : Dev :=
  let d := if controller then d.controllerFails else d
  if d.safe then d
  else
    let d := { d with safe := true, pins := { d.pins with alive := false, aliveDriven := false } }
    let d := (((d.put 0x1FE0 1 1).put 0x1010 9 6).eventMask 0x1FE1 0xC).emit .safeMessage
    d.eachPort (fun p d => ((d.discardAll p 1).portDown p).laneOff p)

end Sys2Proof.Machine
end

