-- ==== Sys2Proof/Machine/Faults.lean ====
section
/-! DEFINITION. Fault events: escalation, last resort, reactions and safe states, the end of a reaction and of a settle time, rearming of first-fault
records, supervision and ALIVE, injection (R399 to R413, R464, R466). -/

namespace Sys2Proof.Machine

/-! ## Checkers (R399, R466) -/

/-- The block has a checker of a kind. -/
def hasChecker (b : Block) (kind : Nat) : Bool :=
  let registers := match b with | .clock _ => false | .power _ => false | _ => true
  match kind with
  | 1 | 2 => match b with
    | .port _ | .core _ | .store _ | .queues | .controller | .hallmark | .emram => true
    | _ => false
  | 3 | 7 => registers
  | 4 => match b with | .port _ | .hostLane _ | .core _ | .link _ | .queues => true | _ => false
  | 5 => b.cls.isSome || b = .controller || b = .faultSystem
  | 6 => match b with | .port _ | .hostLane _ | .lane .. => true | _ => false
  | 8 => b.cls.isSome
  | 11 => match b with | .lane .. => true | _ => false
  | 17 => match b with | .stamp _ => true | _ => false
  | _ => false

/-- A detector of the block can report an event of a kind: a checker of R466, or one of the conditions that R399 names. Kind 9 comes from a clock monitor's
trip alone (R466). -/
def canReport (b : Block) (kind : Nat) : Bool :=
  hasChecker b kind
  || match kind with
    | 10 => match b with | .link _ => true | _ => false
    | 12 => match b with | .power _ => true | _ => false
    | 13 => b = .controller
    | 14 | 15 | 16 => true
    | 18 => match b with | .core _ | .faultSystem => true | _ => false
    | _ => false

/-! ## Escalation (R400, R401) -/

/-- The kind escalates for the block. -/
def escalates (b : Block) (kind : Nat) : Bool := b.cls.isSome && (kind ∈ [2, 3, 4, 5, 6, 8, 11, 17] : Bool)

/-- N, WINDOW in µs and REPEAT of a block's class. -/
def Dev.escalation (d : Dev) (b : Block) : Nat × Nat × Nat :=
  match b.cls with
  | none => (0, 0, 0)
  | some c => let v := d.get 0x1FF0 c; (field v 24 8, 1000 * field v 8 16, field v 4 4)

/-- Times of the last `span` µs. -/
def recent (now span : Nat) (l : List Nat) : List Nat := l.filter (fun t => now < t + span)

/-- An escalating event enters the window of a block in NORMAL; whether the count is now complete. -/
def Dev.escalate (d : Dev) (s : Nat) (b : Block) : Bool × Dev :=
  let (n, span, _) := d.escalation b
  let w := recent d.uptime span ((d.faultSt s).window ++ [d.uptime])
  (n ≤ w.length, d.onFault s (fun f => { f with window := w }))

/-- The block becomes SEVERE; whether it is the REPEAT-th time within 60 s. -/
def Dev.severeEntry (d : Dev) (s : Nat) (b : Block) : Bool × Dev :=
  let (_, _, n) := d.escalation b
  let l := recent d.uptime 60000000 ((d.faultSt s).severeAt ++ [d.uptime])
  (n ≠ 0 && n ≤ l.length, d.onFault s (fun f => { f with severeAt := l }))

/-- What an event is to its block (R400, R401, R403), and what it leaves in the block's windows. -/
def Dev.judge (d : Dev) (b : Block) (ev : FaultEvent) : Verdict × Dev :=
  let s := ev.source
  let st := d.faultState s
  let severe := fun (d : Dev) => match d.severeEntry s b with
    | (true, d) => (Verdict.lastResort, d)
    | (false, d) => (Verdict.severe, d)
  match d.maskedBy ev with
  | some c => (.consequent c, d)
  | none =>
    if baseSeverity ev.kind = 4 then (if st = 4 then .fatalAgain else .fatal, d)
    else if baseSeverity ev.kind = 3 && (st = 0 || st = 1) then severe d
    else if escalates b ev.kind && st = 0 then
      match d.escalate s b with
      | (true, d) => severe d
      | (false, d) => (.plain, d)
    else (.plain, d)

/-! ## Reactions (R404) -/

/-- The port's SEVERE reaction: a reset. A native link relocks, a standard one retrains, fast where it may; a fast retrain under way is one while it is enabled (R197).
With no link nothing is left to do. -/
def Dev.portReaction (d : Dev) (p : Port) : Dev :=
  if d.nativeLink p || (d.native p && d.linkState p = 5) then d.relockTrigger p 1
  else if d.mayFastRetrain p then d.fastRetrain p
  else if d.linkState p = 8 && d.flag (0x4180 + p) 0x16 then d
  else if d.linkState p = 3 || 4 ≤ d.linkState p && d.linkState p ≤ 8 then d.retrain p
  else d.reactionEnd (srcPort p)

/-- The reaction of a block that has become SEVERE. -/
def Dev.react (d : Dev) (s : Nat) : Block → Dev
  | .port p => d.portReaction p
  | .stamp _ => d.blockResetStart s
  | .hostLane p => d.laneAcquire p
  | .lane n w l => d.laneRetire n w l
  | .core n => if d.dieReachable n then d.dieReset n 2 else d
  | .link n => d.linkLost n
  | .queues => d.blockResetStart s
  | .time => d.redistribute
  | .clock _ => d
  | .power _ => d
  | _ => d.reactionEnd s

/-- A block's safe state: on a FATAL event, and for the classes that have one at the last resort. -/
def Dev.safeState (d : Dev) : Block → Dev
  | .port p => d.portDown p
  | .stamp _ => d
  | .hostLane p => (d.laneOff p).portDown p
  | .lane n w l => d.laneRetire n w l
  | .core n => d.dieSafe n
  | .link n => d.linkLost n
  | .store n => d.storeInvalid n
  | .clock _ => d
  | .queues => d.moduleSafe false
  | .time => (d.put 0x6000 5 0).event 0x6030 8
  | .controller => d.moduleSafe true
  | .hallmark => (d.put 0x6400 1 3).moduleSafe false
  | .faultSystem => d.moduleSafe false
  | .emram => d.moduleSafe false
  | .power _ => d

/-- A line die whose link is UP sends what it detects up in an EVENT block (R408). -/
def Dev.eventUp (d : Dev) (b : Block) (ev : FaultEvent) : Dev :=
  match b.side with
  | some n => d.eventSend n ev.source ev.kind ev.detail
  | none => d

/-- An uncorrectable error in a port's live coefficient memory reloads it through a warm relock, CAUSE 4 (R183). -/
def Dev.coefficientsBad (d : Dev) (b : Block) (kind : Nat) : Dev :=
  match b with
  | .port p => if kind = 2 then d.relockTrigger p 4 else d
  | _ => d

/-- An event of a block: judged where it arises, sent up unless it came so, recorded, and answered by its reaction (R399 to R404, R407). -/
def Dev.reportOne (d : Dev) (ev : FaultEvent) (carried : Bool) : Dev :=
  match block? ev.source with
  | none => d
  | some b =>
    let s := ev.source
    let (v, d) := (if carried then d else d.eventUp b ev).judge b ev
    match v with
    | .severe => ((d.setFault s 3).sendUp { ev, verdict := v }).react s b
    | .lastResort => ((d.setFault s 5).sendUp { ev, verdict := v }).safeState b
    | .fatal => ((d.setFault s 4).sendUp { ev, verdict := v }).safeState b
    | _ => (d.sendUp { ev, verdict := v }).coefficientsBad b ev.kind

/-- Fewer than two logical lanes remain unparked in a direction: the link is lost, which counts against it (R288, R399). -/
def Dev.fewLanes (d : Dev) (n : Die) (w : Way) : Dev :=
  if d.twillState n = 3 && ((List.range 32).filter (fun l => d.laneMap n w l ≠ 0xFF)).length < 2 then
    (d.reportOne { source := srcLink n, kind := 10 } false).linkLost n
  else d

/-- The lanes left where the block is one. -/
def Dev.lanesLeft (d : Dev) (source : Nat) : Dev :=
  match block? source with
  | some (.lane n w _) => d.fewLanes n w
  | _ => d

/-- An event of a block, with the link loss where its reaction has parked a lane of the last two. -/
def Dev.report (d : Dev) (ev : FaultEvent) (carried : Bool := false) : Dev := ((d.reportOne ev carried).lanesLeft ev.source).inbandWake

/-- `FAULT_EVENT` (R400): a detector of the block reports. -/
def execFaultEvent (ev : FaultEvent) (s : State) : Host.Outcome State Fault Refusal :=
  s.event (fun d => match block? ev.source with
    | some b => if canReport b ev.kind then d.report ev else d
    | none => d)

/-- `REACTION_END` (R403). -/
def execReactionEnd (source : Nat) (s : State) : Host.Outcome State Fault Refusal := s.event (fun d => if d.faultState source = 3 then (d.reactionEnd source).inbandWake else d)

/-- `SETTLE_END` (R403): the settle time has passed. -/
def execSettleEnd (source : Nat) (s : State) : Host.Outcome State Fault Refusal :=
  s.event (fun d => if d.faultState source = 1 then d.blockNormal source else d)

/-! ## Rearming (R408, R409) -/

/-- A write to FAULT_FIRST_REARM. -/
def Dev.firstRearmOp (d : Dev) (r : Req) (source : Nat) (v : Nat) : Op :=
  d.one r (0x1C00 + source) 9 v [((block? source).isNone, .index)] (fun d => d.put (0x1C00 + source) 7 0)

/-- `FAULT_FIRST_REARM` (R408). -/
def execFaultFirstRearm (r : Req) (source : Nat) (v : Nat) (s : State) : Host.Outcome State Fault Refusal :=
  s.write r (0x1C00 + source) 9 (fun _ d => d.firstRearmOp r source v)

/-- A write to MODULE_FIRST_REARM. -/
def Dev.moduleRearmOp (d : Dev) (r : Req) (v : Nat) : Op := d.one r 0x1FE0 3 v [] (fun d => d.put 0x1FE0 2 0)

/-- `MODULE_FIRST_REARM` (R409, R464). -/
def execModuleFirstRearm (r : Req) (v : Nat) (s : State) : Host.Outcome State Fault Refusal :=
  s.write r 0x1FE0 3 (fun _ d => d.moduleRearmOp r v)

/-! ## Supervision (R411) -/

/-- The management controller runs its tasks. -/
def Dev.controllerRuns (d : Dev) : Bool := d.mgmt.serving && !d.mgmt.romServes && !d.mgmt.recovery

/-- `MC_TASK_LATE` (R411). -/
def execMcTaskLate (s : State) : Host.Outcome State Fault Refusal :=
  s.event (fun d => if d.controllerRuns then d.report { source := srcController, kind := 13 } else d)

/-- ALIVE toggles: the controller, or the recovery loader, is healthy, and the module is not in its safe state (R393, R411). -/
def Dev.aliveTick (d : Dev) : Dev :=
  if d.mgmt.serving && !d.mgmt.romServes && !d.safe then
    { d with pins := { d.pins with alive := !d.pins.alive, aliveDriven := true } }
  else d

/-- `ALIVE_TICK` (R411). -/
def execAliveTick (s : State) : Host.Outcome State Fault Refusal := s.event Dev.aliveTick

/-! ## Injection (R412, R413) -/

/-- The session that R413 asks for is not there. -/
def Dev.injectAuth (d : Dev) (r : Req) (lifecycle : Nat) : Bool :=
  if lifecycle = 2 then !d.permits r 2
  else if lifecycle = 1 || lifecycle = 3 || lifecycle = 4 then (d.session? r).isNone
  else false

/-- An Assay program holds the block. -/
def Dev.programHolds (d : Dev) : Block → Bool
  | .port p => (d.port p).tested
  | .stamp p => (d.port p).tested
  | .hostLane p => (d.port p).tested
  | .lane n _ _ => (d.assay.get (dieId n)).program.isSome && d.dieState n = 4
  | .core n => (d.assay.get (dieId n)).program.isSome && d.dieState n = 4
  | .link n => (d.assay.get (dieId n)).program.isSome && d.dieState n = 4
  | .store n => (d.assay.get (dieId n)).program.isSome && d.dieState n = 4
  | _ => false

/-- The target of an injection: a port gives up its keys before the first inversion, and one that seals its link too (R234). -/
def Dev.injectTarget (d : Dev) (source : Nat) : Dev :=
  match block? source with
  | some (.port p) =>
    let sealing := d.get (0x4400 + p) 0xA = 2 || d.get (0x4400 + p) 0xA = 3
    let d := d.onCrypt p (fun c => { failing := c.failing })
    if sealing then d.lose p else d
  | _ => d

/-- Body of an INJECTION entry. -/
def injectionBody (source kind : Nat) (keyId : List Byte) : List Byte := bytesOf 2 source ++ bytesOf 2 kind ++ keyId

/-- A write to INJECT. -/
def Dev.injectOp (d : Dev) (r : Req) (lifecycle source kind count spacing : Nat) : Op :=
  let b := block? source
  d.command r 0x1FF8 1 0
    [(d.injectAuth r lifecycle, .auth),
     ((match b with | some b => d.programHolds b | none => false) || d.injection.isSome || d.stagingFull, .busy),
     (lifecycle = 5 || (lifecycle = 3 && d.hall.serviceUntil.isNone), .state),
     (!(match b with | some b => hasChecker b kind | none => false) || count = 0, .range)]
    (fun d => (({ d with injection := some { source, kind, left := count, spacing } }.put 0x1FF8 2 1).touch 0x0050
      (injectionBody source kind (d.keyIdOf r))).injectTarget source)

/-- `INJECT` (R412, R413). -/
def execInject (r : Req) (source kind count spacing : Nat) (s : State) : Host.Outcome State Fault Refusal :=
  s.write r 0x1FF8 1 (fun v d => d.injectOp r v.lifecycle (source % 65536) (kind % 256) (count % 256) (spacing % 65536))

/-- No injection is pending. -/
def Dev.injectEnd (d : Dev) : Dev := { d with injection := none }.put 0x1FF8 2 0

/-- A check of the named checker: it sees inverted bits, SPACING µs or more after the check before that did. -/
def Dev.injectCheck (d : Dev) (detail : Nat) : Dev :=
  match d.injection with
  | none => d
  | some i =>
    if i.last.any (fun t => d.uptime < t + i.spacing) then d
    else
    let d := d.inc 0x1FF8 4
    let d := if i.left ≤ 1 then d.injectEnd else { d with injection := some { i with left := i.left - 1, last := some d.uptime } }
    d.report { source := i.source, kind := i.kind, detail := detail, injected := true }

/-- `INJECT_CHECK` (R412). -/
def execInjectCheck (detail : Nat) (s : State) : Host.Outcome State Fault Refusal := s.event (fun d => d.injectCheck detail)

/-- A write to INJECT_CANCEL. -/
def Dev.injectCancelOp (d : Dev) (r : Req) (lifecycle v : Nat) : Op :=
  d.one r 0x1FF8 3 v [(d.injectAuth r lifecycle, .auth), (lifecycle = 5, .state)] (fun d => d.injectEnd)

/-- `INJECT_CANCEL` (R413). -/
def execInjectCancel (r : Req) (v : Nat) (s : State) : Host.Outcome State Fault Refusal :=
  s.write r 0x1FF8 3 (fun vault d => d.injectCancelOp r vault.lifecycle v)

/-! ## Host lane conditions (R252) -/

/-- `HL_HI_BER` (R252): the PCS of a lane that is on reports a high bit error ratio. -/
def execHlHiBer (p : Port) (s : State) : Host.Outcome State Fault Refusal :=
  s.event (fun d => if d.hlState p = 0 then d else d.event (0x2080 + p) 3)

end Sys2Proof.Machine
end

