-- ==== Sys2Proof/Machine/Pace.lean ====
section
/-! DEFINITION. The voltage loops, their power controllers, and pace faults (R18 to R29, R442, R467). -/

namespace Sys2Proof.Machine

/-- The status object of a domain. -/
def paceEvents : Domain → Nat
  | .field => 0x1208
  | .host => 0x1209

def Dev.loop (d : Dev) (dom : Domain) : PaceLoop := d.pace.get (domainIndex dom)

def Dev.onLoop (d : Dev) (dom : Domain) (f : PaceLoop → PaceLoop) : Dev := { d with pace := upd d.pace (domainIndex dom) f }

/-- The fields of PACE_POLICY (R20): thresholds, hold time in µs, step. -/
def slackRaise (v : Nat) : Nat := field v 24 8
def slackLower (v : Nat) : Nat := field v 16 8
def lowerHold (v : Nat) : Nat := 1000 * field v 8 8
def paceStep (v : Nat) : Nat := field v 0 8

/-- A write to PACE_POLICY that R21 refuses. -/
def policyBad (v : Nat) : Bool :=
  slackRaise v < 16 || 127 < slackRaise v || slackLower v ≤ slackRaise v || 200 < slackLower v || field v 8 8 = 0
  || paceStep v = 0 || 20 < paceStep v

/-- A write to AVS_LIMITS that R23 refuses. -/
def limitsBad (sub v : Nat) : Bool :=
  let vmax := field v 16 16
  let vmin := field v 0 16
  vmax < vmin || (if sub = 1 then vmin < 550 || 800 < vmax else vmin < 650 || 850 < vmax)

/-- The line die that drives the field bus (R387, R442). -/
def Dev.busDie (d : Dev) : Nat := field (d.get 0x1800 8) 4 3

/-- The loop may command a voltage: it has started, and on the field bus the bus die is RUNNING. -/
def Dev.mayCommand (d : Dev) (dom : Domain) : Bool :=
  (d.loop dom).running && (match dom with | .field => d.get 0x1010 (d.busDie + 1) = 2 | .host => true)

/-- The present commanded voltage. -/
def Dev.volts (d : Dev) (dom : Domain) : Nat := d.get 0x120D ((domainIndex dom).val + 1)

/-- The device's own power condition makes its controller SEVERE (R28), once until the controller has left that state. -/
def Dev.powerCondition (d : Dev) (dom : Domain) (detail : Nat) : Dev :=
  if d.faultState (srcPower dom) = 0 || d.faultState (srcPower dom) = 1 then
    d.report { source := srcPower dom, kind := 12, detail := detail }
  else d

/-- AT_VMAX and a FLOOR bit are both set. -/
def Dev.starved (d : Dev) (dom : Domain) : Bool :=
  (d.get (paceEvents dom) 1).testBit 24 && d.get (paceEvents dom) 1 &&& 0xFF00 ≠ 0

/-- What the loop's rule makes of the voltage and of the time since which the slack has been high, which starts anew where a new limit forces the command
(R18, R19; log entry 96). -/
def loopRule (policy vmin vmax now : Nat) (high : Option Nat) (v : Nat) (s : Int) : Nat × Option Nat :=
  if vmax < v then (vmax, none)
  else if v < vmin then (vmin, none)
  else if s < slackRaise policy then (min (v + paceStep policy) vmax, none)
  else if (slackLower policy : Int) < s then
    let t := high.getD now
    if t + lowerHold policy ≤ now then (max (v - paceStep policy) vmin, some now) else (v, some t)
  else (v, none)

/-- One evaluation of a domain's loop: the reported slack of its dies, by their place in the status object. While the loop cannot command, the time since which
the slack has been high starts anew (log entry 96). -/
def Dev.paceDomain (d : Dev) (dom : Domain) (slack : List (Nat × Int)) : Dev :=
  if !(d.loop dom).running || slack.isEmpty then d
  else
    let i := (domainIndex dom).val + 1
    let policy := d.get 0x1200 i
    let vmax := field (d.get 0x1204 i) 16 16
    let vmin := field (d.get 0x1204 i) 0 16
    let s := slack.foldl (fun (m : Int) e => min m e.2) 1000000
    let v := d.volts dom
    let (v', high) := if d.mayCommand dom then loopRule policy vmin vmax d.uptime (d.loop dom).highSince v s else (v, none)
    let d := d.onLoop dom (fun l => { l with
      highSince := high
      goodSince := if s < slackRaise policy then none else some (l.goodSince.getD d.uptime) })
    let d := if v' = v then d else (d.put 0x120D i v').emit (.avs dom v')
    let raise := if v < v' then (slack.filter (fun e => e.2 < (slackRaise policy : Int))).foldl (fun m e => m + 2 ^ e.1) 0 else (0 : Nat)
    let floor := (slack.filter (fun e => e.2 < 8)).foldl (fun m e => m + 2 ^ (8 + e.1)) 0
    let top := if s < slackRaise policy && v' = vmax then 2 ^ 24 else 0
    let d := if raise + floor + top = 0 then d else d.eventMask (paceEvents dom) (raise + floor + top)
    if floor + top ≠ 0 && d.starved dom then d.powerCondition dom 1 else d

/-- The slack that a U8 reports, held at its bounds (log entry 96). -/
def slackByte (s : Int) : Nat := (min 255 (max 0 s)).toNat

/-- An evaluation of both loops, 20 µs after the one before: what each die reported, LD0 to LD7 and HD. PACE_SLACK_NOW of one that reported nothing stays (log
entry 96). -/
def Dev.paceEvaluation (d : Dev) (slack : Vector (Option Int) 9) : Dev :=
  let d := (allFin 9).foldl (fun d n => match slack.get n with
    | some s => d.put 0x120C (n.val + 1) (slackByte s)
    | none => d) d
  let line := ((allFin 9).filter (fun n => n.val < 8)).filterMap (fun n => (slack.get n).map (fun s => (n.val, s)))
  let host := ((slack.get 8).map (fun s => (0, s))).toList
  (d.paceDomain .field line).paceDomain .host host

/-- `PACE_EVALUATION` (R18 to R20, R28). -/
def execPaceEvaluation (slack : Vector (Option Int) 9) (s : State) : Host.Outcome State Fault Refusal := s.event (fun d => d.paceEvaluation slack)

/-- An AVSBus transaction has ended (R467). -/
def Dev.avsDone (d : Dev) (dom : Domain) (ok : Bool) : Dev :=
  if !d.mayCommand dom then d
  else if ok then d.onLoop dom (fun l => { l with avsFails := 0 })
  else if (d.loop dom).avsFails + 1 < 3 then d.onLoop dom (fun l => { l with avsFails := l.avsFails + 1 })
  else ((d.onLoop dom (fun l => { l with avsFails := 0 })).event (paceEvents dom) 25).powerCondition dom 0

/-- `AVS_TRANSACTION_DONE` (R467). -/
def execAvsTransactionDone (dom : Domain) (ok : Bool) (s : State) : Host.Outcome State Fault Refusal := s.event (fun d => d.avsDone dom ok)

/-- `POWER_CONTROLLER_RECOVER` (R29): the slack has stayed at or above SLACK_RAISE. -/
def execPowerControllerRecover (dom : Domain) (s : State) : Host.Outcome State Fault Refusal :=
  s.event (fun d => if (d.loop dom).goodSince.isSome then d.reactionEnd (srcPower dom) else d)

/-! ## Pace faults (R27) -/

/-- The contents of a buffer are discarded, the frames in it end with an error code. -/
def Dev.bufferLost (d : Dev) (dir : Dir) : Block → Dev
  | .port p => match dir with | .egress => d.flightLost p | .ingress => d.faultRx p
  | .hostLane p => match dir with | .egress => d.flightLost p | .ingress => d.faultCut p
  | .lane n w _ => d.framesEnd n w
  | _ => d

/-- A buffer overflows or underruns: its die's PACE_FAULT bit, and one event against its owner. -/
def Dev.paceFault (d : Dev) (source : Nat) (hostEnd : Bool) (dir : Dir) : Dev :=
  match block? source with
  | some b =>
    if !hasChecker b 6 then d
    else
      let d := d.bufferLost dir b
      let d := match b with
        | .port p => (d.samplerSees p 6).event 0x1208 (16 + dieOf p)
        | .lane n _ _ => if hostEnd then d.event 0x1209 16 else d.event 0x1208 (16 + n)
        | _ => d.event 0x1209 16
      d.report { source := source, kind := 6, detail := match dir with | .egress => 0 | .ingress => 1 }
  | none => d

/-- `PACE_FAULT` (R27). -/
def execPaceFault (source : Nat) (hostEnd : Bool) (dir : Dir) (s : State) : Host.Outcome State Fault Refusal :=
  s.event (fun d => d.paceFault source hostEnd dir)

end Sys2Proof.Machine
end

