-- ==== Sys2Proof/Machine/Clocks.lean ====
section
/-! DEFINITION. Clock loss and the fallback, qualification and release of islands, the frequency counters (R370 to R381). -/

namespace Sys2Proof.Machine

def Dev.clock (d : Dev) (n : DieId) : ClockSt := d.clocks.get n

/-- The host die among the nine. -/
def hd : DieId := 8

/-- The line die of a number among the nine, if it is one. -/
def lineDie? (n : DieId) : Option Die := if h : n.val < 8 then some ⟨n.val, h⟩ else none

/-- CLOCK_SOURCE of a phase (R378). -/
def clockSource : ClockPhase → Nat
  | .onReference => 0
  | .onFallback => 2
  | .requalifying => 3
  | _ => 1

/-- The host die sees what a die reports: its own, or that of a line die whose link is UP (R378). -/
def Dev.sees (d : Dev) (n : DieId) : Bool :=
  match lineDie? n with
  | some m => d.twillState m = 3
  | none => true

/-- A die's clock enters a phase. -/
def Dev.clockPhase (d : Dev) (n : DieId) (ph : ClockPhase) : Dev :=
  let d := d.onClock n (fun c => { c with phase := ph })
  if d.sees n then d.put 0x1820 (n + 1) (clockSource ph) else d

/-- The status object of a die's clocks. -/
def clockStatus (n : DieId) : Nat := if n.val = 8 then 0x1824 else 0x1828 + n.val

/-- Bits of a die's clock status are set; a line die whose link is down reports them when it is next UP (R378). -/
def Dev.clockBits (d : Dev) (n : DieId) (bits : List Nat) : Dev :=
  if d.sees n then d.eventMask (clockStatus n) (bits.foldl (fun m b => m ||| 2 ^ b) 0)
  else d.onClock n (fun c => { c with unreported := c.unreported ++ bits })

/-- A line die's link is UP: its clock status is reported. -/
def Dev.clockReport (d : Dev) (n : Die) : Dev :=
  let c := d.clock (dieId n)
  let d := d.put 0x1820 (n + 1) (clockSource c.phase)
  if c.unreported = [] then d
  else (d.onClock (dieId n) (fun c => { c with unreported := [] })).eventMask (0x1828 + n) (c.unreported.foldl (fun m b => m ||| 2 ^ b) 0)

/-! ## Frequency counter (R379) -/

/-- Index of a die's counter. -/
def counterAt (n : DieId) : Nat := 0x1830 + n.val

/-- The counts of consecutive passing measurements of a clock. -/
def qualCount (c : ClockSt) (code : Nat) : Nat := (assocGet c.qualified code).getD 0

/-- Confirmation of the fallback or qualification of a clock has the counter: the reference's, or that of an island that waits for its release. -/
def Dev.counterHeld (d : Dev) (n : DieId) : Bool :=
  (d.clock n).phase = .confirming || (d.clock n).phase = .requalifying || (d.clock n).deferred.any (fun k => qualCount (d.clock n) k < 8)

/-- Qualification or confirmation takes the counter when it must start: a software measurement ends ABORTED. -/
def Dev.counterTake (d : Dev) (n : DieId) : Dev := if d.counterHeld n then d.counterEnd n 3 else d

/-- The counter's clock codes. -/
def clockCodes : List Nat := List.range 5 ++ (List.range 16).map (fun k => 0x10 + k)

/-- Nominal frequency of a code on a die in units of 6.25 MHz. -/
def nominal (n : DieId) (code : Nat) : Nat := if code = 1 || (code = 4 && n.val = 8) then 4 else 25

/-- A write to FC_START. -/
def Dev.fcStartOp (d : Dev) (r : Req) (n : DieId) (meas ref gate : Nat) : Op :=
  let st := d.get 0x1010 (n + 1)
  d.command r (counterAt n) 1 0
    [(!clockCodes.contains meas || !clockCodes.contains ref || gate < 10 || 10000000 < gate, .range),
     (d.get (counterAt n) 2 = 1 || d.counterHeld n || st = 4, .busy),
     (n.val < 8 && st ≠ 1 && st ≠ 2, .state)]
    (fun d => ((d.onClock n (fun c => { c with fcMeas := meas, fcRef := ref, fcGate := gate })).put (counterAt n) 2 1))

/-- `FC_START` (R379). -/
def execFcStart (r : Req) (die : DieId) (meas ref gate : Nat) (s : State) : Host.Outcome State Fault Refusal :=
  s.write r (counterAt die) 1 (fun _ d => d.fcStartOp r die meas ref gate)

/-- Deviation in 0.001 ppm, rounded to the nearest (log entry 46). -/
def deviation (n : DieId) (meas ref measCount refCount : Nat) : Int :=
  let den : Int := refCount * nominal n meas
  let num : Int := measCount * nominal n ref
  saturate 32 ((2 * 1000000000 * (num - den) + den) / (2 * den))

/-- The gate has passed: counts and deviation are committed. The spec states no deviation for a reference that gave no edge: a free value. -/
def Dev.fcComplete (d : Dev) (n : DieId) (measCount refCount : Nat) : Dev :=
  if d.get (counterAt n) 2 ≠ 1 then d
  else
    let c := d.clock n
    let d := (((d.put (counterAt n) 2 2).put (counterAt n) 3 (measCount % 2 ^ 64)).put (counterAt n) 4 (refCount % 2 ^ 64))
    if refCount = 0 then d.newDraw.put (counterAt n) 5 (Config.freeValue d.draws 0 % 2 ^ 32)
    else d.put (counterAt n) 5 (unsigned 32 (deviation n c.fcMeas c.fcRef measCount refCount))

/-- `FC_COMPLETE` (R379). -/
def execFcComplete (die : DieId) (measCount refCount : Nat) (s : State) : Host.Outcome State Fault Refusal :=
  s.event (fun d => d.fcComplete die measCount refCount)

/-- A write to FC_ABORT. -/
def Dev.fcAbortOp (d : Dev) (r : Req) (n : DieId) (v : Nat) : Op := d.one r (counterAt n) 6 v [] (fun d => d.counterEnd n 3)

/-- `FC_ABORT` (R379, R464). -/
def execFcAbort (r : Req) (die : DieId) (v : Nat) (s : State) : Host.Outcome State Fault Refusal :=
  s.write r (counterAt die) 6 (fun _ d => d.fcAbortOp r die v)

/-! ## Clock loss (R372 to R376) -/

/-- A twill link of the host die is lost, and counted against it (R288, R399). -/
def Dev.linkFail (d : Dev) (n : Die) : Dev :=
  if d.twillState n ≠ 3 then d.linkDown n
  else (d.report { source := srcLink n, kind := 10 }).linkLost n

/-- A line die has lost its reference: its twill lanes stop, and the host die, which sees nothing else of it, declares the link lost at once (R16, R288; log entry
113); its ports' transmitters are silent, their links ended without HOLD and their sealing keys erased (R229, R373). -/
def Dev.dieClockLost (d : Dev) (n : Die) : Dev :=
  (if d.dieState n = 4 then d.linkLost n else d.linkFail n).eachPortOf n (fun p d => d.onCrypt p (fun _ => {}))

/-- The clock-lost safe state of the host die (R373): every twill transmitter stops, down K with them (R289). -/
def Dev.hostClockLost (d : Dev) : Dev :=
  let d := (d.eachDie (fun m d => (d.linkFail m).setLane m .down 34 4)).onMgmt (fun m => { m with linkClock := false })
  d.eachPort (fun p d => (d.discardAll p 1).laneOff p)

/-- Down K as a line die's reference in forwarded clocking: LOST while it has stopped (R289, R372). -/
def Dev.downK (d : Dev) (n : DieId) (there : Bool) : Dev :=
  match lineDie? n with
  | some m => if d.get 0x3000 1 = 0 then d.setLane m .down 34 (if there then 2 else 4) else d
  | none => d

/-- A trip takes the die off its reference: a line die's link is lost first, so that what the trip sets is reported when it is next UP (R373, R378). -/
def Dev.tripLost (d : Dev) (n : DieId) : Dev :=
  let lost := fun (d : Dev) (bits : List Nat) => ((d.clockPhase n .delay).report { source := srcClock n, kind := 9 }).clockBits n bits
  match lineDie? n with
  | some m => lost (d.dieClockLost m) [1]
  | none => (lost d [1, 6]).hostClockLost

/-- The monitor trips on the reference (R372 to R374, R377). A die that has left its reference already keeps its place; whether the reference stands still is what its
monitor last saw (R376). -/
def Dev.monitorTrip (d : Dev) (n : DieId) (stopped : Bool) : Dev :=
  let was := (d.clock n).phase
  let d := (d.downK n !stopped).onClock n (fun c => { c with stopped := stopped, returned := false })
  match was with
  | .onReference => d.tripLost n
  | .requalifying => (((d.clockPhase n .onFallback).report { source := srcClock n, kind := 9 }).clockBits n [1]).reactionEnd (srcClock n)
  | _ => d.clockBits n [1]

/-- `CLOCK_MONITOR_TRIP` (R372, R373). -/
def execClockMonitorTrip (die : DieId) (stopped : Bool) (s : State) : Host.Outcome State Fault Refusal :=
  s.event (fun d => d.monitorTrip die stopped)

/-- `FALLBACK_DELAY_END` (R374): the gates begin, and take the counter. -/
def execFallbackDelayEnd (die : DieId) (s : State) : Host.Outcome State Fault Refusal :=
  s.event (fun d => if (d.clock die).phase = .delay then (d.clockPhase die .confirming).counterTake die else d)

/-- Every island behind the multiplexer is reset, and released again when its clock qualifies (R376). -/
def Dev.islandsReset (d : Dev) (n : DieId) : Dev :=
  (d.onClock n (fun c => { c with qualified := [], released := [], deferred := c.deferred ++ c.released })).counterTake n

/-- The die requalifies its reference; qualification takes the counter (R377, R379). -/
def Dev.requalify (d : Dev) (n : DieId) : Dev :=
  ((d.clockPhase n .requalifying).onClock n (fun c => { c with returned := false, qualified := [] })).counterTake n

/-- The switch to the fallback has completed: the reaction ends; a reference that has come back is requalified now (R374, R376, R377). -/
def Dev.onFallback (d : Dev) (n : DieId) (bits : List Nat) : Dev :=
  let d := ((d.clockPhase n .onFallback).clockBits n bits).islandsReset n
  let d := if n.val = 8 then d.onMgmt (fun m => { m with linkClock := true }) else d
  let d := d.reactionEnd (srcClock n)
  if (d.clock n).returned then d.requalify n else d

/-- The fallback is confirmed: the switch completes, or hangs on a reference that has stopped (R375, R376). -/
def Dev.fallbackConfirmed (d : Dev) (n : DieId) : Dev :=
  if (d.clock n).phase ≠ .confirming then d
  else if (d.clock n).stopped && !(d.clock n).returned then d.clockPhase n .switching
  else d.onFallback n [2]

/-- `FALLBACK_CONFIRMED` (R374). -/
def execFallbackConfirmed (die : DieId) (s : State) : Host.Outcome State Fault Refusal := s.event (fun d => d.fallbackConfirmed die)

/-- `MUX_FORCED` (R376). -/
def execMuxForced (die : DieId) (s : State) : Host.Outcome State Fault Refusal :=
  s.event (fun d => if (d.clock die).phase = .switching then d.onFallback die [2, 4, 5] else d)

/-! ## Return of a reference, qualification and release (R377, R380, R381) -/

/-- The monitor sees the reference return. -/
def Dev.referenceReturn (d : Dev) (n : DieId) : Dev :=
  let was := (d.clock n).phase
  let d := if was = .onReference || was = .requalifying then d else d.downK n true
  match was with
  | .onFallback => d.requalify n
  | .fallbackFailed => d.requalify n
  | .delay => d.onClock n (fun c => { c with returned := true })
  | .confirming => d.onClock n (fun c => { c with returned := true })
  | .switching => d.onClock n (fun c => { c with returned := true })
  | _ => d

/-- `REFERENCE_RETURN` (R377). -/
def execReferenceReturn (die : DieId) (s : State) : Host.Outcome State Fault Refusal := s.event (fun d => d.referenceReturn die)

/-- Code of a die's reference: LREFCLK, down K in forwarded clocking, HREFCLK. -/
def Dev.referenceCode (d : Dev) (n : DieId) : Nat := if n.val < 8 && d.get 0x3000 1 = 0 then 3 else 0

/-- A host lane that nothing holds OFF starts where its island allows it. -/
def Dev.laneWakes (d : Dev) (p : Port) : Dev :=
  if d.hlState p ≠ 0 || !d.startComplete || d.safe || (d.port p).tested || d.get 0x6800 5 ≠ 0 || 4 ≤ d.faultState (srcHostLane p) then d else d.laneStarts p

/-- An island of a die leaves reset: on the host die the lanes that its clock drives start (R381). -/
def Dev.islandFree (d : Dev) (n : DieId) (code : Nat) : Dev :=
  let d := d.onClock n (fun c => { c with deferred := without c.deferred code, released := code :: without c.released code })
  if n.val = 8 && 0x10 ≤ code && code < 0x18 then d.eachPort (fun p d => if p.val / 16 = code - 0x10 then d.laneWakes p else d) else d

/-- The die has switched back to its reference; the host die drives K again and takes its lanes to ACQUIRING (R289, R377). -/
def Dev.switchBack (d : Dev) (n : DieId) : Dev :=
  let d := (d.clockPhase n .onReference).clockBits n [3]
  let d := d.reactionEnd (srcClock n)
  if n.val = 8 then (d.eachDie (fun m d => d.setLane m .down 34 2)).eachPort (fun p d => d.laneWakes p) else d

/-- A 1 ms measurement has ended: eight in a row qualify the clock, release its island and switch back to a reference. -/
def Dev.qualMeasurement (d : Dev) (n : DieId) (code : Nat) (inWindow : Bool) : Dev :=
  if !clockCodes.contains code then d
  else if !inWindow then (d.onClock n (fun c => { c with qualified := assocSet c.qualified code 0 })).clockBits n [7]
  else
    let old := qualCount (d.clock n) code
    let k := min 8 (old + 1)
    let d := d.onClock n (fun c => { c with qualified := assocSet c.qualified code k })
    if k < 8 then d
    else
      let d := if code = d.referenceCode n && (old < 8 || (d.clock n).phase = .requalifying) then d.clockBits n [0] else d
      let d := if code ∈ (d.clock n).deferred then d.islandFree n code else d
      if code = d.referenceCode n && (d.clock n).phase = .requalifying then d.switchBack n else d

/-- `QUAL_MEASUREMENT` (R380). -/
def execQualMeasurement (die : DieId) (island : Nat) (inWindow : Bool) (s : State) : Host.Outcome State Fault Refusal :=
  s.event (fun d => d.qualMeasurement die island inWindow)

/-- A request to release an island: done, deferred until its clock qualifies, or done already. -/
def Dev.islandRelease (d : Dev) (n : DieId) (code : Nat) : Dev :=
  let c := d.clock n
  if code ∈ c.released then d
  else if 8 ≤ qualCount c code then d.islandFree n code
  else ((d.onClock n (fun c => { c with deferred := if code ∈ c.deferred then c.deferred else c.deferred ++ [code] })).clockBits n [9]).counterTake n

/-- A release by ISLAND_RELEASE. -/
def Dev.islandAsked (d : Dev) (die island : Nat) : Dev := if h : die < 9 then d.islandRelease ⟨die, h⟩ island else d

/-- A write to ISLAND_RELEASE. -/
def Dev.islandReleaseOp (d : Dev) (r : Req) (die island : Nat) : Op :=
  d.command r 0x1808 0 0 [(8 < die || !clockCodes.contains island, .range)]
    (fun d => d.islandAsked die island)

/-- `ISLAND_RELEASE` (R381). -/
def execIslandRelease (r : Req) (die : Nat) (island : Nat) (s : State) : Host.Outcome State Fault Refusal :=
  s.write r 0x1808 0 (fun _ d => d.islandReleaseOp r die island)

end Sys2Proof.Machine
end

