-- ==== Sys2Proof/Machine/TwillLink.lean ====
section
/-! DEFINITION. Twill links: attempts, alignment, taps, markers and spare switches, lane loss and reinstatement, narrowing (R280 to R299). -/

namespace Sys2Proof.Machine

/-! ## Attempts and alignment (R17, R287, R288) -/

/-- A test or an Assay program holds the die. -/
def Dev.dieHeld (d : Dev) (n : Die) : Bool :=
  (d.dies.get n).testHolds || (d.dieState n = 4 && (d.assay.get (dieId n)).program.isSome)

/-- The host die's twill island for a line die has left reset, on its reference (R380, R381). -/
def Dev.twillFree (d : Dev) (n : Die) : Bool := (d.clock hd).phase = .onReference && 0x18 + n.val ∈ (d.clock hd).released

/-- The host die starts attempts: it runs, and nothing holds the line die. -/
def Dev.mayAttempt (d : Dev) (n : Die) : Bool :=
  d.twillState n = 0 && d.life = .running && !d.mgmt.recovery && d.twillFree n && !d.dieHeld n

/-- The line die answers TRAIN blocks: powered, on its reference, which has qualified, its twill island out of reset (R373, R380). -/
def Dev.answersTrain (d : Dev) (n : Die) : Bool :=
  (d.dies.get n).powered && (d.clock (dieId n)).phase = .onReference && 8 ≤ qualCount (d.clock (dieId n)) (d.referenceCode (dieId n))
  && 4 ∈ (d.clock (dieId n)).released

def Dev.setTwill (d : Dev) (n : Die) (st : Nat) : Dev := d.put 0x3010 (n + 1) st

/-- Every lane that carries blocks enters a state; K reads DATA while its clock is there (R289). -/
def Dev.allLanes (d : Dev) (n : Die) (w : Way) (st : Nat) : Dev :=
  let d := (List.range 34).foldl (fun d l => d.setLane n w l st) d
  d.setLane n w 34 (match w with | .down => 2 | .up => if (d.dies.get n).powered then 2 else 4)

/-- An attempt starts: every lane pair trains. -/
def Dev.attempt (d : Dev) (n : Die) : Dev :=
  let d := ((d.put 0x3012 (n + 1) (min 255 (d.get 0x3012 (n + 1) + 1))).inc (0x3080 + n) 7).setTwill n 1
  let fresh := fun (t : TwillDir) => { t with ready := [], answers := [], asks := [], converged := [], txCode := Vector.replicate 34 {}, rxCode := Vector.replicate 34 {} }
  ((d.onDir n .down fresh).onDir n .up fresh).allLanes n .down 1 |>.allLanes n .up 1

/-- A failed attempt of a line die that is powered: after its 50th it stays in its barrier-lost safe state (R17, R288). -/
def Dev.attemptCount (d : Dev) (n : Die) : Dev :=
  if !(d.dies.get n).powered then d else d.onDie n (fun s => { s with attempts := s.attempts + 1, silent := s.silent || 50 ≤ s.attempts + 1 })

/-- A line die tries by itself: the host die is absent or silent, and 50 failures in a row have not ended its tries (R17). -/
def Dev.lineTries (d : Dev) (n : Die) : Bool :=
  d.twillState n = 0 && d.answersTrain n && !d.mayAttempt n && !d.dieHeld n && !(d.dies.get n).silent

/-- `TWILL_ATTEMPT` (R17, R287, R288): the host die's attempt; without one, the line die's own, which nobody answers. -/
def execTwillAttempt (die : Die) (s : State) : Host.Outcome State Fault Refusal :=
  s.event (fun d => if d.mayAttempt die then d.attempt die else if d.lineTries die then d.attemptCount die else d)

/-- An attempt has failed: DOWN, lanes OFF. After its 50th failure the line die stays in its barrier-lost safe state (R17, R288). -/
def Dev.attemptFails (d : Dev) (n : Die) : Dev :=
  let d := (((d.setTwill n 0).event (0x3020 + n) 12).linkClear n .down).linkClear n .up
  d.attemptCount n

/-- The physical lane that a logical lane runs on after training: its own, else a trained spare, S0 first, else none (R287). -/
def chosenLane (trained : Nat → Bool) (l : Nat) : Nat :=
  if trained l then l
  else
    let spares := [32, 33].filter trained
    let before := ((List.range l).filter (fun i => !trained i)).length
    spares.getD before 0xFF

/-- The coding of every lane as a marker leaves it. -/
def freshCodes : Vector LaneCode 34 := Vector.ofFn (fun x : Fin 34 => LaneCode.fresh {} x.val)

/-- A direction takes its trained lanes: carried lanes DATA, trained spares SPARE, the rest LOST (log entry 37). Its first marker starts the coding of every lane
(log entry 78). -/
def Dev.alignDir (d : Dev) (n : Die) (w : Way) (trained : Nat → Bool) : Dev :=
  let d := (List.range 32).foldl (fun d l => d.setMap n w l (chosenLane trained l)) d
  let d := (List.range 34).foldl (fun d x =>
    d.setLane n w x (if !trained x then 4 else if (d.logicalOf n w x).isSome then 2 else 3)) d
  let left := (List.range 32).filter (fun l => chosenLane trained l = 0xFF)
  d.onDir n w (fun t => {
    marker := t.marker, fastMarkers := true, txCode := freshCodes, rxCode := freshCodes
    parked := left.map (fun l => { logical := l, leaves := l, noted := true }) })

/-- 3 ms after an attempt's start: at least two trained lane pairs align, else the attempt has failed. -/
def Dev.windowEnd (d : Dev) (n : Die) (trainedDown trainedUp : Nat) : Dev :=
  if d.twillState n ≠ 1 then d
  else
    let trained := fun l => (trainedDown.testBit l || l ∈ (d.twillDir n .down).ready) && (trainedUp.testBit l || l ∈ (d.twillDir n .up).ready)
    if d.answersTrain n && 2 ≤ ((List.range 34).filter trained).length then
      (((d.setTwill n 2).alignDir n .down trained).alignDir n .up trained)
    else d.attemptFails n

/-- `TWILL_TRAIN_WINDOW_END` (R287). -/
def execTwillTrainWindowEnd (die : Die) (trainedDown trainedUp : Nat) (s : State) : Host.Outcome State Fault Refusal :=
  s.event (fun d => d.windowEnd die trainedDown trainedUp)

/-- A line die starts: it agrees a fresh transport key with Hallmark by X448, and takes its microcode (R30, R31, R211). -/
def Dev.dieStarts (d : Dev) (n : Die) : Dev :=
  let own := d.draws
  let d := d.newDraw.newDraw
  let d := (d.shortMessage n .down 8 [0, own]).shortMessage n .up 8 [0, own + 1]
  ((d.setDie n 1).onDie n (fun s => { s with transport := exactly 32 (Config.x448Shared own (Config.x448Public (own + 1))) })).loadCode n

/-- The link reaches UP, which LANE_CTL reports: the die is STARTING, held reports and clock status come up, the ports' demand is weighed (R11, R287, R298, R373, R378). -/
def Dev.aligned (d : Dev) (n : Die) : Dev :=
  if d.twillState n ≠ 2 then d
  else
    let d := (((d.setTwill n 3).event (0x3020 + n) 0).put 0x3012 (n + 1) 0).onDie n (fun s => { s with attempts := 0, silent := false })
    let slow := fun (t : TwillDir) => { t with fastMarkers := false }
    let d := (d.onDir n .down slow).onDir n .up slow
    let d := if d.dieState n = 0 || d.dieState n = 4 || d.dieState n = 5 then d.dieStarts n else d
    let d := (d.laneControl n .down 4 0).laneControl n .up 4 0
    let d := (d.dies.get n).reports.foldl (fun d r => d.eventSend n r.ev.source r.ev.kind r.ev.detail) (d.timeSend n)
    (((d.reactionEnd (srcLink n)).reportsUp n).clockReport n).shedEval n

/-- `TWILL_ALIGNED` (R287). -/
def execTwillAligned (die : Die) (s : State) : Host.Outcome State Fault Refusal := 
  s.event (fun d => if d.twillState die = 2 then (d.aligned die).inbandWake else d)

/-- `TWILL_ALIGN_TIMEOUT` (R287). -/
def execTwillAlignTimeout (die : Die) (s : State) : Host.Outcome State Fault Refusal :=
  s.event (fun d => if d.twillState die = 2 then d.attemptFails die else d)

/-- `TWILL_LINK_LOSS` (R16, R288): kind 10 against the link, unless a test has taken the die. -/
def execTwillLinkLoss (die : Die) (s : State) : Host.Outcome State Fault Refusal :=
  s.event (fun d => if d.twillState die ≠ 3 then d else if d.dieHeld die then d.linkLost die else d.linkFail die)

/-- A die has finished loading, or its reset, and its microcode is good. -/
def Dev.mayRun (d : Dev) (n : Die) : Bool := d.twillState n = 3 && (d.dieState n = 1 || d.dieState n = 3) && !(d.dies.get n).imageBad

/-- A die that has finished loading, or its reset, runs; one that refuses its microcode stays in STARTING, or returns to it from a reset (R11, R31). -/
def Dev.dieLoaded (d : Dev) (n : Die) : Dev :=
  if d.mayRun n then (d.dieRuns n).inbandWake
  else if d.twillState n = 3 && d.dieState n = 3 then d.setDie n 1
  else d

/-- `DIE_RUNNING` (R11, R31). -/
def execDieRunning (die : Die) (s : State) : Host.Outcome State Fault Refusal := s.event (fun d => d.dieLoaded die)

/-! ## Training requests (R285, R286) -/

/-- Taps as the object holds them: PRE, MAIN, POST, each a signed octet. -/
def tapsOf (v : Nat) : Int × Int × Int := (signed 8 (field v 16 8), signed 8 (field v 8 8), signed 8 (field v 0 8))

def tapsValue (t : Int × Int × Int) : Nat := unsigned 8 t.1 * 65536 + unsigned 8 t.2.1 * 256 + unsigned 8 t.2.2

/-- Taps in their ranges, whose absolute values sum to 48. -/
def tapsGood (t : Int × Int × Int) : Bool :=
  -8 ≤ t.1 && t.1 ≤ 0 && 24 ≤ t.2.1 && t.2.1 ≤ 48 && -12 ≤ t.2.2 && t.2.2 ≤ 0 && t.1.natAbs + t.2.1.natAbs + t.2.2.natAbs = 48

/-- What one request makes of one tap: hold, increment, decrement, preset. -/
def tapAsked (req : Nat) (preset t : Int) : Int :=
  match req with | 1 => t + 1 | 2 => t - 1 | 3 => preset | _ => t

/-- The answer to a request: not updated after hold, updated, or a limit. -/
def tapAnswer (req : Nat) (done : Bool) : Nat :=
  if req = 0 then 0 else if done then 1 else if req = 2 then 2 else 3

/-- A lane error counts against the physical lane (R281, R296). -/
def Dev.laneError (d : Dev) (n : Die) (w : Way) (lane : Nat) : Dev :=
  d.report { source := laneSrc n w lane, kind := 11, detail := lane }

/-- Read a block from a lane: what it says, and the state with the lane's coding behind it. A stuffing violation counts against the lane (R278). -/
def Dev.laneRead (d : Dev) (n : Die) (w : Way) (x : Fin 34) (line : List Bool) : LaneBlock × Dev :=
  let (b, c) := laneDecode ((d.twillDir n w).rxCode.get x) line
  let d := d.onRxCode n w x c
  (b, if b.violation then (d.event (0x3020 + n) 8).laneError n w x.val else d)

/-- What a receiver asks next of the far transmitter's taps, and whether it has converged: its own choice (log entry 7). A request is held until its answer has
come, and then released (R286). -/
def nextAsk (draw : Nat) (old st : Nat × Nat × Nat) (ready : Bool) : (Nat × Nat × Nat) × Bool :=
  let keep := fun (q a : Nat) => if a = 0 then q else 0
  let held := (keep old.1 st.1, keep old.2.1 st.2.1, keep old.2.2 st.2.2)
  if ready || held ≠ (0, 0, 0) || st ≠ (0, 0, 0) then (held, ready)
  else if Config.freeValue draw 13 % 2 = 1 then (held, true)
  else ((Config.freeValue draw 10 % 4, Config.freeValue draw 11 % 4, Config.freeValue draw 12 % 4), false)

/-- The receiver of a lane looks at the answers to its requests and makes the next. -/
def Dev.askTaps (d : Dev) (n : Die) (w : Way) (lane : Nat) (b : TrainBody) : Dev :=
  let t := d.twillDir n w
  let a := nextAsk d.draws ((assocGet t.asks lane).getD (0, 0, 0)) (b.stPre % 4, b.stMain % 4, b.stPost % 4) (lane ∈ t.converged)
  d.newDraw.onDir n w (fun t => { t with
    asks := assocSet t.asks lane a.1, converged := if a.2 then lane :: without t.converged lane else t.converged })

/-- Requests for the taps of a lane's transmitter: they change its taps together, unless a sum or range would break; a request that has been answered is not applied
again (R286). -/
def Dev.applyTaps (d : Dev) (n : Die) (w : Way) (lane : Nat) (asked : Nat × Nat × Nat) : Dev :=
  let idx := 0x3200 + 2 * n.val + wayIndex w
  let old := (assocGet (d.twillDir n w).answers lane).getD (0, 0, 0)
  let req := fun (q a : Nat) => if a = 0 then q % 4 else 0
  let qs := (req asked.1 old.1, req asked.2.1 old.2.1, req asked.2.2 old.2.2)
  let t := tapsOf (d.get idx (lane + 1))
  let t' := (tapAsked qs.1 (-2) t.1, tapAsked qs.2.1 40 t.2.1, tapAsked qs.2.2 (-6) t.2.2)
  let ok := tapsGood t'
  let ans := fun (q a r : Nat) => if r % 4 = 0 then 0 else if a = 0 then tapAnswer q ok else a
  let new := (ans qs.1 old.1 asked.1, ans qs.2.1 old.2.1 asked.2.1, ans qs.2.2 old.2.2 asked.2.2)
  (if ok && qs ≠ (0, 0, 0) then d.put idx (lane + 1) (tapsValue t') else d).onDir n w (fun t => { t with answers := assocSet t.answers lane new })

/-- The body of a TRAIN block arrives on a lane. In an attempt its requests go to the transmitter of the other lane of the pair, RX_READY is noted, and that lane
answers, with this end's own requests. In an in-service retrain this end's requests go back in a LANE_CTL block of the opposite stream, and the lane's transmitter
takes them (R297; log entry 76). -/
def Dev.trainBlock (d : Dev) (n : Die) (w : Way) (x : Fin 34) (b : TrainBody) : Dev :=
  let lane := x.val
  let back := Way.back w
  let asks := fun (d : Dev) => (assocGet (d.twillDir n w).asks lane).getD (0, 0, 0)
  if d.twillState n = 3 then
    let d := d.askTaps n w lane b
    (d.laneControl n back 5 lane [(asks d).1, (asks d).2.1, (asks d).2.2]).applyTaps n w lane (asks d)
  else
    let d := if b.rxReady then d.onDir n w (fun t => { t with ready := lane :: without t.ready lane }) else d
    let d := (d.applyTaps n back lane (b.reqPre, b.reqMain, b.reqPost)).askTaps n w lane b
    let ask := asks d
    let st := (assocGet (d.twillDir n back).answers lane).getD (0, 0, 0)
    d.laneTrain n back x {
      phys := lane, reqPre := ask.1, reqMain := ask.2.1, reqPost := ask.2.2, stPre := st.1, stMain := st.2.1, stPost := st.2.2
      rxReady := lane ∈ (d.twillDir n w).converged }

/-- A TRAIN block arrives on a lane that trains: another block, or one without PATTERN or of another lane, says nothing, and a line die that has lost its reference
answers none (R373). -/
def Dev.trainRx (d : Dev) (n : Die) (w : Way) (lane : Nat) (line : List Bool) : Dev :=
  if h : lane < 34 then
    if d.twillState n = 0 || d.laneState n w lane ≠ 1 || (w = .down && !d.answersTrain n) then d
    else
      let (b, d) := d.laneRead n w ⟨lane, h⟩ line
      match readTrain (natOf b.body) with
      | some t => if isData b.header || blockKind b.header ≠ 3 || t.phys ≠ lane then d else d.trainBlock n w ⟨lane, h⟩ t
      | none => d
  else d

/-- `TRAIN_BLOCK_RX` (R285, R286). -/
def execTrainBlockRx (die : Die) (way : Way) (lane : Lane) (line : List Bool) (s : State) : Host.Outcome State Fault Refusal :=
  s.event (fun d => d.trainRx die way lane.val line)

/-! ## Markers and spare switches (R280, R281, R295, R303) -/

/-- The lanes that carry the stream are aligned: all their last markers have one number (R281). -/
def Dev.lanesAligned (d : Dev) (n : Die) (w : Way) : Bool :=
  let lanes := (List.range 34).filter (fun x => d.laneState n w x = 2)
  match lanes with
  | [] => false
  | x :: l => (match assocGet (d.twillDir n w).numbers x with
    | some k => l.all (fun y => assocGet (d.twillDir n w).numbers y = some k)
    | none => false)

/-- A marker arrives: its LANE_CRC is checked, its number noted, and the lane's generator starts again; a switch retires the lane it names. When every lane has
brought the same number, the next block of the stream is that of logical lane 0 (log entry 78). -/
def Dev.markerBody (d : Dev) (n : Die) (w : Way) (x : Fin 34) (m : MarkerBody) (crc : Nat) : Dev :=
  let d := if m.laneCrc = crc then d
    else ((d.inc (0x3100 + 2 * n.val + wayIndex w) (x.val + 1)).event (0x3020 + n) 7).laneError n w x.val
  let d := (d.onRxCode n w x (((d.twillDir n w).rxCode.get x).fresh x.val)).onDir n w (fun t => { t with
    numbers := assocSet t.numbers x.val m.number
    retired := if m.switch then m.swFrom :: without (without t.retired m.swFrom) m.swTo else t.retired })
  if d.lanesAligned n w && (d.twillDir n w).rxHeld.isEmpty then d.onDir n w (fun t => { t with rxTurn := 0 }) else d

/-- Bits arrive where a marker is expected: block boundaries are found by PATTERN; without it there is no marker. -/
def Dev.markerRx (d : Dev) (n : Die) (w : Way) (lane : Nat) (line : List Bool) : Dev :=
  if h : lane < 34 then
    if d.twillState n < 2 then d
    else
      let (b, d) := d.laneRead n w ⟨lane, h⟩ line
      match readMarker (natOf b.body) with
      | some m => if isData b.header || blockKind b.header ≠ 1 then d else d.markerBody n w ⟨lane, h⟩ m b.crc
      | none => d
  else d

/-- `MARKER_RX` (R281). -/
def execMarkerRx (die : Die) (way : Way) (lane : Lane) (line : List Bool) (s : State) : Host.Outcome State Fault Refusal :=
  s.event (fun d => d.markerRx die way lane.val line)

/-- Change what is kept of a parked logical lane. -/
def Dev.onPark (d : Dev) (n : Die) (w : Way) (l : Nat) (f : Park → Park) : Dev :=
  d.onDir n w (fun t => { t with parked := t.parked.map (fun k => if k.logical = l then f k else k) })

/-- A parked logical lane moves to a spare at this marker. -/
def Dev.switchTo (d : Dev) (n : Die) (w : Way) (k : Park) (spare : Nat) : Dev :=
  let d := (d.setMap n w k.logical spare).setLane n w spare 2
  let d := d.onDir n w (fun t => { t with
    parked := t.parked.filter (fun e => e.logical ≠ k.logical)
    switchNow := some (k.logical, k.leaves, spare) })
  let d := ((d.put 0x3011 (n + 1) (d.get 0x3011 (n + 1) ^^^ 2 ^ wayIndex w)).event (0x3020 + n) 3).inc (0x3080 + n) 1
  (d.reactionEnd (laneSrc n w k.leaves)).shedEval n

/-- No spare is free: the marker records that the logical lane stays parked. -/
def Dev.switchNone (d : Dev) (n : Die) (w : Way) (k : Park) : Dev :=
  let d := (d.onPark n w k.logical (fun e => { e with noted := true })).onDir n w (fun t => { t with switchNow := some (k.logical, k.leaves, 0xFF) })
  let d := (d.eventMask (0x3020 + n) 0x18).inc (0x3080 + n) 2
  (d.reactionEnd (laneSrc n w k.leaves)).shedEval n

/-- Lanes of an in-service test in a direction. -/
def Dev.testSpares (d : Dev) (n : Die) (w : Way) : List Nat :=
  if (d.dies.get n).testHolds then [] else (List.range 34).filter (fun x => d.laneState n w x = 7)

/-- A marker slot begins: at most one switch, in order of loss. A switch that needs a lane under test ends the test and waits one slot. -/
def Dev.slotBegins (d : Dev) (n : Die) (w : Way) : Dev :=
  let d := d.onDir n w (fun t => { t with
    marker := (t.marker + 1) % 65536
    sentIn := []
    switchNow := none
    parked := t.parked.map (fun k => { k with wait := k.wait - 1 }) })
  let spares := d.freeSpares n w
  match (d.twillDir n w).parked.find? (fun k => k.wait = 0 && (!k.noted || !spares.isEmpty)) with
  | none => d
  | some k =>
    match spares with
    | x :: _ => d.switchTo n w k x
    | [] =>
      if d.testSpares n w = [] then d.switchNone n w k
      else (d.testEnd n 3).onPark n w k.logical (fun e => { e with wait := 1 })

/-- The lane sends the marker of the slot: it carries blocks, or is one that a switch leaves, until that switch. -/
def Dev.sendsMarker (d : Dev) (n : Die) (w : Way) (lane : Nat) (begins : Bool) : Bool :=
  let t := d.twillDir n w
  d.activeLane n w lane || t.parked.any (fun k => k.leaves = lane && !k.noted) || (!begins && t.switchNow.any (fun s => s.2.1 = lane))

/-- A slot of markers begins: every lane first has sent as many blocks as the others, and the slot is one more (R279, R280, R284). -/
def Dev.slotStarts (d : Dev) (n : Die) (w : Way) : Dev :=
  let d := if (d.twillDir n w).narrow then d else Dev.fillRound n w 32 d
  (d.slotBegins n w).roundDone n w

/-- A lane sends its marker; the first of a slot begins it, and the stream goes on at logical lane 0 behind it (log entry 78). The marker of a switch has the EPOCH
that the switch ends (R295). -/
def Dev.markerSlot (d : Dev) (n : Die) (w : Way) (lane : Lane) : Dev :=
  let begins := (d.twillDir n w).sentIn = [] || lane.val ∈ (d.twillDir n w).sentIn
  if d.twillState n < 2 || 33 < lane.val || !d.sendsMarker n w lane.val begins then d
  else
    let d := if begins then d.slotStarts n w else d
    let d := d.onDir n w (fun t => { t with sentIn := lane.val :: t.sentIn, txTurn := 0 })
    let t := d.twillDir n w
    let m : MarkerBody := { phys := lane.val, logical := (d.logicalOf n w lane.val).getD 0xFE, number := t.marker }
    if h : lane.val < 34 then
      match t.switchNow with
      | some (l, x, y) => d.laneMarker n w ⟨lane.val, h⟩ (d.laneEpoch n w != (y ≠ 0xFF)) { m with switch := true, swLogical := l, swFrom := x, swTo := y }
      | none => d.laneMarker n w ⟨lane.val, h⟩ (d.laneEpoch n w) m
    else d

/-- `MARKER_SLOT` (R280, R295). -/
def execMarkerSlot (die : Die) (way : Way) (lane : Lane) (s : State) : Host.Outcome State Fault Refusal :=
  s.event (fun d => if d.twillState die < 2 then d else (d.markerSlot die way lane).inbandWake)

/-- In independent clocking a fill block is kept, deleted or repeated, or the buffer has passed its limit. -/
def Dev.rateFill (d : Dev) (n : Die) (w : Way) (fill : FillAction) : Dev :=
  if d.twillState n ≠ 3 || d.get 0x3000 1 ≠ 1 then d
  else match fill with
    | .keep => d
    | .delete => d.inc (0x3080 + n) 9
    | .again => d.inc (0x3080 + n) 0xA
    | .overflow => (d.event (0x3020 + n) 9).paceFault (laneSrc n w (d.laneMap n w 0)) (w = .up) .ingress

/-- `RATE_FILL_RX` (R284). -/
def execRateFillRx (die : Die) (way : Way) (_lane : Lane) (fill : FillAction) (s : State) : Host.Outcome State Fault Refusal :=
  s.event (fun d => d.rateFill die way fill)

/-! ## Parking, loss and reinstatement (R288, R293, R294, R297) -/

/-- PARK has come back to a direction's transmitter. -/
def Dev.laneCtlPark (d : Dev) (n : Die) (w : Way) (l : Nat) : Dev :=
  if d.twillState n ≠ 3 || d.laneMap n w l = 0xFF then d
  else
    let d := if (d.twillDir n w).narrow && l = 0 then d.widen n w else d
    (d.park n w l false).fewLanes n w

/-- `LANE_CTL_PARK` (R294): `way` is the direction whose lane is parked. -/
def execLaneCtlPark (die : Die) (way : Way) (logical : Fin 32) (s : State) : Host.Outcome State Fault Refusal :=
  s.event (fun d => d.laneCtlPark die way logical.val)

/-- A retired lane still delivers: the logical lane that its parking waits to switch (R296). -/
def Dev.delivering (d : Dev) (n : Die) (w : Way) (lane : Nat) : Option Nat :=
  ((d.twillDir n w).parked.find? (fun k => k.delivers && k.leaves = lane)).map (·.logical)

/-- A receiver loses lock on a lane: frames in progress end when it carried blocks, and PARK goes back. One that was retired before delivers no more. -/
def Dev.lockLost (d : Dev) (n : Die) (w : Way) (lane : Nat) : Dev :=
  if d.twillState n = 3 && (d.delivering n w lane).isSome then
    (d.framesEnd n w).onDir n w (fun t => { t with parked := t.parked.map (fun k => if k.leaves = lane then { k with delivers := false } else k) })
  else if d.twillState n ≠ 3 || 33 < lane || !(d.laneState n w lane = 2 || d.laneState n w lane = 3) then d
  else (if d.laneState n w lane = 2 then d.framesEnd n w else d).laneLost n w lane

/-- `LANE_LOCK_LOST` (R293, R294). -/
def execLaneLockLost (die : Die) (way : Way) (lane : Lane) (s : State) : Host.Outcome State Fault Refusal :=
  s.event (fun d => d.lockLost die way lane.val)

/-- A LOST lane retrains in service, its requests in LANE_CTL blocks; a FATAL lane stays LOST (R297, R404). -/
def Dev.retrainLane (d : Dev) (n : Die) (w : Way) (lane : Nat) : Dev :=
  if d.twillState n ≠ 3 || 33 < lane || d.laneState n w lane ≠ 4 || d.faultState (laneSrc n w lane) = 4 then d
  else
    let d := d.onDir n w (fun t => { t with
      waiting := without t.waiting lane, ready := without t.ready lane, answers := t.answers.filter (fun e => e.1 ≠ lane)
      asks := t.asks.filter (fun e => e.1 ≠ lane), converged := without t.converged lane })
    (d.setLane n w lane 1).laneControl n (Way.back w) 3 lane

/-- 10 ms after a lane became LOST: it retrains, or waits for TWILL_REINSTATE. -/
def Dev.reinstateTimer (d : Dev) (n : Die) (w : Way) (lane : Nat) : Dev :=
  if d.twillState n ≠ 3 || 33 < lane || d.laneState n w lane ≠ 4 then d
  else if d.flag 0x3000 4 then d.retrainLane n w lane
  else d.onDir n w (fun t => { t with waiting := t.waiting ++ (if lane ∈ t.waiting then [] else [lane]) })

/-- `LANE_REINSTATE_TIMER` (R297). -/
def execLaneReinstateTimer (die : Die) (way : Way) (lane : Lane) (s : State) : Host.Outcome State Fault Refusal :=
  s.event (fun d => d.reinstateTimer die way lane.val)

/-- The lanes of a direction that wait start to retrain. -/
def Dev.retrainWaiting (d : Dev) (n : Die) (w : Way) : Dev := (d.twillDir n w).waiting.foldl (fun d l => d.retrainLane n w l) d

/-- A write to TWILL_REINSTATE: setting it starts the lanes that wait. -/
def Dev.reinstateOp (d : Dev) (r : Req) (v : Nat) : Op :=
  d.plainWrite r 0x3000 4 v [] (fun d =>
    if v = 1 then d.eachDie (fun n d => (d.retrainWaiting n .down).retrainWaiting n .up) else d)

/-- `TWILL_REINSTATE_WRITE` (R297). -/
def execTwillReinstateWrite (r : Req) (v : Nat) (s : State) : Host.Outcome State Fault Refusal :=
  s.write r 0x3000 4 (fun _ d => d.reinstateOp r v)

/-- `LANE_CTL_RETRAIN` (R297): the far end asks to retrain a lost lane. -/
def execLaneCtlRetrain (die : Die) (way : Way) (lane : Lane) (s : State) : Host.Outcome State Fault Refusal :=
  s.event (fun d => d.retrainLane die way lane.val)

/-- An in-service retrain has ended: the lane is a spare; or it is LOST again, and FAILED after the 16th failure (log entry 38). -/
def Dev.retrainDone (d : Dev) (n : Die) (w : Way) (lane : Nat) (ok : Bool) : Dev :=
  if d.twillState n ≠ 3 || 33 < lane || d.laneState n w lane ≠ 1 then d
  else
    let k := (assocGet (d.twillDir n w).failures lane).getD 0
    if ok then
      let d := (d.setLane n w lane 3).onDir n w (fun t => { t with
        failures := assocSet t.failures lane 0, retired := without t.retired lane
        txCode := if h : lane < 34 then t.txCode.set lane (LaneCode.fresh {} lane) else t.txCode
        rxCode := if h : lane < 34 then t.rxCode.set lane (LaneCode.fresh {} lane) else t.rxCode
        blocks := t.blocks.filter (fun e => e.1 ≠ lane), invalid := t.invalid.filter (fun e => e.1 ≠ lane) })
      d.event (0x3020 + n) 6
    else
      (d.setLane n w lane (if 16 ≤ k + 1 then 5 else 4)).onDir n w (fun t => { t with failures := assocSet t.failures lane (k + 1) })

/-- `LANE_RETRAIN_DONE` (R297). -/
def execLaneRetrainDone (die : Die) (way : Way) (lane : Lane) (ok : Bool) (s : State) : Host.Outcome State Fault Refusal :=
  s.event (fun d => d.retrainDone die way lane.val ok)

/-! ## Narrowing (R291, R292) -/

/-- A port leaves its twill direction idle. -/
def Dev.portIdles (d : Dev) (w : Way) (p : Port) : Bool :=
  let st := d.linkState p
  st = 0 || st = 1 || st = 2 || st = 9 || st = 10 || st = 11 || st = 7
  || (st = 6 && (match w with | .down => d.txAsleep p | .up => 2 ≤ d.rxQuiet p && d.rxQuiet p ≤ 4))

/-- The conditions of R291. -/
def Dev.mayNarrow (d : Dev) (n : Die) (w : Way) : Bool :=
  d.twillState n = 3 && d.flag 0x3000 2 && !(d.twillDir n w).narrow && (d.twillDir n w).lastData + d.get 0x3000 3 ≤ d.uptime && (allFin 16).all (fun k => d.portIdles w (portAt n k))

/-- `TWILL_NARROW` (R291). -/
def execTwillNarrow (die : Die) (way : Way) (s : State) : Host.Outcome State Fault Refusal :=
  s.event (fun d => if d.mayNarrow die way then d.narrow die way else d)

/-- `LANE_CTL_NARROW` (R291): the far transmitter has narrowed the direction. -/
def execLaneCtlNarrow (die : Die) (way : Way) (s : State) : Host.Outcome State Fault Refusal :=
  s.event (fun d => if d.twillState die = 3 && !(d.twillDir die way).narrow then d.narrow die way else d)

/-- `LANE_CTL_WIDEN` (R292). -/
def execLaneCtlWiden (die : Die) (way : Way) (s : State) : Host.Outcome State Fault Refusal :=
  s.event (fun d => d.widen die way)

/-! ## Clock lanes (R283, R289) -/

/-- `K_LOST` (R283): an up K has lost its clock. -/
def execKLost (die : Die) (s : State) : Host.Outcome State Fault Refusal :=
  s.event (fun d => if d.laneState die .up 34 = 4 then d else (d.setLane die .up 34 4).event (0x3020 + die) 10)

/-- `K_CLOCK_RETURN` (R289). -/
def execKClockReturn (die : Die) (s : State) : Host.Outcome State Fault Refusal := s.event (fun d => d.setLane die .up 34 2)

end Sys2Proof.Machine
end

