-- ==== Sys2Proof/Machine/TwillBlocks.lean ====
section
/-! DEFINITION. What arrives over a twill link: port data blocks and messages; and the test facilities of its lanes (R271 to R279, R301 to R304, R309,
R322, R408). -/

namespace Sys2Proof.Machine

/-! ## Port data (R271, R273 to R276) -/

/-- The block comes under an epoch or a relock number that is past (R276, R295). -/
def Dev.lateHeader (d : Dev) (n : Die) (w : Way) (header : Nat) : Bool :=
  header.testBit 0 != d.laneEpoch n w
  || (isData header && header.testBit 1 != (d.port (portAt n (blockPort header))).link.relockNumber.testBit 0)

/-- What is in progress for a port at a direction's receiver. -/
def Dev.setFrame (d : Dev) (n : Die) (w : Way) (k : Fin 16) (f : Option (Fin 32 × RxFrame)) (resync : Bool) : Dev :=
  d.onDir n w (fun t => { t with frames := t.frames.set k f, resync := t.resync.set k resync })

/-- More of a frame has come: what the ingress buffer holds of an up frame grows with it, and the pauses with that (R256, R262). -/
def Dev.growFrame (d : Dev) (n : Die) (w : Way) (k : Fin 16) (q : Fin 32) (r : RxFrame) (more : List Byte) : Dev :=
  let bytes := r.bytes ++ more
  match w with
  | .up =>
    let p := portAt n k
    ((d.setFrame n w k (some (q, d.moreOf p r bytes bytes)) false).flowCheck p .ingress).wakeIfPending p
  | .down => d.setFrame n w k (some (q, { r with bytes := bytes })) false

/-- A frame is whole: one from the line is consumed as flow control, ends on the host lane where it has begun, is discarded where there was no room at its start, or is
queued (R253 to R260); one to the line goes on. -/
def Dev.deliver (d : Dev) (n : Die) (w : Way) (k : Fin 16) (q : Fin 32) (r : RxFrame) (errored : Bool) : Dev :=
  let p := portAt n k
  match w with
  | .up =>
    let f : EthFrame := { bytes := r.bytes, errored := errored, wasSealed := 24 ≤ q.val }
    match flowFrame? f, r.refused with
    | some fc, _ => d.fcFromLine p fc (!errored)
    | none, some c => (d.sizeSeen p r.bytes.length).countDiscard p q c 1
    | none, none =>
      if r.cut then d
      else if r.begun then d.begunEnds p q f
      else ((d.sizeSeen p r.bytes.length).enqueue p .ingress q f true).wakeIfPending p
  | .down => (d.standardLeft p).deliverDown p q { bytes := r.bytes, errored := errored } false

/-- A malformed block: counted, its port's frame ends with an error code, and the port waits for a valid START (R275). -/
def Dev.malformedBlock (d : Dev) (n : Die) (w : Way) (k : Fin 16) : Dev :=
  let p := portAt n k
  let held := (d.twillDir n w).frames.get k
  let d := (d.inc (0x3080 + n) 4).setFrame n w k none true
  match held, w with
  | some (_, r), .up => ((d.endArrival p r 9 false).flowCheck p .ingress).wakeIfPending p
  | some (q, r), .down => d.deliver n .down k q r true
  | none, _ => d

/-- Queue that the INFO byte names. -/
def infoQueue (w : Way) (info : Nat) : Fin 32 :=
  Fin.ofNat 32 ((match w with | .down => 0 | .up => 16) + (if info.testBit 4 then 8 else 0) + field info 5 3)

/-- A delimiter block, in the state its END leaves: what START does. Room is looked for as the first byte arrives (R257). -/
def Dev.startIn (d : Dev) (n : Die) (w : Way) (k : Fin 16) (body : List Byte) (start info : Nat) : Dev :=
  if start.testBit 7 then
    let q := infoQueue w info
    let refused := match w with | .up => if d.hasRoom (portAt n k) .ingress then none else some 6 | .down => none
    d.growFrame n w k q { queue := some q, refused := refused } (body.drop (3 + start % 32))
  else d

/-- A data block with DELIM 1. -/
def Dev.delimBlock (d : Dev) (n : Die) (w : Way) (k : Fin 16) (body : List Byte) : Dev :=
  let at_ := fun i => (body.getD i 0).toNat
  let fin := at_ 0
  let start := at_ 1
  let held := (d.twillDir n w).frames.get k
  let waits := (d.twillDir n w).resync.get k
  let bad := (fin.testBit 7 && 28 < fin % 32) || (start.testBit 7 && 28 < start % 32)
    || (fin.testBit 7 && start.testBit 7 && start % 32 ≤ fin % 32)
    || (start.testBit 7 && !fin.testBit 7 && held.isSome) || (fin.testBit 7 && held.isNone && !waits)
  if bad then d.malformedBlock n w k
  else match held with
    | some (q, r) =>
      if fin.testBit 7 then
        (((d.setFrame n w k none false).deliver n w k q { r with bytes := r.bytes ++ (body.drop 3).take (fin % 32 + 1) } (fin.testBit 6))).startIn n w k body start
          (at_ 2)
      else d.growFrame n w k q r (body.drop 3)
    | none => d.startIn n w k body start (at_ 2)

/-- A data block with DELIM 0. -/
def Dev.plainBlock (d : Dev) (n : Die) (w : Way) (k : Fin 16) (body : List Byte) : Dev :=
  match (d.twillDir n w).frames.get k with
  | some (q, r) => d.growFrame n w k q r body
  | none => if (d.twillDir n w).resync.get k then d else d.malformedBlock n w k

/-- A late block: discarded and counted; a frame that begins in it is a frame discarded (R187, R276, R295; log entry 40). -/
def Dev.blockLate (d : Dev) (n : Die) (w : Way) (header : Nat) (body : List Byte) : Dev :=
  let d := d.inc (0x3080 + n) 5
  let start := (body.getD 1 0).toNat
  if isData header && header.testBit 6 && start.testBit 7 then
    d.countDiscard (portAt n (blockPort header)) (infoQueue w (body.getD 2 0).toNat) 4 1
  else d

/-! ## Messages (R272, R273) -/

/-- CRC-32C of a message's bytes. -/
def messageCrc (body : List Byte) : Nat := crcBytes 0xFFFFFFFF body ^^^ 0xFFFFFFFF

/-- The message's CRC-32C fits it. -/
def intact (m : TwillMsg) : Bool := m.crc = messageCrc m.body

/-- A message arrives over a link that is UP: discarded and counted when its CRC-32C fails. -/
def Dev.message (d : Dev) (n : Die) (crcOk : Bool) (f : Dev → Dev) : Dev :=
  if d.twillState n ≠ 3 then d else if crcOk then f d else d.inc (0x3080 + n) 6

/-- A MANAGEMENT message has come. One that fails its CRC-32C on the way down was a part of the microcode of a die that loads it, which then refuses the image;
else a request, which gets no response (R31, R38, R273). -/
def Dev.managementEnd (d : Dev) (n : Die) (w : Way) (crcOk : Bool) : Dev :=
  let d' := d.message n crcOk id
  if crcOk || w ≠ .down || d.twillState n ≠ 3 then d'
  else if d.dieState n = 1 then d'.onDie n (fun s => { s with imageBad := true })
  else d'.onDie n (fun s => { s with requestLost := true })

/-- The last segment of a message has come: discarded and counted when its CRC-32C fails. What an intact message does comes with the command of its KIND (log
entry 78). -/
def Dev.messageEnd (d : Dev) (n : Die) (w : Way) (kind : Nat) (b : List Byte) : Dev :=
  let ok := intact { body := b.take (b.length - 4), crc := natOf (b.drop (b.length - 4)) }
  if kind = 5 then d.managementEnd n w ok else d.message n ok id

/-- A segment of a message of a KIND: whole, first, middle, last. -/
def Dev.segment (d : Dev) (n : Die) (w : Way) (kind seg : Nat) (body : List Byte) : Dev :=
  let part := (assocGet (d.twillDir n w).partials kind).getD []
  let keep := fun (b : List Byte) => d.onDir n w (fun t => { t with partials := if b = [] then t.partials.filter (fun e => e.1 ≠ kind) else assocSet t.partials kind b })
  match seg with
  | 0 => (keep []).messageEnd n w kind body
  | 1 => keep body
  | 2 => keep (part ++ body)
  | _ => (keep []).messageEnd n w kind (part ++ body)

/-! ## The stream (R279) -/

/-- A block of the stream in its turn. -/
def Dev.streamBlock (d : Dev) (n : Die) (w : Way) (header : Nat) (body : List Byte) : Dev :=
  if d.lateHeader n w header then d.blockLate n w header body
  else if !isData header then (if 4 ≤ blockKind header then d.segment n w (blockKind header) (blockSeg header) body else d)
  else if header.testBit 6 then d.delimBlock n w (blockPort header) body
  else d.plainBlock n w (blockPort header) body

/-- The turn of a logical lane is empty at the receiver: it is parked and the lane it left delivers no more, or its lane has lost lock (R293, R296). -/
def Dev.turnEmpty (d : Dev) (n : Die) (w : Way) (l : Nat) : Bool :=
  if d.laneMap n w l = 0xFF then !(d.twillDir n w).parked.any (fun k => k.logical = l && k.delivers) else d.laneState n w (d.laneMap n w l) ≠ 2

/-- Read one block from each logical lane in order, as far as they have come. -/
def Dev.readTurns (n : Die) (w : Way) : Nat → Dev → Dev
  | 0, d => d
  | fuel + 1, d =>
    let t := d.twillDir n w
    let next := fun (t : TwillDir) => { t with rxTurn := (t.rxTurn + 1) % 32 }
    match t.rxHeld.find? (fun e => e.1 = t.rxTurn) with
    | some e => Dev.readTurns n w fuel
        ((d.onDir n w (fun t => next { t with rxHeld := t.rxHeld.erase e })).streamBlock n w e.2.1 e.2.2)
    | none => if t.rxHeld ≠ [] && d.turnEmpty n w t.rxTurn then Dev.readTurns n w fuel (d.onDir n w next) else d

/-- A lane has brought one more block, with a valid header or not: each burst of invalid headers counts against the lane (R296; DESIGN CHOICE, log entry 107: a burst is
a run of blocks with no valid header between), and the sixteenth invalid one in 256 is loss of lock (R293). -/
def Dev.headerSeen (d : Dev) (n : Die) (w : Way) (lane : Nat) (valid : Bool) : Dev :=
  let t := d.twillDir n w
  let k := (assocGet t.blocks lane).getD 0 + 1
  let bad := ((assocGet t.invalid lane).getD []).filter (fun i => k < i + 256)
  let bad := if valid then bad else bad ++ [k]
  let d := d.onDir n w (fun t => { t with blocks := assocSet t.blocks lane k, invalid := assocSet t.invalid lane bad })
  if valid then d
  else
    let d := if k - 1 ∈ bad then d else d.laneError n w lane
    if 16 ≤ bad.length then (d.onDir n w (fun t => { t with invalid := assocSet t.invalid lane [] })).lockLost n w lane else d

/-- A block arrives on a lane: lane-level blocks are taken out; one of the stream waits for its lane's turn, but in a narrowed direction, whose stream is one
lane's. -/
def Dev.dataBlock (d : Dev) (n : Die) (w : Way) (b : TwillBlock) : Dev :=
  if h : b.lane.val < 34 then
    if d.twillState n ≠ 3 || !(d.activeLane n w b.lane.val || b.lane.val ∈ (d.twillDir n w).retired || (d.delivering n w b.lane.val).isSome) then d
    else
      let (k, d) := d.laneRead n w ⟨b.lane.val, h⟩ b.line
      let body := exactly 32 k.body
      let kind := blockKind k.header
      let d := d.headerSeen n w b.lane.val (isData k.header || kind < 10)
      if !isData k.header && 10 ≤ kind then d
      else if !isData k.header && kind = 1 then
        (match readMarker (natOf k.body) with | some m => d.markerBody n w ⟨b.lane.val, h⟩ m k.crc | none => d)
      else if !isData k.header && (kind = 2 || kind = 3) then d
      else if b.lane.val ∈ (d.twillDir n w).retired then d.blockLate n w k.header body
      else match (d.logicalOf n w b.lane.val).or (d.delivering n w b.lane.val) with
        | none => d
        | some l =>
          if (d.twillDir n w).narrow then d.streamBlock n w k.header body
          else Dev.readTurns n w 64 (d.onDir n w (fun t => { t with rxHeld := t.rxHeld ++ [(l, k.header, body)] }))
  else d

/-- `DATA_BLOCK_RX` (R271 to R279, R293). -/
def execDataBlockRx (die : Die) (way : Way) (block : TwillBlock) (s : State) : Host.Outcome State Fault Refusal :=
  s.event (fun d => d.dataBlock die way block)

/-- `MANAGEMENT_MESSAGE` (R272, R273): what an intact one asks for comes with the operation it belongs to (log entry 11). -/
def execManagementMessage (die : Die) (way : Way) (msg : TwillMsg) (s : State) : Host.Outcome State Fault Refusal :=
  s.event (fun d => d.managementEnd die way (intact msg))

/-- `KEY_MESSAGE` (R211): transcripts, signatures and wrapped keys cross with the operation they belong to (log entry 11). -/
def execKeyMessage (die : Die) (_way : Way) (msg : TwillMsg) (s : State) : Host.Outcome State Fault Refusal :=
  s.event (fun d => d.message die (intact msg) id)

/-- A block that a line die reports on: one of its own, a lane or the link it shares. -/
def reportsOn (n : Die) : Block → Bool
  | .port p => dieOf p = n
  | .stamp p => dieOf p = n
  | .lane m _ _ => m = n
  | .core m => m = n
  | .link m => m = n
  | .store m => m = n
  | .clock m => m.val = n.val
  | _ => false

/-- A line die's report or clock status comes up. -/
def Dev.eventMessage (d : Dev) (n : Die) : EventMsg → Dev
  | .fault crcOk ev => d.message n crcOk (fun d => match block? ev.source with
    | some b => if reportsOn n b && canReport b ev.kind then d.report ev true else d
    | none => d)
  | .clock crcOk bits => d.message n crcOk (fun d =>
    if bits = [] then d else d.eventMask (0x1828 + n) (bits.foldl (fun m b => if b < 10 then m ||| 2 ^ b else m) 0))

/-- `EVENT_MESSAGE` (R408). -/
def execEventMessage (die : Die) (msg : EventMsg) (s : State) : Host.Outcome State Fault Refusal := s.event (fun d => d.eventMessage die msg)

/-- A timestamp for a port's ring, or a sample of a recovered clock's phase (R315, R322). -/
def Dev.timestampMessage (d : Dev) (n : Die) : TimestampMsg → Dev
  | .stamp crcOk k egress wasSealed moved time ev => d.message n crcOk (fun d => d.stampMessage (portAt n k) egress wasSealed moved time ev)
  | .phase crcOk k valid => d.message n crcOk (fun d =>
    if valid then d.rclkLook
    else (allFin 2).foldl (fun d i => if d.get 0x6020 (i.val + 1) = (portAt n k).val then d.rclkSquelch i else d) d)

/-- `TIMESTAMP_MESSAGE` (R272). -/
def execTimestampMessage (die : Die) (msg : TimestampMsg) (s : State) : Host.Outcome State Fault Refusal :=
  s.event (fun d => d.timestampMessage die msg)

/-- Every die whose link is UP holds a qualified copy. -/
def Dev.copiesQualify (d : Dev) : Bool := (allFin 8).all (fun n => d.twillState n ≠ 3 || d.time.copyQualified.get n)

/-- The line die compares its copy: outside its bound, each timestamp unit of the die reports kind 17; when every copy qualifies, the time base's reaction is
over (R309, R399, R404). -/
def Dev.timeMessage (d : Dev) (n : Die) (msg : TimeMsg) : Dev :=
  d.message n msg.crcOk (fun d =>
    let d := d.copyCheck n msg.offset
    let d := if 16 < msg.offset.natAbs then
        d.eachPortOf n (fun p d => d.report { source := srcStamp p, kind := 17 })
      else d
    (if d.copiesQualify then d.reactionEnd srcTime else d).inbandWake)

/-- `TIME_MESSAGE` (R309). -/
def execTimeMessage (die : Die) (msg : TimeMsg) (s : State) : Host.Outcome State Fault Refusal := s.event (fun d => d.timeMessage die msg)

/-! ## Tests of lanes (R301 to R304) -/

/-- The value of TWILL_TEST_START. -/
def testOf (v : Nat) : TwillTest where
  mode := field v 120 8
  dir := field v 112 8
  pattern := field v 104 8
  lanes := field v 32 64
  inject := field v 16 16
  duration := field v 0 16

/-- A field outside its range, K in the mask, or a pattern that the mode does not accept. -/
def testBad (t : TwillTest) : Bool :=
  3 < t.mode || 1 < t.dir || 3 < t.pattern || 2 ^ 34 ≤ t.lanes || 65535 < t.inject || t.duration = 0 || 60000 < t.duration
  || (t.mode = 2 && t.pattern ≠ 3)

def testWay (t : TwillTest) : Way := if t.dir = 0 then .down else .up

/-- The test runs in service: MODE 0 on spares alone. -/
def Dev.testInService (d : Dev) (n : Die) (t : TwillTest) : Bool :=
  t.mode = 0 && d.twillState n = 3 && (List.range 34).all (fun l => !t.lanes.testBit l || d.laneState n (testWay t) l = 3)

/-- The selected lanes of a direction are under test. -/
def Dev.testLanes (d : Dev) (n : Die) (w : Way) (lanes : Nat) : Dev :=
  (List.range 34).foldl (fun d l => if lanes.testBit l then d.setLane n w l 7 else d) d

/-- A test takes the die out of service (R302): calibration runs of its ports end ABORTED (R357). -/
def Dev.testTakes (d : Dev) (n : Die) : Dev :=
  let d := ((d.eachPortOf n (fun p d => d.calEnd p 5)).onDie n (fun s => { s with testHolds := true })).setDie n 4
  ((d.linkDown n).samplerEnd n).eachPortOf n (fun p d => d.portTest p)

/-- A test begins: the figures of the last are gone. -/
def Dev.testBegin (d : Dev) (n : Die) (t : TwillTest) : Dev :=
  let inService := d.testInService n t
  let d := if inService then d else d.testTakes n
  let d := (List.range 35).foldl (fun d l => d.put (0x3410 + n) (l + 1) 0) d
  let d := (d.put 0x3402 (n + 1) 1).onDie n (fun s => { s with test := some t })
  let d := if t.mode = 0 then d.testLanes n (testWay t) t.lanes else (d.testLanes n .down t.lanes).testLanes n .up t.lanes
  let way := if t.mode = 3 then Way.down else testWay t
  forAll 34 (fun x d => if t.lanes.testBit x.val then d.emit (.pattern n way (laneOf x) (testLine t.pattern t.inject x.val)) else d) d

/-- A write to TWILL_TEST_START. Its INJECTION entry names the twill link, and the lane checks as its checker (log entry 41). -/
def Dev.testStartOp (d : Dev) (r : Req) (lifecycle : Nat) (n : Die) (t : TwillTest) : Op :=
  d.command r 0x3400 (n + 1) 0
    [(((d.dies.get n).test.isSome || d.dieHeld n || d.activating) || (t.inject ≠ 0 && d.stagingFull), .busy),
     (lifecycle = 3 && d.hall.serviceUntil.isNone, .state), (testBad t, .range)]
    (fun d => (if t.inject = 0 then d else d.touch 0x0050 (injectionBody (srcLink n) 11 (d.keyIdOf r))).testBegin n t)

/-- `TWILL_TEST_START` (R302). -/
def execTwillTestStart (r : Req) (die : Die) (v : TwillTest) (s : State) : Host.Outcome State Fault Refusal :=
  s.write r 0x3400 (die + 1) (fun vault d => d.testStartOp r vault.lifecycle die v)

/-- A test ends with a result; a die it took is reinitialised, and its ports return (R161, R302, R304). -/
def Dev.testFinish (d : Dev) (n : Die) (result : Nat) : Dev :=
  if (d.dies.get n).test.isNone then d
  else
    let held := (d.dies.get n).testHolds
    let d := d.testEnd n result
    if !held then d
    else
      let d := d.onDie n (fun s => { s with testHolds := false })
      let d := if (d.dies.get n).powered then d else d.setDie n 0
      d.eachPortOf n (fun p d => d.portReturn p)

/-- A write to TWILL_TEST_STOP. -/
def Dev.testStopOp (d : Dev) (r : Req) (n : Die) (v : Nat) : Op := d.one r 0x3401 (n + 1) v [] (fun d => d.testFinish n 3)

/-- `TWILL_TEST_STOP` (R304, R464). -/
def execTwillTestStop (r : Req) (die : Die) (v : Nat) (s : State) : Host.Outcome State Fault Refusal :=
  s.write r 0x3401 (die + 1) (fun _ d => d.testStopOp r die v)

/-- DURATION has passed: the checkers' figures are committed, the lanes' own errors and those of the injector (R301, R304). -/
def Dev.testDone (d : Dev) (n : Die) (bits : Nat) (errors : Vector Nat 34) : Dev :=
  match (d.dies.get n).test with
  | none => d
  | some t =>
    let d := (allFin 34).foldl (fun d l => if t.lanes.testBit l.val then d.put (0x3410 + n) (l.val + 1) (min (2 ^ 32 - 1) (errors.get l + injectedErrors t.inject bits)) else d) d
    (d.put (0x3410 + n) 0x23 (bits % 2 ^ 64)).testFinish n 2

/-- `TWILL_TEST_END` (R304). -/
def execTwillTestEnd (die : Die) (bits : Nat) (errors : Vector Nat 34) (s : State) : Host.Outcome State Fault Refusal :=
  s.event (fun d => d.testDone die bits errors)

end Sys2Proof.Machine
end

