-- ==== Sys2Proof/Machine/Assay.lean ====
section
/-! DEFINITION. Assay self-test: programs, what they hold, records, aborts, SHUTDOWN (R161, R414 to R421). -/

namespace Sys2Proof.Machine

def Dev.engineOf (d : Dev) (n : DieId) : AssaySt := d.assay.get n

def Dev.onAssay (d : Dev) (n : DieId) (f : AssaySt → AssaySt) : Dev := { d with assay := upd d.assay n f }

/-- The version of the image set in use. -/
def Dev.setVersion (d : Dev) : Nat := (d.hall.slots.get d.hall.activeSlot).setVersion

/-- The bytes of a record before its CRC. -/
def AssayRec.head (a : AssayRec) : List Byte :=
  bytesOf 1 a.program ++ bytesOf 1 a.result ++ bytesOf 1 (if a.used then 1 else 0) ++ bytesOf 1 0 ++ bytesOf 4 a.setVersion ++ bytesOf 4 a.count
    ++ bytesOf 4 a.length ++ bytesOf 8 a.expected ++ bytesOf 8 a.got ++ bytesOf 12 (timeOctets a.time) ++ exactly 16 a.optionDigest
    ++ bytesOf 2 a.failSource ++ bytesOf 2 0

/-- A record as OCTETS(68). -/
def AssayRec.bytes (a : AssayRec) : List Byte := a.head ++ bytesOf 4 (crc32c (a.head.map BitVec.toNat))

/-- RESULT of a run (R420): 1 PASS, 2 FAIL, 3 INCOMPLETE. -/
def assayResult (r : AssayResult) : Nat := if r.count < r.length then 3 else if r.got = r.expected then 1 else 2

/-- The record that an engine commits now. -/
def Dev.assayRecord (d : Dev) (program : Nat) (r : AssayResult) : AssayRec where
  program := program
  result := assayResult r
  used := false
  setVersion := d.setVersion
  count := r.count
  length := r.length
  expected := r.expected
  got := r.got
  time := d.now
  optionDigest := d.options.digest.take 16
  failSource := r.failSource

/-! ## Holding and giving back (R161, R415, R416) -/

/-- A program takes its die, or its port, whose calibration runs end ABORTED (R357). The host die's frame buffer is tested, its queues discarded. -/
def Dev.assayTakes (d : Dev) (n : DieId) (program target : Nat) : Dev :=
  if program = 3 then
    if h : target < 128 then (d.portTest ⟨target, h⟩).onSignal ⟨target, h⟩ (fun s => { s with writing := none, slots := Vector.replicate 2 none }) else d
  else match lineDie? n with
    | some m =>
      let d := d.samplerEnd m
      let d := ({ d with samplers := d.samplers.set m {} } : Dev).put (0x5F10 + m) 3 0
      if d.twillState m = 3 then (((d.eachPortOf m (fun p d => d.calEnd p 5)).setDie m 4).linkDown m).eachPortOf m (fun p d => d.portTest p) else d
    | none => (d.eachPort (fun p d => d.discardAll p 1)).put 0x1010 9 4

/-- What a program held is reinitialised (R416). -/
def Dev.assayGives (d : Dev) (n : DieId) (program target : Nat) : Dev :=
  if program = 3 then
    if h : target < 128 then d.portReturn ⟨target, h⟩ else d
  else match lineDie? n with
    | some m => d.eachPortOf m (fun p d => if (d.port p).tested then d.portReturn p else d)
    | none => d.put 0x1010 9 (if d.safe then 6 else if d.startComplete then 2 else 1)

/-- An engine starts a program. -/
def Dev.engineStart (d : Dev) (program target : Nat) (n : DieId) : Dev :=
  ((d.onAssay n (fun a => { a with program := some (program, target) })).put 0x6804 (n + 1) 1).assayTakes n program target

/-- SHUTDOWN has ended on every die: the module has shut down, or, when any engine was aborted, its ports come back (R418, R419). -/
def Dev.shutdownLook (d : Dev) : Dev :=
  if d.get 0x6800 5 ≠ 1 || d.assay.any (fun a => a.program.isSome) then d
  else if (allFin 9).all (fun n => d.get 0x6804 (n.val + 1) = 2) then d.put 0x6800 5 2
  else (d.put 0x6800 5 0).eachPort (fun p d =>
    if d.linkState p = 10 then d else ((if d.faultState (srcHostLane p) < 4 then d.laneStarts p else d).enable p))

/-- An engine's program ends: 2 COMPLETED or 3 ABORTED. -/
def Dev.engineEnd (d : Dev) (n : DieId) (state : Nat) : Dev :=
  match (d.engineOf n).program with
  | none => d
  | some (program, target) =>
    (((d.onAssay n (fun a => { a with program := none })).put 0x6804 (n + 1) state).assayGives n program target).shutdownLook

/-! ## Running (R414, R417) -/

/-- The engines that a program uses. -/
def programEngines (program target : Nat) : List DieId :=
  (allFin 9).filter (fun n => if program = 3 then n.val = target / 16 else if program = 6 then true else n.val = target)

/-- The session that R417 asks for is not there. -/
def Dev.assayAuth (d : Dev) (r : Req) (lifecycle : Nat) : Bool :=
  if lifecycle = 2 || lifecycle = 3 then !d.permits r 1
  else if lifecycle = 1 || lifecycle = 4 then (d.session? r).isNone
  else false

/-- Fields out of range. -/
def runBad (program target : Nat) : Bool :=
  program < 3 || 6 < program || (if program = 3 then 127 < target else if program = 6 then target ≠ 0 else 8 < target)

/-- The target is held: by a program, or by a test of its twill lanes. -/
def Dev.targetHeld (d : Dev) (program target : Nat) : Bool :=
  (programEngines program target).any (fun n => (d.engineOf n).program.isSome || d.get 0x1010 (n.val + 1) = 4)
  || (if h : program = 3 ∧ target < 128 then (d.port ⟨target, h.2⟩).tested else false)

/-- The life-cycle state forbids the program, or its port carries a link in service. -/
def Dev.runForbidden (d : Dev) (lifecycle program target : Nat) : Bool :=
  lifecycle = 5 || ((lifecycle = 2 || lifecycle = 3) && 4 ≤ program && program ≤ 6) || d.get 0x6800 5 ≠ 0
  || (if h : program = 3 ∧ target < 128 then
        (lifecycle = 2 || lifecycle = 3) && 3 ≤ d.linkState ⟨target, h.2⟩ && d.linkState ⟨target, h.2⟩ ≤ 8 else false)

/-- A write to ASSAY_RUN. -/
def Dev.assayRunOp (d : Dev) (r : Req) (lifecycle program target : Nat) : Op :=
  d.command r 0x6800 2 0
    [(d.assayAuth r lifecycle, .auth), (d.targetHeld program target || d.activating, .busy), (d.runForbidden lifecycle program target, .state),
     (runBad program target, .range)]
    (fun d => (programEngines program target).foldl (fun d n => d.engineStart program target n) d)

/-- `ASSAY_RUN` (R417). -/
def execAssayRun (r : Req) (program target : Nat) (s : State) : Host.Outcome State Fault Refusal :=
  s.write r 0x6800 2 (fun v d => d.assayRunOp r v.lifecycle (program % 256) (target % 256))

/-- A program ends and its engine commits its record; a store that was not restored is invalid (R415, R420). -/
def Dev.assayCommit (d : Dev) (n : DieId) (r : AssayResult) : Dev :=
  match (d.engineOf n).program with
  | none => d
  | some (program, _) =>
    let a := d.assayRecord program r
    let d := d.onAssay n (fun e => { e with last := some a, shutdown := if program = 1 then some a else e.shutdown })
    let d := match lineDie? n with
      | some m => if r.restored then d else d.storeInvalid m
      | none => d
    d.engineEnd n 2

/-- `ASSAY_COMMIT` (R420). -/
def execAssayCommit (die : DieId) (res : AssayResult) (s : State) : Host.Outcome State Fault Refusal := s.event (fun d => d.assayCommit die res)

/-- Every program that runs is aborted. -/
def Dev.assayAbortAll (d : Dev) : Dev := (allFin 9).foldl (fun d n => d.engineEnd n 3) d

/-- A write to ASSAY_ABORT. -/
def Dev.assayAbortOp (d : Dev) (r : Req) (lifecycle v : Nat) : Op :=
  d.command r 0x6800 3 v [(d.assayAuth r lifecycle, .auth), (8 < v && v ≠ 0xFF, .range)]
    (fun d => if h : v < 9 then d.engineEnd ⟨v, h⟩ 3 else d.assayAbortAll)

/-- `ASSAY_ABORT` (R419). -/
def execAssayAbort (r : Req) (v : Nat) (s : State) : Host.Outcome State Fault Refusal :=
  s.write r 0x6800 3 (fun vault d => d.assayAbortOp r vault.lifecycle v)

/-- A write to SHUTDOWN: silence, idle host lanes, empty queues, a signature asked for, and SHUTDOWN on all nine engines (R418). -/
def Dev.shutdownOp (d : Dev) (r : Req) (lifecycle v : Nat) : Op :=
  d.one r 0x6800 1 v
    [(d.assayAuth r lifecycle, .auth), (d.assay.any (fun a => a.program.isSome) || d.activating, .busy),
     (lifecycle = 5 || d.get 0x6800 5 = 2, .state)]
    (fun d =>
      let d := d.put 0x6800 5 1
      let d := d.eachPort (fun p d => if d.linkState p = 10 then d else ((((d.calEnd p 5).portOut p).discardAll p 1).laneOff p).setLinkState p 0)
      let d := d.onHall (fun h => h.askSign (.touch false))
      (allFin 9).foldl (fun d n => d.engineStart 1 0 n) d)

/-- `SHUTDOWN` (R418, R464). -/
def execShutdown (r : Req) (v : Nat) (s : State) : Host.Outcome State Fault Refusal :=
  s.write r 0x6800 1 (fun vault d => d.shutdownOp r vault.lifecycle v)

/-! ## The record's age (R421) -/

/-- ASSAY_RECORD_AGE: whole seconds since the shutdown record's commit. -/
def Dev.recordAge (d : Dev) (n : DieId) : Nat :=
  match (d.engineOf n).shutdown with
  | some a => min 0xFFFFFFFE ((d.now - a.time) / perSecond)
  | none => 0xFFFFFFFF

end Sys2Proof.Machine
end

