-- ==== Sys2Proof/Machine/Start.lean ====
section
/-! DEFINITION. Power, pin reset, option loading, start, recovery mode, warm reset and the requests for resets, the failed fallback, the test access port
(R15, R218, R374, R382 to R394, R438, R439, R461). -/

namespace Sys2Proof.Machine

/-! ## Power (R382, R438, R439) -/

/-- What eMRAM, flash and fuses keep of Hallmark's part (R382). -/
def Hall.nonVolatile (h : Hall) : Hall :=
  { h.restarted with serviceUntil := none, touchSelect := none, fw := {}, imagesGood := false }

/-- The host die in power-on reset: everything clear but fuses, eMRAM and flash; the field domain's supplies are as they were. -/
def Dev.powerUp (d : Dev) (kind : Nat) : Dev :=
  let d' : Dev := {
    draws := d.draws + 1
    hall := { d.hall.nonVolatile with challenge := d.draws }
    nv := { d.nv with lastStep := 0 }
    assay := d.assay.map (fun a => { a with program := none })
    ports := d.ports.map (fun s => { slots := s.slotsKept })
    dies := d.dies.map (fun s => { powered := s.powered })
    fieldValid := d.fieldValid
    out := d.out }
  d'.put 0x1800 2 kind

/-- A line die without supplies, or in power-on reset: ABSENT, its stores and its sealing units empty; what held it has ended, and one NOTICE is raised while
the host domain runs (R15, R229, R439). -/
def Dev.dieDark (d : Dev) (n : Die) : Dev :=
  let was := (d.dies.get n).powered
  let d := (((d.testFinish n 3).engineEnd (dieId n) 3).dieAbsent n)
  let d := { d with samplers := d.samplers.set n {} }.put (0x5F10 + n) 3 0
  let d := ((d.onDie n (fun _ => { powered := false })).counterEnd (dieId n) 3).onClock (dieId n) (fun _ => {})
  let d := d.eachPortOf n (fun p d => (d.portBarrier p).onPort p (fun s => { s with
    link := { lastMode := s.link.lastMode }, signal := {}, trims := Vector.replicate 4 {}, crypt := {} }))
  if was && d.life = .running then d.notice (srcLink n) 15 0 else d

/-- The islands of a die after a start: released, but host-lane and twill islands when they are held (R381). -/
def startIslands (o : Options) (n : DieId) : List Nat :=
  clockCodes.filter (fun c => !(o.holdIslands && (if n.val = 8 then 0x10 ≤ c else c = 4)))

/-- The islands of a line die wait for their clocks to qualify; those that have left reset are out (R380, R381). -/
def Dev.islandsWait (d : Dev) (n : Die) : Dev :=
  d.onClock (dieId n) (fun c => { c with deferred := (startIslands d.options (dieId n)).filter (fun k => k ∉ c.released) })

/-- The field domain's supplies are valid: its line dies start from power-on reset, their own attempts and what had ended them with it (R17, R439). -/
def Dev.fieldOn (d : Dev) : Dev :=
  if d.fieldValid then d
  else { d with fieldValid := true }.eachDie (fun n d =>
    (d.onDie n (fun s => { s with powered := true, attempts := 0, silent := false })).islandsWait n)

/-- The block lies on a line die. -/
def onLineDie (s : Nat) : Bool := ((block? s).bind Block.side).isSome

/-- The host die loses its supplies, or finds them: it alone is in power-on reset (R438). The line dies lose their links, end those of their ports and fall
silent; their stores, sealing units, samplers, clocks, fault records and own attempts go on (R17, R439; log entry 87). -/
def Dev.hostDark (d : Dev) : Dev :=
  let e := d.eachDie (fun n d => d.linkDown n)
  { d.powerUp 0 with
    uptime := d.uptime
    draws := e.draws + 1
    out := e.out
    dies := e.dies.map (fun s => { powered := s.powered, attempts := s.attempts, silent := s.silent, reports := s.reports })
    clocks := Vector.ofFn (fun n => if n.val = 8 then {} else e.clocks.get n)
    faults := Vector.ofFn (fun s => if onLineDie s.val then e.faults.get s else {})
    samplers := e.samplers
    ports := Vector.ofFn (fun p =>
      let s := e.ports.get p
      { link := s.link, signal := s.signal, crypt := s.crypt, tlm := s.tlm, trims := s.trims, slots := (d.ports.get p).slotsKept }) }

/-- A domain's supplies have become valid. -/
def Dev.powerOn (d : Dev) : Domain → Dev
  | .host => if d.life = .off then d.hostDark else d
  | .field => d.fieldOn

/-- `POWER_ON` (R438). -/
def execPowerOn (dom : Domain) (s : State) : Host.Outcome State Fault Refusal := s.event (fun d => d.powerOn dom)

/-- A rail of a domain falls: its dies return to power-on reset. -/
def Dev.powerLoss (d : Dev) : Domain → Dev
  | .host => { d.hostDark with life := .off }
  | .field => if d.fieldValid then { d with fieldValid := false }.eachDie (fun n d => d.dieDark n) else d

/-- `DOMAIN_POWER_LOSS` (R438). -/
def execDomainPowerLoss (dom : Domain) (s : State) : Host.Outcome State Fault Refusal := s.event (fun d => d.powerLoss dom)

/-- `FIELD_DOMAIN_VALID` (R439). -/
def execFieldDomainValid (s : State) : Host.Outcome State Fault Refusal := s.event (fun d => d.fieldOn)

/-- RST_N has gone low: the module is in reset until START (R382, R389). -/
def Dev.pinReset (d : Dev) : Dev :=
  if d.life = .off then d else let d := d.powerUp 1; { d with pins := { d.pins with resetLow := true } }

/-- `PIN_RESET` (R382). -/
def execPinReset (s : State) : Host.Outcome State Fault Refusal := s.event (fun d => d.pinReset)

/-! ## Option loading (R387, R388) -/

/-- `n` bytes of a copy from an offset, as a number. -/
def optionAt (o : OptionCopy) (offset n : Nat) : Nat := natOf ((o.bytes.drop offset).take n)

/-- A copy is valid: whole, MAGIC, FORMAT and CRC-32C fit, and no field is out of its range (R388). -/
def optionGood (o : OptionCopy) : Bool :=
  o.bytes.length = 4096 && o.bytes.take 4 = ascii "DZOB" && optionAt o 4 1 = 1
  && crc32c ((o.bytes.take 4092).map BitVec.toNat) = optionAt o 4092 4
  && optionAt o 12 1 ≤ 1 && 1 ≤ optionAt o 13 1 && optionAt o 13 1 ≤ 128 && 1 ≤ optionAt o 14 1 && optionAt o 14 1 ≤ 128
  && optionAt o 15 1 < 4 && optionAt o 16 2 < 0x100

/-- The copy that the device uses, and OPTION_SOURCE. -/
def chosenCopy (c : Vector OptionCopy 2) : Option (OptionCopy × Nat) :=
  let a := c.get 0
  let b := c.get 1
  if optionGood a then (if optionGood b && newer (optionAt b 8 4) (optionAt a 8 4) then some (b, 1) else some (a, 0))
  else if optionGood b then some (b, 1) else none

/-- The options of a start. -/
def optionsOf (straps : Nat) (c : Vector OptionCopy 2) : Options :=
  match chosenCopy c with
  | some (o, source) => {
      source := source, sequence := optionAt o 8 4, twillIndependent := optionAt o 12 1 = 1, watchDelayH := optionAt o 13 1, watchDelayF := optionAt o 14 1,
      forceFull := (optionAt o 15 1).testBit 0, holdIslands := (optionAt o 15 1).testBit 1, pinEnable := optionAt o 16 2, digest := Config.shake256 o.bytes 64 }
  | none => { twillIndependent := straps.testBit 8 }

/-- Straps and options are in place; the node ID gives the management address its power-on value, and node 0 coordinates the management link (R63, R64). -/
def Dev.loadOptions (d : Dev) (env : StartEnv) : Dev :=
  let straps := env.straps &&& 0x177
  let o := optionsOf straps env.copies
  let d := { d with options := o }.onHall (fun h => { h with optionBlock := env.copies })
  let d := (((d.put 0x1800 8 straps).put 0x1800 7 o.source).put 0x1800 9 o.sequence).put 0x3000 1 (if o.twillIndependent then 1 else 0)
  ((d.put 0x1420 2 (straps % 8)).put 0x1420 1 (0x247575A0000 + straps % 8)).onMgmt (fun m => { m with coordinator := straps % 8 = 0 })

/-! ## Start (R390 to R393) -/

/-- Body of a BOOT entry. -/
def Dev.bootBody (d : Dev) (kind : Nat) : List Byte := bytesOf 1 kind ++ bytesOf 1 d.hall.activeSlot.val ++ bytesOf 1 (d.get 0x1800 3)

/-- START_STATE enters a step, which eMRAM records. -/
def Dev.startStep (d : Dev) (st : Nat) : Dev := { d with nv := { d.nv with lastStep := st } }.put 0x1800 1 st

/-- Every image of a slot's set may run: the set is valid, and no level is below its fuse (R243). -/
def slotRuns (v : Vault) (s : ImageSet) : Bool := s.valid && (allFin 4).all (fun i => v.fuseLevels.get i ≤ s.levels.get i)

/-- Hallmark's check of a slot's images before they run: digests and signature as the flash reads now, and the levels (R30, R242, R243). -/
def Dev.slotChecked (d : Dev) (v : Vault) (ok : Bool) (k : Fin 2) : Bool := ok && slotRuns v (d.hall.slots.get k)

/-- The slot that the controller starts from (R390). -/
def Dev.startSlot (d : Dev) (v : Vault) (env : StartEnv) : Option (Fin 2) :=
  let a := d.hall.activeSlot
  let b := 1 - a
  if d.slotChecked v (env.imageOk.get a) a then some a else if d.slotChecked v (env.imageOk.get b) b then some b else none

/-- The objects that show slots and versions. -/
def Dev.showSlots (d : Dev) : Dev :=
  let s := d.hall.slots.get d.hall.activeSlot
  let d := (allFin 4).foldl (fun d i => d.put 0x1020 (i.val + 1) (s.versions.get i)) d
  (d.put 0x6440 1 d.hall.activeSlot.val).showVersions

/-- FW_STAGE_STATE after any start: TRIAL while a set in trial has its way back, else IDLE (R244, R246). -/
def Dev.showTrial (d : Dev) : Dev := d.put 0x6440 5 (if d.hall.trialPrev.isSome then 6 else 0)

/-- The recovery loader serves, the firmware objects as the flash and the trial leave them (R244, R246, R393). -/
def Dev.recoveryEnter (d : Dev) : Dev :=
  let d := { d with life := .running, nv := { d.nv with toRecovery := false } }
  let d := ((d.put 0x1800 1 6).put 0x6400 1 2).onMgmt (fun m => { m with serving := true, recovery := true })
  (d.showSlots.showTrial).touchEvent 0x0003 (d.bootBody (d.get 0x1800 2))

/-- Step 4: the voltage loops start from the regulators' outputs, the islands are released. -/
def Dev.startLoops (d : Dev) (volts : Nat × Nat) : Dev :=
  let run := fun (l : PaceLoop) => { l with running := true, highSince := none, avsFails := 0, goodSince := none }
  (((d.onLoop .field run).onLoop .host run).put 0x120D 1 (volts.1 % 65536)).put 0x120D 2 (volts.2 % 65536)

/-- Every clock of a die has passed its eight measurements, and the islands that the option block does not hold leave reset (R380, R381). -/
def Dev.dieQualifies (d : Dev) (n : DieId) : Dev :=
  if (d.clock n).phase ≠ .onReference then d
  else
    (d.onClock n (fun c => { c with
      qualified := clockCodes.map (fun k => (k, 8))
      released := c.released ++ (startIslands d.options n).filter (fun k => k ∉ c.released), deferred := [] })).clockBits n [0]

/-- Step 5: a port's temper slots are validated (R362). -/
def Dev.temperValidate (d : Dev) (p : Port) : Dev :=
  let d := d.onPort p (fun s => { s with slots := s.slots.map (fun t => { t with cond := slotCondition p t.bytes }) })
  let a := ((d.port p).slots.get 0).cond
  let b := ((d.port p).slots.get 1).cond
  let d := (d.put (0x5980 + p) 1 a).put (0x5980 + p) 2 b
  let d := match d.newestSlot p with
    | some k => d.put (0x5880 + p) 5 k.val
    | none => (d.event (0x5A80 + p) 6).notice (srcPort p) 16 0
  if a = 1 || a = 2 || b = 1 || b = 2 then d.event (0x5A80 + p) 5 else d

/-- Why a start is full (R391): the first condition that fails, or 0. -/
def Dev.fullReason (d : Dev) : Nat :=
  let rs := (allFin 9).map (fun n => (d.engineOf n).shutdown)
  let all := fun (f : AssayRec → Bool) => rs.all (fun r => match r with | some a => f a | none => false)
  if !all (fun _ => true) then 1
  else if !all (fun a => a.result = 1) then 2
  else if !all (fun a => a.setVersion = d.setVersion) then 3
  else if !all (fun a => a.optionDigest = d.options.digest.take 16) then 4
  else if !all (fun a => !a.used) then 5
  else if d.options.forceFull then 6
  else if !all (fun a => a.intact) then 7
  else 0

/-- The start marks the shutdown records as used. -/
def Dev.markUsed (d : Dev) : Dev := { d with assay := d.assay.map (fun a => { a with shutdown := a.shutdown.map (fun r => { r with used := true }) }) }

/-- Taps on which a lane has trained: free within R286 (log entry 7). -/
def trainedTaps (draw : Nat) : Nat :=
  let pre := Config.freeValue draw 0 % 9
  let post := Config.freeValue draw 1 % 13
  tapsValue (-(pre : Int), 48 - (pre : Int) - (post : Int), -(post : Int))

/-- Step 6: a line die qualifies its reference, its link trains on every lane that islands held at neither end allow, it loads its microcode, and runs when that is
good (R31, R381). -/
def Dev.startDie (d : Dev) (n : Die) : Dev :=
  let d := d.dieQualifies (dieId n)
  if !d.twillFree n || !d.answersTrain n then d
  else
  let d := (List.range 34).foldl (fun d l =>
    ((d.put (0x3200 + 2 * n.val) (l + 1) (trainedTaps d.draws)).put (0x3201 + 2 * n.val) (l + 1) (trainedTaps (d.draws + 1))).newDraw.newDraw) d
  (((d.attempt n).windowEnd n (2 ^ 34 - 1) (2 ^ 34 - 1)).aligned n).dieLoaded n

/-- Step 7: the record of a die's start-up program; one that is no PASS is FATAL against the die's core (R421). -/
def Dev.startRecord (d : Dev) (env : StartEnv) (n : DieId) : Dev :=
  match env.assay.get n with
  | none => d
  | some r =>
    let a := d.assayRecord 2 r
    let d := (d.onAssay n (fun e => { e with last := some a })).put 0x6804 (n + 1) 2
    if a.result = 1 then d
    else match lineDie? n with
      | some m => d.report { source := srcCore m, kind := 18 }
      | none => d

/-- Step 8: start complete. -/
def Dev.complete (d : Dev) (env : StartEnv) : Dev :=
  let d := { d with life := .running, nv := { d.nv with fails := 0, failStep := 0xFF } }
  let d := ((((d.startStep 5).put 0x1800 6 0).put 0x1800 0xB 0xFF).put 0x1800 5 env.milliseconds).put 0x1010 9 2
  d.eachPort (fun p d => ((d.laneStarts p).trimsLoad p).enable p)

/-- Steps 5 to 8. -/
def Dev.startRest (d : Dev) (env : StartEnv) : Dev :=
  let d := d.startStep 3
  let d := (d.eachPort (fun p d => d.temperValidate p))
  let why := d.fullReason
  let d := (d.markUsed.put 0x1800 3 (if why = 0 then 1 else 0)).put 0x1800 4 why
  let d := d.touchEvent 0x0003 (d.bootBody (d.get 0x1800 2))
  let d := d.eachDie (fun n d =>
    if !(d.dies.get n).powered then d.dieAbsent n |>.notice (srcLink n) 15 0
    else if env.diesUp.get n then (d.islandsWait n).startDie n else d.islandsWait n)
  let d := if why = 0 then d else (allFin 9).foldl (fun d n => d.startRecord env n) (d.startStep 4)
  let d := d.complete env
  if why ≠ 0 && (match env.assay.get 8 with | some r => assayResult r ≠ 1 | none => false) then d.report { source := srcFaultSystem, kind := 18 } else d

/-- Steps 3 to 8: the start stops at the step whose images or reference are not there, and then fails under R392. -/
def Dev.startRun (d : Dev) (v : Vault) (env : StartEnv) : Dev :=
  let d := { d with nv := { d.nv with fails := d.nv.fails + 1 } }
  let d := (d.put 0x1800 6 d.nv.fails).startStep 1
  if !env.hallmarkImageOk then d
  else match d.startSlot v env with
    | none => d.put 0x6400 1 1
    | some k =>
      let d := (((d.put 0x6400 1 1).onHall (fun h => { h with activeSlot := k, imagesGood := true })).showSlots).showTrial
      let d := ((d.onMgmt (fun m => { m with serving := true })).startStep 2).startLoops env.regulators
      if env.hrefQualified then (d.dieQualifies hd).startRest env else d

/-! ## Warm reset (R43, R384, R385) -/

/-- Every block returns to NORMAL, but one whose port stays DOWN by it (R403). -/
def Dev.faultsNormal (d : Dev) : Dev :=
  (List.range 969).foldl (fun d s =>
    match block? s with
    | some (.port p) => if d.linkState p = 11 && 4 ≤ d.faultState s && !d.safe then d else d.blockNormal s
    | some (.hostLane p) => if d.linkState p = 11 && 4 ≤ d.faultState s && !d.safe then d else d.blockNormal s
    | _ => d.blockNormal s) d

/-- The controller's own state starts again; the configuration check's result stays (R51). -/
def Mgmt.restarted (m : Mgmt) : Mgmt :=
  { m with kept := [], commits := [], snaps := [], notify := [], readLatch := [], writeLatch := [], softReset := [], idleAsked := [], serving := true
           romServes := false }

/-- A warm reset's first step for a port: runs end, every queue is discarded as FAULT, frames in flight end (R268, R384). -/
def Dev.portStops (d : Dev) (p : Port) : Dev := ((d.calEnd p 5).diagEnd p).discardAll p 1

/-- A standard link that a warm reset ends reads mode 0 until it has trained again (R81). -/
def Dev.standardStops (d : Dev) (p : Port) : Dev :=
  if d.linkUp p && !d.native p then d.onLink p (fun l => { l with untrained := true }) else d

/-- A port through a warm reset: its link relocks or trains again. -/
def Dev.portWarm (d : Dev) (p : Port) : Dev :=
  let d := if d.linkState p = 9 then (d.cutLink p {}).negotiate p else d
  if (d.port p).tested || d.faultState (srcHostLane p) ≥ 4 || d.hlState p ≠ 0 then d else d.laneStarts p

/-- Step 4 of a warm reset: the loops run and the start is complete, when Hallmark has found the images of the active slot good. Else nothing serves, and
START_STATE stays at the step of the check (R30, R384; log entry 88). -/
def Dev.warmServes (d : Dev) (v : Vault) (env : WarmEnv) : Dev :=
  if d.slotChecked v env.imagesOk d.hall.activeSlot then
    ((((d.put 0x1800 1 5).put 0x6400 1 1).onHall (fun h => { h with imagesGood := true })).showSlots).startLoops env.regulators
  else
    let stop := fun (l : PaceLoop) => { l with running := false }
    ((((d.put 0x1800 1 1).put 0x6400 1 0).onLoop .field stop).onLoop .host stop).onMgmt (fun m => { m with serving := false })

/-- A warm reset, whole. -/
def Dev.warmReset (d : Dev) (v : Vault) (env : WarmEnv) : Dev :=
  let d := ((d.touchEvent 0x0003 (d.bootBody 2)).serviceClear).eachPort (fun p d => (d.portStops p).standardStops p)
  let d := ((d.injectEnd.assayAbortAll).eachDie (fun n d => d.testFinish n 3)).sessionsEnd
  let d := { d.faultsNormal with safe := false, blockReset := [], warmCount := d.warmCount + 1, temperSelect := none }
  let d := { d with objs := d.objs.filter (fun e => Catalog.kept (e.1 / 256) (e.1 % 256)) }.windowsForget
  let d := ((d.onMgmt Mgmt.restarted).newDraw.onHall (fun h => { h.nonVolatile with challenge := d.draws })).gapEntry
  let d := (d.showTrial.put 0x1800 2 2).put 0x1800 5 env.milliseconds
  let d := (d.put 0x1010 9 2).warmServes v env
  let d := d.eachDie (fun n d => if d.dieReachable n && d.dieState n ≠ 3 then d.dieReset n 2 else d.samplerEnd n)
  d.eachPort (fun p d => ((d.portWarm p).portRise p).tlmSettle p)

/-- WRST_N: deferred during a start and during an activation (R385); in recovery mode only the sessions end. -/
def Dev.warmAsked (d : Dev) (v : Vault) (env : WarmEnv) : Dev :=
  match d.life with
  | .off => d
  | .starting => d.put 0x1800 0xA 1
  | .running =>
    if d.mgmt.recovery then d.sessionsEnd
    else if d.activating then (d.onHall (fun h => { h with fw := { h.fw with warmWaits := true } })).put 0x1800 0xA 1
    else d.warmReset v env

/-- `WARM_RESET` (R384). -/
def execWarmReset (env : WarmEnv) (s : State) : Host.Outcome State Fault Refusal := s.event (fun d => d.warmAsked s.vault env)

/-- What a warm reset that nobody's command describes finds: the voltages held; a time within R384's bound, free (log entry 7). -/
def Dev.warmEnv (d : Dev) : WarmEnv := { regulators := (d.get 0x120D 1, d.get 0x120D 2), milliseconds := Config.freeValue d.draws 2 % 501 }

/-- A deferred warm reset runs, and WARM_DEFERRED shows it (log entry 43). -/
def Dev.warmDeferred (d : Dev) (v : Vault) (env : WarmEnv) : Dev :=
  if d.flag 0x1800 0xA then (d.warmReset v env).put 0x1800 0xA 1 else d

/-- A start, from the release of RST_N. In BLANK only Hallmark's boot ROM runs (R217; log entry 30). -/
def Dev.start (d : Dev) (v : Vault) (env : StartEnv) : Dev :=
  if d.life ≠ .starting || d.nv.lastStep ≠ 0 then d
  else
    let d := { d with pins := { d.pins with resetLow := false } }.loadOptions env
    if v.lifecycle = 0 then d
    else
      let d := (d.put 0x1800 6 d.nv.fails).put 0x1800 0xB d.nv.failStep
      if 3 ≤ d.nv.fails || d.nv.toRecovery then d.recoveryEnter
      else
        let d := d.startRun v env
        if d.life = .running then d.warmDeferred v d.warmEnv else d

/-- `START` (R390). -/
def execStart (env : StartEnv) (s : State) : Host.Outcome State Fault Refusal := s.event (fun d => d.start s.vault env)

/-- A set in trial is given up for the slot it replaced (R246). -/
def Dev.revertSlot (d : Dev) (reason : Nat) : Dev :=
  match d.hall.trialPrev with
  | none => d
  | some k => (d.onHall (fun h => { h with
      activeSlot := k, trialPrev := none, slots := h.slots.map (fun s => { s with inTrial := false }) })).touchEvent 0x0023 (bytesOf 1 k.val ++ bytesOf 1 reason)

/-- 20 s without start complete: the start has failed, and the device restarts itself (R392). -/
def Dev.startTimeout (d : Dev) : Dev :=
  if d.life ≠ .starting then d
  else
    let d := { d with nv := { d.nv with failStep := d.nv.lastStep } }
    (d.revertSlot 2).powerUp 1

/-- `START_TIMEOUT` (R392). -/
def execStartTimeout (s : State) : Host.Outcome State Fault Refusal := s.event (fun d => d.startTimeout)

/-- A write to RECOVERY_EXIT. -/
def Dev.recoveryExitOp (d : Dev) (r : Req) (vault : Vault) (v : Nat) : Op :=
  { d.command r 0x1806 0 v
      [(!d.mgmt.recovery || (v = 1 && !slotRuns vault (d.hall.slots.get 0)) || (v = 2 && !slotRuns vault (d.hall.slots.get 1)), .state),
       (v ≠ 1 && v ≠ 2, .range)] id with
    later := fun d =>
      let d := d.onHall (fun h => { h with activeSlot := if v = 1 then 0 else 1 })
      { d with nv := { d.nv with fails := 0 } }.powerUp 1 }

/-- `RECOVERY_EXIT` (R394). -/
def execRecoveryExit (r : Req) (v : Nat) (s : State) : Host.Outcome State Fault Refusal :=
  s.write r 0x1806 0 (fun vault d => d.recoveryExitOp r vault v)

/-! ## RESET_REQUEST (R383) -/

/-- The target of a die or a port reset is in SELF_TEST. -/
def Dev.resetTested (d : Dev) (kind target : Nat) : Bool :=
  (kind = 2 && target < 8 && d.get 0x1010 (target + 1) = 4)
  || (if h : kind = 3 ∧ target < 128 then d.linkState ⟨target, h.2⟩ = 10 else false)

/-- What a die reset, a port reset or a block reset does. -/
def Dev.resetOne (d : Dev) (kind target block : Nat) : Dev :=
  match kind with
  | 2 => if h : target < 8 then (if d.dieReachable ⟨target, h⟩ && d.dieState ⟨target, h⟩ ≠ 3 then d.dieReset ⟨target, h⟩ 2 else d) else d
  | 3 =>
    if h : target < 128 then
      let p : Port := ⟨target, h⟩
      (if d.faultState (srcStamp p) = 4 then d.blockNormal (srcStamp p) else d).portLogicReset p 1
    else d
  | 4 => (d.blockResetStart block).lanesLeft block
  | _ => d

/-- A write to RESET_REQUEST: KIND, TARGET, BLOCK. A warm reset starts once it has been answered. -/
def Dev.resetOp (d : Dev) (r : Req) (vault : Vault) (kind target block : Nat) (env : WarmEnv) : Op where
  checks :=
    [((kind = 1 || kind = 2) && (vault.lifecycle = 2 || vault.lifecycle = 3) && !d.permits r 1, .auth),
     (d.resetTested kind target || d.activating || d.life ≠ .running || d.mgmt.recovery, .busy),
     (d.safe && kind ≠ 1, .state),
     (kind = 0 || 4 < kind || (kind = 1 && target ≠ 0) || (kind = 2 && 7 < target) || (kind = 3 && 127 < target)
        || (kind = 4 && (block? block).isNone), .range)]
  effect := fun d => if kind = 1 then d else d.resetOne kind target block
  later := fun d => if kind = 1 then d.warmReset vault env else d

/-- `WARM_RESET_REQUEST` (R383, R384). -/
def execWarmResetRequest (r : Req) (env : WarmEnv) (s : State) : Host.Outcome State Fault Refusal :=
  s.write r 0x1804 0 (fun v d => d.resetOp r v 1 0 0 env)

/-- `DIE_RESET_REQUEST` (R382, R383). -/
def execDieResetRequest (r : Req) (die : Nat) (s : State) : Host.Outcome State Fault Refusal :=
  s.write r 0x1804 0 (fun v d => d.resetOp r v 2 die 0 {})

/-- `PORT_RESET_REQUEST` (R382, R383). -/
def execPortResetRequest (r : Req) (port : Nat) (s : State) : Host.Outcome State Fault Refusal :=
  s.write r 0x1804 0 (fun v d => d.resetOp r v 3 port 0 {})

/-- `BLOCK_RESET_REQUEST` (R383, R386). -/
def execBlockResetRequest (r : Req) (source : Nat) (s : State) : Host.Outcome State Fault Refusal :=
  s.write r 0x1804 0 (fun v d => d.resetOp r v 4 0 source {})

/-- `WRAPPER_CUT` (R386): a handshake has been cut after 20 µs. -/
def execWrapperCut (source : Nat) (s : State) : Host.Outcome State Fault Refusal :=
  s.event (fun d => if source ∈ d.blockReset then (d.faultBits source 0x100).report { source := source, kind := 8 } else d)

/-- `BLOCK_REINITIALISED` (R386). -/
def execBlockReinitialised (source : Nat) (s : State) : Host.Outcome State Fault Refusal := s.event (fun d => if source ∈ d.blockReset then (d.blockResetEnd source).inbandWake else d)

/-! ## A fallback that is not confirmed (R374) -/

/-- The die stays in its safe state; the host die restarts into recovery mode. -/
def Dev.fallbackFails (d : Dev) (n : DieId) : Dev :=
  if (d.clock n).phase ≠ .delay && (d.clock n).phase ≠ .confirming then d
  else
    let d := (d.clockPhase n .fallbackFailed).clockBits n [8]
    if n.val = 8 then { d with nv := { d.nv with toRecovery := true } }.powerUp 1 else d

/-- `FALLBACK_FAILED` (R374). -/
def execFallbackFailed (die : DieId) (s : State) : Host.Outcome State Fault Refusal := s.event (fun d => d.fallbackFails die)

/-! ## Test access port (R461) -/

/-- `TAP_INSTRUCTION` (R461): no public instruction changes the state that the model holds. A private one exists in MANUFACTURE and RETURNED only, and the
spec gives it no effect; elsewhere its code is BYPASS. -/
def execTapInstruction (code : TapCode) (s : State) : Host.Outcome State Fault Refusal :=
  match code with
  | .vendor _ => if s.vault.lifecycle = 1 || s.vault.lifecycle = 4 then .refused .privateTapInstruction else .next s
  | .idcode => s.event (fun d => d.emit (.tdo 0x12800C6B))
  | _ => .next s

end Sys2Proof.Machine
end

