-- ==== Sys2Proof/Machine/Firmware.lean ====
section
/-! DEFINITION. Firmware: staging, verification, activation by a rolling warm reset, trial, confirmation and reversion; Hallmark's verifying engine
(R212, R238, R241 to R246). In RETIRED there is no firmware update: its writes answer ERR_STATE (R217; log entry 30). -/

namespace Sys2Proof.Machine

/-! ## Staging (R244) -/

/-- The slot's set is erased, and with it what waits for its verification. -/
def Dev.stageErase (d : Dev) (r : Req) (slot length : Nat) : Dev :=
  let waits := decide (d.stage6440 = 2)
  let d := d.onHall (fun h => { h with
    slots := upd h.slots (slotOf slot) (fun _ => {})
    verifyQueue := h.verifyQueue.filter (fun j => match j with | .image _ => false | _ => true)
    fw := { h.fw with slot := slot, length := length, received := [], owner := r.session } })
  (if waits then d.giveBack 1 else d).put 0x6440 5 1 |>.showVersions

/-- A write to FW_STAGE_BEGIN: in recovery mode either slot may be staged (R393). -/
def Dev.stageBeginOp (d : Dev) (r : Req) (slot length : Nat) : Op :=
  d.command r 0x6440 2 0
    [(d.stagedByOther r, .busy), d.roomToLog,
     (d.hall.logClosed, .state), ((slot = d.hall.activeSlot.val && !d.mgmt.recovery) || d.hall.trialPrev.isSome || d.stage6440 = 5 || d.stage6440 = 6, .state),
     (1 < slot || slotBytes < length, .range)]
    (fun d => d.stageErase r slot length)

/-- `FW_STAGE_BEGIN` (R244). -/
def execFwStageBegin (r : Req) (slot length : Nat) (s : State) : Host.Outcome State Fault Refusal :=
  s.write r 0x6440 2 (fun _ d => d.stageBeginOp r (slot % 256) (length % 2 ^ 32))

/-- Erased flash reads as ones; bytes go over it at an offset. -/
def overlay (old : List Byte) (offset : Nat) (new : List Byte) : List Byte :=
  old.take offset ++ List.replicate (offset - old.length) 0xFF ++ new ++ old.drop (offset + new.length)

/-- A write to FW_STAGE_DATA. -/
def Dev.stageDataOp (d : Dev) (r : Req) (offset count : Nat) (data : List Byte) : Op :=
  d.command r 0x6440 3 0
    [(d.stagedByOther r, .busy), (d.hall.logClosed || (d.stage6440 != 1), .state),
     (count = 0 || 1016 < count || d.hall.fw.length < offset + count, .range)]
    (fun d => d.onFw (fun f => { f with received := overlay f.received offset (exactly count data) }))

/-- `FW_STAGE_DATA` (R244). -/
def execFwStageData (r : Req) (offset count : Nat) (data : List Byte) (s : State) : Host.Outcome State Fault Refusal :=
  s.write r 0x6440 3 (fun _ d => d.stageDataOp r (offset % 2 ^ 32) (count % 65536) data)

/-- A write to FW_STAGE_VERIFY: the entry of its result is reserved, and Hallmark's verifying engine is asked (R212, R238). -/
def Dev.stageVerifyOp (d : Dev) (r : Req) (v : Nat) : Op :=
  d.one r 0x6440 4 v [(d.stagedByOther r, .busy), d.roomToLog, (d.hall.logClosed || (d.stage6440 != 1), .state)]
    (fun d => (d.put 0x6440 5 2).onHall (fun h => { h with reserved := h.reserved + 1, verifyQueue := h.verifyQueue ++ [.image h.fw.slot] }))

/-- `FW_STAGE_VERIFY` (R242, R244). -/
def execFwStageVerify (r : Req) (v : Nat) (s : State) : Host.Outcome State Fault Refusal := s.write r 0x6440 4 (fun _ d => d.stageVerifyOp r v)

/-! ## Verification (R212, R244) -/

/-- `FW_VERIFY_DONE` (R212, R242 to R244): the set has come to the front of the verifying engine's queue. -/
def execFwVerifyDone (s : State) : Host.Outcome State Fault Refusal := 
  s.event (fun d => if d.hall.verifyQueue.head?.any HallJob.isImage then d.verifyDone s.vault else d)

/-- `HALLMARK_VERIFY_DONE` (R212). -/
def execHallmarkVerifyDone (s : State) : Host.Outcome State Fault Refusal := s.event (fun d => d.verifyDone s.vault)

/-! ## The rolling warm reset (R245) -/

/-- The class 3 image differs between two slots. -/
def Dev.microcodeDiffers (d : Dev) (a b : Fin 2) : Bool := (d.hall.slots.get a).digests.get 2 ≠ (d.hall.slots.get b).digests.get 2

/-- Controller and Hallmark stop: step 1, and the beginning of step 2. The data path runs on. -/
def Dev.rollingStart (d : Dev) (dest : Fin 2) (reverting : Option Nat) : Dev :=
  let dies := if d.microcodeDiffers d.hall.activeSlot dest then allFin 8 else []
  let stop := fun (l : PaceLoop) => { l with running := false }
  let d := ((d.sessionsEnd.onLoop .field stop).onLoop .host stop).onMgmt (fun m => { m.restarted with serving := false, romServes := m.romServes })
  let d := (d.newDraw.onHall (fun h => { h.restarted with
    touchSelect := none, challenge := d.draws
    fw := { h.fw with target := dest.val, diesLeft := dies, diesDone := [], reverting := reverting } })).setStage 5
  (((d.put 0x6460 2 0).put 0x6460 3 0).put 0x6400 1 0).gapEntry

/-- The rolling warm reset ends: TRIAL, or IDLE after a reversion; then a warm reset that waited runs (R385). -/
def Dev.rollingEnd (d : Dev) (v : Vault) : Dev :=
  let back := d.hall.fw.reverting.isSome
  let waits := d.hall.fw.warmWaits
  let d := d.onHall (fun h => { h with
    trialPrev := if back then none else h.trialPrev
    slots := if back then h.slots.map (fun s => { s with inTrial := false }) else upd h.slots h.activeSlot (fun s => { s with inTrial := true })
    fw := {} })
  let d := (d.setStage (if back then 0 else 6)).showSlots
  if waits then d.warmDeferred v d.warmEnv else d

/-- `FW_CONTROLLER_RESTARTED` (R245 step 2): loops run from the voltages held; a set that replaces another is in trial. A set that may not run starts nothing
(R30, R243). -/
def Dev.controllerRestarted (d : Dev) (v : Vault) : Dev :=
  if d.stage6440 ≠ 5 || d.mgmt.serving || !slotRuns v (d.hall.slots.get (slotOf d.hall.fw.target)) then d
  else
    let dest := slotOf d.hall.fw.target
    let d := d.onHall (fun h => { h with
      activeSlot := dest, imagesGood := true, trialPrev := if h.fw.reverting.isSome then h.trialPrev else some h.activeSlot })
    let d := (((d.put 0x6400 1 1).onMgmt (fun m => { m with serving := true })).startLoops (d.get 0x120D 1, d.get 0x120D 2)).put 0x6440 1 dest.val
    if d.hall.fw.diesLeft = [] then d.rollingEnd v else d

def execFwControllerRestarted (s : State) : Host.Outcome State Fault Refusal := s.event (fun d => d.controllerRestarted s.vault)

/-- The next line die takes its microcode and a die warm reset; a die that cannot be reached is passed over. After the last, the reset ends. -/
def Dev.dieNext (d : Dev) (v : Vault) : Dev :=
  if d.stage6440 ≠ 5 || !d.mgmt.serving || (allFin 8).any (fun n => d.dieState n = 3) then d
  else match d.hall.fw.diesLeft.find? (fun n => d.dieReachable n) with
    | none => d.rollingEnd v
    | some n => (d.onFw (fun f => { f with diesLeft := f.diesLeft.dropWhile (fun m => m ≠ n) })).dieReset n 3

/-- `FW_DIE_NEXT` (R245 steps 3 and 4). -/
def execFwDieNext (s : State) : Host.Outcome State Fault Refusal := s.event (fun d => d.dieNext s.vault)

/-- DIES_RESET of FW_ACTIVATED: one bit for each line die whose class 3 image changes. -/
def Dev.diesMask (d : Dev) (dest : Fin 2) : Nat := if d.microcodeDiffers d.hall.activeSlot dest then 0xFF else 0

/-- A write to FW_ACTIVATE. -/
def Dev.activateOp (d : Dev) (r : Req) (v : Nat) : Op :=
  { d.one r 0x6440 7 v
      [((List.range 9).any (fun i => d.get 0x1010 (i + 1) = 4), .busy), d.roomToLog, (d.hall.logClosed || (d.stage6440 != 3), .state)]
      (fun d =>
        let dest := slotOf d.hall.fw.slot
        d.touch 0x0021 (bytesOf 1 dest.val ++ bytesOf 4 (d.hall.slots.get dest).setVersion ++ bytesOf 1 (d.diesMask dest))) with
    later := fun d => d.rollingStart (slotOf d.hall.fw.slot) none }

/-- `FW_ACTIVATE` (R244, R245). -/
def execFwActivate (r : Req) (v : Nat) (s : State) : Host.Outcome State Fault Refusal := s.write r 0x6440 7 (fun _ d => d.activateOp r v)

/-! ## Trial (R243, R244, R246) -/

/-- A write to FW_CONFIRM: the fuses rise to the levels of the active set. -/
def confirmOp (d : Dev) (r : Req) (v : Nat) : VOp where
  checks := d.gate r 0x6440 ++ [(misfits 0x6440 8 v, .type), d.roomToLog, (d.hall.logClosed || (d.stage6440 != 6), .state), ((v != 1), .range)]
  effect := fun v d =>
    let s := d.hall.slots.get d.hall.activeSlot
    let levels := Vector.ofFn (fun (i : Fin 4) => max (v.fuseLevels.get i) (s.levels.get i))
    let d := d.onHall (fun h => { h with trialPrev := none, slots := h.slots.map (fun s => { s with inTrial := false }) })
    ({ v with fuseLevels := levels }, (d.setStage 0).touch 0x0022 (levels.toList.flatMap (fun l => bytesOf 1 l)))

/-- `FW_CONFIRM` (R243, R244). -/
def execFwConfirm (r : Req) (v : Nat) (s : State) : Host.Outcome State Fault Refusal :=
  s.vaultWrite r 0x6440 8 (s.dev.hears r.route) (confirmOp s.dev r v)

/-- The slot that a reversion would go back to. -/
def Dev.replaced (d : Dev) : Fin 2 := d.hall.trialPrev.getD (1 - d.hall.activeSlot)

/-- A write to FW_REVERT. -/
def Dev.revertOp (d : Dev) (r : Req) (vault : Vault) (v : Nat) : Op :=
  { d.one r 0x6440 9 v [d.roomToLog, (d.hall.logClosed || d.stage6440 ≠ 6 || !slotRuns vault (d.hall.slots.get d.replaced), .state)]
      (fun d => d.touch 0x0023 (bytesOf 1 d.replaced.val ++ bytesOf 1 1)) with
    later := fun d => d.rollingStart d.replaced (some 1) }

/-- `FW_REVERT` (R244, R246). -/
def execFwRevert (r : Req) (v : Nat) (s : State) : Host.Outcome State Fault Refusal := s.write r 0x6440 9 (fun vault d => d.revertOp r vault v)

/-- The restarted controller has not reached start complete within 20 s: back to the slot before, which still is the active one. -/
def Dev.trialTimeout (d : Dev) : Dev :=
  if d.stage6440 ≠ 5 || d.mgmt.serving || d.hall.fw.reverting.isSome then d
  else
    let d := d.onFw (fun f => { f with target := d.hall.activeSlot.val, diesLeft := [], reverting := some 2 })
    d.touchEvent 0x0023 (bytesOf 1 d.hall.activeSlot.val ++ bytesOf 1 2)

/-- `FW_TRIAL_TIMEOUT` (R246). -/
def execFwTrialTimeout (s : State) : Host.Outcome State Fault Refusal := s.event Dev.trialTimeout

end Sys2Proof.Machine
end

