-- ==== Sys2Proof/Machine/Leds.lean ====
section
/-! DEFINITION. The LED stream (R395, R427, R428). -/

namespace Sys2Proof.Machine

/-- A frame was carried in the last 50 ms (R428). -/
def Dev.lit (d : Dev) (p : Port) : Bool :=
  match d.pins.sledActivity.get p with
  | some t => d.uptime < t + 50000
  | none => false

/-- The rate class of a mode. -/
def rateClass (mode : Nat) : Nat := if 8 ≤ mode then 3 else if 6 ≤ mode then 2 else if 3 ≤ mode then 1 else 0

/-- The four bits of a port, highest first; `SLED_BITS` says how many are sent. -/
def Dev.ledBits (d : Dev) (p : Port) : List Bool :=
  let link := 4 ≤ d.linkState p && d.linkState p ≤ 8
  let rate := if link then rateClass (d.mode p) else 0
  match d.get (0x4000 + p) 2 with
  | 0 => [false, false, false, false]
  | 2 => List.replicate 4 (decide (d.uptime / 250000 % 2 = 0))
  | 3 => [d.linkState p = 11 || d.get (0x1C00 + srcPort p) 6 ≠ 0, d.lit p, rate.testBit 1, rate.testBit 0]
  | _ => [link, d.lit p, rate.testBit 1, rate.testBit 0]

/-- A frame: P127 first, each port's bits highest first. -/
def Dev.sledBits (d : Dev) : List Bool :=
  (allFin 128).reverse.flatMap (fun p => (d.ledBits p).take (d.get 0x1040 2))

/-- `SLED_FRAME`: a frame is shifted out where the pins are configured (R395, R427). -/
def execSledFrame (s : State) : Host.Outcome State Fault Refusal :=
  s.event (fun d =>
    if d.pinsLive && d.options.pinEnable.testBit 0 then ({ d with pins := { d.pins with sledLast := d.sledBits } }).emit (.sled d.sledBits) else d)

end Sys2Proof.Machine
end

