-- ==== Sys2Proof/Machine/Reads.lean ====
section
/-! DEFINITION. Which objects exist, bit aliases, and what a read answers: stored values and those that the device works out when they are read
(R8, R32, R34, R42, R44, R52, R57, R161, R213, R393, R406, R416, R431, R432). -/

namespace Sys2Proof.Machine

/-! ## Objects and aliases -/

/-- What an alias index stands for: index and subindex of the word, and its width in bits (R431). -/
def wordBit? (idx : Nat) : Option (Nat × Nat × Nat) :=
  if idx = 0x7000 ∨ idx = 0x7001 then some (0x1030, idx - 0x7000 + 1, 64)
  else if idx = 0x7002 ∨ idx = 0x7003 then some (0x5F00, idx - 0x7002 + 1, 64)
  else if 0x7100 ≤ idx ∧ idx < 0x7180 then some (0x4400 + (idx - 0x7100), 2, 8)
  else if 0x7180 ≤ idx ∧ idx < 0x7200 then some (0x4480 + (idx - 0x7180), 1, 8)
  else if 0x7200 ≤ idx ∧ idx < 0x7280 then some (0x2280 + (idx - 0x7200), 3, 8)
  else if 0x7280 ≤ idx ∧ idx < 0x7300 then some (0x2200 + (idx - 0x7280), 0xC, 8)
  else if 0x7400 ≤ idx ∧ idx ≤ 0x77C8 then some (0x1C00 + (idx - 0x7400), 4, 32)
  else none

/-- Type and class of an object that exists, or the code of one that does not (R32). A held twin is RO and has its counter's type (R44). -/
def object? (idx sub : Nat) : Ty × Cls ⊕ Code :=
  match wordBit? idx with
  | some (_, _, w) => if sub = 0 then .inl (.u8, .ro) else if sub ≤ w then .inl (.bool, .rw) else .inr .subindex
  | none =>
    match Catalog.rec? idx with
    | none => .inr .index
    | some _ =>
      match Catalog.field? idx sub with
      | some f => .inl (f.ty, f.cls)
      | none =>
        match (if 0x80 ≤ sub then Catalog.field? idx (sub - 0x80) else none) with
        | some f => if f.cls = .cnt then .inl (f.ty, .ro) else .inr .subindex
        | none => .inr .subindex

/-! ## Values that the device works out -/

/-- A byte string as the value of an OCTETS(n). -/
def octetsOf (n : Nat) (l : List Byte) : Nat := natOf (exactly n l)

/-- CKPT_STATE, CKPT_AGE and CKPT_SEQUENCE (R146). -/
def Dev.ckptRead (d : Dev) (p : Port) (sub : Nat) : Nat :=
  match sub with
  | 1 => if (d.reloadSlot p).isSome then 1 else 0
  | 2 => match d.newestCheckpoint p with | some (_, c) => min 0xFFFFFFFE ((d.uptime - c.time) / 1000) | none => 0xFFFFFFFF
  | 3 => match d.newestCheckpoint p with | some (_, c) => c.sequence | none => 0
  | _ => d.get (0x5200 + p) sub

/-- BUNDLE_MAP and BUNDLE_ACTIVE_MAP of a die. -/
def Dev.bundleMap (d : Dev) (n : Nat) (active : Bool) : Nat :=
  (allFin 128).foldl (fun m p =>
    if p.val / 16 = n && d.groupOf p < 4 && (!active || d.cancelled p) then m + 2 ^ (16 * d.groupOf p + localOf p) else m) 0

/-- MANAGER_KEY: key, role and two reserved bytes; zeros when empty (R214). -/
def Vault.managerKey (v : Vault) (i : Nat) : Nat :=
  match (v.managers.toList.getD i none) with
  | some m => natOf (exactly 57 m.pub ++ bytesOf 1 m.role ++ bytesOf 2 0)
  | none => 0

/-- The timing record (R128): what a loop measures is free (log entry 7); TIMING_FREQ_OFFSET lies within the 200 ppm outside which no partner reaches data. -/
def Dev.timingRead (d : Dev) (p : Port) (sub : Nat) : Nat :=
  let role := d.get (0x5180 + p) 4
  let measured := Config.freeValue d.draws (2 ^ 50 + 256 * d.uptime + 2 * p.val + sub % 2)
  if sub = 2 && (role = 2 || role = 3) then unsigned 32 ((measured % 40001 : Nat) - 20000)
  else if sub = 3 && role ≠ 0 then measured % 2 ^ 16
  else d.get (0x5180 + p) sub

/-- An object of a port's records. -/
def Dev.portRead (d : Dev) (p : Port) (base sub : Nat) : Nat :=
  let stored := d.get (base + p) sub
  match base with
  | 0x2100 => if sub = 2 then d.hlSignal p else stored
  | 0x2300 =>
    if sub = 0x23 then d.fcState p
    else if sub = 0x21 then d.occupancy p .egress
    else if sub = 0x22 then d.occupancy p .ingress
    else d.queueDepth p ⟨(sub - 1) % 32, by omega⟩
  | 0x4080 =>
    if sub = 5 then d.effAdvertise p
    else if sub = 4 && d.retrainsUntold p then 0
    else stored
  | 0x4180 =>
    if sub = 0xD then (match (d.port p).link.backoffUntil with | some t => (t - d.uptime + 999) / 1000 | none => 0) else stored
  | 0x4280 => if sub = 0xC then (stored + d.quietUncounted p / 1000) % 2 ^ 32 else stored
  | 0x4300 =>
    if sub = 0x24 then (match (d.port p).selvage.heardAt with | some t => min 0xFFFFFFFE ((d.uptime - t) / 1000) | none => 0xFFFFFFFF) else stored
  | 0x4380 => if sub = 4 then d.disturbers p else stored
  | 0x4400 => if sub = 0xE then d.keyAge p else if sub = 0x13 then d.saStatus p else stored
  | 0x4480 =>
    if sub = 0xA then (match (d.port p).cableAt with | some t => min 0xFFFFFFFE ((d.uptime - t) / 1000000) | none => 0xFFFFFFFF)
    else if sub = 0xB || sub = 0xC then d.pathDelay p (sub = 0xB) else stored
  | 0x5080 => if sub = 5 then d.holdCause p else d.adaptState p ⟨(sub - 1) % 4, by omega⟩
  | 0x5180 => d.timingRead p sub
  | 0x5200 => d.ckptRead p sub
  | 0x5980 => if 3 ≤ sub then ((d.port p).slots.get ⟨(sub - 3) % 2, by omega⟩).shown else stored
  | 0x5E00 => if sub = 0xF then d.tlmState p else stored
  | _ => stored

/-- An object of the security range. -/
def Dev.securityRead (d : Dev) (v : Vault) (idx sub : Nat) : Nat :=
  let stored := d.get idx sub
  match idx with
  | 0x6400 => if sub = 2 then min 255 (d.hall.signQueue.length + d.hall.verifyQueue.length) else stored
  | 0x6410 =>
    if sub = 2 then octetsOf 32 (Config.draw d.hall.challenge 32)
    else if sub = 4 then (match v.ownerRoot with | some k => octetsOf 57 k | none => 0)
    else stored
  | 0x6418 => d.serviceLeft
  | 0x6420 => v.managerKey (sub - 1)
  | 0x6430 => v.fuseLevels.toList.getD (sub - 1) 0
  | 0x6600 =>
    match sub with
    | 2 => d.hall.entries
    | 3 => d.hall.nextSeq - 1
    | 4 => d.hall.oldest
    | 5 => octetsOf 32 d.hall.lastChain
    | _ => stored
  | _ => stored

/-- A line die of a subindex. -/
def subDie (sub : Nat) : Die := ⟨(sub - 1) % 8, by omega⟩

/-- An object of the module's own. -/
def Dev.moduleRead (d : Dev) (v : Vault) (idx sub : Nat) : Nat :=
  let stored := d.get idx sub
  match idx with
  | 0x1004 => if sub = 1 then octetsOf 57 d.hall.identityPub else octetsOf 32 d.hall.identityHash
  | 0x1008 => v.lifecycle
  | 0x1430 => (d.mgmt.sessions.get ⟨(sub - 1) % 4, by omega⟩).phase
  | 0x3040 => d.capacity (subDie sub) .down
  | 0x3041 => d.capacity (subDie sub) .up
  | 0x3042 => d.demand (subDie sub)
  | 0x5600 => d.bundleMap (sub - 1) false
  | 0x5601 => d.bundleMap (sub - 1) true
  | 0x5A00 => d.temperRecord
  | 0x6000 => if sub = 1 then timeOctets d.now else stored
  | 0x6020 => if sub = 5 || sub = 6 then (if d.rclkRuns ⟨(sub - 5) % 2, by omega⟩ && !d.pins.rclkSquelched.get ⟨(sub - 5) % 2, by omega⟩ then 1 else 0) else stored
  | 0x6810 => match (d.engineOf ⟨(sub - 1) % 9, by omega⟩).last with | some a => natOf a.bytes | none => 0
  | 0x6811 => match (d.engineOf ⟨(sub - 1) % 9, by omega⟩).shutdown with | some a => natOf a.bytes | none => 0
  | 0x6812 => d.recordAge ⟨(sub - 1) % 9, by omega⟩
  | _ => stored

/-- The value of an object that exists, as its bytes spell it. -/
def Dev.readValue (d : Dev) (v : Vault) (idx sub : Nat) : Nat :=
  match wordBit? idx with
  | some (i, s, w) =>
    if sub = 0 then w else if (storedValue i s (d.get i s)).testBit (sub - 1) then 1 else 0
  | none =>
    if (object? idx sub).isLeft && (match Catalog.field? idx sub with | some f => f.cls = .st && 2 ≤ f.lo | none => false) then d.stSeq idx
    else match Catalog.field? idx sub with
      | none => d.get idx sub
      | some _ =>
        match portOf? idx with
        | some p => d.portRead p (Catalog.base idx) sub
        | none =>
          if 0x6400 ≤ idx ∧ idx < 0x6800 then d.securityRead v idx sub
          else if 0x5F10 ≤ idx ∧ idx ≤ 0x5F17 ∧ sub = 9 then d.samplerData ⟨(idx - 0x5F10) % 8, by omega⟩
          else d.moduleRead v idx sub

/-! ## Reading -/

/-- The boot ROM of the module safe state serves reads of an index (R406). -/
def romReads (idx : Nat) : Bool := (0x1000 ≤ idx && idx ≤ 0x1008) || idx = 0x1800 || (0x1C00 ≤ idx && idx ≤ 0x1FFF)

/-- The conditions that refuse a read of an object that exists. -/
def Dev.readChecks (d : Dev) (r : Req) (idx : Nat) (cls : Cls) : List (Bool × Code) :=
  let owner := match wordBit? idx with | some (i, _, _) => i | none => idx
  [(!d.meets r (readRole idx), .auth), (cls = .wo, .access), (d.busyIndex owner, .busy),
   ((d.mgmt.recovery && !recoveryServes idx) || (d.mgmt.romServes && !romReads idx), .state)]

/-- The code of a read. -/
def Dev.readCode (d : Dev) (r : Req) (i : RItem) : Code :=
  match object? i.index i.sub with
  | .inr c => c
  | .inl (_, cls) => firstCode (d.readChecks r i.index cls)

/-- The item that answers a read: its value when the code is OK. -/
def Dev.readItem (d : Dev) (v : Vault) (r : Req) (i : RItem) : RespItem :=
  match object? i.index i.sub with
  | .inr c => { index := i.index, sub := i.sub, code := c.value }
  | .inl (ty, _) =>
    match d.readCode r i with
    | .ok => { index := i.index, sub := i.sub, code := 0, type := ty.code, length := ty.size, value := d.readValue v i.index i.sub }
    | c => { index := i.index, sub := i.sub, code := c.value }

/-- What a read that is served does beside answering: SAMPLER_DATA moves its selection on (R342), an entry of a port's ring has been read (R319). -/
def Dev.readSeen (d : Dev) (i : RItem) : Dev :=
  if 0x5F10 ≤ i.index ∧ i.index ≤ 0x5F17 ∧ i.sub = 9 then d.samplerAdvance ⟨(i.index - 0x5F10) % 8, by omega⟩
  else match portOf? i.index with
    | some p => if Catalog.base i.index = 0x4480 && 0x40 ≤ i.sub && i.sub < 0x80 then d.ringSeen p (i.sub - 0x40) else d
    | none => d

/-- What a read does beside answering; a refusal is counted. -/
def Dev.readEffect (d : Dev) (r : Req) (i : RItem) : Dev :=
  match d.readCode r i with
  | .ok => d.readSeen i
  | c => d.refused r i.index i.sub c

/-- A read as an access of its own. -/
def Dev.readAccess (d : Dev) (v : Vault) (r : Req) (i : RItem) : Dev :=
  if !d.hears r.route then d
  else if d.lostRequest i.index then d.lostTaken i.index
  else
    let c := d.readCode r i
    let d' := (d.readEffect r i).answer r c
    if c = .ok then d'.emit (.data r (d.readValue v i.index i.sub)) else d'

end Sys2Proof.Machine
end

