-- ==== Sys2Proof/Machine/Dictionary.lean ====
section
/-! DEFINITION. What a write to each object of the dictionary does: the commands as their values spell them, locks, status clears, aliases, and the ranges
and consequences of the plain fields (R34, R36, R39, R42, R52, R53, R124, R133, R147, R249, R266, R319 to R322, R350, R402, R431 to R433, R463, R464). -/

namespace Sys2Proof.Machine

/-- A write as its arbiter sees it: one that leaves the one-way store alone, or one that may change it. -/
inductive AnyOp where
  | dev (o : Op)
  | vault (o : VOp)

/-- Apply a write: its code and the state after it. -/
def AnyOp.apply (o : AnyOp) (r : Req) (idx sub : Nat) (s : State) : Code × State :=
  match o with
  | .dev o => ((o.apply r idx sub s.dev).1, s.onDev (fun d => (o.apply r idx sub d).2))
  | .vault o => o.apply r idx sub s

/-- What follows once its answer has been sent. -/
def AnyOp.later : AnyOp → Dev → Dev
  | .dev o, d => o.later d
  | .vault o, d => o.later d

/-- The same write under further conditions. -/
def AnyOp.under (o : AnyOp) (more : List (Bool × Code)) : AnyOp :=
  match o with
  | .dev o => .dev { o with checks := more ++ o.checks }
  | .vault o => .vault { o with checks := more ++ o.checks }

/-! ## Values that spell a command's operands -/

/-- `n` bytes of an OCTETS(`len`) value from an offset. -/
def part (len v offset n : Nat) : Nat := v / 256 ^ (len - offset - n) % 256 ^ n

/-- The same as bytes. -/
def partBytes (len v offset n : Nat) : List Byte := bytesOf n (part len v offset n)

/-- What the analogue side answers to a CAL_START that a management frame carries: the frame brings no measurement, so that it is free (log entry 7). -/
def Dev.freeMeas (d : Dev) : CalMeas :=
  let bits := fun k => Config.freeValue d.draws k
  { symbols := bits 10
    valid := Vector.ofFn (fun i => bits (20 + i.val))
    power := Vector.ofFn (fun i => Vector.ofFn (fun k => bits (30 + 16 * i.val + k.val)))
    samples := bits 11
    fullScale := Vector.ofFn (fun i => bits (24 + i.val))
    estimate := Vector.ofFn (fun i => (List.range 57).map (fun k => signed 16 (bits (100 + 57 * i.val + k) % 65536))) }

/-- CAL_START by its value alone. -/
def Dev.calStartFree (d : Dev) (r : Req) (p : Port) (v : Nat) : Op :=
  let o := d.calStartOp r p v d.freeMeas
  { o with effect := fun d => (o.effect d).newDraw, refusal := fun c d => (o.refusal c d).newDraw }

/-- TWILL_TEST_START, SA_INSTALL, INJECT and FC_START by their values. -/
def twillTestOf (v : Nat) : TwillTest :=
  { mode := part 16 v 0 1, dir := part 16 v 1 1, pattern := part 16 v 2 1, lanes := part 16 v 4 8, inject := part 16 v 12 2, duration := part 16 v 14 2 }

def saInstallOf (v : Nat) : SaInstall :=
  { an := part 68 v 0 1, ssci := part 68 v 4 4, salt := partBytes 68 v 8 12, lowestPn := part 68 v 20 8, wrapped := partBytes 68 v 28 40 }

def Dev.injectBy (d : Dev) (r : Req) (lifecycle v : Nat) : Op :=
  d.injectOp r lifecycle (part 8 v 0 2) (part 8 v 2 1) (part 8 v 3 1) (part 8 v 4 2)

def Dev.fcStartBy (d : Dev) (r : Req) (n : DieId) (v : Nat) : Op := d.fcStartOp r n (part 8 v 0 1) (part 8 v 1 1) (part 8 v 4 4)

/-- RESET_REQUEST by its value; a warm reset it starts finds the voltages held. -/
def Dev.resetBy (d : Dev) (r : Req) (vault : Vault) (v : Nat) : Op :=
  d.resetOp r vault (part 4 v 0 1) (part 4 v 1 1) (part 4 v 2 2) d.warmEnv

/-- LIFECYCLE_REQUEST by its value. Gwynale's test keys arrive with no object (log entry 30). -/
def lifeBy (vault : Vault) (d : Dev) (r : Req) (v : Nat) : VOp :=
  lifeOp vault d r (part 232 v 0 1) (partBytes 232 v 4 114) (partBytes 232 v 118 114) [] none

/-! ## Ranges and consequences of plain fields -/

/-- The raw enable bit of a port. -/
def Dev.enableBit (d : Dev) (p : Port) : Bool := (d.get 0x1030 (1 + p.val / 64)).testBit (p.val % 64)

/-- HL_TX_EQ (R249): MAIN at least 32, the four magnitudes sum to 64. -/
def txEqBad (v : Nat) : Bool :=
  field v 8 8 < 32
  || (signed 8 (field v 24 8)).natAbs + (signed 8 (field v 16 8)).natAbs + field v 8 8 + (signed 8 (field v 0 8)).natAbs ≠ 64

/-- Bounds of an XOFF value (R266). -/
def xoffBounds (sub : Nat) : Nat × Nat := if sub < 7 then (16384, 187008) else (8192, 55936)

/-- The flow-control thresholds (R266): XOFF within its bounds, XON below XOFF. -/
def Dev.thresholdBad (d : Dev) (p : Port) (sub v : Nat) : Bool :=
  if sub = 3 || sub = 5 || sub = 7 || sub = 9 then
    v < (xoffBounds sub).1 || (xoffBounds sub).2 < v || v ≤ d.get (0x2200 + p) (sub + 1)
  else if sub = 4 || sub = 6 || sub = 8 || sub = 10 then d.get (0x2200 + p) (sub - 1) ≤ v
  else false

/-- ESCALATION (R402): N, WINDOW and REPEAT. -/
def escalationBad (sub v : Nat) : Bool :=
  field v 24 8 = 0 || field v 8 16 = 0 || 60000 < field v 8 16 || (sub % 2 = 0 && field v 4 4 ≠ 0)

/-- A STEP of ADAPT_CONTROL (R133). -/
def stepBad (v : Nat) : Bool :=
  (List.range 4).any (fun k => let s := field v (8 * k) 5; (1 ≤ s && s ≤ 3) || 25 ≤ s)

/-- Sum of the magnitudes of the custom taps, with one of them replaced (R124). -/
def Dev.tapSum (d : Dev) (p : Port) (sub v : Nat) : Nat :=
  ((List.range 8).map (fun k => (signed 16 (if sub = k + 2 then v else d.get (0x5100 + p) (k + 2))).natAbs)).sum

/-- The shaping record (R124). -/
def Dev.shapingBad (d : Dev) (p : Port) (sub v : Nat) : Bool :=
  if sub = 1 then v = 1 && 16384 < d.tapSum p 0 0
  else if sub = 0xA then signed 16 v < -8 || 0 < signed 16 v
  else d.get (0x5100 + p) 1 = 1 && 16384 < d.tapSum p sub v

/-- What the object of a plain field asks beyond its table's range. -/
def Dev.fieldChecks (d : Dev) (idx sub v : Nat) : List (Bool × Code) :=
  match portOf? idx with
  | some p =>
    match Catalog.base idx with
    | 0x2000 => [(sub = 2 && txEqBad v, .range)]
    | 0x2200 => [(d.thresholdBad p sub v, .range)]
    | 0x4000 => [(sub = 1 && field v 2 2 = 3, .range), (sub = 7 && v ≠ 0 && (v < 100 || 60000 < v), .range)]
    | 0x4180 => [(sub = 0x15 && (0 < signed 16 v || signed 16 v < -2048), .range)]
    | 0x4480 => [((sub = 2 || sub = 3) && beyond 32 16000 v, .range)]
    | 0x5000 => [(stepBad v, .range)]
    | 0x5100 => [(d.enableBit p, .state), (d.shapingBad p sub v, .range)]
    | 0x5D80 =>
      [(sub ≤ 2 && d.tlmOn p, .state), (sub = 1 && v < d.get (0x5D80 + p) 2, .range), (sub = 2 && d.get (0x5D80 + p) 1 < v, .range)]
    | _ => []
  | none =>
    match idx with
    | 0x1200 => [(policyBad v, .range)]
    | 0x1204 => [(limitsBad sub v, .range)]
    | 0x1424 => [(127 < v && v ≠ 0xFFFF, .range)]
    | 0x1FF0 => [(escalationBad sub v, .range)]
    | 0x5F00 => [((sub = 3 || sub = 4 || sub = 9) && d.tlmAny, .state)]
    | 0x6010 => [(sub = 2 && beyond 32 16000 v, .range)]
    | 0x6014 => [(sub = 3 && beyond 32 16000 v, .range)]
    | 0x6020 => [(sub ≤ 2 && 127 < v && v ≠ 0xFF, .range)]
    | _ => []

/-- What follows at once from a new value of a plain field; `old` is the value before. -/
def Dev.fieldAfter (idx sub old : Nat) (d : Dev) : Dev :=
  match portOf? idx with
  | some p =>
    match Catalog.base idx with
    | 0x2200 => ((d.flowCheck p .egress).flowCheck p .ingress).wakeIfPending p
    | 0x4000 => if sub = 5 then (d.standardSet p (d.get idx sub)).readvertise p else d
    | 0x5000 => d.moveOn p false
    | 0x5D80 =>
      if sub = 3 then d.tlmRated p old (d.get idx 4) else if sub = 4 then d.tlmRated p (d.get idx 3) old else d
    | _ => d
  | none =>
    match idx with
    | 0x5F00 => if sub ≤ 2 then d.tlmEnabled sub old (d.get 0x5F00 sub) else d
    | 0x6010 => if sub = 1 then d.ppsMode else d
    | 0x6014 => if sub = 1 && d.get 0x6014 1 = 0 then d.ppsFall else d
    | 0x6020 => d.rclkLook
    | _ => d

/-- A write to a field of class RW or RWL that no command of its own describes. -/
def Dev.plainOp (d : Dev) (r : Req) (idx sub v : Nat) : Op :=
  d.plainWrite r idx sub v (d.fieldChecks idx sub v) (Dev.fieldAfter idx sub (d.get idx sub))

/-! ## Locks and status objects -/

/-- A write to a W1 lock (R34, R53): a write of 1 sets it and is recorded, a write of 0 changes nothing. -/
def Dev.lockOp (d : Dev) (r : Req) (idx sub v : Nat) : Op where
  checks := d.gate r idx ++ [(misfits idx sub v, .type), (d.flag idx sub, .locked), (v = 1 && d.stagingFull, .busy), (1 < v, .range)]
  effect := fun d => if v = 1 then (d.put idx sub 1).touch 0x0011 (d.lockBody r idx sub) else d

/-- A write to the clear subindex of a status object (R42). -/
def Dev.clearOp (d : Dev) (r : Req) (idx seq : Nat) : Op where
  checks := d.gate r idx ++ [(misfits idx 3 seq, .type), ((seq != d.stSeq idx), .stale)]
  effect := fun d => d.put idx 1 0

/-! ## The write of each object -/

/-- A write that nothing can grant. -/
def refusing (c : Code) : Op := { checks := [(true, c)], effect := id }

/-- A write to an object of a port's records. -/
def Dev.portWrite (d : Dev) (r : Req) (p : Port) (idx sub v : Nat) : Op :=
  match Catalog.base idx, sub with
  | 0x2000, 1 => d.rateOp r p v
  | 0x4000, 4 => d.advertiseOp r p v
  | 0x4100, 2 => d.negRestartOp r p v
  | 0x4100, 0x20 => d.queryOp r p v
  | 0x4180, 2 => d.timeoutOp r p 0 v
  | 0x4180, 3 => d.timeoutOp r p 1 v
  | 0x4180, 4 => d.timeoutOp r p 2 v
  | 0x4180, 5 => d.timeoutOp r p 3 v
  | 0x4180, 6 => d.timeoutOp r p 4 v
  | 0x4180, 7 => d.timeoutOp r p 5 v
  | 0x4180, 0x10 => d.relockNowOp r p v
  | 0x4380, 1 => d.groupOp r p v
  | 0x4400, 1 => d.sealModeOp r p v
  | 0x4400, 0xF => d.rekeyOp r p v
  | 0x4400, 0x10 => d.saInstallOp r p (saInstallOf v)
  | 0x4400, 0x11 => d.saSelectOp r p v
  | 0x4400, 0x12 => d.saDeleteOp r p v
  | 0x5000, 0xB => d.adaptHoldOp r p v
  | 0x5200, 4 => d.ckptNowOp r p v
  | 0x5800, 1 => d.calStartFree r p v
  | 0x5800, 2 => d.calAbortOp r p v
  | 0x5800, 6 => d.slotUseOp r p v
  | 0x5C80, 1 => d.diagStartOp r p v
  | 0x5C80, 2 => d.diagAbortOp r p v
  | _, _ => d.plainOp r idx sub v

/-- A write to a numbered module object: coefficient windows, frequency counters, samplers, fault records, twill tests. -/
def Dev.numberedWrite (d : Dev) (r : Req) (vault : Vault) (idx sub v : Nat) : Op :=
  if h : 0x5400 ≤ idx ∧ idx < 0x5410 then
    let w : Fin 16 := ⟨idx - 0x5400, by omega⟩
    match sub with
    | 1 => d.captureOp r w v
    | 2 => d.coefWriteOp r w v
    | _ => d.coefReleaseOp r w v
  else if h : 0x1830 ≤ idx ∧ idx < 0x1839 then
    let n : DieId := ⟨idx - 0x1830, by omega⟩
    if sub = 1 then d.fcStartBy r n v else d.fcAbortOp r n v
  else if h : 0x5F10 ≤ idx ∧ idx < 0x5F18 then
    let n : Die := ⟨idx - 0x5F10, by omega⟩
    match sub with
    | 1 => d.armOp r n v
    | 2 => d.samplerAbortOp r n v
    | _ => d.samplerSelectOp r n v
  else if 0x1C00 ≤ idx ∧ idx ≤ 0x1FC8 ∧ sub = 9 then d.firstRearmOp r (idx - 0x1C00) v
  else if idx = 0x3400 then d.testStartOp r vault.lifecycle (subDie sub) (twillTestOf v)
  else if idx = 0x3401 then d.testStopOp r (subDie sub) v
  else d.plainOp r idx sub v

/-- A write to a module object of the device's own. -/
def Dev.moduleWrite (d : Dev) (r : Req) (vault : Vault) (idx sub v : Nat) : Op :=
  match idx, sub with
  | 0x1030, _ => d.enableOp r sub v
  | 0x1804, 0 => d.resetBy r vault v
  | 0x1806, 0 => d.recoveryExitOp r vault v
  | 0x1808, 0 => d.islandReleaseOp r (part 2 v 0 1) (part 2 v 1 1)
  | 0x1FE0, 3 => d.moduleRearmOp r v
  | 0x1FF8, 1 => d.injectBy r vault.lifecycle v
  | 0x1FF8, 3 => d.injectCancelOp r vault.lifecycle v
  | 0x3000, 4 => d.reinstateOp r v
  | 0x5A00, 1 => d.temperSelectOp r v
  | 0x5F00, 5 => d.tlmSyncOp r v
  | 0x5F00, 7 => d.tlmLatchOp r v
  | 0x6000, 2 => d.timeSetOp r v
  | 0x6000, 3 => d.timeStepOp r v
  | 0x6000, 4 => d.freqAdjOp r v
  | 0x6418, 1 => d.serviceOp r v
  | 0x6440, 2 => d.stageBeginOp r (part 8 v 0 1) (part 8 v 4 4)
  | 0x6440, 3 => d.stageDataOp r (part 1024 v 0 4) (part 1024 v 4 2) (partBytes 1024 v 8 1016)
  | 0x6440, 4 => d.stageVerifyOp r v
  | 0x6440, 7 => d.activateOp r v
  | 0x6440, 9 => d.revertOp r vault v
  | 0x6460, 1 => attestOp vault d r (partBytes 32 v 0 32)
  | 0x6600, 1 => d.touchSelectOp r v
  | 0x6600, 6 => d.touchSignOp r v
  | 0x6800, 1 => d.shutdownOp r vault.lifecycle v
  | 0x6800, 2 => d.assayRunOp r vault.lifecycle (part 4 v 0 1) (part 4 v 1 1)
  | 0x6800, 3 => d.assayAbortOp r vault.lifecycle v
  | _, _ => d.numberedWrite r vault idx sub v

/-- The write of an object that exists and whose class accepts it. -/
def writeOp (vault : Vault) (d : Dev) (r : Req) (idx sub v : Nat) (cls : Cls) : AnyOp :=
  match cls with
  | .ro => .dev (refusing .access)
  | .cnt => .dev (refusing .access)
  | .st => if sub = 3 then .dev (d.clearOp r idx v) else .dev (refusing .access)
  | .w1 => .dev (d.lockOp r idx sub v)
  | _ =>
    match idx, sub with
    | 0x6410, 1 => .vault (lifeBy vault d r v)
    | 0x6424, 1 => .vault (enrolOp vault d r (partBytes 60 v 0 57) (part 60 v 57 1))
    | 0x6424, 2 => .vault (revokeOp vault d r (partBytes 8 v 0 8))
    | 0x6440, 8 => .vault (confirmOp d r v)
    | _, _ =>
      match portOf? idx with
      | some p => .dev (d.portWrite r p idx sub v)
      | none => .dev (d.moduleWrite r vault idx sub v)

/-- The role that a write needs before its class is looked at: every field of the security objects, and of the sealing record but its RO fields (R213). -/
def roleFirst (idx : Nat) (cls : Cls) : Option Nat :=
  if (0x4400 ≤ idx ∧ idx < 0x4480) ∧ cls = .ro then none else writeRole idx

/-- A write item, whatever it names: code and lengths first, then the write of its object; an alias writes its word (R32, R33, R36, R52, R432). -/
def itemOp (s : State) (r : Req) (w : WItem) : Nat × Nat × AnyOp :=
  let v := w.value % 256 ^ w.length
  match object? w.index w.sub with
  | .inr c => (w.index, w.sub, .dev (refusing c))
  | .inl (ty, cls) =>
    let fits : List (Bool × Code) := [(w.type ≠ ty.code || w.length ≠ ty.size, .type)]
    match wordBit? w.index with
    | some (i, sub, _) =>
      if w.sub = 0 then (w.index, w.sub, .dev (refusing .access))
      else
        let word := putBit (s.dev.get i sub) (w.sub - 1) (v = 1)
        (i, sub, (writeOp s.vault s.dev r i sub word .rw).under (fits ++ [(decide (1 < v), Code.range)]))
    | none =>
      (w.index, w.sub, (writeOp s.vault s.dev r w.index w.sub v cls).under
        (fits ++ [(!s.dev.meets r (roleFirst w.index cls), .auth)]))

/-- Apply a write item: its code, what follows its answer, and the state after it. -/
def State.writeItem (s : State) (r : Req) (w : WItem) : Code × (Dev → Dev) × State :=
  let (i, sub, o) := itemOp s r w
  let c := o.apply r i sub s
  (c.1, if c.1 = .ok then o.later else id, c.2)

/-- A write as an access of its own; one that the twill link has lost has no effect and no answer (R273). -/
def State.writeAccess (s : State) (r : Req) (w : WItem) : State :=
  if !s.dev.hears r.route then s
  else if s.dev.lostRequest (itemOp s r w).1 then s.onDev (fun d => d.lostTaken (itemOp s r w).1)
  else
    let (c, later, t) := s.writeItem r w
    t.onDev (fun d => later (d.answer r c))

/-! ## Commands -/

/-- `OBJECT_WRITE` (R34, R37). -/
def execObjectWrite (r : Req) (w : WItem) (s : State) : Host.Outcome State Fault Refusal := .next (s.writeAccess r w)

/-- Index and subindex of a lock. -/
def lockObject : Lock → Nat × Nat
  | .avsLimits => (0x1204, 3)
  | .mgmtMac => (0x1420, 3)
  | .inband => (0x1424, 2)
  | .pewter => (0x1440, 2)
  | .sealPolicy => (0x6404, 1)

/-- `LOCK_SET` (R53): a write to a W1 field. -/
def execLockSet (r : Req) (lock : Lock) (v : Nat) (s : State) : Host.Outcome State Fault Refusal :=
  s.write r (lockObject lock).1 (lockObject lock).2 (fun _ d => d.lockOp r (lockObject lock).1 (lockObject lock).2 v)

/-- `BIT_ALIAS_WRITE` (R52, R432): a write of a BOOL to an alias; an index that is no alias answers ERR_INDEX. -/
def execBitAliasWrite (r : Req) (index sub v : Nat) (s : State) : Host.Outcome State Fault Refusal :=
  if (wordBit? index).isNone then s.write r index sub (fun _ _ => refusing .index)
  else .next (s.writeAccess r { index := index, sub := sub, type := Ty.bool.code, length := 1, value := v })

/-- `ST_CLEAR` (R42). -/
def execStClear (r : Req) (index seq : Nat) (s : State) : Host.Outcome State Fault Refusal :=
  .next (s.writeAccess r { index := index, sub := 3, type := Ty.u16.code, length := 2, value := seq })

/-! ## Coincident requests (R39, R385, R433, R463) -/

/-- Place of a route in the order of R39. -/
def routeRank : Route → Nat
  | .ownFirmware => 0 | .mgmtLink => 1 | .inBand => 2 | .pewter => 3

def accessRoute : Access → Route
  | .write r _ => r.route
  | .clear r _ _ => r.route
  | .read r _ => r.route

/-- The requests of a window in the order of R39; those of one route keep theirs. -/
def inOrder (l : List Access) : List Access := (List.range 4).flatMap (fun k => l.filter (fun a => routeRank (accessRoute a) = k))

/-- Reach of a reset that an access asks for: 0 for none, wider is more (R385). -/
def accessReach : Access → Nat
  | .write _ w =>
    if w.index = 0x1804 ∧ w.sub = 0 then
      (match part 4 w.value 0 1 with | 1 => 4 | 2 => 3 | 3 => 2 | 4 => 1 | _ => 0)
    else 0
  | _ => 0

/-- Reach of the reset that an access asks for and would be granted. -/
def State.resetReach (s : State) (a : Access) : Nat :=
  match a with
  | .write r w => if accessReach a ≠ 0 && s.dev.hears r.route && (s.writeItem r w).1 = .ok then accessReach a else 0
  | _ => 0

/-- The widest reach of the resets that the requests of a window ask for and would be granted (R385). -/
def State.widest (s : State) (l : List Access) : Nat := l.foldl (fun m a => max m (s.resetReach a)) 0

/-- One access of a window. -/
def State.access (s : State) : Access → State
  | .write r w => s.writeAccess r w
  | .clear r index seq => s.writeAccess r { index := index, sub := 3, type := Ty.u16.code, length := 2, value := seq }
  | .read r i => s.onDev (fun d => d.readAccess s.vault r i)

/-- A reset that a wider one of the same window drops: it answers ERR_BUSY and does nothing (R39, R385; log entry 85). -/
def State.dropped (s : State) : Access → State
  | .write r _ => s.onDev (fun d => d.answer r .busy)
  | _ => s

/-- A second warm reset of the window merges into the first: it answers as granted (R385). -/
def State.merged (s : State) : Access → State
  | .write r _ => s.onDev (fun d => d.answer r .ok)
  | _ => s

/-- The requests of a window, one after another: of the resets granted, those of the widest reach run, a warm reset once. `wide` is that reach. -/
def State.accesses (wide : Nat) (warm : Bool) (s : State) : List Access → State
  | [] => s
  | a :: l =>
    let n := s.resetReach a
    if n = 0 then State.accesses wide warm (s.access a) l
    else if n < wide then State.accesses wide warm (s.dropped a) l
    else if n = 4 && warm then State.accesses wide warm (s.merged a) l
    else State.accesses wide (warm || n = 4) (s.access a) l

/-- `ARBITRATION_GRANT` (R39, R463): at the end of a window its requests are granted one after another. -/
def execArbitrationGrant (reqs : List Access) (s : State) : Host.Outcome State Fault Refusal :=
  .next (State.accesses (s.widest (inOrder reqs)) false s (inOrder reqs))

end Sys2Proof.Machine
end

