-- ==== Sys2Proof/Machine/Management.lean ====
section
/-! DEFINITION. Operations of the management protocol: reads, writes, snapshots, the configuration check, NOTIFY intervals
(R37, R44 to R51, R55 to R59, R238). -/

namespace Sys2Proof.Machine

/-! ## Reads (R46, R57) -/

/-- Read items in order: each answered, each with what its reading does. -/
def Dev.readItems (v : Vault) (r : Req) (d : Dev) : List RItem → List RespItem × Dev
  | [] => ([], d)
  | i :: l =>
    let (rest, d') := Dev.readItems v r (d.readEffect r i) l
    (d.readItem v r i :: rest, d')

/-- The length that the answers to read items would give the response (R56). -/
def Dev.responseLength (v : Vault) (d : Dev) (h : MHdr) (items : List RItem) : Nat :=
  replyLength { op := 0, session := h.session, items := items.map (fun i => d.readItem v (MHdr.req h) i) }

/-- Serve a read of so many items at least and at most; a response too long answers ERR_RANGE alone (R56), as does another number of items
(log entry 61). A request that a message of the twill link has lost gets no response (R273). -/
def Dev.serveReads (v : Vault) (h : MHdr) (op low high : Nat) (items : List RItem) (d : Dev) : Dev :=
  if items.any (fun i => d.lostRequest i.index) then items.foldl (fun d i => d.lostTaken i.index) d
  else if items.length < low || high < items.length || 1500 < d.responseLength v h items then d.respondCode h op .range
  else
    let (answers, d') := Dev.readItems v (MHdr.req h) d items
    d'.respond h { op := op, items := answers }

/-- The body of read items. -/
def readBody (items : List RItem) : List Byte := items.flatMap readItemBytes

/-- `READ` (R57). -/
def execRead (h : MHdr) (items : List RItem) (s : State) : Host.Outcome State Fault Refusal :=
  s.event (fun d => d.frameIn h 1 items.length (readBody items) (fun d => d.serveReads s.vault h 1 1 1 items))

/-- `READ_MULTI` (R46, R57). -/
def execReadMulti (h : MHdr) (items : List RItem) (s : State) : Host.Outcome State Fault Refusal :=
  s.event (fun d => d.frameIn h 3 items.length (readBody items) (fun d => d.serveReads s.vault h 3 1 64 items))

/-! ## Writes (R37, R57) -/

/-- Write items in order, each whole or not at all: the codes, what follows the response, and the state. -/
def State.writeItems (r : Req) (s : State) : List WItem → List RespItem × (Dev → Dev) × State
  | [] => ([], id, s)
  | w :: l =>
    let (c, later, s') := s.writeItem r w
    let (rest, more, t) := State.writeItems r s' l
    ({ index := w.index, sub := w.sub, code := c.value } :: rest, fun d => more (later d), t)

/-- Serve a write of so many items at least and at most, unless the twill link has lost it. -/
def State.serveWrites (h : MHdr) (op low high : Nat) (items : List WItem) (s : State) : State :=
  if items.any (fun w => s.dev.lostRequest w.index) then s.onDev (fun d => items.foldl (fun d w => d.lostTaken w.index) d)
  else if items.length < low || high < items.length then s.onDev (fun d => d.respondCode h op .range)
  else
    let (answers, later, t) := State.writeItems (MHdr.req h) s items
    t.onDev (fun d => later (d.respond h { op := op, items := answers }))

/-- A frame of write items. -/
def State.writeFrame (s : State) (h : MHdr) (op low high : Nat) (items : List WItem) : State :=
  let (taken, d) := s.dev.frameTaken h op items.length (items.flatMap writeItemBytes)
  let t := { s with dev := d }
  if taken then t.serveWrites h op low high items else t

/-- `WRITE` (R57). -/
def execWrite (h : MHdr) (items : List WItem) (s : State) : Host.Outcome State Fault Refusal := .next (s.writeFrame h 2 1 1 items)

/-- `WRITE_MULTI` (R37, R57). -/
def execWriteMulti (h : MHdr) (items : List WItem) (s : State) : Host.Outcome State Fault Refusal := .next (s.writeFrame h 4 1 64 items)

/-! ## Snapshots (R44, R45) -/

/-- The recovery loader, or the boot ROM, serves only accesses to objects (R393, R406). -/
def Dev.loaderOnly (d : Dev) : Bool := d.mgmt.recovery || d.mgmt.romServes

/-- SNAPSHOT is accepted: its capture follows. -/
def Dev.snapshotAsk (h : MHdr) (d : Dev) : Dev :=
  if d.loaderOnly then d.respondCode h 5 .state
  else d.onMgmt (fun m => { m with snaps := m.snaps ++ [{ hdr := h, clear := h.flags.testBit 6 }] })

/-- `SNAPSHOT` (R45). -/
def execSnapshot (h : MHdr) (s : State) : Host.Outcome State Fault Refusal :=
  s.event (fun d => d.frameIn h 5 0 [] (Dev.snapshotAsk h))

/-- The object is a counter. -/
def isCounter (idx sub : Nat) : Bool := match Catalog.field? idx sub with | some f => f.cls = .cnt | none => false

/-- The object is a counter's held twin. -/
def isTwin (idx sub : Nat) : Bool := (Catalog.field? idx sub).isNone && 0x80 ≤ sub && isCounter idx (sub - 0x80)

/-- QUIET_TIME_MS takes in what it has not counted, so that every counter is in the store. -/
def Dev.quietCount (d : Dev) (p : Port) : Dev :=
  (d.count (0x4280 + p) 0xC (d.quietUncounted p / 1000)).onLink p (fun l => { l with
    quietSince := l.quietSince.map (fun _ => d.uptime), quietUs := d.quietUncounted p % 1000 })

/-- Every counter goes into its twin; with CLEAR it then starts again at 0. -/
def Dev.captureCounters (d : Dev) (clear : Bool) : Dev :=
  let d := d.eachPort (fun p d => d.quietCount p)
  let counters := d.objs.filter (fun e => isCounter (e.1 / 256) (e.1 % 256))
  let d := { d with objs := d.objs.filter (fun e => !isTwin (e.1 / 256) (e.1 % 256) && !(clear && isCounter (e.1 / 256) (e.1 % 256))) }
  let d := counters.foldl (fun d e => d.put (e.1 / 256) (e.1 % 256 + 0x80) e.2) d
  if clear then d.eachPort (fun p d => d.onLink p (fun l => { l with quietUs := 0 })) else d

/-- The capture instant of the oldest accepted SNAPSHOT; the response follows. -/
def Dev.snapshotTake (d : Dev) : Dev :=
  match d.mgmt.snaps with
  | [] => d
  | j :: rest =>
    let n := (d.get 0x1410 1 + 1) % 2 ^ 32
    let d := (d.onMgmt (fun m => { m with snaps := rest })).captureCounters j.clear
    let d := ((d.put 0x1410 1 n).put 0x1410 2 (secondsOf d.now)).put 0x1410 3 (nanosOf d.now)
    d.respond j.hdr { op := 5, body := bytesOf 4 n ++ bytesOf 8 (secondsOf d.now) ++ bytesOf 4 (nanosOf d.now) }

/-- `SNAPSHOT_CAPTURE` (R45). -/
def execSnapshotCapture (s : State) : Host.Outcome State Fault Refusal := s.event Dev.snapshotTake

/-! ## The configuration check (R47 to R50) -/

/-- Hardware tracks the field now (R41, R308). -/
def Dev.tracked (d : Dev) (idx sub : Nat) : Bool := idx = 0x6000 && sub = 4 && d.get 0x6010 1 = 2

/-- The configuration fields in ascending order, with their sizes. -/
def configFields : List (Nat × Nat × Nat) :=
  Catalog.records.flatMap (fun r => (List.range r.count).flatMap (fun k =>
    (r.fields.filter (fun f => f.cls = .rw || f.cls = .rwl)).flatMap (fun f =>
      (List.range (f.hi + 1 - f.lo)).map (fun i => (r.base + k, f.lo + i, f.ty.size)))))

/-- One field into the CRC: index, subindex and value. -/
def Dev.crcField (d : Dev) (crc : Nat) (f : Nat × Nat × Nat) : Nat :=
  if d.tracked f.1 f.2.1 then crc
  else ((bytesOf 2 f.1 ++ bytesOf 1 f.2.1 ++ bytesOf f.2.2 (d.get f.1 f.2.1)).map BitVec.toNat).foldl crc32cByte crc

/-- The CRC-32C of the configuration (R47). -/
def Dev.configCrc (d : Dev) : Nat := (configFields.foldl d.crcField 0xFFFFFFFF) ^^^ 0xFFFFFFFF

/-- A COMMIT waits for its pass; its touchmark entry is reserved (R238). -/
def Dev.commitTake (d : Dev) (h : MHdr) (mode value : Nat) : Dev :=
  (d.onMgmt (fun m => { m with commits := m.commits ++ [{ hdr := h, mode := mode, value := value, keyId := d.keyIdOf (MHdr.req h) }] })).onHall
    (fun q => { q with reserved := q.reserved + 1 })

/-- A COMMIT is accepted, or answers ERR_BUSY while staging is full, or ERR_RANGE to a MODE other than 0 or 1 (R36, R50, R238). -/
def Dev.commitAsk (h : MHdr) (mode value : Nat) (d : Dev) : Dev :=
  if d.loaderOnly then d.respondCode h 6 .state
  else if d.stagingFull then d.respondCode h 6 .busy
  else if 1 < mode then d.respondCode h 6 .range
  else d.commitTake h mode value

/-- The body of COMMIT. -/
def commitBody (mode value : Nat) : List Byte := bytesOf 1 mode ++ bytesOf 3 0 ++ bytesOf 4 value

/-- `COMMIT_ADOPT` (R50): MODE 0. -/
def execCommitAdopt (h : MHdr) (s : State) : Host.Outcome State Fault Refusal :=
  s.event (fun d => d.frameIn h 6 0 (commitBody 0 0) (Dev.commitAsk h 0 0))

/-- `COMMIT_VERIFY` (R50): a COMMIT that gives its MODE and VALUE; 1 compares with VALUE, and a mode that the device does not know is refused. -/
def execCommitVerify (h : MHdr) (v : CommitAsk) (s : State) : Host.Outcome State Fault Refusal :=
  s.event (fun d => d.frameIn h 6 0 (commitBody v.mode v.value) (Dev.commitAsk h v.mode (v.value % 2 ^ 32)))

/-- OPEN_CONFIG: the check is OPEN. -/
def Dev.configOpen (d : Dev) : Dev := d.put 0x1408 1 1

/-- `OPEN_CONFIG` (R48). -/
def execOpenConfig (h : MHdr) (s : State) : Host.Outcome State Fault Refusal :=
  s.event (fun d => d.frameIn h 7 0 [] (fun d => if d.loaderOnly then d.respondCode h 7 .state else d.configOpen.respondCode h 7 .ok))

/-- Answer a COMMIT; one that came by the pewter window has nobody to answer. -/
def Dev.commitAnswer (d : Dev) (j : CommitJob) (c : Code) (body : List Byte) : Dev :=
  if j.hdr.route = .pewter then d else d.respond j.hdr { op := 6, status := c.value, body := body }

/-- A COMMIT ends with the result of its pass; one that is stale gives its reservation back (R50, R238). -/
def Dev.commitEnd (result : Nat) (d : Dev) (j : CommitJob) : Dev :=
  if j.mode = 1 && j.value ≠ result then (d.giveBack 1).commitAnswer j .stale (bytesOf 4 result)
  else
    let d := (((d.onHall (fun h => { h with reserved := h.reserved - 1 })).put 0x1408 3 result).put 0x1408 1 0).touch 0x0010 (bytesOf 1 j.mode ++ bytesOf 4 result ++ bytesOf 1 (routeCode j.hdr.route) ++ exactly 8 j.keyId)
    d.commitAnswer j .ok (bytesOf 4 result)

/-- Drift is reported (R49). -/
def Dev.drift (d : Dev) : Dev := (((d.put 0x1408 1 2).event 0x1400 1).inc 0x1404 9).notice srcController 14 0

/-- A completed pass is compared with the reference in force (R48, R49). -/
def Dev.compare (d : Dev) (result : Nat) (last : Option Nat) : Dev :=
  let ref := d.get 0x1408 3
  match d.get 0x1408 1 with
  | 0 => if result = ref then d else d.drift
  | 2 => if result = ref then d.put 0x1408 1 0 else if last = some result then d else d.drift
  | _ => d

/-- The pass in progress ends: it counts, unless it is a COMMIT's and a configuration write was granted in it, which starts it again (R50). The COMMITs that
wait have their pass next. -/
def Dev.passComplete (d : Dev) : Dev :=
  let mine := d.mgmt.commits.filter (·.started)
  if mine ≠ [] && d.mgmt.passDirty then d.onMgmt (fun m => { m with passDirty := false })
  else
    let result := d.configCrc
    let last := d.mgmt.lastPass
    let d := d.onMgmt (fun m => { m with
      commits := (m.commits.filter (fun j => !j.started)).map (fun j => { j with started := true }), passDirty := false, lastPass := some result })
    (mine.foldl (Dev.commitEnd result) (d.put 0x1408 2 result)).compare result last

/-- `CONFIG_PASS_COMPLETE` (R47 to R50). The walker runs with the controller. -/
def execConfigPassComplete (s : State) : Host.Outcome State Fault Refusal :=
  s.event (fun d => if d.controllerRuns then d.passComplete.inbandWake else d)

/-- 20 ms after its acceptance, the oldest COMMIT that waits answers ERR_BUSY and gives its reservation back (R50, R238). -/
def Dev.commitLate (d : Dev) : Dev :=
  match d.mgmt.commits with
  | [] => d
  | j :: rest =>
    ((d.onMgmt (fun m => { m with commits := rest })).giveBack 1).commitAnswer j .busy []

/-- `COMMIT_TIMEOUT` (R50). -/
def execCommitTimeout (s : State) : Host.Outcome State Fault Refusal := s.event Dev.commitLate

/-! ## NOTIFY (R59) -/

/-- An object's interval ends: what came in it is sent, and a new interval begins; else the next event sends at once. -/
def Dev.notifyEnd (d : Dev) (idx : Nat) : Dev :=
  match assocGet d.mgmt.notify idx with
  | none => d
  | some more =>
    if more && d.get 0x1428 1 ≠ 0 && d.get 0x1428 2 ≠ 0 && d.mgmt.serving then
      ((d.notifySend idx).onMgmt (fun m => { m with notify := assocSet m.notify idx false })).inbandWake
    else d.onMgmt (fun m => { m with notify := m.notify.filter (fun e => e.1 ≠ idx) })

/-- `NOTIFY_INTERVAL_END` (R59). -/
def execNotifyIntervalEnd (index : Nat) (s : State) : Host.Outcome State Fault Refusal := s.event (fun d => d.notifyEnd index)

end Sys2Proof.Machine
end

