-- ==== Sys2Proof/Machine/Pewter.lean ====
section
/-! DEFINITION. The pewter window over MDC/MDIO (R66 to R74, R430). -/

namespace Sys2Proof.Machine

/-! ## What the window decodes (R66, R68, R70) -/

/-- The device drives MDIO for an MMD. -/
def Dev.windowDriven (d : Dev) (mmd : Nat) : Bool :=
  d.hears .pewter && d.get 0x1440 1 ≠ 0 && (mmd = 1 || mmd = 3 || mmd = 7 || mmd = 30 || mmd = 31)

/-- The port that a port address reaches on the present page. -/
def Dev.windowPort (d : Dev) (prtad : Fin 32) : Port := ⟨d.mgmt.page % 4 * 32 + prtad.val, by omega⟩

/-- The register that an address reaches: bits 11:0, in MMD 30 without bits 3:2. -/
def windowReg (mmd addr : Nat) : Nat :=
  let a := addr % 4096
  if mmd = 30 then a / 16 * 16 + a % 4 else a

/-- The clause 45 address register of a port address and MMD. -/
def Dev.mdioAt (d : Dev) (prtad mmd : Fin 32) : Nat := (assocGet d.mgmt.mdioAddr (prtad.val * 32 + mmd.val)).getD 0

def Dev.mdioSet (d : Dev) (prtad mmd : Fin 32) (a : Nat) : Dev :=
  d.onMgmt (fun m => { m with mdioAddr := assocSet m.mdioAddr (prtad.val * 32 + mmd.val) (a % 65536) })

/-- The window's own requests have no session. -/
def pewterReq : Req := { route := .pewter }

/-! ## 32-bit registers (R71, R72, R430) -/

/-- The 32-bit register of MMD 30 that a register belongs to: the address of its low word. -/
def wideReg? (reg : Nat) : Option Nat :=
  if reg ≤ 1 then some 0
  else if reg = 0x100 ∨ reg = 0x101 then some 0x100
  else if 0x200 ≤ reg ∧ reg ≤ 0x2F3 then some (reg / 2 * 2)
  else none

/-- The live value of a 32-bit register. VND_STATUS holds the event bits of LINK_STATUS on a port in a native mode too: they are events, not the state of a link
(R72, R74; log entry 100). -/
def Dev.wideValue (d : Dev) (p : Port) (low : Nat) : Nat :=
  if low = 0 then d.get (0x4000 + p) 1
  else if low = 0x100 then d.get (0x4080 + p) 1
  else
    let k := 2 * ((low - 0x200) / 16) + low % 4 / 2
    if k < 12 then d.portRead p 0x4280 (k + 1) % 2 ^ 32 else 0

/-- The entry of a port in a list of latches. -/
def latchOf (l : List (Nat × Nat × Nat)) (p : Port) : Option (Nat × Nat) := (l.find? (fun e => e.1 = p.val)).map (·.2)

def latchSet (l : List (Nat × Nat × Nat)) (p : Port) (reg v : Nat) : List (Nat × Nat × Nat) := (p.val, reg, v) :: l.filter (fun e => e.1 ≠ p.val)

/-- A read of a status register clears what it read (R72). -/
def Dev.statusRead (d : Dev) (p : Port) (low : Nat) : Dev := if low = 0x100 then d.put (0x4080 + p) 1 0 else d

/-- Read a word of a 32-bit register. -/
def Dev.wideRead (d : Dev) (p : Port) (low reg : Nat) : Nat × Dev :=
  let v := d.wideValue p low
  if reg = low then (v % 65536, (d.onMgmt (fun m => { m with readLatch := latchSet m.readLatch p low (v / 65536) })).statusRead p low)
  else match latchOf d.mgmt.readLatch p with
    | some (r, h) => if r = low then (h, d) else (v / 65536, d.statusRead p low)
    | none => (v / 65536, d.statusRead p low)

/-! ## Registers of 16 bits -/

/-- The mode register before anything has set a standard mode: the highest one of PORT_ADVERTISE's power-on value (log entry 62). -/
def windowMode (p : Port) : Nat := Config.clause45Type (highestMode (Catalog.dflt (0x4000 + p) 4 % 128)) % 65536

/-- What a window register of MMD 1, 3 or 7 holds; registers that nothing has written read 0, but the mode register, which reads the last standard-mode
setting (R74; log entry 62). -/
def Dev.windowHeld (d : Dev) (p : Port) (mmd reg : Nat) : Nat :=
  (assocGet d.mgmt.windowRegs (p.val, mmd, reg)).getD (if mmd = 1 && reg = 7 then windowMode p else 0)

/-- A soft reset of the port runs. -/
def Dev.softResets (d : Dev) (p : Port) : Bool := d.mgmt.softReset.any (fun e => e.1 = p.val)

/-- A soft reset runs that the port was not idled for: reads of the window that are in flight return 0xFFFF (R73; log entry 86). -/
def Dev.softUnidled (d : Dev) (p : Port) : Bool := d.mgmt.softReset.contains (p.val, false)

/-- The port has no frame in flight. -/
def Dev.flightless (d : Dev) (p : Port) : Bool := (d.port p).native.tx.isNone && (d.port p).native.after.isEmpty && (d.port p).native.rx.isNone

/-- The port has a link in a standard mode. -/
def Dev.standardUp (d : Dev) (p : Port) : Bool := d.linkUp p && d.mode p ≠ 0 && !d.native p

/-- A 16-bit register: link status in bit 2 of the status registers, live, which a read neither latches nor clears (log entry 100), the soft reset bit, PORT_IDLE, the page. A write-only register, CONFIG_GATE, reads 0, as
ERR_ACCESS has no form on MDIO (log entry 63). -/
def Dev.narrowRead (d : Dev) (p : Port) (mmd reg : Nat) : Nat :=
  if mmd = 31 then (if reg = 0 then d.mgmt.page else 0)
  else if mmd = 30 then
    (if reg = 0x10 then
      (if d.mgmt.idleAsked.contains p.val then
        (if d.flightless p then 3 else 1) else 0)
     else 0)
  else if reg = 1 then (if d.standardUp p then 4 else 0)
  else if mmd = 1 && reg = 0 then d.windowHeld p 1 0 + (if d.softResets p then 0x8000 else 0)
  else d.windowHeld p mmd reg

/-- The object behind a register is held by a program or a reset. -/
def Dev.windowBusy (d : Dev) (p : Port) (mmd : Nat) : Bool := mmd ≠ 31 && d.busyIndex (0x4000 + p)

/-- A read: its value, nothing while MDIO is undriven, as also for a block that is held (log entry 63). A soft reset that the port was not idled for makes each read of
the port's MMDs one of ones that clears nothing (R73). -/
def Dev.windowRead (d : Dev) (prtad mmd : Fin 32) (addr : Nat) : Option Nat × Dev :=
  if !d.windowDriven mmd then (none, d)
  else
    let d := d.inc 0x1404 8
    let p := d.windowPort prtad
    let reg := windowReg mmd addr
    if d.windowBusy p mmd then (none, d)
    else if mmd ≠ 31 && d.softUnidled p then (some 0xFFFF, d)
    else match (if mmd.val = 30 then wideReg? reg else none) with
      | some low => let (v, d) := d.wideRead p low reg; (some v, d)
      | none => (some (d.narrowRead p mmd reg), d)

/-! ## Writes (R67, R71, R73, R74) -/

/-- A soft reset of a port's standard-mode logic: without idling frames in flight are lost; a standard link or attempt drops without warm relock. A
native link is not standard-mode logic. The port's registers of MMDs 1, 3 and 7 start again, but the mode register (R74; log entry 62). -/
def Dev.softResetPort (d : Dev) (p : Port) : Dev :=
  let idled := d.mgmt.idleAsked.contains p.val && d.flightless p
  let d := d.onMgmt (fun m => { m with
    softReset := if m.softReset.any (fun e => e.1 = p.val) then m.softReset else m.softReset ++ [(p.val, idled)]
    windowRegs := m.windowRegs.filter (fun e => e.1.1 ≠ p.val || e.1.2 = (1, 7)) })
  if !d.native p && 3 ≤ d.linkState p && d.linkState p ≤ 8 then ((d.endFlight p 1).calUnsuitable p 6).cutLink p lossEnd |>.negotiate p else d

/-- A write through the arbiter of an object: granted, or without effect; the window answers nothing. -/
def Dev.windowGrant (d : Dev) (o : Op) (idx sub : Nat) : Dev := (o.apply pewterReq idx sub d).2

/-- A standard mode is selected: the port offers that mode alone, at once, and it is the port's setting; a value that selects none changes nothing (R74; log entry
62). -/
def Dev.selectStandard (d : Dev) (p : Port) (v : Nat) : Dev :=
  let m := Config.clause45Mode v
  if 1 ≤ m && m ≤ 7 then d.windowGrant (d.advertiseOp pewterReq p (2 ^ (m - 1))) (0x4000 + p) 4 else d

/-- CONFIG_GATE: 1 is OPEN_CONFIG, 2 is COMMIT with MODE 0. -/
def Dev.configGate (d : Dev) (v : Nat) : Dev :=
  if v = 1 then d.configOpen
  else if v = 2 && !d.stagingFull then d.commitTake { route := .pewter } 0 0
  else d

/-- PORT_IDLE bit 0. -/
def Dev.idleAsk (d : Dev) (p : Port) (on : Bool) : Dev :=
  d.onMgmt (fun m => { m with idleAsked := if on then (if m.idleAsked.contains p.val then m.idleAsked else m.idleAsked ++ [p.val]) else without m.idleAsked p.val })

/-- A word of a 32-bit register: the high word waits in the port's latch, the low word writes both. Status and counters take no write. -/
def Dev.wideWrite (d : Dev) (p : Port) (low reg v : Nat) : Dev :=
  if reg ≠ low then d.onMgmt (fun m => { m with writeLatch := latchSet m.writeLatch p low v })
  else if low = 0 then
    let high := match latchOf d.mgmt.writeLatch p with | some (_, h) => h | none => 0
    d.windowGrant (d.plainOp pewterReq (0x4000 + p) 1 (high * 65536 + v)) (0x4000 + p) 1
  else d

/-- A word of MMD 1, 3 or 7. -/
def Dev.heldWrite (d : Dev) (p : Port) (mmd reg v : Nat) : Dev :=
  if reg = 1 then d
  else if mmd = 1 && reg = 0 && v.testBit 15 then d.softResetPort p
  else
    if mmd = 1 && reg = 7 then d.selectStandard p v
    else d.onMgmt (fun m => { m with windowRegs := assocSet m.windowRegs (p.val, mmd, reg) v })

/-- A write to a register. -/
def Dev.regWrite (d : Dev) (p : Port) (mmd reg v : Nat) : Dev :=
  if mmd = 31 then (if reg = 0 then d.onMgmt (fun m => { m with page := v % 4 }) else d)
  else if d.safe then d
  else if mmd = 30 && reg = 0x20 then d.configGate v
  else if d.windowBusy p mmd then d
  else if mmd ≠ 30 then d.heldWrite p mmd reg v
  else match wideReg? reg with
    | some low => d.wideWrite p low reg v
    | none => if reg = 0x10 then d.idleAsk p (v.testBit 0) else d

/-- A window write: none where MDIO is undriven, and one to a read-only window only sets PEWTER_REFUSED (R66). -/
def Dev.windowWrite (d : Dev) (mmd : Nat) (f : Dev → Dev) : Dev :=
  if !d.windowDriven mmd then d
  else
    let d := d.inc 0x1404 8
    if d.get 0x1440 1 = 1 then d.event 0x1400 6 else f d

/-! ## Commands -/

/-- `MDIO_ADDRESS` (R66, R68). -/
def execMdioAddress (prtad mmd : Fin 32) (addr : Nat) (s : State) : Host.Outcome State Fault Refusal :=
  s.event (fun d => if d.windowDriven mmd then d.mdioSet prtad mmd addr else d)

/-- `MDIO_WRITE` (R66, R67). -/
def execMdioWrite (prtad mmd : Fin 32) (data : Nat) (s : State) : Host.Outcome State Fault Refusal :=
  s.event (fun d => d.windowWrite mmd (fun d => d.regWrite (d.windowPort prtad) mmd (windowReg mmd (d.mdioAt prtad mmd)) (data % 65536)))

/-- `MDIO_READ` (R66, R71, R72). -/
def execMdioRead (prtad mmd : Fin 32) (s : State) : Host.Outcome State Fault Refusal :=
  s.event (fun d => let (v, d) := d.windowRead prtad mmd (d.mdioAt prtad mmd); d.emit (.mdio v))

/-- `MDIO_READ_INCREMENT` (R66): the address register goes on by one. -/
def execMdioReadIncrement (prtad mmd : Fin 32) (s : State) : Host.Outcome State Fault Refusal :=
  s.event (fun d =>
    let a := d.mdioAt prtad mmd
    let drives := d.windowDriven mmd
    let (v, d) := d.windowRead prtad mmd a
    (if drives then d.mdioSet prtad mmd (a + 1) else d).emit (.mdio v))

/-- `CONFIG_GATE_OPEN` (R48, R67). -/
def execConfigGateOpen (s : State) : Host.Outcome State Fault Refusal :=
  s.event (fun d => d.windowWrite 30 (fun d => if d.safe then d else d.configGate 1))

/-- `CONFIG_GATE_COMMIT` (R50, R67). -/
def execConfigGateCommit (s : State) : Host.Outcome State Fault Refusal :=
  s.event (fun d => d.windowWrite 30 (fun d => if d.safe then d else d.configGate 2))

/-- `PORT_IDLE_REQUEST` (R73). -/
def execPortIdleRequest (prtad : Fin 32) (on : Bool) (s : State) : Host.Outcome State Fault Refusal :=
  s.event (fun d => d.windowWrite 30 (fun d => d.regWrite (d.windowPort prtad) 30 0x10 (if on then 1 else 0)))

/-- `PEWTER_SOFT_RESET` (R73). -/
def execPewterSoftReset (prtad : Fin 32) (s : State) : Host.Outcome State Fault Refusal :=
  s.event (fun d => d.windowWrite 1 (fun d => d.regWrite (d.windowPort prtad) 1 0 0x8000))

/-- `SOFT_RESET_DONE` (R73). -/
def execSoftResetDone (p : Port) (s : State) : Host.Outcome State Fault Refusal :=
  s.event (fun d => d.onMgmt (fun m => { m with softReset := m.softReset.filter (fun e => e.1 ≠ p.val) }))

end Sys2Proof.Machine
end

