-- ==== Sys2Proof/Machine/Dispatch.lean ====
section
/-! DEFINITION. The meaning of a command, one arm for each constructor of `Instr` in the order of the table. -/

namespace Sys2Proof.Machine

def exec (i : Instr) (s : State) : Host.Outcome State Fault Refusal :=
  match i with
  | .powerOn dom => Sys2Proof.Machine.execPowerOn dom s
  | .domainPowerLoss dom => Sys2Proof.Machine.execDomainPowerLoss dom s
  | .fieldDomainValid => Sys2Proof.Machine.execFieldDomainValid s
  | .pinReset => Sys2Proof.Machine.execPinReset s
  | .start env => Sys2Proof.Machine.execStart env s
  | .startTimeout => Sys2Proof.Machine.execStartTimeout s
  | .recoveryExit r v => Sys2Proof.Machine.execRecoveryExit r v s
  | .warmReset env => Sys2Proof.Machine.execWarmReset env s
  | .warmResetRequest r env => Sys2Proof.Machine.execWarmResetRequest r env s
  | .dieResetRequest r die => Sys2Proof.Machine.execDieResetRequest r die s
  | .portResetRequest r port => Sys2Proof.Machine.execPortResetRequest r port s
  | .blockResetRequest r source => Sys2Proof.Machine.execBlockResetRequest r source s
  | .wrapperCut source => Sys2Proof.Machine.execWrapperCut source s
  | .blockReinitialised source => Sys2Proof.Machine.execBlockReinitialised source s
  | .clockMonitorTrip die stopped => Sys2Proof.Machine.execClockMonitorTrip die stopped s
  | .fallbackDelayEnd die => Sys2Proof.Machine.execFallbackDelayEnd die s
  | .fallbackConfirmed die => Sys2Proof.Machine.execFallbackConfirmed die s
  | .fallbackFailed die => Sys2Proof.Machine.execFallbackFailed die s
  | .muxForced die => Sys2Proof.Machine.execMuxForced die s
  | .referenceReturn die => Sys2Proof.Machine.execReferenceReturn die s
  | .qualMeasurement die island inWindow => Sys2Proof.Machine.execQualMeasurement die island inWindow s
  | .islandRelease r die island => Sys2Proof.Machine.execIslandRelease r die island s
  | .fcStart r die meas ref gate => Sys2Proof.Machine.execFcStart r die meas ref gate s
  | .fcComplete die measCount refCount => Sys2Proof.Machine.execFcComplete die measCount refCount s
  | .fcAbort r die v => Sys2Proof.Machine.execFcAbort r die v s
  | .paceEvaluation slack => Sys2Proof.Machine.execPaceEvaluation slack s
  | .avsTransactionDone dom ok => Sys2Proof.Machine.execAvsTransactionDone dom ok s
  | .paceFault source hostEnd dir => Sys2Proof.Machine.execPaceFault source hostEnd dir s
  | .powerControllerRecover dom => Sys2Proof.Machine.execPowerControllerRecover dom s
  | .arbitrationGrant reqs => Sys2Proof.Machine.execArbitrationGrant reqs s
  | .objectWrite r w => Sys2Proof.Machine.execObjectWrite r w s
  | .lockSet r lock v => Sys2Proof.Machine.execLockSet r lock v s
  | .bitAliasWrite r index sub v => Sys2Proof.Machine.execBitAliasWrite r index sub v s
  | .stClear r index seq => Sys2Proof.Machine.execStClear r index seq s
  | .read h items => Sys2Proof.Machine.execRead h items s
  | .write h items => Sys2Proof.Machine.execWrite h items s
  | .readMulti h items => Sys2Proof.Machine.execReadMulti h items s
  | .writeMulti h items => Sys2Proof.Machine.execWriteMulti h items s
  | .snapshot h => Sys2Proof.Machine.execSnapshot h s
  | .snapshotCapture => Sys2Proof.Machine.execSnapshotCapture s
  | .commitAdopt h => Sys2Proof.Machine.execCommitAdopt h s
  | .commitVerify h v => Sys2Proof.Machine.execCommitVerify h v s
  | .commitTimeout => Sys2Proof.Machine.execCommitTimeout s
  | .openConfig h => Sys2Proof.Machine.execOpenConfig h s
  | .configPassComplete => Sys2Proof.Machine.execConfigPassComplete s
  | .open1 h keyId xPub nonce => Sys2Proof.Machine.execOpen1 h keyId xPub nonce s
  | .open3 h signature => Sys2Proof.Machine.execOpen3 h signature s
  | .close v => Sys2Proof.Machine.execClose v s
  | .sessionOpenTimeout n => Sys2Proof.Machine.execSessionOpenTimeout n s
  | .sessionIdleTimeout n => Sys2Proof.Machine.execSessionIdleTimeout n s
  | .notifyIntervalEnd index => Sys2Proof.Machine.execNotifyIntervalEnd index s
  | .mdioAddress prtad mmd addr => Sys2Proof.Machine.execMdioAddress prtad mmd addr s
  | .mdioWrite prtad mmd data => Sys2Proof.Machine.execMdioWrite prtad mmd data s
  | .mdioRead prtad mmd => Sys2Proof.Machine.execMdioRead prtad mmd s
  | .mdioReadIncrement prtad mmd => Sys2Proof.Machine.execMdioReadIncrement prtad mmd s
  | .configGateOpen => Sys2Proof.Machine.execConfigGateOpen s
  | .configGateCommit => Sys2Proof.Machine.execConfigGateCommit s
  | .portIdleRequest prtad on => Sys2Proof.Machine.execPortIdleRequest prtad on s
  | .pewterSoftReset prtad => Sys2Proof.Machine.execPewterSoftReset prtad s
  | .softResetDone p => Sys2Proof.Machine.execSoftResetDone p s
  | .portAdvertiseWrite r p v => Sys2Proof.Machine.execPortAdvertiseWrite r p v s
  | .hlRateWrite r p v => Sys2Proof.Machine.execHlRateWrite r p v s
  | .forcedLinkOk p => Sys2Proof.Machine.execForcedLinkOk p s
  | .portEnable r p => Sys2Proof.Machine.execPortEnable r p s
  | .portDisable r p => Sys2Proof.Machine.execPortDisable r p s
  | .negRestart r p v => Sys2Proof.Machine.execNegRestart r p v s
  | .negotiationComplete p partner => Sys2Proof.Machine.execNegotiationComplete p partner s
  | .trainingFrameRx p header => Sys2Proof.Machine.execTrainingFrameRx p header s
  | .trainStageTimeout p => Sys2Proof.Machine.execTrainStageTimeout p s
  | .trainTimeoutWrite r p stage v => Sys2Proof.Machine.execTrainTimeoutWrite r p stage v s
  | .standardTrainingDone p ok => Sys2Proof.Machine.execStandardTrainingDone p ok s
  | .backoffEnd p => Sys2Proof.Machine.execBackoffEnd p s
  | .hushStart p => Sys2Proof.Machine.execHushStart p s
  | .hushEnd p => Sys2Proof.Machine.execHushEnd p s
  | .bundleGroupWrite r p v => Sys2Proof.Machine.execBundleGroupWrite r p v s
  | .nativeFrameTx p => Sys2Proof.Machine.execNativeFrameTx p s
  | .nativeFrameRx p frame => Sys2Proof.Machine.execNativeFrameRx p frame s
  | .relockNow r p v => Sys2Proof.Machine.execRelockNow r p v s
  | .relockStart p => Sys2Proof.Machine.execRelockStart p s
  | .relockReacquired p tenths => Sys2Proof.Machine.execRelockReacquired p tenths s
  | .relockFailed p => Sys2Proof.Machine.execRelockFailed p s
  | .holdExpired p => Sys2Proof.Machine.execHoldExpired p s
  | .linkPulsesReceived p => Sys2Proof.Machine.execLinkPulsesReceived p s
  | .marginUpdate p snr absent => Sys2Proof.Machine.execMarginUpdate p snr absent s
  | .lossMarginTimeout p => Sys2Proof.Machine.execLossMarginTimeout p s
  | .standardLinkFail p => Sys2Proof.Machine.execStandardLinkFail p s
  | .fastRetrainStart p => Sys2Proof.Machine.execFastRetrainStart p s
  | .fastRetrainDone p => Sys2Proof.Machine.execFastRetrainDone p s
  | .fastRetrainTimeout p => Sys2Proof.Machine.execFastRetrainTimeout p s
  | .quietEntry p => Sys2Proof.Machine.execQuietEntry p s
  | .quietRefresh p sent => Sys2Proof.Machine.execQuietRefresh p sent s
  | .deepRequest p => Sys2Proof.Machine.execDeepRequest p s
  | .wakeToneRx p => Sys2Proof.Machine.execWakeToneRx p s
  | .presencePulse p => Sys2Proof.Machine.execPresencePulse p s
  | .presencePulseRx p => Sys2Proof.Machine.execPresencePulseRx p s
  | .refreshMissing p => Sys2Proof.Machine.execRefreshMissing p s
  | .wakeFailed p => Sys2Proof.Machine.execWakeFailed p s
  | .selvageTelemetryTimer p => Sys2Proof.Machine.execSelvageTelemetryTimer p s
  | .relockReport p cause held => Sys2Proof.Machine.execRelockReport p cause held s
  | .hushNote p level duration => Sys2Proof.Machine.execHushNote p level duration s
  | .precoder p pair taps => Sys2Proof.Machine.execPrecoder p pair taps s
  | .precoderAck p pair result => Sys2Proof.Machine.execPrecoderAck p pair result s
  | .telemetry p margins corrected uncorrectable => Sys2Proof.Machine.execTelemetry p margins corrected uncorrectable s
  | .partnerQuery r p v => Sys2Proof.Machine.execPartnerQuery r p v s
  | .partnerQueryRx p item => Sys2Proof.Machine.execPartnerQueryRx p item s
  | .partnerReply p item result data => Sys2Proof.Machine.execPartnerReply p item result data s
  | .partnerQueryTimeout p => Sys2Proof.Machine.execPartnerQueryTimeout p s
  | .selvageMsgTxStart p => Sys2Proof.Machine.execSelvageMsgTxStart p s
  | .adaptHold r p ms => Sys2Proof.Machine.execAdaptHold r p ms s
  | .adaptHoldExpiry p => Sys2Proof.Machine.execAdaptHoldExpiry p s
  | .coefCapture r w sel => Sys2Proof.Machine.execCoefCapture r w sel s
  | .coefWrite r w values => Sys2Proof.Machine.execCoefWrite r w values s
  | .coefRampEnd p pair engine => Sys2Proof.Machine.execCoefRampEnd p pair engine s
  | .coefRelease r w v => Sys2Proof.Machine.execCoefRelease r w v s
  | .ckptNow r p v => Sys2Proof.Machine.execCkptNow r p v s
  | .ckptTimer p => Sys2Proof.Machine.execCkptTimer p s
  | .checkpointDone p => Sys2Proof.Machine.execCheckpointDone p s
  | .coefStoreEccError p slot correctable address => Sys2Proof.Machine.execCoefStoreEccError p slot correctable address s
  | .sealModeWrite r p v => Sys2Proof.Machine.execSealModeWrite r p v s
  | .sealHello p hello => Sys2Proof.Machine.execSealHello p hello s
  | .sealProof p epoch signature => Sys2Proof.Machine.execSealProof p epoch signature s
  | .sealFinish p epoch tag => Sys2Proof.Machine.execSealFinish p epoch tag s
  | .sealReject p epoch reason => Sys2Proof.Machine.execSealReject p epoch reason s
  | .hallmarkSignDone => Sys2Proof.Machine.execHallmarkSignDone s
  | .hallmarkVerifyDone => Sys2Proof.Machine.execHallmarkVerifyDone s
  | .sealRekeyNow r p v => Sys2Proof.Machine.execSealRekeyNow r p v s
  | .rekeyTimer p => Sys2Proof.Machine.execRekeyTimer p s
  | .oldKeyErase p => Sys2Proof.Machine.execOldKeyErase p s
  | .rekeyRetry p => Sys2Proof.Machine.execRekeyRetry p s
  | .saInstall r p v => Sys2Proof.Machine.execSaInstall r p v s
  | .saTxSelect r p v => Sys2Proof.Machine.execSaTxSelect r p v s
  | .saDelete r p v => Sys2Proof.Machine.execSaDelete r p v s
  | .managerEnrol r pub role => Sys2Proof.Machine.execManagerEnrol r pub role s
  | .managerRevoke r keyId => Sys2Proof.Machine.execManagerRevoke r keyId s
  | .lifecycleToManufacture r gwynaleToken ownerToken keys => Sys2Proof.Machine.execLifecycleToManufacture r gwynaleToken ownerToken keys s
  | .lifecycleToProvisioned r gwynaleToken ownerToken => Sys2Proof.Machine.execLifecycleToProvisioned r gwynaleToken ownerToken s
  | .lifecycleToDeployed r gwynaleToken ownerToken => Sys2Proof.Machine.execLifecycleToDeployed r gwynaleToken ownerToken s
  | .lifecycleToReturned r gwynaleToken ownerToken => Sys2Proof.Machine.execLifecycleToReturned r gwynaleToken ownerToken s
  | .lifecycleToRetired r gwynaleToken ownerToken => Sys2Proof.Machine.execLifecycleToRetired r gwynaleToken ownerToken s
  | .serviceRequest r minutes => Sys2Proof.Machine.execServiceRequest r minutes s
  | .serviceExpiry => Sys2Proof.Machine.execServiceExpiry s
  | .attestRequest r nonce => Sys2Proof.Machine.execAttestRequest r nonce s
  | .attestDone => Sys2Proof.Machine.execAttestDone s
  | .touchFlashCopy => Sys2Proof.Machine.execTouchFlashCopy s
  | .touchSign r v => Sys2Proof.Machine.execTouchSign r v s
  | .touchSignTimer => Sys2Proof.Machine.execTouchSignTimer s
  | .touchSelect r seq => Sys2Proof.Machine.execTouchSelect r seq s
  | .fwStageBegin r slot length => Sys2Proof.Machine.execFwStageBegin r slot length s
  | .fwStageData r offset count data => Sys2Proof.Machine.execFwStageData r offset count data s
  | .fwStageVerify r v => Sys2Proof.Machine.execFwStageVerify r v s
  | .fwVerifyDone => Sys2Proof.Machine.execFwVerifyDone s
  | .fwActivate r v => Sys2Proof.Machine.execFwActivate r v s
  | .fwControllerRestarted => Sys2Proof.Machine.execFwControllerRestarted s
  | .fwDieNext => Sys2Proof.Machine.execFwDieNext s
  | .fwConfirm r v => Sys2Proof.Machine.execFwConfirm r v s
  | .fwRevert r v => Sys2Proof.Machine.execFwRevert r v s
  | .fwTrialTimeout => Sys2Proof.Machine.execFwTrialTimeout s
  | .hlLockAcquired p => Sys2Proof.Machine.execHlLockAcquired p s
  | .hlLockLost p => Sys2Proof.Machine.execHlLockLost p s
  | .hlFaultSequenceRx p fault => Sys2Proof.Machine.execHlFaultSequenceRx p fault s
  | .egressFrameArrival p f corrected uncorrectable => Sys2Proof.Machine.execEgressFrameArrival p f corrected uncorrectable s
  | .ingressFrameArrival p f => Sys2Proof.Machine.execIngressFrameArrival p f s
  | .schedulerPick p dir => Sys2Proof.Machine.execSchedulerPick p dir s
  | .fcFrameFromSwitch p fc => Sys2Proof.Machine.execFcFrameFromSwitch p fc s
  | .fcFrameFromLine p fc => Sys2Proof.Machine.execFcFrameFromLine p fc s
  | .pauseExpiry p dir cls => Sys2Proof.Machine.execPauseExpiry p dir cls s
  | .pauseResend p dir => Sys2Proof.Machine.execPauseResend p dir s
  | .twillAttempt die => Sys2Proof.Machine.execTwillAttempt die s
  | .twillTrainWindowEnd die trainedDown trainedUp => Sys2Proof.Machine.execTwillTrainWindowEnd die trainedDown trainedUp s
  | .twillAligned die => Sys2Proof.Machine.execTwillAligned die s
  | .twillAlignTimeout die => Sys2Proof.Machine.execTwillAlignTimeout die s
  | .twillLinkLoss die => Sys2Proof.Machine.execTwillLinkLoss die s
  | .trainBlockRx die way lane body => Sys2Proof.Machine.execTrainBlockRx die way lane body s
  | .markerRx die way lane body => Sys2Proof.Machine.execMarkerRx die way lane body s
  | .markerSlot die way lane => Sys2Proof.Machine.execMarkerSlot die way lane s
  | .rateFillRx die way lane fill => Sys2Proof.Machine.execRateFillRx die way lane fill s
  | .dataBlockRx die way block => Sys2Proof.Machine.execDataBlockRx die way block s
  | .managementMessage die way msg => Sys2Proof.Machine.execManagementMessage die way msg s
  | .eventMessage die msg => Sys2Proof.Machine.execEventMessage die msg s
  | .timestampMessage die msg => Sys2Proof.Machine.execTimestampMessage die msg s
  | .keyMessage die way msg => Sys2Proof.Machine.execKeyMessage die way msg s
  | .timeMessage die msg => Sys2Proof.Machine.execTimeMessage die msg s
  | .laneCtlPark die way logical => Sys2Proof.Machine.execLaneCtlPark die way logical s
  | .laneCtlNarrow die way => Sys2Proof.Machine.execLaneCtlNarrow die way s
  | .laneCtlWiden die way => Sys2Proof.Machine.execLaneCtlWiden die way s
  | .laneCtlRetrain die way lane => Sys2Proof.Machine.execLaneCtlRetrain die way lane s
  | .laneLockLost die way lane => Sys2Proof.Machine.execLaneLockLost die way lane s
  | .twillNarrow die way => Sys2Proof.Machine.execTwillNarrow die way s
  | .laneReinstateTimer die way lane => Sys2Proof.Machine.execLaneReinstateTimer die way lane s
  | .twillReinstateWrite r v => Sys2Proof.Machine.execTwillReinstateWrite r v s
  | .laneRetrainDone die way lane ok => Sys2Proof.Machine.execLaneRetrainDone die way lane ok s
  | .twillTestStart r die v => Sys2Proof.Machine.execTwillTestStart r die v s
  | .twillTestStop r die v => Sys2Proof.Machine.execTwillTestStop r die v s
  | .twillTestEnd die bits errors => Sys2Proof.Machine.execTwillTestEnd die bits errors s
  | .timeSet r seconds ns frac => Sys2Proof.Machine.execTimeSet r seconds ns frac s
  | .timeStep r v => Sys2Proof.Machine.execTimeStep r v s
  | .timeAdjustApply => Sys2Proof.Machine.execTimeAdjustApply s
  | .timeFreqAdjWrite r v => Sys2Proof.Machine.execTimeFreqAdjWrite r v s
  | .ppsInEdge time => Sys2Proof.Machine.execPpsInEdge time s
  | .ppsInMissing => Sys2Proof.Machine.execPpsInMissing s
  | .ppsOutEdge => Sys2Proof.Machine.execPpsOutEdge s
  | .ppsOutFall => Sys2Proof.Machine.execPpsOutFall s
  | .diagStartInService r p => Sys2Proof.Machine.execDiagStartInService r p s
  | .diagStartOutOfService r p => Sys2Proof.Machine.execDiagStartOutOfService r p s
  | .diagPeriodic p => Sys2Proof.Machine.execDiagPeriodic p s
  | .diagRepeat p pair => Sys2Proof.Machine.execDiagRepeat p pair s
  | .diagCommit p meas => Sys2Proof.Machine.execDiagCommit p meas s
  | .diagAbort r p v => Sys2Proof.Machine.execDiagAbort r p v s
  | .samplerArm r die arm => Sys2Proof.Machine.execSamplerArm r die arm s
  | .samplerTrigger die position => Sys2Proof.Machine.execSamplerTrigger die position s
  | .samplerTimeout die position => Sys2Proof.Machine.execSamplerTimeout die position s
  | .samplerDone die samples ramped quiet relocked => Sys2Proof.Machine.execSamplerDone die samples ramped quiet relocked s
  | .samplerAbort r die v => Sys2Proof.Machine.execSamplerAbort r die v s
  | .samplerSelect r die sel => Sys2Proof.Machine.execSamplerSelect r die sel s
  | .samplerDataRead r die => Sys2Proof.Machine.execSamplerDataRead r die s
  | .tlmBlockEnd p pair samples => Sys2Proof.Machine.execTlmBlockEnd p pair samples s
  | .tsyncEdge => Sys2Proof.Machine.execTsyncEdge s
  | .tlmSync r v => Sys2Proof.Machine.execTlmSync r v s
  | .tlmSyncApply => Sys2Proof.Machine.execTlmSyncApply s
  | .tlmLatch r v => Sys2Proof.Machine.execTlmLatch r v s
  | .calStart r p v meas => Sys2Proof.Machine.execCalStart r p v meas s
  | .calRound p meas => Sys2Proof.Machine.execCalRound p meas s
  | .calTimeout p => Sys2Proof.Machine.execCalTimeout p s
  | .calCommit p verifyOk => Sys2Proof.Machine.execCalCommit p verifyOk s
  | .calAbort r p v => Sys2Proof.Machine.execCalAbort r p v s
  | .calSlotUseWrite r p v => Sys2Proof.Machine.execCalSlotUseWrite r p v s
  | .trimRampEnd p pair => Sys2Proof.Machine.execTrimRampEnd p pair s
  | .calTracking temps => Sys2Proof.Machine.execCalTracking temps s
  | .calAutoTimer p meas => Sys2Proof.Machine.execCalAutoTimer p meas s
  | .calAutoRetry p meas => Sys2Proof.Machine.execCalAutoRetry p meas s
  | .temperSelect r v => Sys2Proof.Machine.execTemperSelect r v s
  | .faultEvent ev => Sys2Proof.Machine.execFaultEvent ev s
  | .reactionEnd source => Sys2Proof.Machine.execReactionEnd source s
  | .settleEnd source => Sys2Proof.Machine.execSettleEnd source s
  | .faultFirstRearm r source v => Sys2Proof.Machine.execFaultFirstRearm r source v s
  | .moduleFirstRearm r v => Sys2Proof.Machine.execModuleFirstRearm r v s
  | .mcTaskLate => Sys2Proof.Machine.execMcTaskLate s
  | .aliveTick => Sys2Proof.Machine.execAliveTick s
  | .inject r source kind count spacing => Sys2Proof.Machine.execInject r source kind count spacing s
  | .injectCheck detail => Sys2Proof.Machine.execInjectCheck detail s
  | .injectCancel r v => Sys2Proof.Machine.execInjectCancel r v s
  | .assayRun r program target => Sys2Proof.Machine.execAssayRun r program target s
  | .assayCommit die res => Sys2Proof.Machine.execAssayCommit die res s
  | .assayAbort r v => Sys2Proof.Machine.execAssayAbort r v s
  | .shutdown r v => Sys2Proof.Machine.execShutdown r v s
  | .sledFrame => Sys2Proof.Machine.execSledFrame s
  | .kLost die => Sys2Proof.Machine.execKLost die s
  | .kClockReturn die => Sys2Proof.Machine.execKClockReturn die s
  | .dieRunning die => Sys2Proof.Machine.execDieRunning die s
  | .partnerLpi p enter => Sys2Proof.Machine.execPartnerLpi p enter s
  | .hlHiBer p => Sys2Proof.Machine.execHlHiBer p s
  | .tapInstruction code => Sys2Proof.Machine.execTapInstruction code s

end Sys2Proof.Machine
end

