-- ==== Sys2Proof/Machine/Idle.lean ====
section
/-! DEFINITION. What passes while no command waits: one microsecond (log entry 1). -/

namespace Sys2Proof.Machine

/-- What telemetry chains and captures see of their ports in a µs (R343, R344; log entries 93 and 110). -/
def Dev.looks (d : Dev) : Dev := { d with ports := Vector.ofFn d.tlmLook, samplers := Vector.ofFn d.samplerSeen }

/-- One microsecond without a command: chains and captures look at their ports, a latch whose sample instant has come copies (R351), and a management port whose line
has frames to send wakes (R201); then the time since power-on counts up, and the time base advances by its nominal period and the correction of TIME_FREQ_ADJ (R306,
R308). During a start only the time since power-on counts; with the host domain unpowered nothing does. Log entry 1. -/
def Dev.idle (d : Dev) : Dev :=
  match d.life with
  | .off => d
  | .starting => { d with uptime := d.uptime + 1 }
  | .running =>
    let d := d.looks.tlmLatches.inbandWake
    { d with uptime := d.uptime + 1, time := d.time.tick (signed 32 (d.get 0x6000 4)) }

/-- The whole machine idles for one microsecond. -/
def State.idle (s : State) : State := s.onDev Dev.idle

/-- Put a command at the front of the queue. -/
def State.withCommand (s : State) (c : Instr) : State := { s with pending := c :: s.pending }

end Sys2Proof.Machine
end

