-- ==== Sys2Proof/Machine/Step.lean ====
section
/-! DEFINITION. One step of the DZ12800: the command at the front of its queue, or one idle microsecond (log entry 1). -/

namespace Sys2Proof.Machine

/-- One step: the front command acts on the state with the rest of the queue; with no command the device idles. -/
def step (s : State) : Host.Outcome State Fault Refusal :=
  match s.pending with
  | [] => .next s.idle
  | c :: rest => exec c { s with pending := rest }

/-- The state with the command that a word spells put at the front of the queue; unchanged where it spells none. -/
def State.withFetchWord (s : State) (nbits w : Nat) : State :=
  match Sys2Proof.decodeTableWord nbits w with
  | some c => s.withCommand c
  | none => s

end Sys2Proof.Machine
end

