-- ==== Sys2Proof/Safety.lean ====
section
/-! DEFINITION. What a safe run is, in the terms that statements use: the one-way store only moves forward (R215, R216, R243), the dictionary
keeps its canonical form, and a step takes one command from the queue. -/

namespace Sys2Proof.Machine

/-- From one value of the one-way store to another: no life-cycle state and no rollback fuse falls (R215, R243). -/
def Vault.Advances (v w : Vault) : Prop :=
  v.lifecycle ≤ w.lifecycle ∧ ∀ i : Fin 4, v.fuseLevels.get i ≤ w.fuseLevels.get i

/-- The legal states of the one-way store: one of the six life-cycle states of R215, and an identity key in none but those that R216 gives one
(BLANK has none yet, RETIRED none any more). -/
def Vault.Legal (v : Vault) : Prop :=
  v.lifecycle ≤ 5 ∧ (v.lifecycle = 0 → v.identityKey = false) ∧ (v.lifecycle = 5 → v.identityKey = false)

/-- The dictionary's store is canonical. -/
def State.Stored (s : State) : Prop := Store.wf s.dev.objs = true

/-! ## How a statement says what a command does -/

/-- The command takes the device to the state that `f` gives, and leaves the one-way store and the rest of the queue alone. -/
def Does (c : Instr) (s : State) (f : Dev → Dev) : Prop := exec c s = .next (s.onDev f)

/-- The command has an effect on the device and answers OK (R35). -/
def Answers (c : Instr) (s : State) (r : Req) (f : Dev → Dev) : Prop := Does c s (fun d => (f d).answer r .ok)

/-- The command answers a next state of which something holds. -/
def Gives (c : Instr) (s : State) (P : State → Prop) : Prop := ∃ t, exec c s = .next t ∧ P t

/-- Nothing that every write shares refuses a write of a value to an object: its route is served, the request is not lost on its way to a line die
(R273), the session has the role that R213 asks for, no program, test or block reset holds the object's block, the device is in no state that refuses writes, and the value has the object's length. -/
structure Ready (s : State) (r : Req) (idx sub v : Nat) : Prop where
  heard : s.dev.hears r.route = true
  delivered : s.dev.lostRequest idx = false
  role : s.dev.meets r (writeRole idx) = true
  free : s.dev.busyIndex idx = false
  mode : s.dev.modeRefuses idx = false
  fits : misfits idx sub v = false

/-- Nothing that every write to an RW or RWL object shares refuses it: also its lock is open and the value is in its range. -/
structure Writable (s : State) (r : Req) (idx sub v : Nat) : Prop extends Ready s r idx sub v where
  unlocked : s.dev.locked idx sub = false
  inRange : outOfRange idx sub v = false

/-- The value of a granted write stands in its object, and a COMMIT's pass starts again (R8, R50). -/
def Dev.stored (d : Dev) (idx sub v : Nat) : Dev := (d.put idx sub (storedValue idx sub v)).configured

/-! ## Kinds of commands -/

/-- The request in which a software access or a management frame comes; a grant of a window carries several, and a command of the device's own none. -/
def request? : Instr → Option Req
  | .recoveryExit r _ => some r
  | .warmResetRequest r _ => some r
  | .dieResetRequest r _ => some r
  | .portResetRequest r _ => some r
  | .blockResetRequest r _ => some r
  | .islandRelease r _ _ => some r
  | .fcStart r _ _ _ _ => some r
  | .fcAbort r _ _ => some r
  | .objectWrite r _ => some r
  | .lockSet r _ _ => some r
  | .bitAliasWrite r _ _ _ => some r
  | .stClear r _ _ => some r
  | .read h _ => some (MHdr.req h)
  | .write h _ => some (MHdr.req h)
  | .readMulti h _ => some (MHdr.req h)
  | .writeMulti h _ => some (MHdr.req h)
  | .snapshot h => some (MHdr.req h)
  | .commitAdopt h => some (MHdr.req h)
  | .commitVerify h _ => some (MHdr.req h)
  | .openConfig h => some (MHdr.req h)
  | .open1 h _ _ _ => some (MHdr.req h)
  | .open3 h _ => some (MHdr.req h)
  | .close v => some (MHdr.req v.hdr)
  | .portAdvertiseWrite r _ _ => some r
  | .hlRateWrite r _ _ => some r
  | .portEnable r _ => some r
  | .portDisable r _ => some r
  | .negRestart r _ _ => some r
  | .trainTimeoutWrite r _ _ _ => some r
  | .bundleGroupWrite r _ _ => some r
  | .relockNow r _ _ => some r
  | .partnerQuery r _ _ => some r
  | .adaptHold r _ _ => some r
  | .coefCapture r _ _ => some r
  | .coefWrite r _ _ => some r
  | .coefRelease r _ _ => some r
  | .ckptNow r _ _ => some r
  | .sealModeWrite r _ _ => some r
  | .sealRekeyNow r _ _ => some r
  | .saInstall r _ _ => some r
  | .saTxSelect r _ _ => some r
  | .saDelete r _ _ => some r
  | .managerEnrol r _ _ => some r
  | .managerRevoke r _ => some r
  | .lifecycleToManufacture r _ _ _ => some r
  | .lifecycleToProvisioned r _ _ => some r
  | .lifecycleToDeployed r _ _ => some r
  | .lifecycleToReturned r _ _ => some r
  | .lifecycleToRetired r _ _ => some r
  | .serviceRequest r _ => some r
  | .attestRequest r _ => some r
  | .touchSign r _ => some r
  | .touchSelect r _ => some r
  | .fwStageBegin r _ _ => some r
  | .fwStageData r _ _ _ => some r
  | .fwStageVerify r _ => some r
  | .fwActivate r _ => some r
  | .fwConfirm r _ => some r
  | .fwRevert r _ => some r
  | .twillReinstateWrite r _ => some r
  | .twillTestStart r _ _ => some r
  | .twillTestStop r _ _ => some r
  | .timeSet r _ _ _ => some r
  | .timeStep r _ => some r
  | .timeFreqAdjWrite r _ => some r
  | .diagStartInService r _ => some r
  | .diagStartOutOfService r _ => some r
  | .diagAbort r _ _ => some r
  | .samplerArm r _ _ => some r
  | .samplerAbort r _ _ => some r
  | .samplerSelect r _ _ => some r
  | .samplerDataRead r _ => some r
  | .tlmSync r _ => some r
  | .tlmLatch r _ => some r
  | .calStart r _ _ _ => some r
  | .calAbort r _ _ => some r
  | .calSlotUseWrite r _ _ => some r
  | .temperSelect r _ => some r
  | .faultFirstRearm r _ _ => some r
  | .moduleFirstRearm r _ => some r
  | .inject r _ _ _ _ => some r
  | .injectCancel r _ => some r
  | .assayRun r _ _ => some r
  | .assayAbort r _ => some r
  | .shutdown r _ => some r
  | _ => none

/-- The requests of the life cycle, which in BLANK come from the test station (log entry 30). -/
def lifecycleRequest : Instr → Bool
  | .lifecycleToManufacture _ _ _ _ => true
  | .lifecycleToProvisioned _ _ _ => true
  | .lifecycleToDeployed _ _ _ => true
  | .lifecycleToReturned _ _ _ => true
  | .lifecycleToRetired _ _ _ => true
  | _ => false

/-- The commands that may change the one-way store: those of the managers, of the life cycle and of a trial's confirmation, and the accesses that can name their objects (R214 to R217, R243). -/
def storesInVault : Instr → Bool
  | .managerEnrol _ _ _ => true
  | .managerRevoke _ _ => true
  | .lifecycleToManufacture _ _ _ _ => true
  | .lifecycleToProvisioned _ _ _ => true
  | .lifecycleToDeployed _ _ _ => true
  | .lifecycleToReturned _ _ _ => true
  | .lifecycleToRetired _ _ _ => true
  | .fwConfirm _ _ => true
  | .objectWrite _ _ => true
  | .bitAliasWrite _ _ _ _ => true
  | .stClear _ _ _ => true
  | .write _ _ => true
  | .writeMulti _ _ => true
  | .arbitrationGrant _ => true
  | _ => false

/-- The port of a command whose effect stays within one port: its record and its objects. -/
def portLocal? : Instr → Option Port
  | .hlLockLost p => some p
  | .hlFaultSequenceRx p _ => some p
  | .hlHiBer p => some p
  | .pauseExpiry p _ _ => some p
  | .oldKeyErase p => some p
  | .partnerQueryTimeout p => some p
  | .partnerQueryRx p _ => some p
  | .partnerReply p _ _ _ => some p
  | .selvageMsgTxStart p => some p
  | .trimRampEnd p _ => some p
  | .tlmBlockEnd p _ _ => some p
  | .deepRequest p => some p
  | .presencePulse p => some p
  | .presencePulseRx p => some p
  | .hushNote p _ _ => some p
  | .relockReport p _ _ => some p
  | .telemetry p _ _ _ => some p
  | .selvageTelemetryTimer p => some p
  | .ckptTimer p => some p
  | .checkpointDone p => some p
  | .adaptHoldExpiry p => some p
  | _ => none
/-! ## What a command leaves alone -/

/-- Outside one port's record and objects, and the frame that arrives for that port over its die's link, a step changes none of the parts of the state named here. -/
structure OnlyPort (p : Port) (s t : State) : Prop where
  vault : t.vault = s.vault
  pending : t.pending = s.pending
  ports : ∀ q : Port, q ≠ p → t.dev.port q = s.dev.port q
  objects : ∀ idx sub : Nat, sub < 256 → portOf? idx ≠ some p → t.dev.get idx sub = s.dev.get idx sub
  dies : ∀ n : Die, n ≠ dieOf p → t.dev.dies.get n = s.dev.dies.get n
  link : ∃ v : Vector (Option (Fin 32 × RxFrame)) 16, (∀ k : Fin 16, k ≠ placeOf p → v.get k = (s.dev.dies.get (dieOf p)).up.frames.get k)
    ∧ t.dev.dies.get (dieOf p) = { s.dev.dies.get (dieOf p) with up := { (s.dev.dies.get (dieOf p)).up with frames := v } }
  clocks : t.dev.clocks = s.dev.clocks
  pace : t.dev.pace = s.dev.pace
  time : t.dev.time = s.dev.time
  pps : t.dev.pps = s.dev.pps
  mgmt : t.dev.mgmt = s.dev.mgmt
  hall : t.dev.hall = s.dev.hall
  faults : t.dev.faults = s.dev.faults
  assay : t.dev.assay = s.dev.assay
  samplers : t.dev.samplers = s.dev.samplers
  life : t.dev.life = s.dev.life ∧ t.dev.safe = s.dev.safe ∧ t.dev.nv = s.dev.nv ∧ t.dev.options = s.dev.options

/-- The objects of the indexes of which `own` holds may change, and the parts of the state not named here; the ports, the one-way store, the queue, the fault
records and the start do not. -/
structure OnlyObjects (own : Nat → Prop) (s t : State) : Prop where
  vault : t.vault = s.vault
  pending : t.pending = s.pending
  ports : t.dev.ports = s.dev.ports
  objects : ∀ idx sub : Nat, sub < 256 → ¬ own idx → t.dev.get idx sub = s.dev.get idx sub
  clocks : t.dev.clocks = s.dev.clocks
  pace : t.dev.pace = s.dev.pace
  faults : t.dev.faults = s.dev.faults
  assay : t.dev.assay = s.dev.assay
  life : t.dev.life = s.dev.life ∧ t.dev.safe = s.dev.safe ∧ t.dev.nv = s.dev.nv ∧ t.dev.options = s.dev.options

/-! ## What several statements share -/

/-- A port may negotiate: it is NEGOTIATING, enabled, not forced, its line die serves it and no out-of-service test holds it. -/
structure Negotiates (d : Dev) (p : Port) : Prop where
  state : d.linkState p = 2
  forced : d.forced p = false
  enabled : d.enabled p = true
  serves : d.lineServes p = true
  free : (d.port p).diag.any (·.outOfService) = false

/-- A negotiation has exchanged its pages: the port's own are shown, with the SEED drawn for them, and the partner's offer is reported (R164, R165, R171). -/
def Dev.pagesExchanged (d : Dev) (p : Port) (modes : Nat) (tagged : List (Vector Nat 4)) (theirs : Nat) : Dev :=
  (d.newDraw.emit (.pages p (Config.basePage (d.effAdvertise p % 128)) (d.nextPages p (Config.drawBelow d.draws 512) theirs))).partnerSeen p
    (field modes 0 7) (nativeSet tagged)

/-- The highest mode common to a port and a partner that sent these pages, or 0 (R81, R166). -/
def Dev.commonMode (d : Dev) (p : Port) (modes : Nat) (tagged : List (Vector Nat 4)) : Nat :=
  highestMode ((d.effAdvertise p &&& field modes 0 7) ||| (match nativeSet tagged with | some (page, _) => d.commonNative p page | none => 0))

/-- The information bits of a native frame as they were received, its overhead, and whether the frame is lost (R98). -/
def Dev.rxInfo (d : Dev) (p : Port) (f : NativeRx) : List Bool := gatherInfo (d.mode p) ((d.codewordsIn p f).map (·.info))
def Dev.rxOverhead (d : Dev) (p : Port) (f : NativeRx) : Overhead := readOverhead (d.mode p) ((d.rxInfo p f).take (overheadBits (d.mode p)))
def Dev.rxBad (d : Dev) (p : Port) (f : NativeRx) : Bool := (d.codewordsIn p f).any (·.uncorrectable) || !(d.rxOverhead p f).ok

/-- What a native frame counts before anything is made of it: itself, its codewords, here and for the next TELEMETRY, and a bad overhead; an uncorrectable codeword
triggers the samplers that wait for one (R98, R110, R340). -/
def Dev.rxCounted (d : Dev) (p : Port) (f : NativeRx) : Dev :=
  let corrected := ((d.codewordsIn p f).filter (fun c => c.corrected && !c.uncorrectable)).length
  let failed := ((d.codewordsIn p f).filter (·.uncorrectable)).length
  let e := ((d.inc (0x4300 + p) 0x10).count (0x4300 + p) 0x11 corrected).count (0x4300 + p) 0x12 failed
  let e := e.telemetryCount p corrected failed
  let e := if failed = 0 then e else e.samplerSees p 2
  if (d.rxOverhead p f).ok then e else e.inc (0x4300 + p) 0x14

/-- A relocking end has reacquired: it sends RESUME in four frames, and a new payload stream follows (R184, R185). -/
def Dev.resumeSent (d : Dev) (p : Port) (r : Relock) (tenths : Nat) : Dev :=
  ((d.moveOn p false).onLink p (fun l => { l with relock := some { r with resumed := true, tenths } })).onNative p
    (fun n => { n with resumeLeft := 4, txBits := [], rxBits := [] })

/-- The next state of a granted write that may reach the one-way store: its effect on the store and the device, the answer OK, and what follows it. -/
def VaultAnswers (c : Instr) (s : State) (r : Req) (f : Vault → Dev → Vault × Dev) (later : Dev → Dev) : Prop :=
  exec c s = .next { s with vault := (f s.vault s.dev).1, dev := later ((f s.vault s.dev).2.answer r .ok) }

/-- Nothing but the transition itself refuses a life-cycle request: it is heard, its session has the role, no activation runs, the log has room. -/
structure LifeReady (s : State) (r : Req) (dest : Nat) : Prop where
  heard : lifeHeard s.vault s.dev r = true
  role : s.dev.lifeRole r s.vault.lifecycle dest = true
  free : s.dev.busyIndex 0x6410 = false
  still : s.dev.activating = false
  room : s.dev.stagingFull = false
  mode : s.dev.modeRefuses 0x6410 = false

/-- The record of a transition, and a new challenge with its result. -/
def lifeRecorded (r : Req) (src dest : Nat) (d : Dev) : Dev := d.touch 0x0030 (bytesOf 1 src ++ bytesOf 1 dest ++ d.keyIdOf r)
def lifeClosed (d : Dev) : Dev := (d.newDraw.onHall (fun h => { h with challenge := d.draws })).put 0x6410 3 0

/-- A transition is refused for the state of the life cycle: ERR_STATE, and the challenge is replaced all the same (R217). -/
def LifeRefused (c : Instr) (s : State) (r : Req) : Prop :=
  Does c s (fun d => ((d.newDraw.onHall (fun h => { h with challenge := d.draws })).put 0x6410 3 Code.state.value).answer r .state)

end Sys2Proof.Machine
end

