-- ==== Sys2Proof/Certificates/Slice0/Obligations.lean ====
section
/-! DEFINITION. What is stated of the DZ12800, for the provers. Each statement's docstring names the rule of the spec it formalises; the statements of
completion say for each command, under conditions on the state and the operands alone, the next state its own effect gives. -/

open Sys2Proof Sys2Proof.Machine

/-! ## The whole machine -/

/-- A step takes the command at the front of the queue and is exec of it on the state with the queue's rest. -/
def Obligations.StepRunsFront : Prop :=
  ∀ (c : Instr) (s : State), step { s with pending := c :: s.pending } = exec c s

/-- With no command waiting the device idles one microsecond (the model's choice, log entry 1): without power nothing at all changes; a start in progress
only counts its time. Of a running device the telemetry chains and the captures first look at their ports (log entries 93 and 110), which changes nothing
but those chains and captures; then a telemetry latch whose sample instant has passed copies (R351), a management port whose line has something to send
wakes (R201), the time since power-on counts, and the time base advances (R305, R306). No latch copies before its instant, and nothing wakes where no frame
waits. -/
def Obligations.IdleTick : Prop :=
  (∀ s : State, s.pending = [] →
    (s.dev.life = .off → step s = .next s)
    ∧ (s.dev.life = .starting → step s = .next (s.onDev (fun d => { d with uptime := d.uptime + 1 })))
    ∧ (s.dev.life = .running → step s = .next (s.onDev (fun d =>
        let e := ({ d with ports := Vector.ofFn d.tlmLook, samplers := Vector.ofFn d.samplerSeen }).tlmLatches.inbandWake
        { e with uptime := e.uptime + 1, time := e.time.tick (signed 32 (e.get 0x6000 4)) }))))
  ∧ (∀ (d : Dev) (p : Port), (d.tlmLook p) = { d.port p with tlm := (d.tlmLook p).tlm })
  ∧ (∀ d : Dev, (∀ k, d.tlm.latchAt = some k → d.tlmCount ≤ k) → d.tlmLatches = d)
  ∧ (∀ d : Dev, (∀ p : Port, d.get 0x1424 1 = p.val → d.linePending p = false) → d.inbandWake = d)

/-- After power-on reset every object reads its power-on value (R382, R438), no command waits, nothing has been sent, no session is open, no fault is held,
and the start has not begun; that the one-way store is blank is the model's choice (log entry 3). -/
def Obligations.ResetState : Prop :=
  (∀ idx sub : Nat, State.reset.dev.get idx sub = Catalog.dflt idx sub)
  ∧ State.reset.pending = [] ∧ State.reset.dev.out = [] ∧ State.reset.dev.life = .starting ∧ State.reset.dev.mgmt = {} ∧ State.reset.dev.time.count = 0
  ∧ (∀ b : Nat, State.reset.dev.faultState b = 0) ∧ State.reset.dev.injection = none ∧ State.reset.vault = {}

/-- No command ever stops the model but a private code of the test access port in the two life-cycle states that have private instructions (R461; log entry
75), and none changes what waits behind it. -/
def Obligations.EveryCommandCompletes : Prop :=
  ∀ (c : Instr) (s : State),
    (∃ t, exec c s = .next t ∧ t.pending = s.pending)
    ∨ (∃ code, c = .tapInstruction (.vendor code) ∧ (s.vault.lifecycle = 1 ∨ s.vault.lifecycle = 4) ∧ exec c s = .refused .privateTapInstruction)

/-- No step moves a life-cycle state or a rollback fuse back: neither power loss nor a reset, nor any other command or idle time (R215, R243). -/
def Obligations.VaultAdvances : Prop :=
  ∀ s t : State, step s = .next t → s.vault.Advances t.vault

/-- The one-way store stays legal: the life-cycle state is one of six, and BLANK and RETIRED hold no identity key (R215 to R217). -/
def Obligations.VaultStaysLegal : Prop :=
  ∀ s t : State, s.vault.Legal → step s = .next t → t.vault.Legal

/-- The one-way store is legal after reset. -/
def Obligations.VaultLegalAtReset : Prop :=
  State.reset.vault.Legal

/-- Only the manager, life-cycle and confirmation requests, and the accesses that can name their objects, change the one-way store; the rollback fuses
change only by FW_CONFIRM or an access to its object, and managers' requests and a confirmation change no life-cycle state (R214 to R216, R243). -/
def Obligations.OneWayStoreWriters : Prop :=
  (∀ (c : Instr) (s t : State), storesInVault c = false → exec c s = .next t → t.vault = s.vault)
  ∧ (∀ (c : Instr) (s t : State), lifecycleRequest c = true → exec c s = .next t → t.vault.fuseLevels = s.vault.fuseLevels)
  ∧ (∀ (s t : State) (r : Req) (pub : List Byte) (role : Nat), exec (.managerEnrol r pub role) s = .next t →
    t.vault = { s.vault with managers := t.vault.managers })
  ∧ (∀ (s t : State) (r : Req) (keyId : List Byte), exec (.managerRevoke r keyId) s = .next t → t.vault = { s.vault with managers := t.vault.managers })
  ∧ (∀ (s t : State) (r : Req) (v : Nat), exec (.fwConfirm r v) s = .next t → t.vault = { s.vault with fuseLevels := t.vault.fuseLevels })
  ∧ (∀ (s t : State) (r : Req) (w : WItem), exec (.objectWrite r w) s = .next t → t.vault ≠ s.vault →
    w.index = 0x6410 ∨ w.index = 0x6424 ∨ (w.index = 0x6440 ∧ w.sub = 8))

/-- A request on a route that nobody serves changes nothing at all (R390, R393, R406), but for a life-cycle request in BLANK, which comes from the test
station (log entry 30). -/
def Obligations.UnheardRequests : Prop :=
  ∀ (c : Instr) (r : Req) (s : State), request? c = some r → s.dev.hears r.route = false → (lifecycleRequest c = true → s.vault.lifecycle ≠ 0) →
    exec c s = .next s

/-- Each access named here that the session's role does not permit, and that reaches its object, is refused with ERR_AUTH, is counted, and does nothing
else (R65, R213, R214, R218, R225, R302, R394): the managers', service and lock requests of an owner; the firmware, recovery, sealing and test requests of
an operator; the log and attestation requests of a viewer. -/
def Obligations.UnauthorisedRequests : Prop :=
  (∀ (s : State) (r : Req), s.dev.hears r.route = true → s.dev.permits r 2 = false →
    (∀ pub role, Does (.managerEnrol r pub role) s (fun d => (d.inc 0x1404 3).answer r .auth))
    ∧ (∀ keyId, Does (.managerRevoke r keyId) s (fun d => (d.inc 0x1404 3).answer r .auth))
    ∧ (∀ m, Does (.serviceRequest r m) s (fun d => (d.inc 0x1404 3).answer r .auth))
    ∧ (∀ v, Does (.lockSet r .sealPolicy v) s (fun d => (d.inc 0x1404 3).answer r .auth)))
  ∧ (∀ (s : State) (r : Req), s.dev.hears r.route = true → s.dev.permits r 1 = false →
    (∀ slot length, Does (.fwStageBegin r slot length) s (fun d => (d.inc 0x1404 3).answer r .auth))
    ∧ (∀ offset count data, Does (.fwStageData r offset count data) s (fun d => (d.inc 0x1404 3).answer r .auth))
    ∧ (∀ v, Does (.fwStageVerify r v) s (fun d => (d.inc 0x1404 3).answer r .auth) ∧ Does (.fwActivate r v) s (fun d => (d.inc 0x1404 3).answer r .auth)
      ∧ Does (.fwConfirm r v) s (fun d => (d.inc 0x1404 3).answer r .auth) ∧ Does (.fwRevert r v) s (fun d => (d.inc 0x1404 3).answer r .auth)
      ∧ Does (.recoveryExit r v) s (fun d => (d.inc 0x1404 3).answer r .auth))
    ∧ (∀ (p : Port) v, s.dev.lostRequest (0x4400 + p) = false → Does (.sealModeWrite r p v) s (fun d => (d.inc 0x1404 3).answer r .auth) ∧ Does (.sealRekeyNow r p v) s (fun d => (d.inc 0x1404 3).answer r .auth)
      ∧ Does (.saTxSelect r p v) s (fun d => (d.inc 0x1404 3).answer r .auth) ∧ Does (.saDelete r p v) s (fun d => (d.inc 0x1404 3).answer r .auth))
    ∧ (∀ (p : Port) v, s.dev.lostRequest (0x4400 + p) = false → Does (.saInstall r p v) s (fun d => (d.inc 0x1404 3).answer r .auth))
    ∧ (∀ n t, Does (.twillTestStart r n t) s (fun d => (d.inc 0x1404 3).answer r .auth)))
  ∧ (∀ (s : State) (r : Req), s.dev.hears r.route = true → s.dev.permits r 0 = false →
    (∀ v, Does (.touchSign r v) s (fun d => (d.inc 0x1404 3).answer r .auth) ∧ Does (.touchSelect r v) s (fun d => (d.inc 0x1404 3).answer r .auth))
    ∧ (∀ nonce, Does (.attestRequest r nonce) s (fun d => (d.inc 0x1404 3).answer r .auth)))

/-- A command whose effect stays within its port changes no other port, no object of another index, and of the module's other units only the frame that
arrives for that port over its line die's link. -/
def Obligations.PortCommandsStayLocal : Prop :=
  ∀ (c : Instr) (p : Port) (s : State), portLocal? c = some p → Gives c s (OnlyPort p s)

/-- What the commands of the module's other units leave alone: those of the time base keep to the time objects, Hallmark's to the security objects, the
lanes' to the twill records, the samplers' to theirs, and the window's address register to no object. -/
def Obligations.UnitCommandsStayLocal : Prop :=
  (∀ (s : State) (c : Instr), (∃ time, c = .ppsInEdge time) ∨ c = .ppsInMissing ∨ c = .ppsOutEdge ∨ c = .ppsOutFall →
    Gives c s (fun t => OnlyObjects (fun i => 0x6000 ≤ i ∧ i < 0x6400) s t ∧ t.dev.hall = s.dev.hall ∧ t.dev.mgmt = s.dev.mgmt ∧ t.dev.dies = s.dev.dies))
  ∧ (∀ (s : State) (c : Instr), c = .touchFlashCopy ∨ c = .touchSignTimer ∨ c = .serviceExpiry ∨ c = .attestDone →
    Gives c s (fun t => OnlyObjects (fun i => 0x6400 ≤ i ∧ i < 0x6800) s t ∧ t.dev.time = s.dev.time ∧ t.dev.mgmt = s.dev.mgmt ∧ t.dev.dies = s.dev.dies))
  ∧ (∀ (s : State) (n : Die) (w : Way) (c : Instr), c = .kLost n ∨ c = .kClockReturn n ∨ c = .laneCtlWiden n w ∨ c = .twillNarrow n w
      ∨ (∃ lane, c = .laneReinstateTimer n w lane) →
    Gives c s (fun t => OnlyObjects (fun i => 0x3000 ≤ i ∧ i < 0x4000) s t ∧ t.dev.time = s.dev.time ∧ t.dev.mgmt = s.dev.mgmt ∧ t.dev.hall = s.dev.hall
      ∧ ∀ m : Die, m ≠ n → t.dev.dies.get m = s.dev.dies.get m))
  ∧ (∀ (s : State) (n : Die) (c : Instr), (∃ pos, c = .samplerTrigger n pos ∨ c = .samplerTimeout n pos)
      ∨ (∃ samples a b x, c = .samplerDone n samples a b x) →
    Gives c s (fun t => OnlyObjects (fun i => i = 0x5F10 + n ∨ i = 0x5F30 ∨ i = 0x5F38) s t ∧ t.dev.time = s.dev.time ∧ t.dev.mgmt = s.dev.mgmt
      ∧ t.dev.hall = s.dev.hall ∧ t.dev.dies = s.dev.dies))
  ∧ (∀ (s : State) (c : Instr), (∃ prtad mmd addr, c = .mdioAddress prtad mmd addr) ∨ (∃ p, c = .softResetDone p) →
    Gives c s (fun t => OnlyObjects (fun _ => False) s t ∧ t.dev.time = s.dev.time ∧ t.dev.hall = s.dev.hall ∧ t.dev.dies = s.dev.dies
      ∧ t.dev.mgmt.sessions = s.dev.mgmt.sessions))

/-! ## Rules stated whole -/

/-- The rule of status objects (R42): each event sets its bit and advances the sequence number by one, whether or not the bit was set; a clear with the
present number clears every event bit; one with any other number answers ERR_STALE and clears nothing; the clear subindex reads as the sequence number
does. -/
def Obligations.StatusObjects : Prop :=
  (∀ (d : Dev) (idx bit : Nat), (d.event idx bit).get idx 1 = d.get idx 1 ||| 2 ^ bit ∧ (d.event idx bit).stSeq idx = (d.stSeq idx + 1) % 65536)
  ∧ (∀ (s : State) (r : Req) (idx : Nat), object? idx 3 = .inl (.u16, .st) → Ready s r idx 3 (s.dev.stSeq idx) →
    Answers (.stClear r idx (s.dev.stSeq idx)) s r (fun d => d.put idx 1 0))
  ∧ (∀ (s : State) (r : Req) (idx seq : Nat), object? idx 3 = .inl (.u16, .st) → Ready s r idx 3 seq → seq ≠ s.dev.stSeq idx →
    Does (.stClear r idx seq) s (fun d => d.answer r .stale))
  ∧ (∀ (d : Dev) (v : Vault) (idx : Nat), object? idx 3 = .inl (.u16, .st) → d.readValue v idx 3 = d.stSeq idx ∧ d.readValue v idx 2 = d.stSeq idx)

/-- The rule of locks (R53): a write to a locked RWL field, and any write to a W1 field that is set, is refused with ERR_LOCKED, counted at 0x1404:02,
shown by LOCKED_WRITE in 0x1400 and recorded in the touchmark log; a write that sets a lock is recorded there. -/
def Obligations.LockedWrites : Prop :=
  (∀ (s : State) (r : Req) (w : WItem) (ty : Ty), object? w.index w.sub = .inl (ty, .rwl) → w.type = ty.code → w.length = ty.size → w.value < 256 ^ w.length →
    s.dev.hears r.route = true → s.dev.lostRequest w.index = false → s.dev.meets r (writeRole w.index) = true → s.dev.locked w.index w.sub = true →
    Does (.objectWrite r w) s (fun d =>
      (((d.inc 0x1404 2).event 0x1400 0).touchEvent 0x0012 (d.lockBody r w.index w.sub)).answer r .locked))
  ∧ (∀ (s : State) (r : Req) (p : Port) (bit v : Nat), bit < 8 → v < 2 → s.dev.hears r.route = true → s.dev.permits r 1 = true →
    s.dev.lostRequest (0x4400 + p) = false → s.dev.locked (0x4400 + p) 2 = true → Does (.bitAliasWrite r (0x7100 + p) (bit + 1) v) s (fun d =>
      (((d.inc 0x1404 2).event 0x1400 0).touchEvent 0x0012 (d.lockBody r (0x4400 + p) 2)).answer r .locked))
  ∧ (∀ (s : State) (r : Req) (lock : Lock) (v : Nat), v < 256 → s.dev.hears r.route = true → s.dev.meets r (writeRole (lockObject lock).1) = true →
    s.dev.flag (lockObject lock).1 (lockObject lock).2 = true → Does (.lockSet r lock v) s (fun d =>
      (((d.inc 0x1404 2).event 0x1400 0).touchEvent 0x0012 (d.lockBody r (lockObject lock).1 (lockObject lock).2)).answer r .locked))
  ∧ (∀ (s : State) (r : Req) (lock : Lock), Ready s r (lockObject lock).1 (lockObject lock).2 1 → s.dev.flag (lockObject lock).1 (lockObject lock).2 = false →
    s.dev.stagingFull = false → Answers (.lockSet r lock 1) s r (fun d =>
      (d.put (lockObject lock).1 (lockObject lock).2 1).touch 0x0011 (d.lockBody r (lockObject lock).1 (lockObject lock).2)))

/-- A message over a link that is UP whose CRC-32C fails is discarded and counted: no other object changes, so that it raises no fault, and nothing is
sent, so that it gets no response (R273). -/
def Obligations.FailedChecksAreDiscarded : Prop :=
  ∀ (s : State) (n : Die) (c : Instr), s.dev.get 0x3010 (n + 1) = 3 →
    ((∃ (w : Way) (m : TwillMsg), intact m = false ∧ (c = .managementMessage n w m ∨ c = .keyMessage n w m))
      ∨ (∃ ev : FaultEvent, c = .eventMessage n (.fault false ev)) ∨ (∃ bits : List Nat, c = .eventMessage n (.clock false bits))
      ∨ (∃ (k : Fin 16) (egress wasSealed moved : Bool) (time : Nat) (ev : List Byte), c = .timestampMessage n (.stamp false k egress wasSealed moved time ev))
      ∨ (∃ (k : Fin 16) (valid : Bool), c = .timestampMessage n (.phase false k valid))
      ∨ (∃ m : TimeMsg, m.crcOk = false ∧ c = .timeMessage n m)) →
    Gives c s (fun t => t.dev.get (0x3080 + n) 6 = (s.dev.get (0x3080 + n) 6 + 1) % 2 ^ 32 ∧ t.dev.out = s.dev.out ∧ t.dev.mgmt = s.dev.mgmt
      ∧ OnlyObjects (fun idx => idx = 0x3080 + n) s t ∧ (∀ sub, sub < 256 → sub ≠ 6 → t.dev.get (0x3080 + n) sub = s.dev.get (0x3080 + n) sub))

/-- RESULT of the record that a program commits, on the host die or with its store restored (R420): PASS when COUNT equals LENGTH and GOT equals EXPECTED,
FAIL when COUNT equals LENGTH and GOT differs, INCOMPLETE when COUNT is less than LENGTH, whatever the signature. -/
def Obligations.AssayResults : Prop :=
  ∀ (s : State) (n : DieId) (res : AssayResult) (program target : Nat), (s.dev.engineOf n).program = some (program, target) →
    (n.val = 8 ∨ res.restored = true) → ∃ rec : AssayRec,
      Does (.assayCommit n res) s (fun d => (d.onAssay n (fun e => { e with
        last := some rec, shutdown := if program = 1 then some rec else e.shutdown })).engineEnd n 2)
      ∧ rec.count = res.count ∧ rec.length = res.length ∧ rec.expected = res.expected ∧ rec.got = res.got
      ∧ (res.count = res.length → res.got = res.expected → rec.result = 1)
      ∧ (res.count = res.length → res.got ≠ res.expected → rec.result = 2)
      ∧ (res.count < res.length → rec.result = 3)

/-! ## Power, start and resets -/

/-- POWER_ON, FIELD_DOMAIN_VALID, DOMAIN_POWER_LOSS, PIN_RESET, START_TIMEOUT (R382, R392, R438, R439): supplies of the host domain that become valid start
the host die, with the field domain's as they were; those of the field domain power the eight line dies, and no object changes; a host domain that loses
its supplies is off, its flash and its one-way store keeping what they hold (what of the line dies stays: log entry 87); a field domain that loses them
leaves each line die dark; RST_N low puts a device that has power in reset; a start that has taken too long restarts the device as a pin reset does, and
keeps the step it had reached. -/
def Obligations.PowerAndPinReset : Prop :=
  (∀ s : State, s.dev.life = .off → Gives (.powerOn .host) s (fun t =>
    t.dev.life = .starting ∧ t.dev.get 0x1800 2 = 0 ∧ t.dev.uptime = s.dev.uptime ∧ t.dev.time.count = 0 ∧ t.dev.safe = false ∧ t.dev.mgmt = {}
    ∧ t.dev.fieldValid = s.dev.fieldValid ∧ t.vault = s.vault))
  ∧ (∀ s : State, s.dev.fieldValid = false → Gives (.powerOn .field) s (fun t =>
    t.dev.fieldValid = true ∧ (∀ n : Die, (t.dev.dies.get n).powered = true) ∧ t.dev.objs = s.dev.objs))
  ∧ (∀ s : State, s.dev.fieldValid = false → Gives .fieldDomainValid s (fun t =>
    t.dev.fieldValid = true ∧ (∀ n : Die, (t.dev.dies.get n).powered = true) ∧ t.dev.objs = s.dev.objs))
  ∧ (∀ s : State, Gives (.domainPowerLoss .host) s (fun t =>
    t.dev.life = .off ∧ t.dev.mgmt = {} ∧ t.dev.fieldValid = s.dev.fieldValid ∧ t.dev.hall.flash = s.dev.hall.flash ∧ t.vault = s.vault))
  ∧ (∀ s : State, s.dev.fieldValid = true →
    Does (.domainPowerLoss .field) s (fun d => Dev.eachDie { d with fieldValid := false } (fun n d => d.dieDark n)))
  ∧ (∀ s : State, s.dev.life ≠ .off → Gives .pinReset s (fun t =>
    t.dev.life = .starting ∧ t.dev.get 0x1800 2 = 1 ∧ t.dev.pins.resetLow = true ∧ t.dev.uptime = 0 ∧ t.dev.mgmt = {} ∧ t.vault = s.vault))
  ∧ (∀ s : State, s.dev.life = .starting → Gives .startTimeout s (fun t =>
    t.dev.life = .starting ∧ t.dev.get 0x1800 2 = 1 ∧ t.dev.nv.failStep = s.dev.nv.lastStep ∧ t.dev.nv.lastStep = 0 ∧ t.vault = s.vault))

/-- START (R388, R390, R393, R217): outside BLANK, with fewer than three failed starts in a row, the device samples its straps and options, shows the count
of failed starts and the step the last one reached, runs its steps (at once: log entry 56), and then a warm reset that was deferred; after three failed
starts it enters recovery mode, in which START_STATE reads 6, HALLMARK_STATE reads 2, FW_STAGE_STATE reads 6 when a set is in trial and 0 otherwise (R244,
R246), and the recovery loader serves; in BLANK the device samples its straps and stays starting, nothing served. -/
def Obligations.StartCompletes : Prop :=
  (∀ (s : State) (env : StartEnv), s.dev.life = .starting → s.dev.nv.lastStep = 0 → s.vault.lifecycle ≠ 0 → s.dev.nv.fails < 3 →
    s.dev.nv.toRecovery = false →
    Does (.start env) s (fun d =>
      let d := Dev.startRun (Dev.put (Dev.put (Dev.loadOptions { d with pins := { d.pins with resetLow := false } } env) 0x1800 6 d.nv.fails) 0x1800 0xB
        d.nv.failStep) s.vault env
      if d.life = .running then d.warmDeferred s.vault d.warmEnv else d))
  ∧ (∀ (s : State) (env : StartEnv), s.dev.life = .starting → s.dev.nv.lastStep = 0 → s.vault.lifecycle ≠ 0 →
    (3 ≤ s.dev.nv.fails ∨ s.dev.nv.toRecovery = true) → Gives (.start env) s (fun t =>
      t.dev.life = .running ∧ t.dev.mgmt.recovery = true ∧ t.dev.mgmt.serving = true ∧ t.dev.get 0x1800 1 = 6 ∧ t.dev.get 0x6400 1 = 2 ∧ t.dev.get 0x6440 5 = (if s.dev.hall.trialPrev.isSome then 6 else 0)
      ∧ t.dev.nv.toRecovery = false))
  ∧ (∀ (s : State) (env : StartEnv), s.dev.life = .starting → s.dev.nv.lastStep = 0 → s.vault.lifecycle = 0 → Gives (.start env) s (fun t =>
      t.dev.life = .starting ∧ t.dev.mgmt.serving = s.dev.mgmt.serving ∧ t.dev.get 0x1800 8 = env.straps &&& 0x177))

/-- RECOVERY_EXIT, WARM_RESET, WARM_RESET_REQUEST (R383 to R385, R394): in recovery mode a granted exit chooses the slot, clears the count of failed starts
and restarts the device; WRST_N resets a running device, waits for the end of a start or of an activation and is shown in WARM_DEFERRED, ends the sessions
in recovery mode (log entry 57), and does nothing without power; a requested warm reset answers OK before it starts.
DIE_RESET_REQUEST, PORT_RESET_REQUEST, BLOCK_RESET_REQUEST, BLOCK_REINITIALISED, WRAPPER_CUT (R382, R383, R386): a granted request resets a line die that
can be reached and does not reset already, a port, whose timestamp unit leaves its FATAL state first, or a block, which loses a twill link when it retires
one of a direction's last two lanes (R288), and is answered OK; a block in reset whose handshake has been cut sets WRAPPER_FORCED and reports kind 8; a
block in reset that is reinitialised ends it, and a port in quiet wakes for a management frame in its line (R201); a cut or a reinitialisation of a block
that is in no reset is nothing. -/
def Obligations.WarmAndOtherResets : Prop :=
  (∀ (s : State) (r : Req) (v : Nat), Ready s r 0x1806 0 v → s.dev.mgmt.recovery = true → (v = 1 ∨ v = 2) →
    slotRuns s.vault (s.dev.hall.slots.get (if v = 1 then 0 else 1)) = true → Gives (.recoveryExit r v) s (fun t =>
      t.dev.nv.fails = 0 ∧ t.dev.hall.activeSlot = (if v = 1 then 0 else 1) ∧ t.dev.life = .starting ∧ t.dev.get 0x1800 2 = 1 ∧ t.dev.mgmt = {}
      ∧ t.dev.out = s.dev.out ++ [.answer r 0]))
  ∧ (∀ (s : State) (env : WarmEnv), s.dev.life = .running → s.dev.mgmt.recovery = false → s.dev.activating = false →
    Does (.warmReset env) s (fun d => d.warmReset s.vault env))
  ∧ (∀ (s : State) (env : WarmEnv), s.dev.life = .starting → Does (.warmReset env) s (fun d => d.put 0x1800 0xA 1))
  ∧ (∀ (s : State) (env : WarmEnv), s.dev.life = .running → s.dev.mgmt.recovery = false → s.dev.activating = true → Does (.warmReset env) s (fun d =>
    (d.onHall (fun h => { h with fw := { h.fw with warmWaits := true } })).put 0x1800 0xA 1))
  ∧ (∀ (s : State) (env : WarmEnv), s.dev.life = .off → Does (.warmReset env) s id)
  ∧ (∀ (s : State) (env : WarmEnv), s.dev.life = .running → s.dev.mgmt.recovery = true → Does (.warmReset env) s (fun d => d.sessionsEnd))
  ∧ (∀ (s : State) (r : Req) (env : WarmEnv), s.dev.hears r.route = true → (s.vault.lifecycle = 2 ∨ s.vault.lifecycle = 3 → s.dev.permits r 1 = true) →
    s.dev.life = .running → s.dev.mgmt.recovery = false → s.dev.activating = false →
    Does (.warmResetRequest r env) s (fun d => (d.answer r .ok).warmReset s.vault env))
  ∧ (∀ (s : State) (r : Req) (n : Die), s.dev.hears r.route = true → (s.vault.lifecycle = 2 ∨ s.vault.lifecycle = 3 → s.dev.permits r 1 = true) →
    s.dev.life = .running → s.dev.mgmt.recovery = false → s.dev.activating = false → s.dev.safe = false → s.dev.get 0x1010 (n + 1) ≠ 4 →
    s.dev.dieReachable n = true → s.dev.dieState n ≠ 3 → Answers (.dieResetRequest r n) s r (fun d => d.dieReset n 2))
  ∧ (∀ (s : State) (r : Req) (p : Port), s.dev.hears r.route = true →
    s.dev.life = .running → s.dev.mgmt.recovery = false → s.dev.activating = false → s.dev.safe = false → s.dev.linkState p ≠ 10 →
    Answers (.portResetRequest r p) s r (fun d => (if d.faultState (srcStamp p) = 4 then d.blockNormal (srcStamp p) else d).portLogicReset p 1))
  ∧ (∀ (s : State) (r : Req) (n : Die), s.dev.hears r.route = true → (s.vault.lifecycle = 2 ∨ s.vault.lifecycle = 3 → s.dev.permits r 1 = true) →
    s.dev.life = .running → s.dev.mgmt.recovery = false → s.dev.activating = false → s.dev.safe = false → s.dev.get 0x1010 (n + 1) ≠ 4 →
    (s.dev.dieReachable n = false ∨ s.dev.dieState n = 3) → Answers (.dieResetRequest r n) s r id)
  ∧ (∀ (s : State) (r : Req) (source : Nat), s.dev.hears r.route = true →
    s.dev.life = .running → s.dev.mgmt.recovery = false → s.dev.activating = false → s.dev.safe = false → (block? source).isSome = true →
    Answers (.blockResetRequest r source) s r (fun d => (d.blockResetStart source).lanesLeft source))
  ∧ (∀ (s : State) (source : Nat), source ∈ s.dev.blockReset →
    Does (.wrapperCut source) s (fun d => (d.faultBits source 0x100).report { source := source, kind := 8 }))
  ∧ (∀ (s : State) (source : Nat), source ∈ s.dev.blockReset → Does (.blockReinitialised source) s (fun d => (d.blockResetEnd source).inbandWake))
  ∧ (∀ (s : State) (source : Nat), source ∉ s.dev.blockReset → Does (.wrapperCut source) s id ∧ Does (.blockReinitialised source) s id)

/-! ## Clocks and voltage -/

/-- CLOCK_MONITOR_TRIP, FALLBACK_DELAY_END, FALLBACK_CONFIRMED, FALLBACK_FAILED, MUX_FORCED, REFERENCE_RETURN (R372 to R377): the way of a die from its
reference to its fallback and back. A trip on the reference sets CLOCK_LOST (on the host die TIME_ON_FALLBACK too), reports kind 9 and puts the die into
its clock-lost safe state, a line die's twill link lost first (log entry 113); one while the reference is requalified leaves the die on its fallback; any
other sets CLOCK_LOST; after the start-up delay the fallback is measured, which ends a software measurement; one that is confirmed is switched to at once,
unless the lost reference has stopped and the multiplexer hangs until the switch is forced; one that is not leaves a line die where it is, with
FALLBACK_FAILED, and restarts the host die into recovery mode; a reference that comes back is requalified on the fallback, and remembered before. -/
def Obligations.ClockLossAndReturn : Prop :=
  (∀ (s : State) (m : Die) (stopped : Bool), (s.dev.clock (dieId m)).phase = .onReference →
    Does (.clockMonitorTrip (dieId m) stopped) s (fun d =>
      let d := ((d.downK (dieId m) !stopped).onClock (dieId m) (fun c => { c with stopped := stopped, returned := false })).dieClockLost m
      ((d.clockPhase (dieId m) .delay).report { source := srcClock (dieId m), kind := 9 }).clockBits (dieId m) [1]))
  ∧ (∀ (s : State) (stopped : Bool), (s.dev.clock hd).phase = .onReference → Does (.clockMonitorTrip hd stopped) s (fun d =>
      let d := (d.onClock hd (fun c => { c with stopped := stopped, returned := false })).clockPhase hd .delay
      ((d.report { source := srcClock hd, kind := 9 }).clockBits hd [1, 6]).hostClockLost))
  ∧ (∀ (s : State) (n : DieId) (stopped : Bool), (s.dev.clock n).phase = .requalifying → Does (.clockMonitorTrip n stopped) s (fun d =>
      let d := (d.downK n !stopped).onClock n (fun c => { c with stopped := stopped, returned := false })
      (((d.clockPhase n .onFallback).report { source := srcClock n, kind := 9 }).clockBits n [1]).reactionEnd (srcClock n)))
  ∧ (∀ (s : State) (n : DieId) (stopped : Bool), (s.dev.clock n).phase ≠ .onReference → (s.dev.clock n).phase ≠ .requalifying →
    Does (.clockMonitorTrip n stopped) s (fun d =>
      ((d.downK n !stopped).onClock n (fun c => { c with stopped := stopped, returned := false })).clockBits n [1]))
  ∧ (∀ (s : State) (n : DieId), (s.dev.clock n).phase = .delay →
    Does (.fallbackDelayEnd n) s (fun d => (d.clockPhase n .confirming).counterTake n))
  ∧ (∀ (s : State) (n : DieId), (s.dev.clock n).phase = .confirming → ((s.dev.clock n).stopped = false ∨ (s.dev.clock n).returned = true) →
    Does (.fallbackConfirmed n) s (fun d => d.onFallback n [2]))
  ∧ (∀ (s : State) (n : DieId), (s.dev.clock n).phase = .confirming → (s.dev.clock n).stopped = true → (s.dev.clock n).returned = false →
    Does (.fallbackConfirmed n) s (fun d => d.clockPhase n .switching))
  ∧ (∀ (s : State) (n : DieId), (s.dev.clock n).phase = .switching → Does (.muxForced n) s (fun d => d.onFallback n [2, 4, 5]))
  ∧ (∀ (s : State) (n : DieId), n.val < 8 → ((s.dev.clock n).phase = .delay ∨ (s.dev.clock n).phase = .confirming) →
    Does (.fallbackFailed n) s (fun d => (d.clockPhase n .fallbackFailed).clockBits n [8]))
  ∧ (∀ (s : State), ((s.dev.clock 8).phase = .delay ∨ (s.dev.clock 8).phase = .confirming) → Gives (.fallbackFailed 8) s (fun t =>
      t.dev.life = .starting ∧ t.dev.nv.toRecovery = true ∧ t.dev.get 0x1800 2 = 1))
  ∧ (∀ (s : State) (n : DieId), ((s.dev.clock n).phase = .onFallback ∨ (s.dev.clock n).phase = .fallbackFailed) →
    Does (.referenceReturn n) s (fun d => (d.downK n true).requalify n))
  ∧ (∀ (s : State) (n : DieId), ((s.dev.clock n).phase = .delay ∨ (s.dev.clock n).phase = .confirming ∨ (s.dev.clock n).phase = .switching) →
    Does (.referenceReturn n) s (fun d => (d.downK n true).onClock n (fun c => { c with returned := true })))

/-- QUAL_MEASUREMENT, ISLAND_RELEASE (R380, R381): a measurement outside its window restarts the count and sets QUAL_FAILED; fewer than eight in a row
change nothing but the count; the eighth releases an island that waits; that of a reference under requalification sets REF_QUALIFIED and switches the die
back to it; a request is granted when its clock is qualified, where a host-lane island's lanes start, deferred with RELEASE_DEFERRED when it is not, which
takes the frequency counter from software (R379), and answered OK without effect when the island is out of reset.
FC_START, FC_COMPLETE, FC_ABORT (R379, R464): a granted measurement runs with the codes and the gate it was given; its end commits both counts and, when
the reference gave edges, the deviation; an abort ends it. -/
def Obligations.QualificationAndCounter : Prop :=
  (∀ (s : State) (n : DieId) (code : Nat), code ∈ clockCodes → Does (.qualMeasurement n code false) s (fun d =>
    (d.onClock n (fun c => { c with qualified := assocSet c.qualified code 0 })).clockBits n [7]))
  ∧ (∀ (s : State) (n : DieId) (code : Nat), code ∈ clockCodes → qualCount (s.dev.clock n) code < 7 → Does (.qualMeasurement n code true) s (fun d =>
    d.onClock n (fun c => { c with qualified := assocSet c.qualified code (qualCount c code + 1) })))
  ∧ (∀ (s : State) (n : DieId) (code : Nat), code ∈ clockCodes → qualCount (s.dev.clock n) code = 7 → code ∈ (s.dev.clock n).deferred →
    code ≠ s.dev.referenceCode n → Gives (.qualMeasurement n code true) s (fun t =>
      code ∈ (t.dev.clock n).released ∧ code ∉ (t.dev.clock n).deferred ∧ qualCount (t.dev.clock n) code = 8))
  ∧ (∀ (s : State) (n : DieId), (s.dev.clock n).phase = .requalifying → qualCount (s.dev.clock n) (s.dev.referenceCode n) = 7 →
    s.dev.referenceCode n ∉ (s.dev.clock n).deferred → Does (.qualMeasurement n (s.dev.referenceCode n) true) s (fun d =>
      ((d.onClock n (fun c => { c with qualified := assocSet c.qualified (d.referenceCode n) 8 })).clockBits n [0]).switchBack n))
  ∧ (∀ (s : State) (r : Req) (n : DieId) (code : Nat), Ready s r 0x1808 0 0 → code ∈ clockCodes → code ∉ (s.dev.clock n).released →
    8 ≤ qualCount (s.dev.clock n) code → Answers (.islandRelease r n code) s r (fun d => d.islandFree n code))
  ∧ (∀ (s : State) (r : Req) (n : DieId) (code : Nat), Ready s r 0x1808 0 0 → code ∈ clockCodes → code ∈ (s.dev.clock n).released →
    Answers (.islandRelease r n code) s r id)
  ∧ (∀ (s : State) (r : Req) (n : DieId) (code : Nat), Ready s r 0x1808 0 0 → code ∈ clockCodes → code ∉ (s.dev.clock n).released →
    qualCount (s.dev.clock n) code < 8 → code ∉ (s.dev.clock n).deferred → Answers (.islandRelease r n code) s r (fun d =>
      ((d.onClock n (fun c => { c with deferred := c.deferred ++ [code] })).clockBits n [9]).counterTake n))
  ∧ (∀ (s : State) (r : Req) (n : DieId) (meas ref gate : Nat), Ready s r (0x1830 + n) 1 0 → meas ∈ clockCodes → ref ∈ clockCodes →
    10 ≤ gate → gate ≤ 10000000 → s.dev.get (0x1830 + n) 2 ≠ 1 → s.dev.counterHeld n = false → s.dev.get 0x1010 (n + 1) ≠ 4 →
    (n.val < 8 → s.dev.get 0x1010 (n + 1) = 1 ∨ s.dev.get 0x1010 (n + 1) = 2) →
    Answers (.fcStart r n meas ref gate) s r (fun d =>
      (d.onClock n (fun c => { c with fcMeas := meas, fcRef := ref, fcGate := gate })).put (0x1830 + n) 2 1))
  ∧ (∀ (s : State) (n : DieId) (measCount refCount : Nat), s.dev.get (0x1830 + n) 2 = 1 → refCount ≠ 0 → Gives (.fcComplete n measCount refCount) s (fun t =>
      t.dev.get (0x1830 + n) 2 = 2 ∧ t.dev.get (0x1830 + n) 3 = measCount % 2 ^ 64 ∧ t.dev.get (0x1830 + n) 4 = refCount % 2 ^ 64
      ∧ t.dev.get (0x1830 + n) 5 = unsigned 32 (deviation n (s.dev.clock n).fcMeas (s.dev.clock n).fcRef measCount refCount)))
  ∧ (∀ (s : State) (n : DieId) (measCount : Nat), s.dev.get (0x1830 + n) 2 = 1 → Gives (.fcComplete n measCount 0) s (fun t =>
      t.dev.get (0x1830 + n) 2 = 2 ∧ t.dev.get (0x1830 + n) 3 = measCount % 2 ^ 64 ∧ t.dev.get (0x1830 + n) 4 = 0))
  ∧ (∀ (s : State) (r : Req) (n : DieId), Ready s r (0x1830 + n) 6 1 → s.dev.get (0x1830 + n) 2 = 1 →
    Answers (.fcAbort r n 1) s r (fun d => d.put (0x1830 + n) 2 3))

/-- PACE_EVALUATION, AVS_TRANSACTION_DONE, POWER_CONTROLLER_RECOVER, PACE_FAULT (R19, R20, R27, R29, R467): every reported slack stands in PACE_SLACK_NOW,
within its U8 (log entry 96), and both loops evaluate; the third failed transaction in a row sets AVS_FAIL and is a power condition (log entry 54), a good
one starts the count again; a controller whose slack has stayed high ends its reaction; an overflow or underrun of any buffer with a pace monitor loses the
buffer, sets the PACE_FAULT bit of the die that holds it and is one event of kind 6 against the block that owns it; a block without such a monitor has
none. -/
def Obligations.VoltageLoops : Prop :=
  (∀ (s : State) (slack : Vector (Option Int) 9), Does (.paceEvaluation slack) s (fun d =>
    let d := (allFin 9).foldl (fun (d : Dev) n => match slack.get n with | some v => d.put 0x120C (n.val + 1) (slackByte v) | none => d) d
    (d.paceDomain .field (((allFin 9).filter (fun n => n.val < 8)).filterMap (fun n => (slack.get n).map (fun v => (n.val, v))))).paceDomain .host
      ((slack.get 8).map (fun v => (0, v))).toList))
  ∧ (∀ (s : State) (dom : Domain), s.dev.mayCommand dom = true →
    Does (.avsTransactionDone dom true) s (fun d => d.onLoop dom (fun l => { l with avsFails := 0 })))
  ∧ (∀ (s : State) (dom : Domain), s.dev.mayCommand dom = true → (s.dev.loop dom).avsFails < 2 →
    Does (.avsTransactionDone dom false) s (fun d => d.onLoop dom (fun l => { l with avsFails := l.avsFails + 1 })))
  ∧ (∀ (s : State) (dom : Domain), s.dev.mayCommand dom = true → 2 ≤ (s.dev.loop dom).avsFails →
    Does (.avsTransactionDone dom false) s (fun d =>
      ((d.onLoop dom (fun l => { l with avsFails := 0 })).event (paceEvents dom) 25).powerCondition dom 0))
  ∧ (∀ (s : State) (dom : Domain), (s.dev.loop dom).goodSince.isSome = true → Does (.powerControllerRecover dom) s (fun d => d.reactionEnd (srcPower dom)))
  ∧ (∀ (s : State) (p : Port) (hostEnd : Bool) (dir : Dir), Does (.paceFault p hostEnd dir) s (fun d =>
    (((d.bufferLost dir (.port p)).samplerSees p 6).event 0x1208 (16 + dieOf p)).report
      { source := p.val, kind := 6, detail := match dir with | .egress => 0 | .ingress => 1 }))
  ∧ (∀ (s : State) (p : Port) (hostEnd : Bool) (dir : Dir), Does (.paceFault (srcHostLane p) hostEnd dir) s (fun d =>
    ((d.bufferLost dir (.hostLane p)).event 0x1209 16).report
      { source := srcHostLane p, kind := 6, detail := match dir with | .egress => 0 | .ingress => 1 }))
  ∧ (∀ (s : State) (src : Nat) (n : Die) (w : Way) (l : Fin 34) (hostEnd : Bool) (dir : Dir), block? src = some (.lane n w l) →
    Does (.paceFault src hostEnd dir) s (fun d =>
      ((d.bufferLost dir (.lane n w l)).event (if hostEnd = true then 0x1209 else 0x1208) (if hostEnd = true then 16 else 16 + n.val)).report
        { source := src, kind := 6, detail := match dir with | .egress => 0 | .ingress => 1 }))
  ∧ (∀ (s : State) (src : Nat) (hostEnd : Bool) (dir : Dir), (∀ b, block? src = some b → hasChecker b 6 = false) →
    Does (.paceFault src hostEnd dir) s id)

/-! ## The dictionary and management frames -/

/-- OBJECT_WRITE, LOCK_SET (R34, R37, R53): a write that its object grants has the effect that the object's write has and is answered OK; for a plain
field, NOTIFY_INTERVAL, that effect is to store the value; a write of 1 to an open lock sets it and is recorded, and one of 0 changes nothing.
BIT_ALIAS_WRITE (R52): a write to a bit alias of FAULT_INT_ENABLE that the word grants is the write of the word with that one bit changed; an index that is
no alias answers ERR_INDEX (R36).
ARBITRATION_GRANT (R39, R463): the requests of a window are granted one after another, by route and then in their order, when none of them asks for a
reset; a granted reset that comes before a wider granted one of its window answers ERR_BUSY and does nothing, and the rest of the window follows it (the
answer is the model's choice, log entry 85). -/
def Obligations.DictionaryWrites : Prop :=
  (∀ (s : State) (r : Req) (w : WItem) (idx sub : Nat) (o : Op), itemOp s r w = (idx, sub, .dev o) → s.dev.hears r.route = true → s.dev.lostRequest idx = false →
    firstCode o.checks = .ok → Does (.objectWrite r w) s (fun d => o.later ((o.effect d).answer r .ok)))
  ∧ (∀ (s : State) (r : Req) (v : Nat), Writable s r 0x1428 3 v →
    Answers (.objectWrite r { index := 0x1428, sub := 3, type := Ty.u16.code, length := 2, value := v }) s r (fun d => d.stored 0x1428 3 v))
  ∧ (∀ (s : State) (r : Req) (lock : Lock), Ready s r (lockObject lock).1 (lockObject lock).2 1 → s.dev.flag (lockObject lock).1 (lockObject lock).2 = false →
    s.dev.stagingFull = false → Answers (.lockSet r lock 1) s r (fun d =>
      (d.put (lockObject lock).1 (lockObject lock).2 1).touch 0x0011 (d.lockBody r (lockObject lock).1 (lockObject lock).2)))
  ∧ (∀ (s : State) (r : Req) (lock : Lock), Ready s r (lockObject lock).1 (lockObject lock).2 0 → s.dev.flag (lockObject lock).1 (lockObject lock).2 = false →
    Answers (.lockSet r lock 0) s r id)
  ∧ (∀ (s : State) (r : Req) (bit v : Nat), bit < 32 → v < 2 →
    Writable s r 0x1C00 4 (putBit (s.dev.get 0x1C00 4) bit (v = 1)) →
    Answers (.bitAliasWrite r 0x7400 (bit + 1) v) s r (fun d => d.stored 0x1C00 4 (putBit (d.get 0x1C00 4) bit (v = 1))))
  ∧ (∀ (s : State) (r : Req) (index sub v : Nat), wordBit? index = none → s.dev.hears r.route = true → s.dev.lostRequest index = false →
    Does (.bitAliasWrite r index sub v) s (fun d => d.answer r .index))
  ∧ (∀ (s : State), Gives (.arbitrationGrant []) s (fun t => t = s))
  ∧ (∀ (s : State) (l : List Access), (∀ a ∈ l, accessReach a = 0) →
    Gives (.arbitrationGrant l) s (fun t => t = (inOrder l).foldl (fun s a => s.access a) s))
  ∧ (∀ (s : State) (r q : Req) (w x : WItem), routeRank r.route ≤ routeRank q.route → 0 < s.resetReach (.write r w) →
    s.resetReach (.write r w) < s.resetReach (.write q x) → Gives (.arbitrationGrant [.write r w, .write q x]) s (fun t =>
      t = State.accesses (s.resetReach (.write q x)) false (s.onDev (fun d => d.answer r .busy)) [.write q x]))
  ∧ (∀ (s : State) (r q : Req) (w x : WItem), routeRank r.route < routeRank q.route → w.index ≠ 0x1804 → x.index ≠ 0x1804 →
    Gives (.arbitrationGrant [.write q x, .write r w]) s (fun t => t = (s.writeAccess r w).writeAccess q x))
  ∧ (∀ (s : State) (r : Req) (w x : WItem), w.index ≠ 0x1804 → x.index ≠ 0x1804 →
    Gives (.arbitrationGrant [.write r w, .write r x]) s (fun t => t = (s.writeAccess r w).writeAccess r x))

/-- READ, READ_MULTI (R46, R55, R57): a request frame that the device takes and whose answer fits a response is answered item by item, and the items of a
READ_MULTI are read in order, each with what its reading does.
WRITE, WRITE_MULTI (R37, R55, R57): the items of a request frame that the device takes and the twill link does not lose are written in order, each whole or
not at all, and each is answered with its code; what ends a session follows the response. -/
def Obligations.RequestsAnswered : Prop :=
  (∀ (s : State) (h : MHdr) (i : RItem), (s.dev.frameTaken h 1 1 (readBody [i])).1 = true →
    (s.dev.frameTaken h 1 1 (readBody [i])).2.lostRequest i.index = false →
    (s.dev.frameTaken h 1 1 (readBody [i])).2.responseLength s.vault h [i] ≤ 1500 →
    Does (.read h [i]) s (fun d => let d := (d.frameTaken h 1 1 (readBody [i])).2
      (d.readEffect (MHdr.req h) i).respond h { op := 1, items := [d.readItem s.vault (MHdr.req h) i] }))
  ∧ (∀ (s : State) (h : MHdr) (items : List RItem), 1 ≤ items.length → items.length ≤ 64 →
    (s.dev.frameTaken h 3 items.length (readBody items)).1 = true →
    (∀ i ∈ items, (s.dev.frameTaken h 3 items.length (readBody items)).2.lostRequest i.index = false) →
    (s.dev.frameTaken h 3 items.length (readBody items)).2.responseLength s.vault h items ≤ 1500 →
    Does (.readMulti h items) s (fun d => let d := (d.frameTaken h 3 items.length (readBody items)).2
      (Dev.readItems s.vault (MHdr.req h) d items).2.respond h { op := 3, items := (Dev.readItems s.vault (MHdr.req h) d items).1 }))
  ∧ (∀ (v : Vault) (r : Req) (d : Dev) (i : RItem) (l : List RItem),
    Dev.readItems v r d (i :: l) = (d.readItem v r i :: (Dev.readItems v r (d.readEffect r i) l).1, (Dev.readItems v r (d.readEffect r i) l).2))
  ∧ (∀ (s : State) (h : MHdr) (w : WItem), (s.dev.frameTaken h 2 1 (writeItemBytes w)).1 = true →
    (s.dev.frameTaken h 2 1 (writeItemBytes w)).2.lostRequest w.index = false →
    Gives (.write h [w]) s (fun t =>
      let u : State := { s with dev := (s.dev.frameTaken h 2 1 (writeItemBytes w)).2 }
      let (c, later, u) := u.writeItem (MHdr.req h) w
      t = u.onDev (fun d => later (d.respond h { op := 2, items := [{ index := w.index, sub := w.sub, code := c.value }] }))))
  ∧ (∀ (s : State) (h : MHdr) (items : List WItem), 1 ≤ items.length → items.length ≤ 64 →
    (s.dev.frameTaken h 4 items.length (items.flatMap writeItemBytes)).1 = true →
    (∀ w ∈ items, (s.dev.frameTaken h 4 items.length (items.flatMap writeItemBytes)).2.lostRequest w.index = false) →
    Gives (.writeMulti h items) s (fun t =>
      let u : State := { s with dev := (s.dev.frameTaken h 4 items.length (items.flatMap writeItemBytes)).2 }
      let (answers, later, u) := State.writeItems (MHdr.req h) u items
      t = u.onDev (fun d => later (d.respond h { op := 4, items := answers }))))

/-- A management frame reaches the device (R56, R58, R61, R64, R65): one that is not addressed to it, or comes by a route that nobody serves, changes
nothing; a malformed one, one of a session that is not open, one with a wrong tag and a replay with the right tag are discarded without response, each
counted and flagged; a repeat of the last request is answered again as it was, and not executed, and one that still waits for its answer does nothing. -/
def Obligations.FramesRefused : Prop :=
  (∀ (d : Dev) (h : MHdr) (op n : Nat) (b : List Byte), h.dest ≠ d.get 0x1420 1 → d.frameTaken h op n b = (false, d))
  ∧ (∀ (d : Dev) (h : MHdr) (op n : Nat) (b : List Byte), d.hears h.route = false → d.frameTaken h op n b = (false, d))
  ∧ (∀ (d : Dev) (h : MHdr) (op n : Nat) (b : List Byte), d.hears h.route = true → h.dest = d.get 0x1420 1 → malformed h n b = true →
    d.frameTaken h op n b = (false, (d.inc 0x1404 6).event 0x1400 2))
  ∧ (∀ (d : Dev) (h : MHdr) (op n : Nat) (b : List Byte) (k : Fin 4), d.hears h.route = true → h.dest = d.get 0x1420 1 → malformed h n b = false →
    h.session = k + 1 → h.tag ≠ Config.kmac256 (d.mgmt.sessions.get k).keyIn (requestBytes h op b) 256 (ascii "DZ12800 MGMT") →
    d.frameTaken h op n b = (false, (d.inc 0x1404 4).event 0x1400 3))
  ∧ (∀ (d : Dev) (h : MHdr) (op n : Nat) (b : List Byte) (k : Fin 4), d.hears h.route = true → h.dest = d.get 0x1420 1 → malformed h n b = false →
    h.session = k + 1 → (d.mgmt.sessions.get k).phase ≠ 2 → d.frameTaken h op n b = (false, (d.inc 0x1404 4).event 0x1400 3))
  ∧ (∀ (d : Dev) (h : MHdr) (op n : Nat) (b : List Byte) (k : Fin 4), d.hears h.route = true → h.dest = d.get 0x1420 1 → malformed h n b = false →
    h.session = k + 1 → (d.mgmt.sessions.get k).phase = 2 →
    h.tag = Config.kmac256 (d.mgmt.sessions.get k).keyIn (requestBytes h op b) 256 (ascii "DZ12800 MGMT") →
    h.counter ≤ (d.mgmt.sessions.get k).rxCounter → d.frameTaken h op n b = (false, (d.inc 0x1404 5).event 0x1400 4))
  ∧ (∀ (d d1 : Dev) (h : MHdr) (op n : Nat) (b : List Byte), d.hears h.route = true → h.dest = d.get 0x1420 1 → malformed h n b = false →
    d.sessionCheck h op b = (true, d1) → d1.awaits h = true → d.frameTaken h op n b = (false, d1))
  ∧ (∀ (d d1 : Dev) (h : MHdr) (op n : Nat) (b : List Byte) (k : Kept) (reply : Reply), d.hears h.route = true → h.dest = d.get 0x1420 1 →
    malformed h n b = false → d.sessionCheck h op b = (true, d1) → d1.awaits h = false → d1.keptOf h = some k → k.reqId = h.reqId →
    k.reply = some reply → d.frameTaken h op n b = (false, (d1.sendFinished h.route h.mac reply).inbandWake))

/-- SNAPSHOT, SNAPSHOT_CAPTURE (R45): an accepted request waits for its capture instant; there every counter goes into its held twin, the snapshot is
numbered and takes the present time, and the response carries both.
COMMIT_ADOPT, COMMIT_VERIFY, COMMIT_TIMEOUT, OPEN_CONFIG, CONFIG_PASS_COMPLETE (R47 to R50): an accepted COMMIT waits for its pass with its touchmark entry
reserved, and answers ERR_BUSY when its time is over, its reservation given back, unless it came by the window, where nobody is answered; one with another
MODE than 0 or 1 answers ERR_RANGE; OPEN_CONFIG opens the check; a pass with no COMMIT writes the CRC of the configuration and compares it, one with a
COMMIT of its own ends it with that CRC too, and one in which a configuration write was granted starts again; a management port in quiet that the pass
gives a frame to send wakes (R201).
What a completed pass does with its result (R48, R49): with the check VERIFIED, a result equal to the reference in force is nothing, and one that differs
makes it DRIFTED, flagged, counted and reported as kind 14; in DRIFTED, a result equal to the reference ends the drift, one equal to the pass before is
nothing, and a new one is reported again; with the check OPEN no result does anything. -/
def Obligations.SnapshotsAndConfiguration : Prop :=
  (∀ (s : State) (h : MHdr), (s.dev.frameTaken h 5 0 []).1 = true → (s.dev.frameTaken h 5 0 []).2.loaderOnly = false →
    Does (.snapshot h) s (fun d => (d.frameTaken h 5 0 []).2.onMgmt (fun m => { m with snaps := m.snaps ++ [{ hdr := h, clear := h.flags.testBit 6 }] })))
  ∧ (∀ (s : State) (j : SnapJob) (rest : List SnapJob), s.dev.mgmt.snaps = j :: rest → Does .snapshotCapture s (fun d =>
      let n := (d.get 0x1410 1 + 1) % 2 ^ 32
      let d := (d.onMgmt (fun m => { m with snaps := rest })).captureCounters j.clear
      (((d.put 0x1410 1 n).put 0x1410 2 (secondsOf d.now)).put 0x1410 3 (nanosOf d.now)).respond j.hdr
        { op := 5, body := bytesOf 4 n ++ bytesOf 8 (secondsOf d.now) ++ bytesOf 4 (nanosOf d.now) }))
  ∧ (∀ (s : State) (h : MHdr), (s.dev.frameTaken h 6 0 (commitBody 0 0)).1 = true →
    (s.dev.frameTaken h 6 0 (commitBody 0 0)).2.loaderOnly = false → (s.dev.frameTaken h 6 0 (commitBody 0 0)).2.stagingFull = false →
    Does (.commitAdopt h) s (fun d => (d.frameTaken h 6 0 (commitBody 0 0)).2.commitTake h 0 0))
  ∧ (∀ (s : State) (h : MHdr) (v : Nat), (s.dev.frameTaken h 6 0 (commitBody 1 v)).1 = true →
    (s.dev.frameTaken h 6 0 (commitBody 1 v)).2.loaderOnly = false → (s.dev.frameTaken h 6 0 (commitBody 1 v)).2.stagingFull = false →
    Does (.commitVerify h { mode := 1, value := v }) s (fun d => (d.frameTaken h 6 0 (commitBody 1 v)).2.commitTake h 1 (v % 2 ^ 32)))
  ∧ (∀ (s : State) (h : MHdr) (mode v : Nat), 1 < mode → (s.dev.frameTaken h 6 0 (commitBody mode v)).1 = true →
    (s.dev.frameTaken h 6 0 (commitBody mode v)).2.loaderOnly = false → (s.dev.frameTaken h 6 0 (commitBody mode v)).2.stagingFull = false →
    Does (.commitVerify h { mode := mode, value := v }) s (fun d => (d.frameTaken h 6 0 (commitBody mode v)).2.respondCode h 6 .range))
  ∧ (∀ (s : State) (j : CommitJob) (rest : List CommitJob), s.dev.mgmt.commits = j :: rest → j.hdr.route ≠ .pewter →
    Does .commitTimeout s (fun d =>
      ((d.onMgmt (fun m => { m with commits := rest })).giveBack 1).respond j.hdr { op := 6, status := 7 }))
  ∧ (∀ (s : State) (j : CommitJob) (rest : List CommitJob), s.dev.mgmt.commits = j :: rest → j.hdr.route = .pewter →
    Does .commitTimeout s (fun d => (d.onMgmt (fun m => { m with commits := rest })).giveBack 1))
  ∧ (∀ (s : State) (h : MHdr), (s.dev.frameTaken h 7 0 []).1 = true → (s.dev.frameTaken h 7 0 []).2.loaderOnly = false →
    Does (.openConfig h) s (fun d => ((d.frameTaken h 7 0 []).2.put 0x1408 1 1).respond h { op := 7, status := 0 }))
  ∧ (∀ (s : State), s.dev.controllerRuns = true → s.dev.mgmt.commits = [] → Does .configPassComplete s (fun d =>
      (((d.onMgmt (fun m => { m with passDirty := false, lastPass := some d.configCrc })).put 0x1408 2 d.configCrc).compare d.configCrc
        d.mgmt.lastPass).inbandWake))
  ∧ (∀ (s : State) (j : CommitJob), s.dev.controllerRuns = true → s.dev.mgmt.commits = [j] → j.started = true → s.dev.mgmt.passDirty = false →
    Does .configPassComplete s (fun d =>
      ((Dev.commitEnd d.configCrc ((d.onMgmt (fun m => { m with commits := [], passDirty := false, lastPass := some d.configCrc })).put 0x1408 2 d.configCrc)
        j).compare d.configCrc d.mgmt.lastPass).inbandWake))
  ∧ (∀ (s : State) (j : CommitJob) (rest : List CommitJob), s.dev.controllerRuns = true → s.dev.mgmt.commits = j :: rest → j.started = true →
    s.dev.mgmt.passDirty = true → Does .configPassComplete s (fun d => (d.onMgmt (fun m => { m with passDirty := false })).inbandWake))
  ∧ (∀ (d : Dev) (last : Option Nat), d.get 0x1408 1 = 0 → d.compare (d.get 0x1408 3) last = d)
  ∧ (∀ (d : Dev) (result : Nat) (last : Option Nat), d.get 0x1408 1 = 0 → result ≠ d.get 0x1408 3 →
    d.compare result last = (((d.put 0x1408 1 2).event 0x1400 1).inc 0x1404 9).notice 0x3C0 14 0)
  ∧ (∀ (d : Dev) (last : Option Nat), d.get 0x1408 1 = 2 → d.compare (d.get 0x1408 3) last = d.put 0x1408 1 0)
  ∧ (∀ (d : Dev) (result : Nat), d.get 0x1408 1 = 2 → result ≠ d.get 0x1408 3 → d.compare result (some result) = d)
  ∧ (∀ (d : Dev) (result : Nat) (last : Option Nat), d.get 0x1408 1 = 2 → result ≠ d.get 0x1408 3 → last ≠ some result →
    d.compare result last = (((d.put 0x1408 1 2).event 0x1400 1).inc 0x1404 9).notice 0x3C0 14 0)
  ∧ (∀ (d : Dev) (result : Nat) (last : Option Nat), d.get 0x1408 1 = 1 → d.compare result last = d)

/-- OPEN_1, OPEN_3, CLOSE, SESSION_OPEN_TIMEOUT, SESSION_IDLE_TIMEOUT, NOTIFY_INTERVAL_END (R59, R60, R62): a requester with no session in opening state
gets a free number (an opening session's is not: log entry 83), its step data, an ephemeral key and a nonce, and Hallmark is asked to sign; OPEN_3 is
verified by Hallmark before it is answered; CLOSE is answered, and then the session is free, while a SESSION request with another step answers ERR_RANGE,
or is malformed where the step's data is missing; a session whose OPEN_3 does not come, or that stays idle, is freed; an interval in which events came
sends its NOTIFY when it ends. -/
def Obligations.SessionLife : Prop :=
  (∀ (s : State) (h : MHdr) (keyId xPub nonce : List Byte) (d1 : Dev) (n : Fin 4),
    s.dev.frameTaken h 9 0 (bytesOf 1 1 ++ bytesOf 3 0 ++ exactly 8 keyId ++ exactly 56 xPub ++ exactly 16 nonce) = (true, d1) → h.session = 0 →
    d1.openingOf h = none → (allFin 4).find? (fun k => (d1.mgmt.sessions.get k).phase = 0) = some n → d1.hall.logClosed = false →
    (d1.get 0x6400 1 = 1 ∨ d1.get 0x6400 1 = 2) →
    Gives (.open1 h keyId xPub nonce) s (fun t =>
      (t.dev.mgmt.sessions.get n).phase = 1 ∧ (t.dev.mgmt.sessions.get n).mac = h.mac ∧ (t.dev.mgmt.sessions.get n).route = h.route
      ∧ (t.dev.mgmt.sessions.get n).transcript = exactly 8 keyId ++ exactly 56 xPub ++ exactly 16 nonce ++ open2Data n d1.draws
      ∧ HallJob.open2 n ∈ t.dev.hall.signQueue))
  ∧ (∀ (s : State) (h : MHdr) (sig : List Byte) (d1 : Dev) (n : Fin 4), s.dev.frameTaken h 9 0 (bytesOf 1 3 ++ bytesOf 3 0 ++ exactly 114 sig) = (true, d1) →
    h.session = 0 → d1.openingOf h = some n → Gives (.open3 h sig) s (fun t =>
      (t.dev.mgmt.sessions.get n).proving = true ∧ (t.dev.mgmt.sessions.get n).phase = (d1.mgmt.sessions.get n).phase
      ∧ HallJob.open3 n sig ∈ t.dev.hall.verifyQueue))
  ∧ (∀ (s : State) (h : MHdr) (n : Fin 4), h.session = n + 1 → (s.dev.frameTaken h 9 0 (bytesOf 1 4 ++ bytesOf 3 0)).1 = true →
    Gives (.close { hdr := h, step := 4 }) s (fun t => t.dev = ((s.dev.frameTaken h 9 0 (bytesOf 1 4 ++ bytesOf 3 0)).2.respond h { op := 9, status := 0 }).sessionEnd n
      ∧ t.dev.mgmt.sessions.get n = {}))
  ∧ (∀ (s : State) (h : MHdr) (step : Nat), step ≠ 1 → step ≠ 3 → step ≠ 4 → (s.dev.frameTaken h 9 0 (bytesOf 1 step ++ bytesOf 3 0)).1 = true →
    Does (.close { hdr := h, step := step }) s (fun d => (d.frameTaken h 9 0 (bytesOf 1 step ++ bytesOf 3 0)).2.respondCode h 9 .range))
  ∧ (∀ (s : State) (h : MHdr) (step : Nat), (step = 1 ∨ step = 3) → s.dev.hears h.route = true → h.dest = s.dev.get 0x1420 1 →
    Does (.close { hdr := h, step := step }) s (fun d => (d.inc 0x1404 6).event 0x1400 2))
  ∧ (∀ (s : State) (n : Fin 4), (s.dev.mgmt.sessions.get n).phase = 1 → (s.dev.mgmt.sessions.get n).proving = false →
    Gives (.sessionOpenTimeout n) s (fun t => t.dev.mgmt.sessions.get n = {} ∧ t.dev.objs = s.dev.objs))
  ∧ (∀ (s : State) (n : Fin 4), (s.dev.mgmt.sessions.get n).phase = 2 → Gives (.sessionIdleTimeout n) s (fun t =>
      t.dev.mgmt.sessions.get n = {} ∧ t.dev.get 0x1400 1 = s.dev.get 0x1400 1 ||| 0x20))
  ∧ (∀ (s : State) (idx : Nat), assocGet s.dev.mgmt.notify idx = some true → s.dev.get 0x1428 1 ≠ 0 → s.dev.get 0x1428 2 ≠ 0 → s.dev.mgmt.serving = true →
    Does (.notifyIntervalEnd idx) s (fun d => ((d.notifySend idx).onMgmt (fun m => { m with notify := assocSet m.notify idx false })).inbandWake))

/-! ## The pewter window -/

/-- MDIO_ADDRESS, MDIO_WRITE (R66 to R68, R71): the clause 45 address register follows where the device drives MDIO; a write in a read-only window only
sets PEWTER_REFUSED and counts; one in an open window counts and goes to its register. The page register takes the write's low two bits, and the high word
of PORT_CONTROL waits in the port's latch. -/
def Obligations.WindowWrites : Prop :=
  (∀ (s : State) (prtad mmd : Fin 32) (addr : Nat), s.dev.windowDriven mmd = true →
    Does (.mdioAddress prtad mmd addr) s (fun d => d.mdioSet prtad mmd addr))
  ∧ (∀ (s : State) (prtad mmd : Fin 32) (addr : Nat), s.dev.windowDriven mmd = false →
    Does (.mdioAddress prtad mmd addr) s id ∧ Does (.mdioWrite prtad mmd addr) s id)
  ∧ (∀ (s : State) (prtad mmd : Fin 32) (data : Nat), s.dev.windowDriven mmd = true → s.dev.get 0x1440 1 = 1 →
    Does (.mdioWrite prtad mmd data) s (fun d => (d.inc 0x1404 8).event 0x1400 6))
  ∧ (∀ (s : State) (prtad mmd : Fin 32) (data : Nat), s.dev.windowDriven mmd = true → s.dev.get 0x1440 1 ≠ 1 →
    Does (.mdioWrite prtad mmd data) s (fun d =>
      (d.inc 0x1404 8).regWrite (d.windowPort prtad) mmd (windowReg mmd (d.mdioAt prtad mmd)) (data % 65536)))
  ∧ (∀ (d : Dev) (p : Port) (v : Nat), d.regWrite p 31 0 v = d.onMgmt (fun m => { m with page := v % 4 }))
  ∧ (∀ (d : Dev) (p : Port) (v : Nat), d.windowBusy p 30 = false → d.safe = false →
    d.regWrite p 30 1 v = d.onMgmt (fun m => { m with writeLatch := latchSet m.writeLatch p 0 v }))

/-- MDIO_READ, MDIO_READ_INCREMENT (R66, R68, R71, R72): a read where MDIO is not driven answers nothing; any other drives what the window reads at the
address register, and a read that increments takes that register on by one. The page register reads the page; the low word of the port's status reads it,
holds its high word in the latch and clears the status; the high word then reads what the latch holds and clears nothing.
CONFIG_GATE_OPEN, CONFIG_GATE_COMMIT, PORT_IDLE_REQUEST, PEWTER_SOFT_RESET, SOFT_RESET_DONE (R48, R50, R67, R73): in an open window the gate opens the
configuration check and takes a COMMIT with MODE 0; a port is asked to idle, or let go. A soft reset stands for its port with whether the port was idled,
forgets the port's held registers but the mode register (log entry 62), ends a standard-mode link or attempt, which then negotiates again, and leaves a
native link alone; while one runs for which the port was not idled, a read of the port's MMDs answers 0xFFFF and clears nothing (log entry 86); when it is
done it stands no more. -/
def Obligations.WindowReadsAndCommands : Prop :=
  (∀ (s : State) (prtad mmd : Fin 32), s.dev.windowDriven mmd = false →
    Does (.mdioRead prtad mmd) s (fun d => d.emit (.mdio none)) ∧ Does (.mdioReadIncrement prtad mmd) s (fun d => d.emit (.mdio none)))
  ∧ (∀ (s : State) (prtad mmd : Fin 32), s.dev.windowDriven mmd = true →
    Does (.mdioRead prtad mmd) s (fun d => let r := d.windowRead prtad mmd (d.mdioAt prtad mmd); r.2.emit (.mdio r.1))
    ∧ Does (.mdioReadIncrement prtad mmd) s (fun d =>
      let r := d.windowRead prtad mmd (d.mdioAt prtad mmd)
      (r.2.mdioSet prtad mmd (d.mdioAt prtad mmd + 1)).emit (.mdio r.1)))
  ∧ (∀ (s : State) (prtad : Fin 32), s.dev.windowDriven 31 = true → s.dev.mdioAt prtad 31 % 4096 = 0 →
    Does (.mdioRead prtad 31) s (fun d => (d.inc 0x1404 8).emit (.mdio (some d.mgmt.page))))
  ∧ (∀ (s : State) (prtad : Fin 32), s.dev.windowDriven 30 = true → s.dev.mdioAt prtad 30 = 0x100 →
    s.dev.busyIndex (0x4000 + s.dev.windowPort prtad) = false → s.dev.softUnidled (s.dev.windowPort prtad) = false →
    Does (.mdioRead prtad 30) s (fun d =>
      let p := d.windowPort prtad
      let v := d.get (0x4080 + p) 1
      (((d.inc 0x1404 8).onMgmt (fun m => { m with readLatch := latchSet m.readLatch p 0x100 (v / 65536) })).put (0x4080 + p) 1 0).emit
        (.mdio (some (v % 65536)))))
  ∧ (∀ (d : Dev) (p : Port) (h : Nat), latchOf d.mgmt.readLatch p = some (0x100, h) → d.wideRead p 0x100 0x101 = (h, d))
  ∧ (∀ (s : State), s.dev.windowDriven 30 = true → s.dev.get 0x1440 1 ≠ 1 → s.dev.safe = false →
    Does .configGateOpen s (fun d => (d.inc 0x1404 8).put 0x1408 1 1))
  ∧ (∀ (s : State), s.dev.windowDriven 30 = true → s.dev.get 0x1440 1 ≠ 1 → s.dev.safe = false → s.dev.stagingFull = false →
    Does .configGateCommit s (fun d => (d.inc 0x1404 8).commitTake { route := .pewter } 0 0))
  ∧ (∀ (s : State) (prtad : Fin 32), s.dev.windowDriven 30 = true → s.dev.get 0x1440 1 ≠ 1 → s.dev.safe = false →
    s.dev.busyIndex (0x4000 + s.dev.windowPort prtad) = false →
    Does (.portIdleRequest prtad true) s (fun d => (d.inc 0x1404 8).onMgmt (fun m => { m with
      idleAsked := if m.idleAsked.contains (d.windowPort prtad).val then m.idleAsked else m.idleAsked ++ [(d.windowPort prtad).val] })))
  ∧ (∀ (s : State) (prtad : Fin 32), s.dev.windowDriven 30 = true → s.dev.get 0x1440 1 ≠ 1 → s.dev.safe = false →
    s.dev.busyIndex (0x4000 + s.dev.windowPort prtad) = false →
    Does (.portIdleRequest prtad false) s (fun d =>
      (d.inc 0x1404 8).onMgmt (fun m => { m with idleAsked := without m.idleAsked (d.windowPort prtad).val })))
  ∧ (∀ (s : State) (prtad : Fin 32), s.dev.windowDriven 1 = true → s.dev.get 0x1440 1 ≠ 1 → s.dev.safe = false →
    s.dev.busyIndex (0x4000 + s.dev.windowPort prtad) = false →
    (s.dev.native (s.dev.windowPort prtad) = true ∨ s.dev.linkState (s.dev.windowPort prtad) < 3 ∨ 8 < s.dev.linkState (s.dev.windowPort prtad)) →
    Does (.pewterSoftReset prtad) s (fun d => let p := d.windowPort prtad
      (d.inc 0x1404 8).onMgmt (fun m => { m with
        softReset := if m.softReset.any (fun e => e.1 = p.val) then m.softReset else m.softReset ++ [(p.val, m.idleAsked.contains p.val && d.flightless p)]
        windowRegs := m.windowRegs.filter (fun e => e.1.1 ≠ p.val || e.1.2 = (1, 7)) })))
  ∧ (∀ (s : State) (prtad : Fin 32), s.dev.windowDriven 1 = true → s.dev.get 0x1440 1 ≠ 1 → s.dev.safe = false →
    s.dev.busyIndex (0x4000 + s.dev.windowPort prtad) = false → s.dev.native (s.dev.windowPort prtad) = false →
    3 ≤ s.dev.linkState (s.dev.windowPort prtad) → s.dev.linkState (s.dev.windowPort prtad) ≤ 8 →
    Does (.pewterSoftReset prtad) s (fun d => let p := d.windowPort prtad
      ((((((d.inc 0x1404 8).onMgmt (fun m => { m with
        softReset := if m.softReset.any (fun e => e.1 = p.val) then m.softReset else m.softReset ++ [(p.val, m.idleAsked.contains p.val && d.flightless p)]
        windowRegs := m.windowRegs.filter (fun e => e.1.1 ≠ p.val || e.1.2 = (1, 7)) })).endFlight p 1).calUnsuitable p 6).cutLink p lossEnd).negotiate p)))
  ∧ (∀ (s : State) (prtad mmd : Fin 32), s.dev.windowDriven mmd = true → mmd ≠ 31 → s.dev.busyIndex (0x4000 + s.dev.windowPort prtad) = false →
    s.dev.softUnidled (s.dev.windowPort prtad) = true → Does (.mdioRead prtad mmd) s (fun d => (d.inc 0x1404 8).emit (.mdio (some 0xFFFF))))
  ∧ (∀ (s : State) (p : Port), Does (.softResetDone p) s (fun d => d.onMgmt (fun m => { m with
      softReset := m.softReset.filter (fun e => e.1 ≠ p.val) })))

/-! ## Ports -/

/-- PORT_ADVERTISE_WRITE, HL_RATE_WRITE (R77 to R79, R247, R249): a granted write stores its value; the highest standard mode that the advertisement offers
is the window's mode setting (log entry 62), and the port offers the advertisement at once; a new rate takes effect at once, and the present one changes
nothing else.
PORT_ENABLE, PORT_DISABLE, NEG_RESTART, BACKOFF_END (R157 to R159, R171, R180): a port's enable bit is written through its word of PORT_ENABLE_MAP; a bit
that becomes 1 takes the port out of DISABLED, one that becomes 0 takes it there, and one that stays is only stored; NEG_RESTART answers ERR_STATE in
DISABLED and SELF_TEST, and restarts the port elsewhere, which is no longer shed; the end of back-off clears ATTEMPTS and negotiates, and means nothing in
another state. -/
def Obligations.PortsComeAndGo : Prop :=
  (∀ (s : State) (r : Req) (p : Port) (v : Nat), Writable s r (0x4000 + p) 4 v →
    Answers (.portAdvertiseWrite r p v) s r (fun d => ((d.stored (0x4000 + p) 4 v).standardSet p (highestMode (v % 128))).readvertise p))
  ∧ (∀ (s : State) (r : Req) (p : Port) (v : Nat), Writable s r (0x2000 + p) 1 v → v ≠ s.dev.get (0x2000 + p) 1 →
    Answers (.hlRateWrite r p v) s r (fun d => (d.stored (0x2000 + p) 1 v).rateChanged p))
  ∧ (∀ (s : State) (r : Req) (p : Port), Writable s r (0x2000 + p) 1 (s.dev.get (0x2000 + p) 1) →
    Answers (.hlRateWrite r p (s.dev.get (0x2000 + p) 1)) s r (fun d => d.stored (0x2000 + p) 1 (s.dev.get (0x2000 + p) 1)))
  ∧ (∀ (s : State) (r : Req) (p : Port), Writable s r 0x1030 (1 + p.val / 64) (s.dev.enableWord p true) → s.dev.hall.logClosed = false → s.dev.get 0x6800 5 ≠ 2 →
    (s.dev.get 0x1030 (1 + p.val / 64)).testBit (p.val % 64) = false → Answers (.portEnable r p) s r (fun d =>
      (d.stored 0x1030 (1 + p.val / 64) (d.enableWord p true)).portOn p))
  ∧ (∀ (s : State) (r : Req) (p : Port), Writable s r 0x1030 (1 + p.val / 64) (s.dev.enableWord p true) → s.dev.hall.logClosed = false → s.dev.get 0x6800 5 ≠ 2 →
    (s.dev.get 0x1030 (1 + p.val / 64)).testBit (p.val % 64) = true → Answers (.portEnable r p) s r (fun d =>
      d.stored 0x1030 (1 + p.val / 64) (d.enableWord p true)))
  ∧ (∀ (s : State) (r : Req) (p : Port), Writable s r 0x1030 (1 + p.val / 64) (s.dev.enableWord p false) → s.dev.get 0x6800 5 ≠ 2 →
    (s.dev.hall.logClosed = false ∨ s.dev.enableWord p false = 0) →
    (s.dev.get 0x1030 (1 + p.val / 64)).testBit (p.val % 64) = true → Answers (.portDisable r p) s r (fun d =>
      (d.stored 0x1030 (1 + p.val / 64) (d.enableWord p false)).disable p))
  ∧ (∀ (s : State) (r : Req) (p : Port), Writable s r 0x1030 (1 + p.val / 64) (s.dev.enableWord p false) → s.dev.get 0x6800 5 ≠ 2 →
    (s.dev.hall.logClosed = false ∨ s.dev.enableWord p false = 0) →
    (s.dev.get 0x1030 (1 + p.val / 64)).testBit (p.val % 64) = false → Answers (.portDisable r p) s r (fun d =>
      d.stored 0x1030 (1 + p.val / 64) (d.enableWord p false)))
  ∧ (∀ (s : State) (r : Req) (p : Port), Ready s r (0x4100 + p) 2 1 → s.dev.linkState p ≠ 0 → s.dev.linkState p ≠ 10 →
    Answers (.negRestart r p 1) s r (fun d => ((d.unshed p).restart p).shedEval (dieOf p)))
  ∧ (∀ (s : State) (r : Req) (p : Port), Ready s r (0x4100 + p) 2 1 → (s.dev.linkState p = 0 ∨ s.dev.linkState p = 10) →
    Does (.negRestart r p 1) s (fun d => d.answer r .state))
  ∧ (∀ (s : State) (p : Port), s.dev.linkState p = 9 →
    Does (.backoffEnd p) s (fun d => ((d.onLink p (fun l => { l with backoffUntil := none })).put (0x4180 + p) 0xB 0).negotiate p))
  ∧ (∀ (s : State) (p : Port), s.dev.linkState p ≠ 9 → Does (.backoffEnd p) s id)

/-- NEGOTIATION_COMPLETE (R81, R163 to R170): a port that is not negotiating is left alone. Parallel detection gives 100BASE-TX to a port that offers it,
and no link to another. Of exchanged pages, the port's own are shown with a SEED drawn for them; no common mode fails with reason 2. The highest common
mode is selected otherwise: 100BASE-TX with no role, another standard mode with the role that its clause resolved, a manual master being never slave, or
failing with reason 3 where it resolved none; a native mode with the role that rank, then SEED, gives, failing with reason 3 where both ends insist on
master, and starting over where the seeds are equal. -/
def Obligations.NegotiationResolves : Prop :=
  (∀ (s : State) (p : Port) (partner : NegPartner), ¬ Negotiates s.dev p → Does (.negotiationComplete p partner) s id)
  ∧ (∀ (s : State) (p : Port), Negotiates s.dev p → (s.dev.effAdvertise p).testBit 0 = true →
    Does (.negotiationComplete p .parallel) s (fun d => (d.partnerSeen p 1 none).selectMode p 1 4 3 false false 0))
  ∧ (∀ (s : State) (p : Port), Negotiates s.dev p → (s.dev.effAdvertise p).testBit 0 = false →
    Does (.negotiationComplete p .parallel) s (fun d => (d.partnerSeen p 1 none).negFail p 2 7 14))
  ∧ (∀ (s : State) (p : Port) (modes theirs : Nat) (tagged : List (Vector Nat 4)) (eee retrain : Bool) (cm : Option Bool), Negotiates s.dev p →
    s.dev.commonMode p modes tagged = 0 → Does (.negotiationComplete p (.pages modes tagged theirs eee retrain cm)) s (fun d =>
      (d.pagesExchanged p modes tagged theirs).negFail p 2 7 14))
  ∧ (∀ (s : State) (p : Port) (modes theirs : Nat) (tagged : List (Vector Nat 4)) (eee retrain : Bool) (cm : Option Bool), Negotiates s.dev p →
    s.dev.commonMode p modes tagged = 1 → Does (.negotiationComplete p (.pages modes tagged theirs eee retrain cm)) s (fun d =>
      (d.pagesExchanged p modes tagged theirs).selectMode p 1 1 3 false false (quietAble (nativeSet tagged) eee)))
  ∧ (∀ (s : State) (p : Port) (modes theirs : Nat) (tagged : List (Vector Nat 4)) (eee retrain : Bool), Negotiates s.dev p →
    2 ≤ s.dev.commonMode p modes tagged → s.dev.commonMode p modes tagged ≤ 7 →
    Does (.negotiationComplete p (.pages modes tagged theirs eee retrain none)) s (fun d => (d.pagesExchanged p modes tagged theirs).negFail p 3 8 4)
    ∧ ∀ master : Bool, Does (.negotiationComplete p (.pages modes tagged theirs eee retrain (some master))) s (fun d =>
      (d.pagesExchanged p modes tagged theirs).selectMode p (d.commonMode p modes tagged) 1 (if master || d.get (0x4100 + p) 1 = 2 then 1 else 2) false
        (retrain && d.flag (0x4180 + p) 0x16 && 3 ≤ d.commonMode p modes tagged) (quietAble (nativeSet tagged) eee)))
  ∧ (∀ (s : State) (p : Port) (modes theirs page seed : Nat) (tagged : List (Vector Nat 4)) (eee retrain : Bool) (cm : Option Bool), Negotiates s.dev p →
    nativeSet tagged = some (page, seed) → 8 ≤ s.dev.commonMode p modes tagged → s.dev.ownRank p = 3 → field page 6 2 = 3 →
    Does (.negotiationComplete p (.pages modes tagged theirs eee retrain cm)) s (fun d =>
      ((d.pagesExchanged p modes tagged theirs).put (0x4100 + p) 6 15).negFail p 3 8 4))
  ∧ (∀ (s : State) (p : Port) (modes theirs page seed : Nat) (tagged : List (Vector Nat 4)) (eee retrain : Bool) (cm : Option Bool), Negotiates s.dev p →
    nativeSet tagged = some (page, seed) → 8 ≤ s.dev.commonMode p modes tagged → ¬ (s.dev.ownRank p = 3 ∧ field page 6 2 = 3) →
    s.dev.ownRank p ≠ field page 6 2 ∨ Config.drawBelow s.dev.draws 512 ≠ seed →
    Does (.negotiationComplete p (.pages modes tagged theirs eee retrain cm)) s (fun d =>
      ((d.pagesExchanged p modes tagged theirs).put (0x4100 + p) 6 (d.ownRank p * 4 + field page 6 2)).selectMode p (d.commonMode p modes tagged) 1
        (if d.ownRank p > field page 6 2 ∨ (d.ownRank p = field page 6 2 ∧ Config.drawBelow d.draws 512 > seed) then 1 else 2)
        (d.sealOffer p && page.testBit 5) retrain (quietAble (some (page, seed)) eee)))
  ∧ (∀ (s : State) (p : Port) (modes theirs page seed : Nat) (tagged : List (Vector Nat 4)) (eee retrain : Bool) (cm : Option Bool), Negotiates s.dev p →
    nativeSet tagged = some (page, seed) → 8 ≤ s.dev.commonMode p modes tagged → s.dev.ownRank p ≠ 3 → s.dev.ownRank p = field page 6 2 →
    Config.drawBelow s.dev.draws 512 = seed → Does (.negotiationComplete p (.pages modes tagged theirs eee retrain cm)) s (fun d =>
      (d.pagesExchanged p modes tagged theirs).put (0x4100 + p) 6 (d.ownRank p * 4 + field page 6 2)))

/-- FORCED_LINK_OK, STANDARD_TRAINING_DONE, TRAIN_STAGE_TIMEOUT, TRAIN_TIMEOUT_WRITE, TRAINING_FRAME_RX (R80, R117, R172, R174, R175, R178, R179): a forced
100BASE-TX port whose link is good has its link, with 802.1AE sealing where SEAL_MODE is 3; standard training ends in a link, its engines adapted, or fails
with LAST_FAIL 9; a stage that times out fails under its own number, unless its exit condition holds, and in stage 5 fails sealing, which ends at once
where it is already failing; a new timeout ends a stage that has lasted as long. In training a valid header is taken, and an invalid one starts the counts
again, but four headers of stage 6 are not forgotten (log entry 77); in RELOCK, QUIET and DEEP_QUIET a valid header is part of a burst; elsewhere none
means anything. -/
def Obligations.TrainingRuns : Prop :=
  (∀ (s : State) (p : Port), s.dev.linkState p = 2 → s.dev.forced p = true →
    s.dev.lineServes p = true → (s.dev.port p).diag.any (·.outOfService) = false → Does (.forcedLinkOk p) s (fun d =>
      let e := (((d.widen (dieOf p) .down).put (0x4080 + p) 4 1).put (0x5180 + p) 4 3).put (0x4100 + p) 3 5
      ((e.onLink p (fun l => { l with secy := e.get (0x4400 + p) 1 = 3 })).mdiShow p).linkEstablished p))
  ∧ (∀ (s : State) (p : Port), s.dev.linkState p = 3 → s.dev.native p = false →
    Does (.standardTrainingDone p true) s (fun d =>
      ((forAll 4 (fun k d => d.onEngine p k 10 (fun g => { g with epoch := d.draws, written := [] })) (d.moveOn p false)).newDraw.linkEstablished p).moveOn p false)
    ∧ Does (.standardTrainingDone p false) s (fun d => d.attemptFailed p 9))
  ∧ (∀ (s : State) (p : Port), s.dev.linkState p = 3 → s.dev.stage p ≠ 0 → s.dev.stageExit p = false → s.dev.stage p ≠ 5 →
    Does (.trainStageTimeout p) s (fun d => d.attemptFailed p (d.stage p)))
  ∧ (∀ (s : State) (p : Port), s.dev.linkState p = 3 → s.dev.stage p = 5 → (s.dev.port p).crypt.failing = none →
    Does (.trainStageTimeout p) s (fun d => d.sealFail p 5 5))
  ∧ (∀ (s : State) (p : Port), s.dev.linkState p = 3 → s.dev.stage p = 5 → (s.dev.port p).crypt.failing ≠ none →
    Does (.trainStageTimeout p) s (fun d => d.sealFailEnd p))
  ∧ (∀ (s : State) (p : Port), s.dev.linkState p = 3 → s.dev.native p = true → s.dev.stage p ≠ 0 → s.dev.stageExit p = true →
    Does (.trainStageTimeout p) s (fun d => d.enterStage p (d.nextStage p)))
  ∧ (∀ (s : State) (r : Req) (p : Port) (stage : Fin 6) (v : Nat), Writable s r (0x4180 + p) (2 + stage) v →
    (s.dev.linkState p ≠ 3 ∨ s.dev.stage p ≠ stage + 1 ∨ s.dev.uptime < (s.dev.port p).train.since + v * 1000) →
    Answers (.trainTimeoutWrite r p stage v) s r (fun d => d.stored (0x4180 + p) (2 + stage) v))
  ∧ (∀ (s : State) (r : Req) (p : Port) (stage : Fin 6) (v : Nat), Writable s r (0x4180 + p) (2 + stage) v →
    s.dev.linkState p = 3 → s.dev.stage p = stage + 1 → (s.dev.port p).train.since + v * 1000 ≤ s.dev.uptime →
    Answers (.trainTimeoutWrite r p stage v) s r (fun d => (d.stored (0x4180 + p) (2 + stage) v).stageTimeout p))
  ∧ (∀ (s : State) (p : Port) (h : Nat), s.dev.native p = true → s.dev.linkState p = 3 → s.dev.stage p ≠ 0 → headerValid h = true →
    Does (.trainingFrameRx p h) s (fun d => d.trainHeaderRx p h))
  ∧ (∀ (s : State) (p : Port) (h : Nat), s.dev.native p = true → s.dev.linkState p = 3 → s.dev.stage p ≠ 0 → headerValid h = false →
    Does (.trainingFrameRx p h) s (fun d => d.onTrain p (fun t => { t with
      validRun := 0, lockedRun := 0, stage6Run := if 4 ≤ t.stage6Run then t.stage6Run else 0 })))
  ∧ (∀ (s : State) (p : Port) (h : Nat), s.dev.native p = true → 5 ≤ s.dev.linkState p → s.dev.linkState p ≤ 7 → headerValid h = true →
    Does (.trainingFrameRx p h) s (fun d => (d.masterBurst p h).burstRx p h))
  ∧ (∀ (s : State) (p : Port) (h : Nat), s.dev.native p = false ∨ (s.dev.linkState p = 3 ∧ s.dev.stage p = 0)
      ∨ (s.dev.linkState p ≠ 3 ∧ (headerValid h = false ∨ s.dev.linkState p < 5 ∨ 7 < s.dev.linkState p)) →
    Does (.trainingFrameRx p h) s id)

/-- HUSH_START, HUSH_END, BUNDLE_GROUP_WRITE (R147, R151, R153 to R156): where nobody in its group hushes, the waiting member that came first, and of those
that came in one window the lowest, starts its hush start, and no other member does; the end of a hush start is done with; a port joins a group, leaves it,
goes from one to another, leaving first, or stays; a group takes at most eight members, and a number that is no group answers ERR_RANGE. -/
def Obligations.BundleMembers : Prop :=
  (∀ (s : State) (p : Port), s.dev.bundleState p = 2 → (∀ q ∈ s.dev.neighbours p, s.dev.bundleState q ≠ 3 ∧ (s.dev.bundleState q = 2 →
      (s.dev.port p).signal.hushOrder < (s.dev.port q).signal.hushOrder ∨ ((s.dev.port p).signal.hushOrder = (s.dev.port q).signal.hushOrder ∧ p < q))) →
    Does (.hushStart p) s (fun d => d.hushStart p))
  ∧ (∀ (s : State) (p : Port), (s.dev.bundleState p ≠ 2 ∨ ∃ q ∈ s.dev.neighbours p, s.dev.bundleState q = 3 ∨ (s.dev.bundleState q = 2 ∧
      ((s.dev.port q).signal.hushOrder < (s.dev.port p).signal.hushOrder ∨ ((s.dev.port q).signal.hushOrder = (s.dev.port p).signal.hushOrder ∧ q < p)))) →
    Does (.hushStart p) s id)
  ∧ (∀ (s : State) (p : Port), s.dev.bundleState p = 3 → Does (.hushEnd p) s (fun d => d.hushDone p))
  ∧ (∀ (s : State) (p : Port), s.dev.bundleState p ≠ 3 → Does (.hushEnd p) s id)
  ∧ (∀ (s : State) (r : Req) (p : Port) (v : Nat), Writable s r (0x4380 + p) 1 v → v < 4 → 4 ≤ s.dev.groupOf p →
    (s.dev.members (dieOf p) v).length < 8 → Answers (.bundleGroupWrite r p v) s r (fun d =>
      ((d.put (0x4380 + p) 1 v).configured).joinGroup p))
  ∧ (∀ (s : State) (r : Req) (p : Port) (v : Nat), Writable s r (0x4380 + p) 1 v → v < 4 → s.dev.groupOf p < 4 → s.dev.groupOf p ≠ v →
    (s.dev.members (dieOf p) v).length < 8 → Answers (.bundleGroupWrite r p v) s r (fun d =>
      (((d.leaveGroup p).put (0x4380 + p) 1 v).configured).joinGroup p))
  ∧ (∀ (s : State) (r : Req) (p : Port) (v : Nat), Writable s r (0x4380 + p) 1 v → (v < 4 ∧ v = s.dev.groupOf p) ∨ (v = 0xFF ∧ 4 ≤ s.dev.groupOf p) →
    Answers (.bundleGroupWrite r p v) s r (fun d => (d.put (0x4380 + p) 1 v).configured))
  ∧ (∀ (s : State) (r : Req) (p : Port), Writable s r (0x4380 + p) 1 0xFF → s.dev.groupOf p < 4 →
    Answers (.bundleGroupWrite r p 0xFF) s r (fun d => ((d.leaveGroup p).put (0x4380 + p) 1 0xFF).configured))
  ∧ (∀ (s : State) (r : Req) (p : Port) (v : Nat), Ready s r (0x4380 + p) 1 v → s.dev.locked (0x4380 + p) 1 = false →
    (3 < v ∧ v ≠ 0xFF) ∨ (v < 4 ∧ s.dev.groupOf p ≠ v ∧ 8 ≤ (s.dev.members (dieOf p) v).length) →
    Does (.bundleGroupWrite r p v) s (fun d => d.answer r .range))

/-- NATIVE_FRAME_TX, NATIVE_FRAME_RX (R84 to R102, R143, R172, R177, R188, R469): at its frame boundary a link that transfers data sends a data frame, one
in training a training frame, its first data frame once four training frames of stage 6 have gone and come, or nothing while it is slave in stage 1, and a
relocking end one more frame of its burst; then a sealing failure whose message has left ends the link (log entry 24), and a checkpoint that is due is
taken. A frame received whole counts itself and its codewords; an uncorrectable codeword or a bad overhead makes it a lost frame, a good one is taken in,
and those that follow the first with QUIET only count in the numbering (log entry 77); what it leaves to be sent wakes a quiet link; outside a running
receiver a frame changes nothing. -/
def Obligations.NativeFrames : Prop :=
  (∀ (s : State) (p : Port), s.dev.native p = true → s.dev.linkState p ≠ 3 → s.dev.txRuns p = true →
    Does (.nativeFrameTx p) s (fun d => (((d.txAwake p).sendData p).rejectGone p).checkpointIfDue p))
  ∧ (∀ (s : State) (p : Port), s.dev.native p = true → s.dev.linkState p = 3 → s.dev.stage p ≠ 0 → s.dev.trainSilent p = false →
    (s.dev.port p).train.dataSent = true → Does (.nativeFrameTx p) s (fun d => ((d.sendData p).rejectGone p).checkpointIfDue p))
  ∧ (∀ (s : State) (p : Port), s.dev.native p = true → s.dev.linkState p = 3 → s.dev.trainSilent p = false → s.dev.dataNext p = true →
    (s.dev.port p).train.dataSent = false → Does (.nativeFrameTx p) s (fun d =>
      (((((d.onNative p (fun n => { n with txNumber := 0 })).sendData p).onTrain p (fun t => { t with dataSent := true })).dataCheck p).rejectGone p).checkpointIfDue p))
  ∧ (∀ (s : State) (p : Port), s.dev.native p = true → s.dev.linkState p = 3 → s.dev.stage p ≠ 0 → s.dev.trainSilent p = false → s.dev.dataNext p = false →
    (s.dev.port p).train.dataSent = false → Does (.nativeFrameTx p) s (fun d => ((d.sendTraining p).rejectGone p).checkpointIfDue p))
  ∧ (∀ (s : State) (p : Port), s.dev.native p = true → s.dev.linkState p ≠ 3 → s.dev.txRuns p = false → s.dev.bursting p = true → s.dev.burstWaits p = false →
    Does (.nativeFrameTx p) s (fun d => ((Dev.sendBurst p 0 1 d).rejectGone p).checkpointIfDue p))
  ∧ (∀ (s : State) (p : Port), s.dev.native p = false ∨ (s.dev.linkState p = 3 ∧ s.dev.trainSilent p = true) →
    Does (.nativeFrameTx p) s (fun d => (d.rejectGone p).checkpointIfDue p))
  ∧ (∀ (s : State) (p : Port) (f : NativeRx), s.dev.rxRuns p = true → s.dev.rxTail p = false → s.dev.rxBad p f = true →
    Does (.nativeFrameRx p f) s (fun d => (((d.rxCounted p f).rxLost p f.mdiTime).wakeIfPending p).inbandWake))
  ∧ (∀ (s : State) (p : Port) (f : NativeRx), s.dev.rxRuns p = true → s.dev.rxTail p = false → s.dev.rxBad p f = false →
    Does (.nativeFrameRx p f) s (fun d =>
      (((d.rxCounted p f).rxGood p f (d.rxOverhead p f) ((d.rxInfo p f).drop (overheadBits (d.mode p)))).wakeIfPending p).inbandWake))
  ∧ (∀ (s : State) (p : Port) (f : NativeRx), s.dev.rxTail p = true →
    Does (.nativeFrameRx p f) s (fun d =>
      (((d.rxCounted p f).rxLast p (d.rxBad p f) (d.rxOverhead p f).number).wakeIfPending p).inbandWake))
  ∧ (∀ (s : State) (p : Port) (f : NativeRx), s.dev.rxRuns p = false → s.dev.rxTail p = false → Does (.nativeFrameRx p f) s id)

/-- RELOCK_NOW, RELOCK_START, RELOCK_REACQUIRED, RELOCK_FAILED, HOLD_EXPIRED (R183 to R186, R188, R190, R192, R470): a relock that is asked for waits for
its start with cause 5, but answers ERR_BUSY during a relock or where one waits, and ERR_STATE without a native link; started, it runs its steps (at once:
log entry 16). Reacquired in quiet it is complete; else RESUME follows in four frames, and it is complete at once where the partner's RESUME has come;
where both ends relock it waits for the partner's burst. A relock with HOLD that fails loses the link, and one in quiet, or one the partner has answered,
has no limit; a hold that expires loses the link. -/
def Obligations.WarmRelock : Prop :=
  (∀ (s : State) (r : Req) (p : Port), Ready s r (0x4180 + p) 0x10 1 → s.dev.nativeLink p = true →
    (s.dev.port p).link.relock = none → (s.dev.port p).link.relockPending = none →
    Answers (.relockNow r p 1) s r (fun d => d.onLink p (fun l => { l with relockPending := some 5 })))
  ∧ (∀ (s : State) (r : Req) (p : Port), Ready s r (0x4180 + p) 0x10 1 → s.dev.native p = true →
    (s.dev.linkState p = 5 ∨ (s.dev.port p).link.relockPending.isSome = true) → Does (.relockNow r p 1) s (fun d => d.answer r .busy))
  ∧ (∀ (s : State) (r : Req) (p : Port), Ready s r (0x4180 + p) 0x10 1 → s.dev.nativeLink p = false → (s.dev.native p = false ∨ s.dev.linkState p ≠ 5) →
    (s.dev.native p = false ∨ (s.dev.port p).link.relockPending = none) → Does (.relockNow r p 1) s (fun d => d.answer r .state))
  ∧ (∀ (s : State) (p : Port) (c : Nat), s.dev.nativeLink p = true → (s.dev.port p).link.relock = none → (s.dev.port p).link.relockPending = some c →
    Does (.relockStart p) s (fun d => d.relockStart p c))
  ∧ (∀ (s : State) (p : Port), (s.dev.port p).link.relockPending = none ∨ s.dev.nativeLink p = false ∨ (s.dev.port p).link.relock ≠ none →
    Does (.relockStart p) s id)
  ∧ (∀ (s : State) (p : Port) (r : Relock) (tenths : Nat), (s.dev.port p).link.relock = some r → r.reloaded = true → r.resumed = false → r.silent = true →
    Does (.relockReacquired p tenths) s (fun d => d.relockDone p r tenths))
  ∧ (∀ (s : State) (p : Port) (r : Relock) (tenths : Nat), (s.dev.port p).link.relock = some r → r.reloaded = true → r.burst = true → r.resumed = false →
    r.silent = false → ((s.dev.port p).link.held = false ∨ r.heard = true) →
    (r.answered = false → Does (.relockReacquired p tenths) s (fun d => d.resumeSent p r tenths))
    ∧ (r.answered = true → Does (.relockReacquired p tenths) s (fun d => (d.resumeSent p r tenths).relockDone p r tenths)))
  ∧ (∀ (s : State) (p : Port) (r : Relock) (tenths : Nat), (s.dev.port p).link.relock = some r → r.silent = false →
    (r.burst = false ∨ ((s.dev.port p).link.held = true ∧ r.heard = false)) → Does (.relockReacquired p tenths) s id)
  ∧ (∀ (s : State) (p : Port) (tenths : Nat), (∀ r ∈ (s.dev.port p).link.relock, r.reloaded = false ∨ r.resumed = true) →
    Does (.relockReacquired p tenths) s id)
  ∧ (∀ (s : State) (p : Port) (r : Relock), (s.dev.port p).link.relock = some r → r.silent = false → r.answered = false →
    Does (.relockFailed p) s (fun d => ((d.event (0x4080 + p) 7).inc (0x4280 + p) 7).lose p))
  ∧ (∀ (s : State) (p : Port), (∀ r ∈ (s.dev.port p).link.relock, r.silent = true ∨ r.answered = true) → Does (.relockFailed p) s id)
  ∧ (∀ (s : State) (p : Port), (s.dev.port p).link.held = true →
    Does (.holdExpired p) s (fun d => ((d.event (0x4080 + p) 9).inc (0x4280 + p) 8).loseAny p))
  ∧ (∀ (s : State) (p : Port), (s.dev.port p).link.held = false → Does (.holdExpired p) s id)

/-- LINK_PULSES_RECEIVED, LOSS_MARGIN_TIMEOUT, STANDARD_LINK_FAIL, FAST_RETRAIN_*, MARGIN_UPDATE (R129, R131, R174, R179, R186, R193, R194, R196, R197):
link pulses fail an attempt under cause 12, end a hold and lose a native link; a margin ten updates below LOSS_MARGIN loses it too; a standard link fails;
a fast retrain begins where its link may and ends in data, or loses the link when it has taken too long. A margin update is the margins of a link that
receives, and in native training the conditions of the stage; either way the pairs without a signal are noted. Outside these states none of them changes
anything.
What the loss of a standard link leaves (R160, R195): a port that is enabled, not forced and offers something negotiates, without a mode, a timing role or
a training stage; the one-way store and the queue are as before. -/
def Obligations.LinksAreLost : Prop :=
  (∀ (s : State) (p : Port), s.dev.linkState p = 3 → Does (.linkPulsesReceived p) s (fun d => d.attemptFailed p 12))
  ∧ (∀ (s : State) (p : Port), s.dev.native p = true → 4 ≤ s.dev.linkState p → s.dev.linkState p ≤ 7 → (s.dev.port p).link.held = false →
    Does (.linkPulsesReceived p) s (fun d => d.loseAny p))
  ∧ (∀ (s : State) (p : Port), s.dev.native p = true → 4 ≤ s.dev.linkState p → s.dev.linkState p ≤ 7 → (s.dev.port p).link.held = true →
    Does (.linkPulsesReceived p) s (fun d => d.holdExpired p))
  ∧ (∀ (s : State) (p : Port), s.dev.linkState p ≠ 3 → (s.dev.native p = false ∨ s.dev.linkState p < 4 ∨ 7 < s.dev.linkState p) →
    Does (.linkPulsesReceived p) s id)
  ∧ (∀ (s : State) (p : Port), s.dev.nativeLink p = true → s.dev.rxActive p = true → (s.dev.port p).link.lowMargin.any (fun n => 10 ≤ n) = true →
    Does (.lossMarginTimeout p) s (fun d => d.lose p))
  ∧ (∀ (s : State) (p : Port), s.dev.nativeLink p = false ∨ s.dev.rxActive p = false ∨ (s.dev.port p).link.lowMargin.any (fun n => 10 ≤ n) = false →
    Does (.lossMarginTimeout p) s id)
  ∧ (∀ (s : State) (p : Port), s.dev.linkUp p = true → s.dev.native p = false → Does (.standardLinkFail p) s (fun d => d.lose p))
  ∧ (∀ (s : State) (p : Port), s.dev.linkUp p = false ∨ s.dev.native p = true → Does (.standardLinkFail p) s id)
  ∧ (∀ (s : State) (p : Port), s.dev.native p = false → 3 ≤ s.dev.mode p → (s.dev.linkState p = 4 ∨ s.dev.linkState p = 6) →
    (s.dev.port p).link.fastRetrainAble = true → s.dev.flag (0x4180 + p) 0x16 = true → Does (.fastRetrainStart p) s (fun d =>
      ((((((d.widen (dieOf p) .down).calUnsuitable p 6).quietLeave p).setTxQuiet p 0).setRxQuiet p 0).setLinkState p 8).trimsAtOnce p))
  ∧ (∀ (s : State) (p : Port), s.dev.mayFastRetrain p = false → Does (.fastRetrainStart p) s id)
  ∧ (∀ (s : State) (p : Port), s.dev.linkState p = 8 → Does (.fastRetrainDone p) s (fun d =>
      ((((((d.setLinkState p 4).reactionEnd (srcPort p)).event (0x4080 + p) 10).inc (0x4280 + p) 9).onLink p
        (fun l => { l with dataSince := d.uptime })).moveOn p false).inbandWake))
  ∧ (∀ (s : State) (p : Port), s.dev.linkState p = 8 → Does (.fastRetrainTimeout p) s (fun d => d.lose p))
  ∧ (∀ (s : State) (p : Port), s.dev.linkState p ≠ 8 → Does (.fastRetrainDone p) s id ∧ Does (.fastRetrainTimeout p) s id)
  ∧ (∀ (s : State) (p : Port) (snr : Vector Int 4) (absent : Vector Bool 4), (s.dev.linkState p = 4 ∨ s.dev.linkState p = 6) → s.dev.rxActive p = true →
    Does (.marginUpdate p snr absent) s (fun d => (d.marginsPut p snr).signalSeen p absent))
  ∧ (∀ (s : State) (p : Port) (snr : Vector Int 4) (absent : Vector Bool 4), s.dev.linkState p = 3 → s.dev.native p = true →
    Does (.marginUpdate p snr absent) s (fun d =>
      let good := (allFin 4).all (fun k => 256 ≤ marginOf (d.mode p) (snr.get k))
      let run := if good && (d.stage p ≠ 4 || (d.port p).train.acksGot.all id) then (d.port p).train.marginRun + 1 else 0
      ((d.onTrain p (fun t => { t with marginRun := run, converged := t.converged || (d.stage p = 3 && good) })).stageAdvance p).signalSeen p absent))
  ∧ (∀ (s : State) (p : Port) (snr : Vector Int 4) (absent : Vector Bool 4), (s.dev.linkState p ≠ 3 ∨ s.dev.native p = false) →
    ((s.dev.linkState p ≠ 4 ∧ s.dev.linkState p ≠ 6) ∨ s.dev.rxActive p = false) →
    Does (.marginUpdate p snr absent) s (fun d => d.signalSeen p absent))
  ∧ (∀ (s : State) (p : Port), s.dev.linkUp p = true → s.dev.native p = false → s.dev.enabled p = true → s.dev.forced p = false → s.dev.effAdvertise p ≠ 0 →
    Gives (.standardLinkFail p) s (fun t => t.dev.linkState p = 2 ∧ t.dev.mode p = 0 ∧ t.dev.get (0x5180 + p) 4 = 0 ∧ t.dev.stage p = 0
      ∧ t.vault = s.vault ∧ t.pending = s.pending))

/-- QUIET_ENTRY, QUIET_REFRESH, DEEP_REQUEST, WAKE_TONE_RX, PRESENCE_PULSE, PRESENCE_PULSE_RX, REFRESH_MISSING, WAKE_FAILED, PARTNER_LPI (R194, R198 to
R206): the own direction enters quiet when its conditions hold, natively with four frames of QUIET; refreshes, sent with what they ask for or received, let
the engines follow, also in a relock where one is received, and may take the link to deep quiet; deep quiet is asked for where both ends may. A wake tone
is answered by an end that has not sent its own, and both send their burst. In deep quiet the master pulses and the slave answers. A refresh that is
missing and a wake that fails lose the link. Low-power idle of a standard partner quiets its direction, and its end wakes it. Outside these states none of
them changes anything. -/
def Obligations.QuietLife : Prop :=
  (∀ (s : State) (p : Port), s.dev.mayQuiet p = true → s.dev.native p = true → Does (.quietEntry p) s (fun d =>
      let e := ((Dev.flagFrames p 2 4 d).onNative p (fun n => { n with txBits := [] })).streamStops p
      ((((e.setTxQuiet p 2).event (0x4080 + p) 11).inc (0x4280 + p) 0xA).onLink p
        (fun l => { l with quietSince := some e.uptime, deepSent := false })).quietLink p))
  ∧ (∀ (s : State) (p : Port), s.dev.mayQuiet p = true → s.dev.native p = false → Does (.quietEntry p) s (fun d =>
      ((((d.setTxQuiet p 2).event (0x4080 + p) 11).inc (0x4280 + p) 0xA).onLink p (fun l => { l with quietSince := some d.uptime, deepSent := false })).quietLink p))
  ∧ (∀ (s : State) (p : Port), s.dev.mayQuiet p = false → Does (.quietEntry p) s id)
  ∧ (∀ (s : State) (p : Port), s.dev.native p = true → s.dev.linkState p = 6 → (s.dev.txQuiet p = 2 ∨ s.dev.txQuiet p = 3) →
    Does (.quietRefresh p true) s (fun d =>
      ((((Dev.sendBurst p (if d.txQuiet p = 3 then 3 else 0) 8 d).moveOn p true).othersLearn p).onLink p
        (fun l => { l with deepSent := l.deepSent || d.txQuiet p = 3 })).deepCheck p))
  ∧ (∀ (s : State) (p : Port), s.dev.native p = true → (s.dev.linkState p = 5 ∨ s.dev.linkState p = 6) → (s.dev.rxQuiet p = 2 ∨ s.dev.rxQuiet p = 3) →
    Does (.quietRefresh p false) s (fun d => ((d.tlmRefreshed p).moveOn p true).deepCheck p))
  ∧ (∀ (s : State) (p : Port), s.dev.native p = true → (s.dev.linkState p = 5 ∨ s.dev.linkState p = 6) → s.dev.rxQuiet p = 5 →
    Does (.quietRefresh p false) s (fun d => (((d.setRxQuiet p 2).tlmRefreshed p).moveOn p true).deepCheck p))
  ∧ (∀ (s : State) (p : Port) (sent : Bool), s.dev.native p = false ∨ (s.dev.linkState p ≠ 6 ∧ (s.dev.linkState p ≠ 5 ∨ sent = true)) →
    Does (.quietRefresh p sent) s id)
  ∧ (∀ (s : State) (p : Port), s.dev.native p = true → s.dev.linkState p = 6 → s.dev.txQuiet p = 2 → s.dev.get (0x4200 + p) 1 = 2 →
    (s.dev.get (0x4200 + p) 6).testBit 1 = true → Does (.deepRequest p) s (fun d => d.put (0x4200 + p) 4 3))
  ∧ (∀ (s : State) (p : Port), s.dev.linkState p ≠ 6 ∨ s.dev.txQuiet p ≠ 2 ∨ s.dev.get (0x4200 + p) 1 ≠ 2 → Does (.deepRequest p) s id)
  ∧ (∀ (s : State) (p : Port), s.dev.linkState p = 7 → s.dev.native p = true → s.dev.txQuiet p = 5 → Does (.wakeToneRx p) s (fun d =>
      Dev.sendBurst p 0 (burstFrames (d.mode p) 600) (((((d.rxWaking p).widen (dieOf p) .up).widen (dieOf p) .down).trimsLoad p).moveOn p true)))
  ∧ (∀ (s : State) (p : Port), s.dev.linkState p = 7 → s.dev.native p = true → s.dev.txQuiet p ≠ 5 → Does (.wakeToneRx p) s (fun d =>
      let d := ((d.quietLeave p).setTxQuiet p 5).emit (.wakeTone p)
      Dev.sendBurst p 0 (burstFrames (d.mode p) 600) (((((d.rxWaking p).widen (dieOf p) .up).widen (dieOf p) .down).trimsLoad p).moveOn p true)))
  ∧ (∀ (s : State) (p : Port), s.dev.linkState p ≠ 7 → Does (.wakeToneRx p) s id ∧ Does (.presencePulse p) s id ∧ Does (.presencePulseRx p) s id)
  ∧ (∀ (s : State) (p : Port), s.dev.linkState p = 7 → s.dev.isMaster p = true →
    Does (.presencePulse p) s (fun d => d.emit (.presence p)) ∧ Does (.presencePulseRx p) s id)
  ∧ (∀ (s : State) (p : Port), s.dev.linkState p = 7 → s.dev.isMaster p = false →
    Does (.presencePulse p) s id ∧ Does (.presencePulseRx p) s (fun d => d.emit (.presence p)))
  ∧ (∀ (s : State) (p : Port), s.dev.native p = true →
    (s.dev.linkState p = 7 ∨ ((s.dev.linkState p = 5 ∨ s.dev.linkState p = 6) ∧ 2 ≤ s.dev.rxQuiet p ∧ s.dev.rxQuiet p ≤ 4)) →
    Does (.refreshMissing p) s (fun d => d.loseAny p))
  ∧ (∀ (s : State) (p : Port), s.dev.native p = true → 5 ≤ s.dev.linkState p → s.dev.linkState p ≤ 7 → (s.dev.txQuiet p = 5 ∨ s.dev.rxQuiet p = 5) →
    Does (.wakeFailed p) s (fun d => (d.event (0x4080 + p) 13).loseAny p))
  ∧ (∀ (s : State) (p : Port), s.dev.native p = false → Does (.refreshMissing p) s id ∧ Does (.wakeFailed p) s id)
  ∧ (∀ (s : State) (p : Port), s.dev.native p = false → (s.dev.linkState p = 4 ∨ s.dev.linkState p = 6) →
    Does (.partnerLpi p true) s (fun d => (((d.calUnsuitable p 1).put (0x4200 + p) 5 2).event (0x4080 + p) 11).quietLink p)
    ∧ Does (.partnerLpi p false) s (fun d => ((d.widen (dieOf p) .up).put (0x4200 + p) 5 0).quietLink p))
  ∧ (∀ (s : State) (p : Port) (enter : Bool), s.dev.native p = true → Does (.partnerLpi p enter) s id)

/-- The messages of the selvage channel (R105 to R110, R122, R174): what each does when it arrives on a running stream, and that none does anything
elsewhere; how a query is asked, answered and ended; that TELEMETRY is queued while data flows and its interval is not 0, and that its counts begin again
at the timer either way; that taps asked for are kept for the acknowledgement's end, and a reply of another length than its item's is malformed; and that a
message begins only when none is in transmission, the sequencer's before the service's. -/
def Obligations.SelvageMessages : Prop :=
  (∀ (s : State) (p : Port) (cause held : Nat), s.dev.selvageRuns p = true → Does (.relockReport p cause held) s (fun d =>
      let d := ((d.inc (0x4300 + p) 0x1B).event (0x4080 + p) 8).inc (0x4280 + p) 6
      ((d.put (0x4180 + p) 0x11 6).put (0x4180 + p) 0x12 (held % 65536)).put (0x4180 + p) 0x13 (max (held % 65536) (d.get (0x4180 + p) 0x13))))
  ∧ (∀ (s : State) (p : Port) (level : Int) (dur : Nat), s.dev.selvageRuns p = true → Does (.hushNote p level dur) s (fun d => d.inc (0x4300 + p) 0x1B))
  ∧ (∀ (s : State) (p : Port) (pair : Pair) (taps : List Int), s.dev.selvageRuns p = true → goodTaps pair taps = true →
    Does (.precoder p pair taps) s (fun d => ((d.inc (0x4300 + p) 0x1B).queueSeq p (.precoderAck pair 0)).onTrain p (fun t => { t with
      asked := upd t.asked pair (fun _ => some taps) })))
  ∧ (∀ (s : State) (p : Port) (pair : Nat) (taps : List Int), s.dev.selvageRuns p = true → goodTaps pair taps = false →
    Does (.precoder p pair taps) s (fun d => (d.inc (0x4300 + p) 0x1B).queueSeq p (.precoderAck pair 1)))
  ∧ (∀ (s : State) (p : Port), s.dev.selvageRuns p = false →
    (∀ cause held : Nat, Does (.relockReport p cause held) s id) ∧ (∀ (level : Int) (dur : Nat), Does (.hushNote p level dur) s id)
    ∧ (∀ (pair : Nat) (taps : List Int), Does (.precoder p pair taps) s id) ∧ (∀ pair result : Nat, Does (.precoderAck p pair result) s id)
    ∧ (∀ (m : Vector Int 4) (c u : Nat), Does (.telemetry p m c u) s id) ∧ (∀ item : Nat, Does (.partnerQueryRx p item) s id)
    ∧ (∀ (item result : Nat) (data : List Byte), Does (.partnerReply p item result data) s id) ∧ Does (.selvageMsgTxStart p) s id)
  ∧ (∀ (s : State) (p : Port) (pair : Pair), s.dev.selvageRuns p = true → s.dev.linkState p = 3 → s.dev.stage p = 4 →
    Does (.precoderAck p pair 0) s (fun d => ((d.inc (0x4300 + p) 0x1B).onTrain p (fun t => { t with acksGot := upd t.acksGot pair (fun _ => true) })).stageAdvance p)
    ∧ Does (.precoderAck p pair 1) s (fun d => (d.inc (0x4300 + p) 0x1B).attemptFailed p 11))
  ∧ (∀ (s : State) (p : Port) (m : Vector Int 4) (c u : Nat), s.dev.selvageRuns p = true → Gives (.telemetry p m c u) s (fun t =>
      (∀ k : Pair, t.dev.get (0x4300 + p) (0x20 + k) = unsigned 16 (m.get k)) ∧ (t.dev.port p).selvage.heardAt = some s.dev.uptime))
  ∧ (∀ (s : State) (r : Req) (p : Port) (v : Nat), Ready s r (0x4100 + p) 0x20 v → s.dev.nativeData p = true → s.dev.get (0x4100 + p) 0x21 ≠ 1 → (v = 1 ∨ v = 2) →
    Answers (.partnerQuery r p v) s r (fun d => (d.put (0x4100 + p) 0x21 1).queueService p (.partnerQuery v)))
  ∧ (∀ (s : State) (p : Port) (item : Nat), s.dev.selvageRuns p = true → s.dev.flag (0x4000 + p) 6 = true → (item = 1 ∨ item = 2) →
    Does (.partnerQueryRx p item) s (fun d => (d.inc (0x4300 + p) 0x1B).queueService p (.partnerReply item 0 ((d.inc (0x4300 + p) 0x1B).replyData item))))
  ∧ (∀ (s : State) (p : Port) (item : Nat), s.dev.selvageRuns p = true → (s.dev.flag (0x4000 + p) 6 = false ∨ (item ≠ 1 ∧ item ≠ 2)) →
    Does (.partnerQueryRx p item) s (fun d => (d.inc (0x4300 + p) 0x1B).queueService p (.partnerReply item 1 [])))
  ∧ (∀ (s : State) (p : Port) (data : List Byte), s.dev.selvageRuns p = true → s.dev.get (0x4100 + p) 0x21 = 1 → data.length = 25 →
    Does (.partnerReply p 1 0 data) s (fun d => ((d.inc (0x4300 + p) 0x1B).put (0x4100 + p) 0x22 (natOf data)).put (0x4100 + p) 0x21 2))
  ∧ (∀ (s : State) (p : Port) (data : List Byte), s.dev.selvageRuns p = true → s.dev.get (0x4100 + p) 0x21 = 1 → data.length = 16 →
    Does (.partnerReply p 2 0 data) s (fun d => ((d.inc (0x4300 + p) 0x1B).put (0x4100 + p) 0x23 (natOf data)).put (0x4100 + p) 0x21 2))
  ∧ (∀ (s : State) (p : Port) (item result : Nat), s.dev.selvageRuns p = true → s.dev.get (0x4100 + p) 0x21 = 1 → result ≠ 0 →
    Does (.partnerReply p item result []) s (fun d => (d.inc (0x4300 + p) 0x1B).put (0x4100 + p) 0x21 3))
  ∧ (∀ (s : State) (p : Port) (item result : Nat) (data : List Byte), s.dev.selvageRuns p = true →
    data.length ≠ (if result ≠ 0 then 0 else if item = 1 then 25 else 16) → Does (.partnerReply p item result data) s (fun d => d.inc (0x4300 + p) 0x18))
  ∧ (∀ (s : State) (p : Port), s.dev.get (0x4100 + p) 0x21 = 1 → Does (.partnerQueryTimeout p) s (fun d => d.put (0x4100 + p) 0x21 4))
  ∧ (∀ (s : State) (p : Port), s.dev.get (0x4100 + p) 0x21 ≠ 1 → Does (.partnerQueryTimeout p) s id)
  ∧ (∀ (s : State) (p : Port), s.dev.nativeData p = true → s.dev.get (0x4000 + p) 7 ≠ 0 → Does (.selvageTelemetryTimer p) s (fun d =>
      (d.queueService p (d.telemetryNow p)).onSelvage p (fun s => { s with corrected := 0, uncorrectable := 0 })))
  ∧ (∀ (s : State) (p : Port), s.dev.nativeData p = false ∨ s.dev.get (0x4000 + p) 7 = 0 →
    Does (.selvageTelemetryTimer p) s (fun d => d.onSelvage p (fun s => { s with corrected := 0, uncorrectable := 0 })))
  ∧ (∀ (s : State) (p : Port), (s.dev.port p).selvage.sending.isSome = true → Does (.selvageMsgTxStart p) s id)
  ∧ (∀ (s : State) (p : Port) (m : SelvageMsg) (rest : List SelvageMsg), s.dev.selvageRuns p = true → (s.dev.port p).selvage.sending = none →
    (s.dev.port p).selvage.sequencer = m :: rest → Does (.selvageMsgTxStart p) s (fun d => d.onSelvage p (fun s => { s with
      sequencer := rest, sending := some m, bits := (if s.bits.isEmpty then flagBits else s.bits) ++ m.stream })))
  ∧ (∀ (s : State) (p : Port) (m : SelvageMsg) (rest : List SelvageMsg), s.dev.selvageRuns p = true → (s.dev.port p).selvage.sending = none →
    (s.dev.port p).selvage.sequencer = [] → (s.dev.port p).selvage.service = m :: rest →
    Does (.selvageMsgTxStart p) s (fun d => d.onSelvage p (fun s => { s with
      service := rest, sending := some m, bits := (if s.bits.isEmpty then flagBits else s.bits) ++ m.stream })))

/-! ## Coefficients and sealing -/

/-- ADAPT_HOLD, ADAPT_HOLD_EXPIRY (R134): a hold of 1 to 60,000 ms of a link that is up is set to end at its time; 0 ends it now; a longer one answers
ERR_RANGE, and without a link every one ERR_STATE; the expiry of a hold that stands ends it, and the engines move again.
COEF_CAPTURE, COEF_WRITE, COEF_RAMP_END, COEF_RELEASE (R136 to R141): a selection in range is latched into its window, one of an engine that its mode has
not answers ERR_STATE, and another out of range ERR_RANGE; a write to a captured selection starts a ramp and is recorded, waits behind a running one, or
takes the place of one that waits, and the windows' states say so; the precoder's taps answer ERR_ACCESS, and a window without a selection ERR_STATE; the
end of a ramp lets its values stand, starts the one that waits from them, and a checkpoint falls due; a release ends the override, after which the engine
adapts as it may, and without a selection does nothing (log entry 102).
CKPT_NOW, CKPT_TIMER, CHECKPOINT_DONE, COEF_STORE_ECC_ERROR (R142, R143, R146): a checkpoint falls due on a native link that carries data, and CKPT_NOW
answers ERR_STATE on another; one that may not be taken now, for a hold or one being written, waits; a checkpoint with its commit marker stands in its slot
and is counted, and one that waited for it is taken; an error that can be corrected is counted and reported with its address in the store, one that cannot
takes its slot too. -/
def Obligations.CoefficientsAndCheckpoints : Prop :=
  (∀ (s : State) (r : Req) (p : Port) (ms : Nat), Ready s r (0x5000 + p) 0xB ms → s.dev.linkUp p = true → 1 ≤ ms → ms ≤ 60000 →
    Answers (.adaptHold r p ms) s r (fun d => d.onSignal p (fun s => { s with holdUntil := some (d.uptime + ms * 1000) })))
  ∧ (∀ (s : State) (r : Req) (p : Port), Ready s r (0x5000 + p) 0xB 0 → s.dev.linkUp p = true →
    Answers (.adaptHold r p 0) s r (fun d => (d.onSignal p (fun s => { s with holdUntil := none })).moveOn p false))
  ∧ (∀ (s : State) (r : Req) (p : Port) (ms : Nat), Ready s r (0x5000 + p) 0xB ms → s.dev.linkUp p = false →
    Does (.adaptHold r p ms) s (fun d => d.answer r .state))
  ∧ (∀ (s : State) (r : Req) (p : Port) (ms : Nat), Ready s r (0x5000 + p) 0xB ms → s.dev.linkUp p = true → 60000 < ms →
    Does (.adaptHold r p ms) s (fun d => d.answer r .range))
  ∧ (∀ (s : State) (p : Port), (s.dev.port p).signal.holdUntil = none → Does (.adaptHoldExpiry p) s id)
  ∧ (∀ (s : State) (p : Port), (s.dev.port p).signal.holdUntil.isSome = true →
    Does (.adaptHoldExpiry p) s (fun d => (d.onSignal p (fun s => { s with holdUntil := none })).moveOn p false))
  ∧ (∀ (s : State) (r : Req) (w : Fin 16) (sel : Nat), Ready s r (0x5400 + w) 1 sel → (selectionOf sel).portIs (fun p => (s.dev.port p).tested) = false →
    s.dev.selectionInRange (selectionOf sel) = true → Answers (.coefCapture r w sel) s r (fun d => d.capture w sel))
  ∧ (∀ (s : State) (r : Req) (w : Fin 16) (sel : Nat), Ready s r (0x5400 + w) 1 sel → (selectionOf sel).portIs (fun p => (s.dev.port p).tested) = false →
    ((selectionOf sel).engine < 11 ∧ (selectionOf sel).portIs (fun p => tapsOn (s.dev.refMode p) ((selectionOf sel).pair % 4) (selectionOf sel).engine = 0) = true →
      Does (.coefCapture r w sel) s (fun d => d.answer r .state))
    ∧ (¬ ((selectionOf sel).engine < 11 ∧ (selectionOf sel).portIs (fun p => tapsOn (s.dev.refMode p) ((selectionOf sel).pair % 4) (selectionOf sel).engine = 0) = true) →
      s.dev.selectionInRange (selectionOf sel) = false → Does (.coefCapture r w sel) s (fun d => d.answer r .range)))
  ∧ (∀ (s : State) (r : Req) (w : Fin 16) (values : Nat) (p : Port), Ready s r (0x5400 + w) 2 values →
    s.dev.captured w = true → (selectionOf (s.dev.get (0x5400 + w) 5)).port? = some p → (selectionOf (s.dev.get (0x5400 + w) 5)).engine ≠ 10 →
    ((selectionOf (s.dev.get (0x5400 + w) 5)).engine = 9 → (List.range (selectionOf (s.dev.get (0x5400 + w) 5)).count).all
      (fun i => (s.dev.tapKey p 9 ((selectionOf (s.dev.get (0x5400 + w) 5)).first + i)).isSome) = true) →
    (s.dev.port p).tested = false → s.dev.carriesData p = true → s.dev.stagingFull = false →
    (unpackI32 values (selectionOf (s.dev.get (0x5400 + w) 5)).count).all fits24 = true →
    Answers (.coefWrite r w values) s r (fun d => d.coefRequest p w (selectionOf (d.get (0x5400 + w) 5)) values))
  ∧ (∀ (d : Dev) (p : Port) (w : Fin 16) (sel : Selection) (values : Nat),
    let g := (d.moveOn p false).engine p ⟨sel.pair % 4, by omega⟩ ⟨sel.engine % 11, by omega⟩
    (g.ramp = none → (d.coefRequest p w sel values).get (0x5400 + w) 4 = 3)
    ∧ (g.ramp ≠ none → (d.coefRequest p w sel values).get (0x5400 + w) 4 = 4)
    ∧ (∀ old : Ramp, g.ramp ≠ none → g.waiting = some old → ∀ v ∈ old.window, v ≠ w → (d.coefRequest p w sel values).get (0x5400 + v) 4 = 6))
  ∧ (∀ (s : State) (r : Req) (w : Fin 16) (values : Nat), Ready s r (0x5400 + w) 2 values → s.dev.captured w = true →
    (selectionOf (s.dev.get (0x5400 + w) 5)).engine = 10 → Does (.coefWrite r w values) s (fun d => d.answer r .access))
  ∧ (∀ (s : State) (r : Req) (w : Fin 16) (values : Nat), Ready s r (0x5400 + w) 2 values → s.dev.stagingFull = false →
    s.dev.captured w = false → Does (.coefWrite r w values) s (fun d => d.answer r .state))
  ∧ (∀ (s : State) (p : Port) (k : Pair) (e : Fin 11) (r : Ramp), (s.dev.engine p k e).ramp = some r → (s.dev.engine p k e).waiting = none →
    Does (.coefRampEnd p k e) s (fun d =>
      ((d.onEngine p k e (fun g => { g.land r with ramp := g.waiting.map (d.rampFrom p k e (g.land r)), waiting := none })).windowShows
        r.window 5).checkpoint p))
  ∧ (∀ (s : State) (p : Port) (k : Pair) (e : Fin 11) (r q : Ramp), (s.dev.engine p k e).ramp = some r → (s.dev.engine p k e).waiting = some q →
    Does (.coefRampEnd p k e) s (fun d =>
      (((d.onEngine p k e (fun g => { g.land r with ramp := g.waiting.map (d.rampFrom p k e (g.land r)), waiting := none })).windowShows
        r.window 5).windowShows q.window 3).checkpoint p))
  ∧ (∀ (s : State) (p : Port) (k : Pair) (e : Fin 11), (s.dev.engine p k e).ramp = none → Does (.coefRampEnd p k e) s id)
  ∧ (∀ (s : State) (r : Req) (w : Fin 16) (p : Port), Ready s r (0x5400 + w) 3 1 → s.dev.captured w = true →
    (selectionOf (s.dev.get (0x5400 + w) 5)).port? = some p → (s.dev.port p).tested = false →
    Answers (.coefRelease r w 1) s r (fun d => let sel := selectionOf (d.get (0x5400 + w) 5)
      (d.onEngine p (Fin.ofNat 4 sel.pair) (Fin.ofNat 11 sel.engine) (fun g => { g with overridden := false })).moveOn p false))
  ∧ (∀ (s : State) (r : Req) (w : Fin 16), Ready s r (0x5400 + w) 3 1 → s.dev.captured w = false → Answers (.coefRelease r w 1) s r id)
  ∧ (∀ (s : State) (r : Req) (p : Port), Ready s r (0x5200 + p) 4 1 → s.dev.native p = true → s.dev.carriesData p = true →
    Answers (.ckptNow r p 1) s r (fun d => d.checkpoint p))
  ∧ (∀ (s : State) (r : Req) (p : Port), Ready s r (0x5200 + p) 4 1 → (s.dev.native p = false ∨ s.dev.carriesData p = false) →
    Does (.ckptNow r p 1) s (fun d => d.answer r .state))
  ∧ (∀ (s : State) (p : Port), Does (.ckptTimer p) s (fun d => d.checkpoint p))
  ∧ (∀ (d : Dev) (p : Port), d.native p = true → 4 ≤ d.linkState p → d.linkState p ≤ 7 →
    (d.portHeld p = true ∨ (d.port p).signal.writing.isSome = true) → d.checkpoint p = d.onSignal p (fun s => { s with checkpointDue := true }))
  ∧ (∀ (s : State) (p : Port) (k : Fin 2) (c : Checkpoint), (s.dev.port p).signal.writing = some (k, c) →
    Does (.checkpointDone p) s (fun d =>
      ((d.onSignal p (fun s => { s with writing := none, slots := upd s.slots k (fun _ => some c) })).inc (0x5200 + p) 0x10).checkpointIfDue p))
  ∧ (∀ (s : State) (p : Port), (s.dev.port p).signal.writing = none → Does (.checkpointDone p) s id)
  ∧ (∀ (s : State) (p : Port) (slot : Fin 2) (a : Nat),
    Does (.coefStoreEccError p slot true a) s (fun d =>
      (d.inc 0x5700 (dieOf p + 1)).notice (srcStore (dieOf p)) 1 (localOf p * 0x10000 + slot * 0x8000 + a % 0x8000))
    ∧ Does (.coefStoreEccError p slot false a) s (fun d =>
      ((d.onSignal p (fun s => { s with slots := upd s.slots slot (fun _ => none) })).inc 0x5701 (dieOf p + 1)).notice (srcStore (dieOf p)) 2
        (localOf p * 0x10000 + slot * 0x8000 + a % 0x8000)))

/-- SEAL_MODE_WRITE, SEAL_REKEY_NOW, REKEY_TIMER, OLD_KEY_ERASE, REKEY_RETRY, SA_INSTALL, SA_TX_SELECT, SA_DELETE (R219, R220, R226 to R228, R232, R233): a
granted mode is stored and ends a native link that would negotiate differently; a rekey begins the next epoch's exchange, asked for or by its timer, but
answers ERR_BUSY during one and ERR_STATE where no sealed data flows; the old key goes, once the transmitter has switched; a rekey that has not succeeded
after 60 s ends its link, and is tried again before; secure associations are installed in mode 3 from a wrapping that is intact, and refused with ERR_AUTH
from another; one that is installed is selected, one that is not answers ERR_STATE; they are deleted (in every mode: log entry 36). -/
def Obligations.SealKeys : Prop :=
  (∀ (s : State) (r : Req) (p : Port) (v : Nat), Writable s r (0x4400 + p) 1 v → s.dev.modeEndsLink p v = false →
    Answers (.sealModeWrite r p v) s r (fun d => d.stored (0x4400 + p) 1 v))
  ∧ (∀ (s : State) (r : Req) (p : Port) (v : Nat), Writable s r (0x4400 + p) 1 v → s.dev.modeEndsLink p v = true →
    Answers (.sealModeWrite r p v) s r (fun d => (d.stored (0x4400 + p) 1 v).lose p))
  ∧ (∀ (s : State) (r : Req) (p : Port), Ready s r (0x4400 + p) 0xF 1 → s.dev.sealedData p = true → s.dev.rekeying p = false →
    Answers (.sealRekeyNow r p 1) s r (fun d => d.sealStart p 1 (d.get (0x4400 + p) 0xD + 1)))
  ∧ (∀ (s : State) (r : Req) (p : Port), Ready s r (0x4400 + p) 0xF 1 → s.dev.rekeying p = true →
    Does (.sealRekeyNow r p 1) s (fun d => d.answer r .busy))
  ∧ (∀ (s : State) (r : Req) (p : Port), Ready s r (0x4400 + p) 0xF 1 → s.dev.rekeying p = false → s.dev.sealedData p = false →
    Does (.sealRekeyNow r p 1) s (fun d => d.answer r .state))
  ∧ (∀ (s : State) (p : Port), (s.dev.sealedUp p = false ∨ s.dev.rekeying p = true) → Does (.rekeyTimer p) s id)
  ∧ (∀ (s : State) (p : Port), s.dev.sealedUp p = true → s.dev.rekeying p = false →
    Does (.rekeyTimer p) s (fun d => d.sealStart p 1 (d.get (0x4400 + p) 0xD + 1)))
  ∧ (∀ (s : State) (p : Port) (an : Fin 4), (s.dev.port p).crypt.oldAn = some an →
    Does (.oldKeyErase p) s (fun d => (d.keySwitch p).onCrypt p (fun c => { c with rx := upd c.rx an (fun _ => none), oldAn := none })))
  ∧ (∀ (s : State) (p : Port), (s.dev.port p).crypt.oldAn = none → Does (.oldKeyErase p) s id)
  ∧ (∀ (s : State) (p : Port) (t : Nat), s.dev.sealedUp p = true → s.dev.rekeySince p = some t → t + 60000000 ≤ s.dev.uptime →
    Does (.rekeyRetry p) s (fun d => ((d.sealNote p 5).lose p).put (0x4400 + p) 0xA 4))
  ∧ (∀ (s : State) (p : Port) (t : Nat), s.dev.sealedUp p = true → (s.dev.port p).crypt.exchange = none → (s.dev.port p).crypt.retrySince = some t →
    s.dev.uptime < t + 60000000 → Does (.rekeyRetry p) s (fun d => d.sealStart p 1 (d.get (0x4400 + p) 0xD + 1)))
  ∧ (∀ (s : State) (p : Port), s.dev.sealedUp p = false ∨ s.dev.rekeySince p = none → Does (.rekeyRetry p) s id)
  ∧ (∀ (s : State) (r : Req) (p : Port) (v : SaInstall), Ready s r (0x4400 + p) 0x10 0 → s.dev.get (0x4400 + p) 1 = 3 → s.dev.hall.logClosed = false →
    Does (.saInstall r p v) s (fun d => match d.unwrapped r v with
      | some sak => (d.saPut p v sak).answer r .ok
      | none => (d.inc 0x1404 3).answer r .auth))
  ∧ (∀ (s : State) (r : Req) (p : Port) (an : Fin 4), Ready s r (0x4400 + p) 0x11 an → ((s.dev.port p).crypt.tx.get an).isSome = true →
    Answers (.saTxSelect r p an) s r (fun d => d.onCrypt p (fun c => { c with txAn := an })))
  ∧ (∀ (s : State) (r : Req) (p : Port) (an : Fin 4), Ready s r (0x4400 + p) 0x11 an → (s.dev.port p).crypt.tx.get an = none →
    Does (.saTxSelect r p an) s (fun d => d.answer r .state))
  ∧ (∀ (s : State) (r : Req) (p : Port) (v : Nat), Ready s r (0x4400 + p) 0x12 v →
    Answers (.saDelete r p v) s r (fun d => d.onCrypt p (fun c =>
      if v.testBit 7 then { c with rx := upd c.rx (anOf v) (fun _ => none) } else { c with tx := upd c.tx (anOf v) (fun _ => none) })))

/-- SEAL_HELLO, SEAL_PROOF, SEAL_FINISH (R221 to R226): on a running stream every message counts, and elsewhere none does anything. A hello meets the
exchange that runs; without one it waits for the training that will come to it (log entry 34), or begins a rekey of a sealed link, and does nothing while a
failed check's message leaves (log entry 24). The first proof of the exchange's epoch, once the hello is good, waits for Hallmark, and the first tag of it
is checked when both proofs are done; a message of another epoch fails the exchange with reason 7; with no exchange nothing else happens. -/
def Obligations.SealExchange : Prop :=
  (∀ (s : State) (p : Port) (h : SealHello), s.dev.selvageRuns p = true → (s.dev.port p).crypt.exchange.isSome = true →
    Does (.sealHello p h) s (fun d => (d.inc (0x4300 + p) 0x1B).helloGot p h))
  ∧ (∀ (s : State) (p : Port) (h : SealHello), s.dev.selvageRuns p = true → (s.dev.port p).crypt.exchange = none → (s.dev.port p).crypt.failing.isSome = true →
    Does (.sealHello p h) s (fun d => d.inc (0x4300 + p) 0x1B))
  ∧ (∀ (s : State) (p : Port) (h : SealHello), s.dev.selvageRuns p = true → (s.dev.port p).crypt.exchange = none → (s.dev.port p).crypt.failing = none →
    s.dev.linkState p = 3 → (s.dev.port p).link.toSeal = true → s.dev.stage p < 5 →
    Does (.sealHello p h) s (fun d => (d.inc (0x4300 + p) 0x1B).onCrypt p (fun c => { c with early := some h })))
  ∧ (∀ (s : State) (p : Port) (h : SealHello), s.dev.selvageRuns p = true → (s.dev.port p).crypt.exchange = none → (s.dev.port p).crypt.failing = none →
    s.dev.sealedUp p = true →
    Does (.sealHello p h) s (fun d => ((d.inc (0x4300 + p) 0x1B).helloSend p 1 (d.get (0x4400 + p) 0xD + 1)).helloGot p h))
  ∧ (∀ (s : State) (p : Port), s.dev.selvageRuns p = false → (∀ h : SealHello, Does (.sealHello p h) s id)
    ∧ (∀ (epoch : Nat) (b : List Byte), Does (.sealProof p epoch b) s id ∧ Does (.sealFinish p epoch b) s id))
  ∧ (∀ (s : State) (p : Port) (epoch : Nat) (sig : List Byte) (x : Exchange), s.dev.selvageRuns p = true → (s.dev.port p).crypt.exchange = some x →
    epoch = x.epoch → x.listed = true → x.peerProof = none → Does (.sealProof p epoch sig) s (fun d =>
      (((d.inc (0x4300 + p) 0x1B).keySend p .up (sized 114 sig)).onExchange p (fun x => { x with peerProof := some sig })).onHall
        (fun h => { h with verifyQueue := h.verifyQueue ++ [.sealVerify p sig] })))
  ∧ (∀ (s : State) (p : Port) (epoch : Nat) (sig : List Byte) (x : Exchange), s.dev.selvageRuns p = true → (s.dev.port p).crypt.exchange = some x →
    epoch = x.epoch → (x.listed = false ∨ x.peerProof ≠ none) → Does (.sealProof p epoch sig) s (fun d => d.inc (0x4300 + p) 0x1B))
  ∧ (∀ (s : State) (p : Port) (epoch : Nat) (tag : List Byte) (x : Exchange), s.dev.selvageRuns p = true → (s.dev.port p).crypt.exchange = some x →
    epoch = x.epoch → x.peerTag ≠ none → Does (.sealFinish p epoch tag) s (fun d => d.inc (0x4300 + p) 0x1B))
  ∧ (∀ (s : State) (p : Port) (epoch : Nat) (sig : List Byte) (x : Exchange), s.dev.selvageRuns p = true → (s.dev.port p).crypt.exchange = some x →
    epoch ≠ x.epoch → Does (.sealProof p epoch sig) s (fun d => (d.inc (0x4300 + p) 0x1B).sealFail p 7 10)
      ∧ Does (.sealFinish p epoch sig) s (fun d => (d.inc (0x4300 + p) 0x1B).sealFail p 7 10))
  ∧ (∀ (s : State) (p : Port) (epoch : Nat) (tag : List Byte) (x : Exchange), s.dev.selvageRuns p = true → (s.dev.port p).crypt.exchange = some x →
    epoch = x.epoch → x.peerTag = none → Does (.sealFinish p epoch tag) s (fun d =>
      ((d.inc (0x4300 + p) 0x1B).onExchange p (fun x => { x with peerTag := some tag })).tagCheck p))
  ∧ (∀ (s : State) (p : Port) (epoch : Nat) (b : List Byte), s.dev.selvageRuns p = true → (s.dev.port p).crypt.exchange = none →
    Does (.sealProof p epoch b) s (fun d => d.inc (0x4300 + p) 0x1B) ∧ Does (.sealFinish p epoch b) s (fun d => d.inc (0x4300 + p) 0x1B))

/-- SEAL_REJECT (R224, R228, R469): on a running stream it counts, and ends an exchange with reason 4, also in training one that this end has completed;
after a rekey that this end has completed, while the old key is still there, it counts as a failure that is tried again, and where a check of this end has
failed already, the end that waited for the message to leave comes at once (all three the model's reading: log entry 24); elsewhere it does nothing more. -/
def Obligations.SealRejected : Prop :=
  (∀ (s : State) (p : Port) (epoch reason : Nat), s.dev.selvageRuns p = true → (s.dev.port p).crypt.failing = none →
    ((s.dev.port p).crypt.exchange.isSome = true ∨ (s.dev.linkState p = 3 ∧ (s.dev.port p).link.toSeal = true ∧ 5 ≤ s.dev.stage p)) →
    Does (.sealReject p epoch reason) s (fun d => (d.inc (0x4300 + p) 0x1B).sealFail p 4 10))
  ∧ (∀ (s : State) (p : Port) (epoch reason : Nat), s.dev.selvageRuns p = true → (s.dev.port p).crypt.failing.isSome = true →
    Does (.sealReject p epoch reason) s (fun d => (d.inc (0x4300 + p) 0x1B).sealFailEnd p))
  ∧ (∀ (s : State) (p : Port) (epoch reason : Nat), s.dev.selvageRuns p = true → (s.dev.port p).crypt.failing = none →
    (s.dev.port p).crypt.exchange = none → s.dev.sealedUp p = true → (s.dev.port p).crypt.oldAn.isSome = true → Does (.sealReject p epoch reason) s (fun d =>
      ((d.inc (0x4300 + p) 0x1B).sealNote p 4).onCrypt p (fun c => { c with retrySince := c.retrySince.or (some d.uptime) })))
  ∧ (∀ (s : State) (p : Port) (epoch reason : Nat), s.dev.selvageRuns p = true → (s.dev.port p).crypt.failing = none →
    (s.dev.port p).crypt.exchange = none → (s.dev.linkState p ≠ 3 ∨ (s.dev.port p).link.toSeal = false ∨ s.dev.stage p < 5) →
    (s.dev.sealedUp p = false ∨ (s.dev.port p).crypt.oldAn = none) → Does (.sealReject p epoch reason) s (fun d => d.inc (0x4300 + p) 0x1B))
  ∧ (∀ (s : State) (p : Port) (epoch reason : Nat), s.dev.selvageRuns p = false → Does (.sealReject p epoch reason) s id)

/-! ## Hallmark and firmware -/

/-- MANAGER_ENROL, MANAGER_REVOKE (R214): a key takes the lowest empty entry, and answers ERR_BUSY where none is; a revoked key's entry is empty and the
sessions opened with it end after the answer, and a key that is not enrolled answers ERR_RANGE; both are recorded.
SERVICE_REQUEST, SERVICE_EXPIRY, ATTEST_REQUEST, ATTEST_DONE (R212, R218, R235): the service flag is set for its minutes, at most 480, or cleared by 0, and
clears on its own, each recorded; a report that is asked for waits for the signing engine, one at a time and only with an identity key and Hallmark READY,
and is built over the nonce it was asked with, and signed, when it has come to the front. -/
def Obligations.ManagersAndAttestation : Prop :=
  (∀ (s : State) (r : Req) (pub : List Byte) (role : Nat) (i : Fin 16), s.dev.hears r.route = true → s.dev.permits r 2 = true →
    s.dev.busyIndex 0x6424 = false → s.dev.modeRefuses 0x6424 = false → s.dev.stagingFull = false → role ≤ 2 → s.vault.freeSlot = some i →
    VaultAnswers (.managerEnrol r pub role) s r (fun v d => ({ v with managers := upd v.managers i (fun _ => some { pub, role }) },
      d.touch 0x0031 (d.managerBody r 0 role (keyIdOf pub)))) id)
  ∧ (∀ (s : State) (r : Req) (pub : List Byte) (role : Nat), s.dev.hears r.route = true → s.dev.permits r 2 = true →
    s.vault.freeSlot = none → Does (.managerEnrol r pub role) s (fun d => d.answer r .busy))
  ∧ (∀ (s : State) (r : Req) (keyId : List Byte), s.dev.hears r.route = true → s.dev.permits r 2 = true →
    s.dev.busyIndex 0x6424 = false → s.dev.modeRefuses 0x6424 = false → s.dev.stagingFull = false → s.vault.slotOf keyId = none →
    Does (.managerRevoke r keyId) s (fun d => d.answer r .range))
  ∧ (∀ (s : State) (r : Req) (keyId : List Byte) (i : Fin 16) (m : Manager), s.dev.hears r.route = true → s.dev.permits r 2 = true →
    s.dev.busyIndex 0x6424 = false → s.dev.modeRefuses 0x6424 = false → s.dev.stagingFull = false → s.vault.slotOf keyId = some i →
    s.vault.managers.get i = some m → VaultAnswers (.managerRevoke r keyId) s r (fun v d =>
      ({ v with managers := upd v.managers i (fun _ => none) }, d.touch 0x0031 (d.managerBody r 1 m.role keyId))) (fun d => d.sessionsOf keyId))
  ∧ (∀ (s : State) (r : Req) (m : Nat), Ready s r 0x6418 1 m → s.dev.stagingFull = false → m ≤ 480 →
    Answers (.serviceRequest r m) s r (fun d => (d.onHall (fun h => { h with
      serviceUntil := if m = 0 then none else some (d.uptime + m * 60000000) })).touch 0x0032 (bytesOf 2 m ++ d.keyIdOf r)))
  ∧ (∀ (s : State) (r : Req) (m : Nat), Ready s r 0x6418 1 m → s.dev.stagingFull = false → 480 < m → Does (.serviceRequest r m) s (fun d => d.answer r .range))
  ∧ (∀ (s : State), s.dev.hall.serviceUntil = none → Does .serviceExpiry s id)
  ∧ (∀ (s : State), s.dev.hall.serviceUntil.isSome = true → Does .serviceExpiry s (fun d =>
      (d.onHall (fun h => { h with serviceUntil := none })).touchEvent 0x0032 (bytesOf 2 0 ++ List.replicate 8 0)))
  ∧ (∀ (s : State) (r : Req) (nonce : List Byte), Ready s r 0x6460 1 0 → s.dev.get 0x6460 2 ≠ 1 → s.vault.identityKey = true → s.dev.get 0x6400 1 = 1 →
    Answers (.attestRequest r nonce) s r (fun d =>
      ((d.put 0x6460 2 1).onHall (fun h => { h with attestNonce := some nonce })).onHall (fun h => h.askSign .attest)))
  ∧ (∀ (s : State) (r : Req) (nonce : List Byte), Ready s r 0x6460 1 0 → s.dev.get 0x6460 2 = 1 → Does (.attestRequest r nonce) s (fun d => d.answer r .busy))
  ∧ (∀ (s : State) (r : Req) (nonce : List Byte), Ready s r 0x6460 1 0 → s.dev.get 0x6460 2 ≠ 1 → (s.vault.identityKey = false ∨ s.dev.get 0x6400 1 ≠ 1) →
    Does (.attestRequest r nonce) s (fun d => d.answer r .state))
  ∧ (∀ (s : State), s.dev.hall.signQueue.head? ≠ some .attest → Does .attestDone s id)
  ∧ (∀ (s : State) (nonce : List Byte), s.dev.hall.signQueue.head? = some .attest → s.dev.hall.attestNonce = some nonce → Does .attestDone s (fun d =>
      ((d.put 0x6460 3 (natOf (d.reportBytes s.vault nonce ++ exactly 114 (Config.sign (ascii "DZ12800 ATTEST") (d.reportBytes s.vault nonce))))).put 0x6460 2 2).onHall
        (fun h => { h with attestNonce := none, signQueue := without h.signQueue .attest })))

/-- LIFECYCLE_TO_MANUFACTURE, _PROVISIONED, _DEPLOYED, _RETURNED, _RETIRED (R212, R215 to R217): a transition of R216 whose conditions hold is recorded and
made; in manufacture the identity key is drawn, and Gwynale's test keys and the owner root of the order are written (log entry 30); PROVISIONED ends the
sessions of the test keys. RETURNED needs both tokens, which wait for what the verifying engine has before them, and is refused with ERR_AUTH without;
RETURNED and RETIRED erase the sealing keys and, from PROVISIONED or DEPLOYED, the owner's keys, RETIRED the identity key too and every enable bit's port
and the log, and end every session.
A life-cycle request for no transition of R216, or for PROVISIONED without an owner, changes nothing of the one-way store and answers ERR_STATE; its
challenge is replaced all the same (R217). -/
def Obligations.LifeCycle : Prop :=
  (∀ (s : State) (r : Req) (g o : List Byte) (keys : List (List Byte)) (root : Option (List Byte)), LifeReady s r 1 → s.vault.lifecycle = 0 →
    VaultAnswers (.lifecycleToManufacture r g o { testKeys := keys, ownerRoot := root }) s r (fun v d =>
      ({ v with lifecycle := 1, identityKey := true, testKeys := keys, ownerRoot := root },
        lifeClosed (lifeRecorded r 0 1 (d.newDraw.onHall (fun h => { h with identityPub := Config.identityPublic d.draws }))))) id)
  ∧ (∀ (s : State) (r : Req) (g o : List Byte), LifeReady s r 2 → s.vault.lifecycle = 1 → s.vault.hasOwner = true →
    VaultAnswers (.lifecycleToProvisioned r g o) s r (fun v d => ({ v with lifecycle := 2 }, lifeClosed (lifeRecorded r 1 2 d)))
      (fun d => s.vault.testKeys.foldl (fun d k => d.sessionsOf (keyIdOf k)) d))
  ∧ (∀ (s : State) (r : Req) (g o : List Byte), LifeReady s r 3 → s.vault.lifecycle = 2 →
    VaultAnswers (.lifecycleToDeployed r g o) s r (fun v d => ({ v with lifecycle := 3 }, lifeClosed (lifeRecorded r 2 3 d))) id)
  ∧ (∀ (s : State) (r : Req) (g o root : List Byte), LifeReady s r 4 → s.vault.lifecycle = 3 → s.vault.ownerRoot = some root →
    if s.dev.tokenGood Config.gwynaleReturnKey 4 g = true ∧ s.dev.tokenGood root 4 o = true then
      VaultAnswers (.lifecycleToReturned r g o) s r (fun v d =>
        ({ v with lifecycle := 4, ownerRoot := none, managers := Vector.replicate 16 none },
          lifeClosed (eraseOwner v ((d.verifyAll v).touch 0x0030 (bytesOf 1 3 ++ bytesOf 1 4 ++ d.keyIdOf r))).2)) Dev.sessionsEnd
    else Does (.lifecycleToReturned r g o) s (fun d =>
      let e := (d.inc 0x1404 3).verifyAll s.vault
      ((e.newDraw.onHall (fun h => { h with challenge := e.draws })).put 0x6410 3 Code.auth.value).answer r .auth))
  ∧ (∀ (s : State) (r : Req) (g o : List Byte), LifeReady s r 4 → s.vault.lifecycle = 3 → s.vault.ownerRoot = none →
    Does (.lifecycleToReturned r g o) s (fun d =>
      let e := (d.inc 0x1404 3).verifyAll s.vault
      ((e.newDraw.onHall (fun h => { h with challenge := e.draws })).put 0x6410 3 Code.auth.value).answer r .auth))
  ∧ (∀ (s : State) (r : Req) (g o : List Byte), LifeReady s r 5 → (s.vault.lifecycle = 2 ∨ s.vault.lifecycle = 3) →
    VaultAnswers (.lifecycleToRetired r g o) s r (fun v d =>
      ({ v with lifecycle := 5, ownerRoot := none, managers := Vector.replicate 16 none, identityKey := false },
        lifeClosed (((eraseOwner v (lifeRecorded r v.lifecycle 5 d)).2.eachPort (fun p d => d.disable p)).onHall (fun h => { h with logClosed := true }))))
      Dev.sessionsEnd)
  ∧ (∀ (s : State) (r : Req) (g o : List Byte), LifeReady s r 5 → s.vault.lifecycle = 4 →
    VaultAnswers (.lifecycleToRetired r g o) s r (fun v d => ({ v with lifecycle := 5, identityKey := false },
        lifeClosed (((lifeRecorded r 4 5 d).sealKeysErase.eachPort (fun p d => d.disable p)).onHall (fun h => { h with logClosed := true }))))
      Dev.sessionsEnd)
  ∧ (∀ (s : State) (r : Req) (g o : List Byte) (keys : List (List Byte)) (root : Option (List Byte)), LifeReady s r 1 → s.vault.lifecycle ≠ 0 →
    LifeRefused (.lifecycleToManufacture r g o { testKeys := keys, ownerRoot := root }) s r)
  ∧ (∀ (s : State) (r : Req) (g o : List Byte), LifeReady s r 2 → (s.vault.lifecycle ≠ 1 ∨ s.vault.hasOwner = false) → LifeRefused (.lifecycleToProvisioned r g o) s r)
  ∧ (∀ (s : State) (r : Req) (g o : List Byte), LifeReady s r 3 → s.vault.lifecycle ≠ 2 → LifeRefused (.lifecycleToDeployed r g o) s r)
  ∧ (∀ (s : State) (r : Req) (g o : List Byte), LifeReady s r 4 → s.vault.lifecycle ≠ 3 → LifeRefused (.lifecycleToReturned r g o) s r)
  ∧ (∀ (s : State) (r : Req) (g o : List Byte), LifeReady s r 5 → s.vault.lifecycle ≠ 2 → s.vault.lifecycle ≠ 3 → s.vault.lifecycle ≠ 4 →
    LifeRefused (.lifecycleToRetired r g o) s r)

/-- TOUCH_FLASH_COPY, TOUCH_SIGN, TOUCH_SIGN_TIMER, TOUCH_SELECT, HALLMARK_SIGN_DONE, HALLMARK_VERIFY_DONE (R212, R238 to R240): the oldest staged entry
goes to flash, which keeps the newest 16,384, and entries that were lost are recorded once there is room; a signature is asked for, its entry reserved, and
made over the last entry when the engine comes to it; an entry that is held can be selected, and another answers ERR_RANGE. Each engine serves the request
at the front of its queue, and none while it is empty. -/
def Obligations.TouchmarkLog : Prop :=
  (∀ (s : State) (e : TouchEntry) (rest : List TouchEntry), s.dev.hall.staging = e :: rest →
    Does .touchFlashCopy s (fun d => (d.onHall (fun h => { h with staging := rest, flash := (e :: h.flash).take 16384 })).gapEntry))
  ∧ (∀ (s : State), s.dev.hall.staging = [] → Does .touchFlashCopy s id)
  ∧ (∀ (d : Dev), d.hall.gapLost ≠ 0 → d.stagingFull = false →
    d.gapEntry = (d.touch 0x0002 (bytesOf 4 d.hall.gapLost ++ bytesOf 8 d.hall.gapTime)).onHall (fun h => { h with gapLost := 0 }))
  ∧ (∀ (s : State) (r : Req), Ready s r 0x6600 6 1 → s.dev.stagingFull = false → s.dev.hall.logClosed = false →
    Answers (.touchSign r 1) s r (fun d => d.onHall (fun h => { h with reserved := h.reserved + 1, signQueue := h.signQueue ++ [.touch true] })))
  ∧ (∀ (s : State), s.dev.hall.unsigned ≠ 0 → Does .touchSignTimer s (fun d => d.onHall (fun h => h.askSign (.touch false))))
  ∧ (∀ (s : State), s.dev.hall.unsigned = 0 → Does .touchSignTimer s id)
  ∧ (∀ (s : State) (r : Req) (seq : Nat), Ready s r 0x6600 1 seq → (s.dev.hall.nextSeq ≤ seq ∨ seq < s.dev.hall.oldest) →
    Does (.touchSelect r seq) s (fun d => d.answer r .range))
  ∧ (∀ (s : State) (r : Req) (seq : Nat), Ready s r 0x6600 1 seq → seq < s.dev.hall.nextSeq → s.dev.hall.oldest ≤ seq →
    Answers (.touchSelect r seq) s r (fun d => d.onHall (fun h => { h with touchSelect := some seq })))
  ∧ (∀ (s : State) (rest : List HallJob), s.dev.hall.signQueue = .touch true :: rest → s.dev.hall.nextSeq ≠ 0 →
    Does .hallmarkSignDone s (fun d =>
      (d.onHall (fun h => { h with signQueue := rest, reserved := h.reserved - 1 })).touch 0x0001 (bytesOf 8 (d.hall.nextSeq - 1)
        ++ exactly 114 (Config.sign (ascii "DZ12800 TOUCHMARK") (bytesOf 8 (d.hall.nextSeq - 1) ++ d.hall.headChain)))))
  ∧ (∀ (s : State) (rest : List HallJob), s.dev.hall.signQueue = .touch false :: rest → s.dev.hall.nextSeq ≠ 0 →
    Does .hallmarkSignDone s (fun d =>
      (d.onHall (fun h => { h with signQueue := rest })).touchEvent 0x0001 (bytesOf 8 (d.hall.nextSeq - 1)
        ++ exactly 114 (Config.sign (ascii "DZ12800 TOUCHMARK") (bytesOf 8 (d.hall.nextSeq - 1) ++ d.hall.headChain)))))
  ∧ (∀ (s : State) (n : Fin 4) (rest : List HallJob), s.dev.hall.signQueue = .open2 n :: rest →
    Does .hallmarkSignDone s (fun d => (d.onHall (fun h => { h with signQueue := rest })).open2Signed n))
  ∧ (∀ (s : State) (p : Port) (rest : List HallJob), s.dev.hall.signQueue = .sealSign p :: rest →
    Does .hallmarkSignDone s (fun d => (d.onHall (fun h => { h with signQueue := rest })).sealSigned p))
  ∧ (∀ (s : State) (rest : List HallJob), s.dev.hall.signQueue = .attest :: rest →
    Does .hallmarkSignDone s (fun d => (d.onHall (fun h => { h with signQueue := rest })).attestDone s.vault))
  ∧ (∀ (s : State), s.dev.hall.signQueue = [] → Does .hallmarkSignDone s id)
  ∧ (∀ (s : State), s.dev.hall.verifyQueue = [] → Does .hallmarkVerifyDone s id)
  ∧ (∀ (s : State) (n : Fin 4) (sig : List Byte) (rest : List HallJob), s.dev.hall.verifyQueue = .open3 n sig :: rest →
    Does .hallmarkVerifyDone s (fun d => (d.onHall (fun h => { h with verifyQueue := rest })).open3Verified s.vault n sig))
  ∧ (∀ (s : State) (k : Nat) (rest : List HallJob), s.dev.hall.verifyQueue = .image k :: rest →
    Does .hallmarkVerifyDone s (fun d => (d.onHall (fun h => { h with verifyQueue := rest })).imageVerified s.vault))
  ∧ (∀ (s : State) (p : Port) (sig : List Byte) (rest : List HallJob), s.dev.hall.verifyQueue = .sealVerify p sig :: rest →
    Does .hallmarkVerifyDone s (fun d => (d.onHall (fun h => { h with verifyQueue := rest })).sealVerified p sig))

/-- FW_STAGE_BEGIN, FW_STAGE_DATA, FW_STAGE_VERIFY, FW_VERIFY_DONE (R212, R238, R242 to R244): staging empties its slot and what was received, and belongs
to its session; it takes data in its length, and asks for its verification, whose record is reserved; a set that has come to the engine and has a fault is
rejected with its reason, and the slots stay as they are; a good one is VERIFIED and stands in its slot. -/
def Obligations.FirmwareStaging : Prop :=
  (∀ (s : State) (r : Req) (slot length : Nat), Ready s r 0x6440 2 0 → s.dev.stagedByOther r = false → s.dev.stagingFull = false → slot ≤ 1 → length ≤ 12 * 1024 * 1024 →
    (slot ≠ s.dev.hall.activeSlot.val ∨ s.dev.mgmt.recovery = true) → s.dev.hall.trialPrev = none → s.dev.get 0x6440 5 ≠ 5 → s.dev.get 0x6440 5 ≠ 6 →
    s.dev.hall.logClosed = false → Answers (.fwStageBegin r slot length) s r (fun d => d.stageErase r slot length))
  ∧ (∀ (d : Dev) (r : Req) (slot length : Nat),
    (d.stageErase r slot length).hall.slots.get (slotOf slot) = {} ∧ (d.stageErase r slot length).hall.fw.received = []
    ∧ (d.stageErase r slot length).hall.fw.owner = r.session ∧ (d.stageErase r slot length).get 0x6440 5 = 1)
  ∧ (∀ (s : State) (r : Req) (offset count : Nat) (data : List Byte), Ready s r 0x6440 3 0 → s.dev.stagedByOther r = false → s.dev.get 0x6440 5 = 1 →
    s.dev.hall.logClosed = false → 1 ≤ count → count ≤ 1016 → offset + count ≤ s.dev.hall.fw.length → offset + count < 2 ^ 32 →
    Answers (.fwStageData r offset count data) s r (fun d =>
      d.onFw (fun f => { f with received := overlay f.received offset (exactly count data) })))
  ∧ (∀ (s : State) (r : Req), Ready s r 0x6440 4 1 → s.dev.stagedByOther r = false → s.dev.stagingFull = false → s.dev.get 0x6440 5 = 1 →
    s.dev.hall.logClosed = false → Answers (.fwStageVerify r 1) s r (fun d => (d.put 0x6440 5 2).onHall (fun h => { h with
      reserved := h.reserved + 1, verifyQueue := h.verifyQueue ++ [.image h.fw.slot] })))
  ∧ (∀ (s : State), (∀ k : Nat, s.dev.hall.verifyQueue.head? ≠ some (.image k)) → Does .fwVerifyDone s id)
  ∧ (∀ (s : State) (k : Nat) (rest : List HallJob), s.dev.hall.verifyQueue = .image k :: rest → s.dev.get 0x6440 5 = 2 → Gives .fwVerifyDone s (fun t =>
      let bytes := s.dev.hall.fw.received ++ List.replicate (s.dev.hall.fw.length - s.dev.hall.fw.received.length) 0xFF
      let why := s.dev.stageVerdict s.vault
      t.vault = s.vault ∧ (if why = 0 then t.dev.get 0x6440 5 = 3 ∧ t.dev.hall.slots.get (slotOf s.dev.hall.fw.slot) = Machine.setOf bytes
        else t.dev.get 0x6440 5 = 4 ∧ t.dev.get 0x6440 6 = why ∧ t.dev.hall.fw.owner = 0 ∧ t.dev.hall.slots = s.dev.hall.slots)))

/-- FW_ACTIVATE, FW_CONTROLLER_RESTARTED, FW_DIE_NEXT, FW_CONFIRM, FW_REVERT, FW_TRIAL_TIMEOUT (R243 to R246): a verified set is activated after its answer
by a rolling warm reset, which answers ERR_BUSY during a die's self-test; the restarted controller runs the new slot, if its set may run, and the dies
follow one by one, none while another starts; a confirmed trial raises the fuses to the set's levels and lowers none; a reversion goes back to the slot
before, if its set may run, and so does a restart that takes too long. -/
def Obligations.FirmwareTrial : Prop :=
  (∀ (s : State) (r : Req), Ready s r 0x6440 7 1 → (∃ i < 9, s.dev.get 0x1010 (i + 1) = 4) → Does (.fwActivate r 1) s (fun d => d.answer r .busy))
  ∧ (∀ (s : State) (r : Req), Ready s r 0x6440 7 1 → (∀ i < 9, s.dev.get 0x1010 (i + 1) ≠ 4) → s.dev.stagingFull = false → s.dev.get 0x6440 5 = 3 →
    s.dev.hall.logClosed = false →
    Does (.fwActivate r 1) s (fun d =>
      let dest := slotOf d.hall.fw.slot
      ((d.touch 0x0021 (bytesOf 1 dest.val ++ bytesOf 4 (d.hall.slots.get dest).setVersion ++ bytesOf 1 (d.diesMask dest))).answer r .ok).rollingStart dest none))
  ∧ (∀ (s : State), s.dev.get 0x6440 5 = 5 → s.dev.mgmt.serving = false → s.dev.hall.fw.diesLeft ≠ [] →
    slotRuns s.vault (s.dev.hall.slots.get (slotOf s.dev.hall.fw.target)) = true → Gives .fwControllerRestarted s (fun t =>
      t.dev.mgmt.serving = true ∧ t.dev.hall.activeSlot = slotOf s.dev.hall.fw.target ∧ t.dev.get 0x6440 1 = slotOf s.dev.hall.fw.target
      ∧ t.dev.get 0x6440 5 = 5 ∧ t.vault = s.vault))
  ∧ (∀ (s : State), (s.dev.get 0x6440 5 ≠ 5 ∨ s.dev.mgmt.serving = true ∨ slotRuns s.vault (s.dev.hall.slots.get (slotOf s.dev.hall.fw.target)) = false) →
    Does .fwControllerRestarted s id)
  ∧ (∀ (s : State), (s.dev.get 0x6440 5 ≠ 5 ∨ s.dev.mgmt.serving = false ∨ ∃ m : Die, s.dev.dieState m = 3) → Does .fwDieNext s id)
  ∧ (∀ (s : State) (n : Die), s.dev.get 0x6440 5 = 5 → s.dev.mgmt.serving = true → (∀ m : Die, s.dev.dieState m ≠ 3) →
    s.dev.hall.fw.diesLeft.find? (fun n => s.dev.dieReachable n) = some n →
    Does .fwDieNext s (fun d => (d.onFw (fun f => { f with diesLeft := f.diesLeft.dropWhile (fun m => m ≠ n) })).dieReset n 3))
  ∧ (∀ (s : State), s.dev.get 0x6440 5 = 5 → s.dev.mgmt.serving = true → (∀ m : Die, s.dev.dieState m ≠ 3) → 
    s.dev.hall.fw.diesLeft.find? (fun n => s.dev.dieReachable n) = none → Does .fwDieNext s (fun d => d.rollingEnd s.vault))
  ∧ (∀ (s : State) (r : Req), Ready s r 0x6440 8 1 → s.dev.stagingFull = false → s.dev.hall.logClosed = false → s.dev.get 0x6440 5 = 6 →
    Gives (.fwConfirm r 1) s (fun t =>
      t.vault = { s.vault with fuseLevels := Vector.ofFn (fun i => max (s.vault.fuseLevels.get i) ((s.dev.hall.slots.get s.dev.hall.activeSlot).levels.get i)) }
      ∧ t.dev.get 0x6440 5 = 0 ∧ t.dev.hall.trialPrev = none))
  ∧ (∀ (s : State) (r : Req), Ready s r 0x6440 9 1 → s.dev.stagingFull = false → slotRuns s.vault (s.dev.hall.slots.get s.dev.replaced) = false →
    Does (.fwRevert r 1) s (fun d => d.answer r .state))
  ∧ (∀ (s : State) (r : Req), Ready s r 0x6440 9 1 → s.dev.stagingFull = false → s.dev.hall.logClosed = false → s.dev.get 0x6440 5 = 6 →
    slotRuns s.vault (s.dev.hall.slots.get s.dev.replaced) = true → Does (.fwRevert r 1) s (fun d =>
      ((d.touch 0x0023 (bytesOf 1 d.replaced.val ++ bytesOf 1 1)).answer r .ok).rollingStart d.replaced (some 1)))
  ∧ (∀ (s : State), (s.dev.get 0x6440 5 ≠ 5 ∨ s.dev.mgmt.serving = true ∨ s.dev.hall.fw.reverting ≠ none) → Does .fwTrialTimeout s id)
  ∧ (∀ (s : State), s.dev.get 0x6440 5 = 5 → s.dev.mgmt.serving = false → s.dev.hall.fw.reverting = none → Does .fwTrialTimeout s (fun d =>
      (d.onFw (fun f => { f with target := d.hall.activeSlot.val, diesLeft := [], reverting := some 2 })).touchEvent 0x0023
        (bytesOf 1 d.hall.activeSlot.val ++ bytesOf 1 2)))

/-! ## Host lanes and queues -/

/-- HL_LOCK_ACQUIRED, HL_LOCK_LOST, HL_FAULT_SEQUENCE_RX, HL_HI_BER (R250, R251, R268): a lane that acquires or relocks comes UP, with its event; one that
is UP and loses its lock goes to RELOCKING, the frames on their way across it end, and the switch's fault sequences are no longer seen; a fault sequence
that begins is flagged and ends the frames on their way, one that ends is no longer seen. Elsewhere none of them changes anything.
EGRESS_FRAME_ARRIVAL, INGRESS_FRAME_ARRIVAL (R252 to R260, R264, R267): on a lane that is UP a frame from the switch counts itself and the codewords before
it; a flow-control frame is consumed, one for the device itself taken, any other goes to the queue of its class and path. A frame from the line is looked
at as its first byte arrives, and then unsealed. A frame is discarded as LINK_DOWN without a link, then for want of room, as too long, too short or
errored, counted in the port and in its queue; else it waits in its queue. -/
def Obligations.HostLanesAndArrival : Prop :=
  (∀ (s : State) (p : Port), (s.dev.get (0x2100 + p) 1 = 1 ∨ s.dev.get (0x2100 + p) 1 = 3) →
    Does (.hlLockAcquired p) s (fun d => (((d.put (0x2100 + p) 1 2).event (0x2080 + p) 0).reactionEnd (srcHostLane p)).inbandWake))
  ∧ (∀ (s : State) (p : Port), s.dev.get (0x2100 + p) 1 ≠ 1 → s.dev.get (0x2100 + p) 1 ≠ 3 → Does (.hlLockAcquired p) s id)
  ∧ (∀ (s : State) (p : Port), s.dev.get (0x2100 + p) 1 = 2 → Does (.hlLockLost p) s (fun d =>
      (((((d.abortStream p).cutArrival p).put (0x2100 + p) 1 3).event (0x2080 + p) 1).inc (0x2180 + p) 9).onHost p (fun h => { h with switchSends := .none })))
  ∧ (∀ (s : State) (p : Port), s.dev.get (0x2100 + p) 1 ≠ 2 → Does (.hlLockLost p) s id ∧ ∀ f : HostFault, Does (.hlFaultSequenceRx p f) s id)
  ∧ (∀ (s : State) (p : Port), s.dev.get (0x2100 + p) 1 = 2 → (s.dev.port p).host.switchSends ≠ .localFault →
    Does (.hlFaultSequenceRx p .localFault) s (fun d =>
      (((d.onHost p (fun h => { h with switchSends := .localFault })).abortStream p).cutArrival p).event (0x2080 + p) 6))
  ∧ (∀ (s : State) (p : Port), s.dev.get (0x2100 + p) 1 = 2 → (s.dev.port p).host.switchSends ≠ .remoteFault →
    Does (.hlFaultSequenceRx p .remoteFault) s (fun d => ((d.onHost p (fun h => { h with switchSends := .remoteFault })).cutArrival p).event (0x2080 + p) 7))
  ∧ (∀ (s : State) (p : Port), s.dev.get (0x2100 + p) 1 = 2 → (s.dev.port p).host.switchSends ≠ .none →
    Does (.hlFaultSequenceRx p .none) s (fun d => d.onHost p (fun h => { h with switchSends := .none })))
  ∧ (∀ (s : State) (p : Port) (f : HostFault), (s.dev.port p).host.switchSends = f → Does (.hlFaultSequenceRx p f) s id)
  ∧ (∀ (s : State) (p : Port), s.dev.get (0x2100 + p) 1 ≠ 0 → Does (.hlHiBer p) s (fun d => d.event (0x2080 + p) 3))
  ∧ (∀ (s : State) (p : Port), s.dev.get (0x2100 + p) 1 = 0 → Does (.hlHiBer p) s id)
  ∧ (∀ (s : State) (p : Port) (f : EthFrame) (corrected bad : Nat), s.dev.get (0x2100 + p) 1 = 2 →
    Does (.egressFrameArrival p f corrected bad) s (fun d => (d.fecSeen p corrected bad).egressArrival p f))
  ∧ (∀ (s : State) (p : Port) (f : EthFrame) (corrected bad : Nat), s.dev.get (0x2100 + p) 1 ≠ 2 → Does (.egressFrameArrival p f corrected bad) s id)
  ∧ (∀ (d : Dev) (p : Port) (corrected : Nat), d.get (0x2000 + p) 1 ≤ 2 → d.fecSeen p corrected 0 = d.count (0x2180 + p) 7 corrected)
  ∧ (∀ (d : Dev) (p : Port) (f : EthFrame) (fc : FcFrame), flowFrame? f = some fc →
    d.egressArrival p f = (d.countFromSwitch p f).fcFromSwitch p fc (!badEnd f))
  ∧ (∀ (d : Dev) (p : Port) (f : EthFrame), flowFrame? f = none → (d.countFromSwitch p f).takesInband p f = true → d.egressArrival p f = d.countFromSwitch p f)
  ∧ (∀ (d : Dev) (p : Port) (f : EthFrame), flowFrame? f = none → (d.countFromSwitch p f).takesInband p f = false →
    d.egressArrival p f = (let e := d.countFromSwitch p f
      (e.enqueue p .egress (queueOf .egress (e.sealsFrames p && !e.goesClear p f (e.classOf p f)) (e.classOf p f)) f).wakeIfPending p))
  ∧ (∀ (s : State) (p : Port) (f : EthFrame), s.dev.linkUp p = true →
    Does (.ingressFrameArrival p f) s (fun d => (d.lookedAt (dieOf p) .up).ingressArrival p f none (d.refusedNow p) false))
  ∧ (∀ (s : State) (p : Port) (f : EthFrame), s.dev.linkUp p = false → Does (.ingressFrameArrival p f) s id)
  ∧ (∀ (d : Dev) (p : Port) (dir : Dir) (q : Fin 32) (f : EthFrame) (tested : Bool) (c : Nat), d.refuses p dir f tested = some c →
    d.enqueue p dir q f tested = (d.count (0x2500 + p) c 1).count (0x2480 + p) (q + 1) 1)
  ∧ (∀ (d : Dev) (p : Port) (dir : Dir) (q : Fin 32) (f : EthFrame) (tested : Bool), d.refuses p dir f tested = none → f.bytes.length ≤ d.get (0x2000 + p) 4 →
    d.enqueue p dir q f tested = (d.onQueue p q (fun l => l ++ [f])).flowCheck p dir)
  ∧ (∀ (d : Dev) (p : Port) (f : EthFrame) (tested : Bool), d.linkUp p = false → d.refuses p .egress f tested = some 3)
  ∧ (∀ (d : Dev) (p : Port) (f : EthFrame), d.linkUp p = true → d.hasRoom p .egress = false → d.refuses p .egress f false = some 5)
  ∧ (∀ (d : Dev) (p : Port) (f : EthFrame), d.hasRoom p .ingress = false → d.refuses p .ingress f false = some 6)
  ∧ (∀ (d : Dev) (p : Port) (dir : Dir) (f : EthFrame), d.linkUp p = true → d.cutThrough p dir f = false →
    (d.get (0x2000 + p) 4 < f.bytes.length → d.refuses p dir f true = some 7)
    ∧ (f.bytes.length ≤ d.get (0x2000 + p) 4 → f.bytes.length < 64 → d.refuses p dir f true = some 8)
    ∧ (f.bytes.length ≤ d.get (0x2000 + p) 4 → 64 ≤ f.bytes.length → badEnd f = true → d.refuses p dir f true = some 9)
    ∧ (f.bytes.length ≤ d.get (0x2000 + p) 4 → 64 ≤ f.bytes.length → badEnd f = false → d.refuses p dir f true = none))

/-- SCHEDULER_PICK (R258 to R260, R263, R300): on a host lane that sends frames, and to a standard line that takes them, a pending flow-control frame goes
first (a native line takes it by itself, in NATIVE_FRAME_TX); else the picked frame leaves its queue and is sent, to the switch at once and counted, to the
line across the twill link; with nothing whole, one that still arrives may begin. While the twill link carries less than is asked of it, which frames stay
in their queues is free (log entry 7). A standard link's frame has left when the line is asked again (log entry 39).
FC_FRAME_FROM_SWITCH, FC_FRAME_FROM_LINE, PAUSE_EXPIRY, PAUSE_RESEND (R252, R261 to R264): a flow-control frame that is received on a lane that is UP or a
link that is up counts, and pauses the opposite scheduler when it is honoured, a PAUSE every class, a PFC frame its priorities; an expiry releases what it
was for (log entry 25); a pause that holds is sent again. -/
def Obligations.SchedulersAndFlowControl : Prop :=
  (∀ (s : State) (p : Port) (fc : FcFrame), s.dev.hlSignal p = 4 → (s.dev.arrivals p).any (fun r => r.begun && !r.cut) = false →
    (s.dev.flow p .egress).pending = some fc → Does (.schedulerPick p .ingress) s (fun d =>
      let b := flowBytes (d.get (0x2200 + p) 0xD) fc
      ((((d.onFlow p .egress (fun f => { f with pending := none })).inc (0x2180 + p) 0xB).inc (0x2180 + p) 3).count (0x2180 + p) 4 b.length).emit (.fcToSwitch p fc b)))
  ∧ (∀ (s : State) (p : Port) (f : EthFrame) (q : Fin 32) (d : Dev), s.dev.hlSignal p = 4 → (s.dev.arrivals p).any (fun r => r.begun && !r.cut) = false →
    (s.dev.flow p .egress).pending = none → s.dev.takeFrame p .ingress = some (f, q, d) → Does (.schedulerPick p .ingress) s (fun _ =>
      (((((d.inc (0x2180 + p) 3).count (0x2180 + p) 4 f.bytes.length).emit (.toSwitch p { f with errored := badEnd f })).countLeft p q f.bytes.length).flowCheck
        p .ingress).wakeIfPending p))
  ∧ (∀ (s : State) (p : Port), s.dev.hlSignal p = 4 → (s.dev.arrivals p).any (fun r => r.begun && !r.cut) = false →
    (s.dev.flow p .egress).pending = none → s.dev.takeFrame p .ingress = none → Does (.schedulerPick p .ingress) s (fun d => d.startArriving p))
  ∧ (∀ (s : State) (p : Port), (s.dev.hlSignal p ≠ 4 ∨ (s.dev.arrivals p).any (fun r => r.begun && !r.cut) = true) →
    Does (.schedulerPick p .ingress) s id)
  ∧ (∀ (s : State) (p : Port), (s.dev.standardLeft p).lineTakes p = false → Does (.schedulerPick p .egress) s (fun d => d.standardLeft p))
  ∧ (∀ (s : State) (p : Port) (fc : FcFrame), (s.dev.standardLeft p).lineTakes p = true → s.dev.native p = false →
    ((s.dev.standardLeft p).flow p .ingress).pending = some fc →
    Does (.schedulerPick p .egress) s (fun d => let e := d.standardLeft p
      (e.onFlow p .ingress (fun f => { f with pending := none })).sendDown p { bytes := flowBytes (e.get (0x2200 + p) 0xD) fc } 32))
  ∧ (∀ (s : State) (p : Port) (f : EthFrame) (q : Fin 32) (d : Dev), (s.dev.standardLeft p).lineTakes p = true →
    (s.dev.native p = true ∨ ((s.dev.standardLeft p).flow p .ingress).pending = none) → (s.dev.standardLeft p).takeFrame p .egress = some (f, q, d) →
    ((s.dev.standardLeft p).crowdedOut (dieOf p) .down = false → Does (.schedulerPick p .egress) s (fun _ => (d.lookedAt (dieOf p) .down).sendDown p f q.val))
    ∧ ((s.dev.standardLeft p).crowdedOut (dieOf p) .down = true → Does (.schedulerPick p .egress) s (fun d => (d.standardLeft p).newDraw)))
  ∧ (∀ (s : State) (p : Port), (s.dev.standardLeft p).lineTakes p = true → (s.dev.native p = true ∨ ((s.dev.standardLeft p).flow p .ingress).pending = none) →
    (s.dev.standardLeft p).takeFrame p .egress = none → Does (.schedulerPick p .egress) s (fun d => d.standardLeft p))
  ∧ (∀ (d : Dev) (p : Port), d.native p = true ∨ (d.port p).native.tx = none → d.standardLeft p = d)
  ∧ (∀ (d : Dev) (p : Port) (t : TxFrame), d.native p = false → (d.port p).native.tx = some t →
    d.standardLeft p = (d.onNative p (fun n => { n with tx := none })).frameLeft p t)
  ∧ (∀ (d : Dev) (p : Port) (f : EthFrame) (q : Nat), (q < 8 ∨ 16 ≤ q) → d.sendDown p f q =
    (d.crossFrame (dieOf p) .down (Fin.ofNat 16 (localOf p)) q f.bytes (badEnd f) (d.pickClass p .egress).isSome).toLine p f q false f.bytes)
  ∧ (∀ (s : State) (p : Port) (quanta : Nat), s.dev.get (0x2100 + p) 1 = 2 → (s.dev.get (0x2200 + p) 0xC).testBit 0 = true →
    Does (.fcFrameFromSwitch p (.pause quanta)) s (fun d =>
      (((d.inc (0x2180 + p) 1).count (0x2180 + p) 2 64).inc (0x2180 + p) 0xA).onFlow p .ingress (fun f => { f with pausedAll := quanta ≠ 0 })))
  ∧ (∀ (s : State) (p : Port) (v : Vector (Option Nat) 8), s.dev.get (0x2100 + p) 1 = 2 → (s.dev.get (0x2200 + p) 0xC).testBit 0 = true →
    Does (.fcFrameFromSwitch p (.pfc v)) s (fun d =>
      (((d.inc (0x2180 + p) 1).count (0x2180 + p) 2 64).inc (0x2180 + p) 0xA).onFlow p .ingress (fun f => { f with pausedPrios := pausedAfter v f.pausedPrios })))
  ∧ (∀ (s : State) (p : Port) (fc : FcFrame), s.dev.get (0x2100 + p) 1 = 2 → (s.dev.get (0x2200 + p) 0xC).testBit 0 = false →
    Does (.fcFrameFromSwitch p fc) s (fun d => ((d.inc (0x2180 + p) 1).count (0x2180 + p) 2 64).inc (0x2180 + p) 0xA))
  ∧ (∀ (s : State) (p : Port) (fc : FcFrame), s.dev.get (0x2100 + p) 1 ≠ 2 → Does (.fcFrameFromSwitch p fc) s id)
  ∧ (∀ (s : State) (p : Port) (quanta : Nat), s.dev.linkUp p = true → (s.dev.get (0x2200 + p) 0xC).testBit 1 = true →
    Does (.fcFrameFromLine p (.pause quanta)) s (fun d => (d.inc (0x2500 + p) 0xB).onFlow p .egress (fun f => { f with pausedAll := quanta ≠ 0 })))
  ∧ (∀ (s : State) (p : Port) (v : Vector (Option Nat) 8), s.dev.linkUp p = true → (s.dev.get (0x2200 + p) 0xC).testBit 1 = true →
    Does (.fcFrameFromLine p (.pfc v)) s (fun d => (d.inc (0x2500 + p) 0xB).onFlow p .egress (fun f => { f with pausedPrios := pausedAfter v f.pausedPrios })))
  ∧ (∀ (s : State) (p : Port) (fc : FcFrame), s.dev.linkUp p = true → (s.dev.get (0x2200 + p) 0xC).testBit 1 = false →
    Does (.fcFrameFromLine p fc) s (fun d => d.inc (0x2500 + p) 0xB))
  ∧ (∀ (s : State) (p : Port) (fc : FcFrame), s.dev.linkUp p = false → Does (.fcFrameFromLine p fc) s id)
  ∧ (∀ (s : State) (p : Port) (dir : Dir) (c : Fin 8), (s.dev.flow p dir).pausedAll = true →
    Does (.pauseExpiry p dir c) s (fun d => d.onFlow p dir (fun f => { f with pausedAll := false })))
  ∧ (∀ (s : State) (p : Port) (dir : Dir) (c : Fin 8), (s.dev.flow p dir).pausedAll = false →
    Does (.pauseExpiry p dir c) s (fun d => d.onFlow p dir (fun f => { f with pausedPrios := d.release p c f.pausedPrios })))
  ∧ (∀ (s : State) (p : Port) (dir : Dir), (s.dev.flow p dir).pausing ≠ 0 → Does (.pauseResend p dir) s (fun d =>
      (d.onFlow p dir (fun f => { f with pending := some (d.flowFrame p dir f.pausing) })).wakeIfPending p))
  ∧ (∀ (s : State) (p : Port) (dir : Dir), (s.dev.flow p dir).pausing = 0 → Does (.pauseResend p dir) s id)

/-! ## Twill links -/

/-- TWILL_ATTEMPT, TWILL_TRAIN_WINDOW_END, TWILL_ALIGNED, TWILL_ALIGN_TIMEOUT, TWILL_LINK_LOSS, DIE_RUNNING (R11, R16, R17, R31, R287, R288): an attempt of
the host die leads to TRAINING, and one of a line die alone is counted; the window of a link in TRAINING ends in ALIGNING when the line die answers and at
least two lane pairs have trained, and the attempt fails when the line die does not answer; a link in ALIGNING that does not align in time fails its
attempt, and one that does is aligned; the loss of a link that is UP is reported as kind 10, unless a test or program holds the die; a die whose link is UP
runs, after its reset too, once it has loaded a microcode that it accepts, and starts again without one. In any other state each of them changes nothing. -/
def Obligations.TwillComesUp : Prop :=
  (∀ (s : State) (n : Die), s.dev.mayAttempt n = true → Does (.twillAttempt n) s (fun d => d.attempt n))
  ∧ (∀ (s : State) (n : Die), s.dev.mayAttempt n = true → Gives (.twillAttempt n) s (fun t => t.dev.get 0x3010 (n + 1) = 1))
  ∧ (∀ (s : State) (n : Die), s.dev.lineTries n = true → Does (.twillAttempt n) s (fun d => d.attemptCount n))
  ∧ (∀ (s : State) (n : Die), s.dev.mayAttempt n = false → s.dev.lineTries n = false → Does (.twillAttempt n) s id)
  ∧ (∀ (s : State) (n : Die) (down up : Nat), s.dev.get 0x3010 (n + 1) = 1 → s.dev.answersTrain n = true → (∃ a b : Fin 34, a ≠ b ∧
      down.testBit a = true ∧ down.testBit b = true ∧ up.testBit a = true ∧ up.testBit b = true) →
    Gives (.twillTrainWindowEnd n down up) s (fun t => t.dev.get 0x3010 (n + 1) = 2))
  ∧ (∀ (s : State) (n : Die) (down up : Nat), s.dev.get 0x3010 (n + 1) = 1 → s.dev.answersTrain n = false →
    Does (.twillTrainWindowEnd n down up) s (fun d => d.attemptFails n))
  ∧ (∀ (s : State) (n : Die) (down up : Nat), s.dev.get 0x3010 (n + 1) ≠ 1 → Does (.twillTrainWindowEnd n down up) s id)
  ∧ (∀ (s : State) (n : Die), s.dev.get 0x3010 (n + 1) = 2 → Does (.twillAlignTimeout n) s (fun d => d.attemptFails n))
  ∧ (∀ (s : State) (n : Die), s.dev.get 0x3010 (n + 1) = 2 → Does (.twillAligned n) s (fun d => (d.aligned n).inbandWake))
  ∧ (∀ (s : State) (n : Die), s.dev.get 0x3010 (n + 1) ≠ 2 → Does (.twillAlignTimeout n) s id ∧ Does (.twillAligned n) s id)
  ∧ (∀ (s : State) (n : Die), s.dev.get 0x3010 (n + 1) = 3 → s.dev.dieHeld n = false →
    Does (.twillLinkLoss n) s (fun d => (d.report { source := srcLink n, kind := 10 }).linkLost n))
  ∧ (∀ (s : State) (n : Die), s.dev.get 0x3010 (n + 1) = 3 → s.dev.dieHeld n = true → Does (.twillLinkLoss n) s (fun d => d.linkLost n))
  ∧ (∀ (s : State) (n : Die), s.dev.get 0x3010 (n + 1) ≠ 3 → Does (.twillLinkLoss n) s id ∧ Does (.dieRunning n) s id)
  ∧ (∀ (s : State) (n : Die), s.dev.get 0x3010 (n + 1) = 3 → (s.dev.dieState n = 1 ∨ s.dev.dieState n = 3) → (s.dev.dies.get n).imageBad = false →
    Does (.dieRunning n) s (fun d => (d.dieRuns n).inbandWake))
  ∧ (∀ (s : State) (n : Die), s.dev.get 0x3010 (n + 1) = 3 → s.dev.dieState n = 3 → (s.dev.dies.get n).imageBad = true →
    Does (.dieRunning n) s (fun d => d.setDie n 1))
  ∧ (∀ (s : State) (n : Die), (s.dev.dieState n ≠ 1 ∨ (s.dev.dies.get n).imageBad = true) → s.dev.dieState n ≠ 3 → Does (.dieRunning n) s id)

/-- TRAIN_BLOCK_RX (R285, R286): for a training block that a lane in TRAINING brings without a stuffing violation, with requests of which none has been
answered before: when they leave every tap in its range and the sum of the absolute values at 48 they are applied together to the same lane of the other
direction, else they change no tap, nor does a block that asks for nothing; either way that lane answers with a training block. On a link that is UP, where
the lane retrains in service, the receiver's requests go back by LANE_CTL and are taken at once (log entry 76). A line die that does not answer reads no
block. Bits that hold no training body of this lane change no more than reading them does; a lane that does not train changes nothing.
MARKER_RX, MARKER_SLOT, RATE_FILL_RX (R280, R281, R284, R295): a marker whose lane check fails is an error of its lane, and then does what one does whose
check fits; bits without PATTERN change no more than reading them does; a lane in DATA or SPARE of a link that aligns or is UP sends a marker that names
it; a fill block that is deleted or repeated is counted, and one past the limit is a pace fault of logical lane 0's lane; on a link that is neither
ALIGNING nor UP there are no markers, and on one that is not UP, or not in independent clocking, no fill. -/
def Obligations.TapsMarkersAndFill : Prop :=
  (∀ (t : Int × Int × Int), tapsGood t = true → t.1.natAbs + t.2.1.natAbs + t.2.2.natAbs = 48 ∧ -8 ≤ t.1 ∧ t.1 ≤ 0 ∧ 24 ≤ t.2.1 ∧ t.2.1 ≤ 48
    ∧ -12 ≤ t.2.2 ∧ t.2.2 ≤ 0)
  ∧ (∀ (s : State) (n : Die) (w : Way) (x : Fin 34) (line : List Bool) (b : TrainBody), s.dev.get 0x3010 (n + 1) ≠ 0 →
    s.dev.get 0x3010 (n + 1) ≠ 3 → s.dev.laneState n w x = 1 → (w = .up ∨ s.dev.answersTrain n = true) →
    let r := s.dev.laneRead n w x line
    r.1.violation = false → isData r.1.header = false → blockKind r.1.header = 3 → readTrain (natOf r.1.body) = some b → b.phys = x.val →
    assocGet (s.dev.twillDir n (Way.back w)).answers x.val = none →
    Gives (.trainBlockRx n w (laneOf x) line) s (fun t =>
      let idx := 0x3200 + 2 * n.val + wayIndex (Way.back w)
      let old := tapsOf (s.dev.get idx (x + 1))
      let new := (tapAsked (b.reqPre % 4) (-2) old.1, tapAsked (b.reqMain % 4) 40 old.2.1, tapAsked (b.reqPost % 4) (-6) old.2.2)
      (t.dev.objs = if tapsGood new = true ∧ (b.reqPre % 4, b.reqMain % 4, b.reqPost % 4) ≠ (0, 0, 0)
        then (s.dev.put idx (x + 1) (tapsValue new)).objs else s.dev.objs)
      ∧ ∃ (m : TrainBody) (e : List Bool), t.dev.out = s.dev.out ++ [.train n (Way.back w) (laneOf x) m e] ∧ m.phys = x.val))
  ∧ (∀ (s : State) (n : Die) (w : Way) (x : Fin 34) (line : List Bool) (b : TrainBody), s.dev.get 0x3010 (n + 1) = 3 → s.dev.laneState n w x = 1 →
    (w = .up ∨ s.dev.answersTrain n = true) →
    let r := s.dev.laneRead n w x line
    isData r.1.header = false → blockKind r.1.header = 3 → readTrain (natOf r.1.body) = some b → b.phys = x.val →
    Does (.trainBlockRx n w (laneOf x) line) s (fun d =>
      let e := (d.laneRead n w x line).2.askTaps n w x b
      let a := (assocGet (e.twillDir n w).asks x).getD (0, 0, 0)
      (e.laneControl n (Way.back w) 5 x [a.1, a.2.1, a.2.2]).applyTaps n w x a))
  ∧ (∀ (s : State) (n : Die) (w : Way) (x : Fin 34) (line : List Bool), s.dev.get 0x3010 (n + 1) ≠ 0 → s.dev.laneState n w x = 1 →
    (w = .up ∨ s.dev.answersTrain n = true) → readTrain (natOf (s.dev.laneRead n w x line).1.body) = none → Does (.trainBlockRx n w (laneOf x) line) s (fun d => (d.laneRead n w x line).2))
  ∧ (∀ (s : State) (n : Die) (w : Way) (x : Fin 34) (line : List Bool) (b : TrainBody), s.dev.get 0x3010 (n + 1) ≠ 0 → s.dev.laneState n w x = 1 →
    (w = .up ∨ s.dev.answersTrain n = true) → readTrain (natOf (s.dev.laneRead n w x line).1.body) = some b → b.phys ≠ x.val →
    Does (.trainBlockRx n w (laneOf x) line) s (fun d => (d.laneRead n w x line).2))
  ∧ (∀ (s : State) (n : Die) (w : Way) (x : Fin 34) (line : List Bool), (s.dev.get 0x3010 (n + 1) = 0 ∨ s.dev.laneState n w x ≠ 1
      ∨ (w = .down ∧ s.dev.answersTrain n = false)) → Does (.trainBlockRx n w (laneOf x) line) s id)
  ∧ (∀ (s : State) (n : Die) (w : Way) (x : Fin 34) (line : List Bool) (m : MarkerBody), 2 ≤ s.dev.get 0x3010 (n + 1) →
    let r := s.dev.laneRead n w x line
    isData r.1.header = false → blockKind r.1.header = 1 → readMarker (natOf r.1.body) = some m →
    Does (.markerRx n w (laneOf x) line) s (fun d => (d.laneRead n w x line).2.markerBody n w x m r.1.crc))
  ∧ (∀ (s : State) (n : Die) (w : Way) (x : Fin 34) (line : List Bool), 2 ≤ s.dev.get 0x3010 (n + 1) →
    readMarker (natOf (s.dev.laneRead n w x line).1.body) = none → Does (.markerRx n w (laneOf x) line) s (fun d => (d.laneRead n w x line).2))
  ∧ (∀ (s : State) (n : Die) (w : Way) (x : Fin 34) (line : List Bool), s.dev.get 0x3010 (n + 1) < 2 → Does (.markerRx n w (laneOf x) line) s id)
  ∧ (∀ (d : Dev) (n : Die) (w : Way) (x : Fin 34) (m : MarkerBody) (crc : Nat), m.laneCrc ≠ crc → d.markerBody n w x m crc =
    (((d.inc (0x3100 + 2 * n.val + wayIndex w) (x + 1)).event (0x3020 + n) 7).report { source := laneSrc n w x, kind := 11, detail := x.val }).markerBody n w x m
      m.laneCrc)
  ∧ (∀ (d : Dev) (n : Die) (w : Way) (x : Fin 34) (m : MarkerBody), (d.markerBody n w x m m.laneCrc).objs = d.objs)
  ∧ (∀ (s : State) (n : Die) (w : Way) (x : Fin 34), 2 ≤ s.dev.get 0x3010 (n + 1) → (s.dev.laneState n w x = 2 ∨ s.dev.laneState n w x = 3) →
    Does (.markerSlot n w (laneOf x)) s (fun d => (d.markerSlot n w (laneOf x)).inbandWake)
    ∧ ∃ (m : MarkerBody) (e : List Bool), (s.dev.markerSlot n w (laneOf x)).out.getLast? = some (.marker n w (laneOf x) m e) ∧ m.phys = x.val)
  ∧ (∀ (s : State) (n : Die) (w : Way) (x : Lane), s.dev.get 0x3010 (n + 1) < 2 → Does (.markerSlot n w x) s id)
  ∧ (∀ (s : State) (n : Die) (w : Way) (lane : Lane), s.dev.get 0x3010 (n + 1) = 3 → s.dev.get 0x3000 1 = 1 →
    Does (.rateFillRx n w lane .keep) s id ∧ Does (.rateFillRx n w lane .delete) s (fun d => d.inc (0x3080 + n) 9)
    ∧ Does (.rateFillRx n w lane .again) s (fun d => d.inc (0x3080 + n) 0xA)
    ∧ Does (.rateFillRx n w lane .overflow) s (fun d =>
      (d.event (0x3020 + n) 9).paceFault (laneSrc n w (d.laneMap n w 0)) (w = .up) .ingress))
  ∧ (∀ (s : State) (n : Die) (w : Way) (lane : Lane) (f : FillAction), (s.dev.get 0x3010 (n + 1) ≠ 3 ∨ s.dev.get 0x3000 1 ≠ 1) →
    Does (.rateFillRx n w lane f) s id)

/-- DATA_BLOCK_RX (R271, R272, R274 to R276, R278, R279, R293): a lane that carries blocks reads each; one whose KIND no block has counts as an invalid
header; one of a narrowed direction, which is one lane's, is next in the stream at once, any other waits for the turn of the logical lane that brought it;
in its turn a block under an epoch or relock number that is past is discarded and counted, a data block is its port's, a delimiter or plain, and a block of
KIND 4 to 9 is a segment of a message; a plain block continues its port's frame, and without one is malformed but for a port that waits for a start. A lane
that carries no blocks changes nothing. MANAGEMENT_MESSAGE, KEY_MESSAGE, EVENT_MESSAGE, TIMESTAMP_MESSAGE, TIME_MESSAGE (R31, R272, R273, R309, R315, R322,
R408): a message over a link that is UP whose check fails is discarded and counted, and of a management message on its way down the microcode that a
loading die takes is bad, or else the request gets no response; one that fits acts: a report of a block that its die reports on reports, clock status
stands, a timestamp goes into its ring, corrected and with its flags, a phase sample is looked at, a comparison of the time copy moves the copy's state,
beyond a nanosecond is reported for each timestamp unit of the die (log entry 70), and ends the time base's reaction when every copy qualifies; an intact
management or key message changes nothing by itself (log entry 11). On a link that is not UP nothing happens. -/
def Obligations.TwillTraffic : Prop :=
  (∀ (s : State) (n : Die) (w : Way) (x : Fin 34) (line : List Bool), s.dev.get 0x3010 (n + 1) = 3 → s.dev.activeLane n w x = true →
    let r := s.dev.laneRead n w x line
    isData r.1.header = false → 10 ≤ blockKind r.1.header →
    Does (.dataBlockRx n w { lane := laneOf x, line := line }) s (fun d => (d.laneRead n w x line).2.headerSeen n w x false))
  ∧ (∀ (s : State) (n : Die) (w : Way) (x : Fin 34) (line : List Bool) (l : Nat), s.dev.get 0x3010 (n + 1) = 3 →
    (s.dev.activeLane n w x = true ∨ (s.dev.delivering n w x).isSome = true) →
    let r := s.dev.laneRead n w x line
    let e := r.2.headerSeen n w x true
    (isData r.1.header = true ∨ blockKind r.1.header = 0 ∨ 4 ≤ blockKind r.1.header) → (isData r.1.header = true ∨ blockKind r.1.header < 10) →
    x.val ∉ (e.twillDir n w).retired → (e.logicalOf n w x).or (e.delivering n w x) = some l →
    Does (.dataBlockRx n w { lane := laneOf x, line := line }) s (fun _ =>
      if (e.twillDir n w).narrow = true then e.streamBlock n w r.1.header (exactly 32 r.1.body)
      else Dev.readTurns n w 64 (e.onDir n w (fun t => { t with rxHeld := t.rxHeld ++ [(l, r.1.header, exactly 32 r.1.body)] }))))
  ∧ (∀ (s : State) (n : Die) (w : Way) (x : Fin 34) (line : List Bool), (s.dev.get 0x3010 (n + 1) ≠ 3
      ∨ s.dev.activeLane n w x = false ∧ x.val ∉ (s.dev.twillDir n w).retired ∧ s.dev.delivering n w x = none) → Does (.dataBlockRx n w { lane := laneOf x, line := line }) s id)
  ∧ (∀ (d : Dev) (n : Die) (w : Way) (h : Nat) (body : List Byte), d.lateHeader n w h = true → d.streamBlock n w h body = d.blockLate n w h body)
  ∧ (∀ (d : Dev) (n : Die) (w : Way) (h : Nat) (body : List Byte), (isData h && h.testBit 6 && (body.getD 1 0).toNat.testBit 7) = false →
    d.blockLate n w h body = d.inc (0x3080 + n) 5)
  ∧ (∀ (d : Dev) (n : Die) (w : Way) (h : Nat) (body : List Byte), d.lateHeader n w h = false → isData h = true → d.streamBlock n w h body =
    if h.testBit 6 then d.delimBlock n w (blockPort h) body else d.plainBlock n w (blockPort h) body)
  ∧ (∀ (d : Dev) (n : Die) (w : Way) (h : Nat) (body : List Byte), d.lateHeader n w h = false → isData h = false → d.streamBlock n w h body =
    if 4 ≤ blockKind h then d.segment n w (blockKind h) (blockSeg h) body else d)
  ∧ (∀ (d : Dev) (n : Die) (w : Way) (k : Fin 16) (body : List Byte) (q : Fin 32) (r : RxFrame), (d.twillDir n w).frames.get k = some (q, r) →
    d.plainBlock n w k body = match w with
      | .down => d.setFrame n .down k (some (q, { r with bytes := r.bytes ++ body })) false
      | .up => ((d.setFrame n .up k (some (q, d.moreOf (portAt n k) r (r.bytes ++ body) (r.bytes ++ body))) false).flowCheck
          (portAt n k) .ingress).wakeIfPending (portAt n k))
  ∧ (∀ (d : Dev) (n : Die) (w : Way) (k : Fin 16) (body : List Byte), (d.twillDir n w).frames.get k = none →
    d.plainBlock n w k body = if (d.twillDir n w).resync.get k = true then d else d.malformedBlock n w k)
  ∧ (∀ (s : State) (n : Die) (w : Way) (m : TwillMsg), intact m = true → Does (.managementMessage n w m) s id ∧ Does (.keyMessage n w m) s id)
  ∧ (∀ (s : State) (n : Die) (w : Way) (m : TwillMsg), s.dev.get 0x3010 (n + 1) = 3 → intact m = false →
    Does (.keyMessage n w m) s (fun d => d.inc (0x3080 + n) 6) ∧ Does (.managementMessage n .up m) s (fun d => d.inc (0x3080 + n) 6))
  ∧ (∀ (s : State) (n : Die) (m : TwillMsg), s.dev.get 0x3010 (n + 1) = 3 → intact m = false → s.dev.dieState n = 1 →
    Does (.managementMessage n .down m) s (fun d => (d.inc (0x3080 + n) 6).onDie n (fun s => { s with imageBad := true })))
  ∧ (∀ (s : State) (n : Die) (m : TwillMsg), s.dev.get 0x3010 (n + 1) = 3 → intact m = false → s.dev.dieState n ≠ 1 →
    Does (.managementMessage n .down m) s (fun d => (d.inc (0x3080 + n) 6).onDie n (fun s => { s with requestLost := true })))
  ∧ (∀ (s : State) (n : Die) (t : TimeMsg) (ev : FaultEvent) (bits : List Nat) (k : Fin 16) (egress wasSealed moved valid : Bool) (time : Nat) (b : List Byte),
    s.dev.get 0x3010 (n + 1) = 3 → t.crcOk = false →
    Does (.timeMessage n t) s (fun d => d.inc (0x3080 + n) 6) ∧ Does (.eventMessage n (.fault false ev)) s (fun d => d.inc (0x3080 + n) 6)
    ∧ Does (.eventMessage n (.clock false bits)) s (fun d => d.inc (0x3080 + n) 6)
    ∧ Does (.timestampMessage n (.stamp false k egress wasSealed moved time b)) s (fun d => d.inc (0x3080 + n) 6)
    ∧ Does (.timestampMessage n (.phase false k valid)) s (fun d => d.inc (0x3080 + n) 6))
  ∧ (∀ (s : State) (n : Die) (w : Way) (m : TwillMsg) (t : TimeMsg) (e : EventMsg) (k : TimestampMsg), s.dev.get 0x3010 (n + 1) ≠ 3 →
    Does (.managementMessage n w m) s id ∧ Does (.keyMessage n w m) s id ∧ Does (.timeMessage n t) s id ∧ Does (.eventMessage n e) s id
    ∧ Does (.timestampMessage n k) s id)
  ∧ (∀ (s : State) (n : Die) (ev : FaultEvent) (b : Block), s.dev.get 0x3010 (n + 1) = 3 → block? ev.source = some b → reportsOn n b = true →
    canReport b ev.kind = true → Does (.eventMessage n (.fault true ev)) s (fun d => d.report ev true))
  ∧ (∀ (s : State) (n : Die) (bit : Nat), s.dev.get 0x3010 (n + 1) = 3 → bit < 10 →
    Does (.eventMessage n (.clock true [bit])) s (fun d => d.eventMask (0x1828 + n) (0 ||| 2 ^ bit)))
  ∧ (∀ (s : State) (n : Die) (k : Fin 16) (wasSealed moved : Bool) (time : Nat) (ev : List Byte), s.dev.get 0x3010 (n + 1) = 3 →
    let p := portAt n k
    let more := (if wasSealed then 2 else 0) + movedFlag moved
    Does (.timestampMessage n (.stamp true k false wasSealed moved time ev)) s (fun d => d.ringWrite p false (d.stampFlags p + more) (d.stampTime p false time) ev)
    ∧ (((s.dev.stampEnable p).testBit 2 && (oneStep ev 0 (s.dev.stampTime p true time)).isSome) = false →
      Does (.timestampMessage n (.stamp true k true wasSealed moved time ev)) s (fun d => d.ringWrite p true (d.stampFlags p + more) (d.stampTime p true time) ev))
    ∧ (((s.dev.stampEnable p).testBit 2 && (oneStep ev 0 (s.dev.stampTime p true time)).isSome) = true →
      Does (.timestampMessage n (.stamp true k true wasSealed moved time ev)) s (fun d =>
        if wasSealed then (d.inc (0x4480 + p) 0xD).ringWrite p true (d.stampFlags p + 2 + 4 + movedFlag moved) (d.stampTime p true time) ev
        else d.ringWrite p true (d.stampFlags p + 1 + movedFlag moved) (d.stampTime p true time) ev)))
  ∧ (∀ (s : State) (n : Die) (k : Fin 16), s.dev.get 0x3010 (n + 1) = 3 → Does (.timestampMessage n (.phase true k true)) s (fun d => d.rclkLook))
  ∧ (∀ (s : State) (n : Die) (m : TimeMsg), s.dev.get 0x3010 (n + 1) = 3 → m.crcOk = true → m.offset.natAbs ≤ 16 →
    Does (.timeMessage n m) s (fun d => let e := d.copyCheck n m.offset; (if e.copiesQualify then e.reactionEnd srcTime else e).inbandWake))
  ∧ (∀ (s : State) (n : Die) (m : TimeMsg), s.dev.get 0x3010 (n + 1) = 3 → m.crcOk = true → 16 < m.offset.natAbs →
    Does (.timeMessage n m) s (fun d =>
      let e := (d.copyCheck n m.offset).eachPortOf n (fun p d => d.report { source := srcStamp p, kind := 17 })
      (if e.copiesQualify then e.reactionEnd srcTime else e).inbandWake))

/-- LANE_CTL_PARK, LANE_CTL_NARROW, LANE_CTL_WIDEN, TWILL_NARROW (R288, R291, R292, R294): on a link that is UP a logical lane that is not parked is parked
behind those parked before it, in a narrowed direction after it has widened if it is logical lane 0, and the link is lost when fewer than two are left; a
direction narrows, on its far transmitter's word or when R291's conditions hold, and a narrowed one widens with WIDEN; in any other state each of them
changes nothing.
LANE_CTL_RETRAIN, LANE_LOCK_LOST, LANE_REINSTATE_TIMER, TWILL_REINSTATE_WRITE, LANE_RETRAIN_DONE, K_LOST, K_CLOCK_RETURN (R283, R289, R293, R294, R297): on
a link that is UP a LOST lane retrains when it is asked to, or after its 10 ms when TWILL_REINSTATE is 1, which starts those that wait when it is set; one
that succeeds is a spare again and forgets what it counted, one that fails is LOST again (log entry 38), or FAILED after its 16th; a lane in DATA or SPARE
that loses lock is lost, and a DATA lane's frames end, as do those of a retiring lane that still delivers; K_LOST and K_CLOCK_RETURN set the state of the
up K. In any other state each of them changes nothing.
TWILL_TEST_START, TWILL_TEST_STOP, TWILL_TEST_END (R302, R304): a test with good fields starts on a die that nothing holds, recorded first when it injects
errors; it is busy while a test or program holds the die or firmware activates, and in DEPLOYED without the service flag the state refuses it, and bad
fields answer ERR_RANGE; a stop ends a test as ABORTED, its duration commits the errors that the checkers counted, the injector's among them, and the bits;
the end of a duration without a test changes nothing. -/
def Obligations.TwillLanesAndTests : Prop :=
  (∀ (s : State) (n : Die) (w : Way) (l : Fin 32), s.dev.get 0x3010 (n + 1) = 3 → s.dev.laneMap n w l ≠ 0xFF →
    ((s.dev.twillDir n w).narrow = false ∨ l ≠ 0) →
    Does (.laneCtlPark n w l) s (fun d => (((d.onDir n w (fun t => { t with
      parked := t.parked ++ [{ logical := l, leaves := d.laneMap n w l, delivers := false }] })).setMap n w l 0xFF)).fewLanes n w))
  ∧ (∀ (s : State) (n : Die) (w : Way), s.dev.get 0x3010 (n + 1) = 3 → s.dev.laneMap n w 0 ≠ 0xFF → (s.dev.twillDir n w).narrow = true →
    Does (.laneCtlPark n w 0) s (fun d => ((d.widen n w).park n w 0 false).fewLanes n w))
  ∧ (∀ (s : State) (n : Die) (w : Way) (l : Fin 32), (s.dev.get 0x3010 (n + 1) ≠ 3 ∨ s.dev.laneMap n w l = 0xFF) → Does (.laneCtlPark n w l) s id)
  ∧ (∀ (s : State) (n : Die) (w : Way), s.dev.get 0x3010 (n + 1) = 3 → (s.dev.twillDir n w).narrow = false → Does (.laneCtlNarrow n w) s (fun d => d.narrow n w))
  ∧ (∀ (s : State) (n : Die) (w : Way), (s.dev.get 0x3010 (n + 1) ≠ 3 ∨ (s.dev.twillDir n w).narrow = true) → Does (.laneCtlNarrow n w) s id)
  ∧ (∀ (s : State) (n : Die) (w : Way), s.dev.mayNarrow n w = true → Does (.twillNarrow n w) s (fun d => d.narrow n w))
  ∧ (∀ (s : State) (n : Die) (w : Way), s.dev.mayNarrow n w = false → Does (.twillNarrow n w) s id)
  ∧ (∀ (s : State) (n : Die) (w : Way), (s.dev.twillDir n w).narrow = true → Gives (.laneCtlWiden n w) s (fun t =>
      (t.dev.twillDir n w).narrow = false ∧ .laneCtl n w 2 0 ∈ t.dev.out))
  ∧ (∀ (s : State) (n : Die) (w : Way), (s.dev.twillDir n w).narrow = false → Does (.laneCtlWiden n w) s id)
  ∧ (∀ (s : State) (n : Die) (w : Way) (x : Fin 34), s.dev.get 0x3010 (n + 1) = 3 → s.dev.laneState n w x = 4 → s.dev.faultState (laneSrc n w x) ≠ 4 →
    Does (.laneCtlRetrain n w (laneOf x)) s (fun d => ((d.onDir n w (fun t => { t with
        waiting := without t.waiting x, ready := without t.ready x, answers := t.answers.filter (fun e => e.1 ≠ x)
        asks := t.asks.filter (fun e => e.1 ≠ x), converged := without t.converged x })).setLane n w x 1).laneControl n (Way.back w) 3 x))
  ∧ (∀ (s : State) (n : Die) (w : Way) (x : Lane), (s.dev.get 0x3010 (n + 1) ≠ 3 ∨ s.dev.laneState n w x ≠ 4 ∨ s.dev.faultState (laneSrc n w x) = 4) →
    Does (.laneCtlRetrain n w x) s id)
  ∧ (∀ (s : State) (n : Die) (w : Way) (x : Fin 34), s.dev.get 0x3010 (n + 1) = 3 → s.dev.laneState n w x = 3 → s.dev.delivering n w x = none →
    Does (.laneLockLost n w (laneOf x)) s (fun d => d.laneLost n w x))
  ∧ (∀ (s : State) (n : Die) (w : Way) (x : Fin 34), s.dev.get 0x3010 (n + 1) = 3 → s.dev.laneState n w x = 2 → s.dev.delivering n w x = none →
    Does (.laneLockLost n w (laneOf x)) s (fun d => (d.framesEnd n w).laneLost n w x))
  ∧ (∀ (s : State) (n : Die) (w : Way) (x : Fin 34), s.dev.get 0x3010 (n + 1) = 3 → (s.dev.delivering n w x).isSome = true →
    Does (.laneLockLost n w (laneOf x)) s (fun d => (d.framesEnd n w).onDir n w (fun t => { t with
      parked := t.parked.map (fun k => if k.leaves = x.val then { k with delivers := false } else k) })))
  ∧ (∀ (s : State) (n : Die) (w : Way) (x : Lane), (s.dev.get 0x3010 (n + 1) ≠ 3
      ∨ (s.dev.laneState n w x ≠ 2 ∧ s.dev.laneState n w x ≠ 3 ∧ s.dev.delivering n w x = none)) →
    Does (.laneLockLost n w x) s id)
  ∧ (∀ (s : State) (n : Die) (w : Way) (x : Fin 34), s.dev.get 0x3010 (n + 1) = 3 → s.dev.laneState n w x = 4 → s.dev.flag 0x3000 4 = false →
    x.val ∉ (s.dev.twillDir n w).waiting → Does (.laneReinstateTimer n w (laneOf x)) s (fun d => d.onDir n w (fun t => { t with waiting := t.waiting ++ [x.val] })))
  ∧ (∀ (s : State) (n : Die) (w : Way) (x : Fin 34), s.dev.flag 0x3000 4 = true →
    exec (.laneReinstateTimer n w (laneOf x)) s = exec (.laneCtlRetrain n w (laneOf x)) s)
  ∧ (∀ (s : State) (n : Die) (w : Way) (x : Lane), (s.dev.get 0x3010 (n + 1) ≠ 3 ∨ s.dev.laneState n w x ≠ 4) → Does (.laneReinstateTimer n w x) s id)
  ∧ (∀ (s : State) (r : Req), Writable s r 0x3000 4 0 → Answers (.twillReinstateWrite r 0) s r (fun d => d.stored 0x3000 4 0))
  ∧ (∀ (s : State) (r : Req), Writable s r 0x3000 4 1 → Answers (.twillReinstateWrite r 1) s r (fun d =>
      (d.stored 0x3000 4 1).eachDie (fun n d => (d.retrainWaiting n .down).retrainWaiting n .up)))
  ∧ (∀ (s : State) (n : Die) (w : Way) (x : Fin 34), s.dev.get 0x3010 (n + 1) = 3 → s.dev.laneState n w x = 1 →
    Does (.laneRetrainDone n w (laneOf x) true) s (fun d => ((d.setLane n w x 3).onDir n w (fun t => { t with
        failures := assocSet t.failures x 0, retired := without t.retired x, txCode := t.txCode.set x (LaneCode.fresh {} x), rxCode := t.rxCode.set x (LaneCode.fresh {} x)
        blocks := t.blocks.filter (fun e => e.1 ≠ x), invalid := t.invalid.filter (fun e => e.1 ≠ x) })).event (0x3020 + n) 6))
  ∧ (∀ (s : State) (n : Die) (w : Way) (x : Fin 34) (k : Nat), s.dev.get 0x3010 (n + 1) = 3 → s.dev.laneState n w x = 1 →
    (assocGet (s.dev.twillDir n w).failures x).getD 0 = k → Does (.laneRetrainDone n w (laneOf x) false) s (fun d =>
      (d.setLane n w x (if 15 ≤ k then 5 else 4)).onDir n w (fun t => { t with failures := assocSet t.failures x (k + 1) })))
  ∧ (∀ (s : State) (n : Die) (w : Way) (x : Lane) (ok : Bool), (s.dev.get 0x3010 (n + 1) ≠ 3 ∨ s.dev.laneState n w x ≠ 1) →
    Does (.laneRetrainDone n w x ok) s id)
  ∧ (∀ (s : State) (n : Die), s.dev.laneState n .up 34 ≠ 4 → Does (.kLost n) s (fun d => (d.setLane n .up 34 4).event (0x3020 + n) 10))
  ∧ (∀ (s : State) (n : Die), s.dev.laneState n .up 34 = 4 → Does (.kLost n) s id)
  ∧ (∀ (s : State) (n : Die), Does (.kClockReturn n) s (fun d => d.setLane n .up 34 2))
  ∧ (∀ (s : State) (r : Req) (n : Die) (t : TwillTest), Ready s r 0x3400 (n + 1) 0 → (s.dev.dies.get n).test = none → s.dev.dieHeld n = false →
    s.dev.activating = false → (s.vault.lifecycle ≠ 3 ∨ s.dev.hall.serviceUntil.isSome = true) → testBad t = false → (t.inject = 0 ∨ s.dev.stagingFull = false) →
    Answers (.twillTestStart r n t) s r (fun d =>
      (if t.inject = 0 then d else d.touch 0x0050 (injectionBody (srcLink n) 11 (d.keyIdOf r))).testBegin n t))
  ∧ (∀ (s : State) (r : Req) (n : Die) (t : TwillTest), Ready s r 0x3400 (n + 1) 0 →
    ((s.dev.dies.get n).test.isSome = true ∨ s.dev.dieHeld n = true ∨ s.dev.activating = true) → Does (.twillTestStart r n t) s (fun d => d.answer r .busy))
  ∧ (∀ (s : State) (r : Req) (n : Die) (t : TwillTest), Ready s r 0x3400 (n + 1) 0 → (s.dev.dies.get n).test = none → s.dev.dieHeld n = false →
    s.dev.activating = false → s.vault.lifecycle = 3 → s.dev.hall.serviceUntil = none → (t.inject = 0 ∨ s.dev.stagingFull = false) →
    Does (.twillTestStart r n t) s (fun d => d.answer r .state))
  ∧ (∀ (s : State) (r : Req) (n : Die) (t : TwillTest), Ready s r 0x3400 (n + 1) 0 → (s.dev.dies.get n).test = none → s.dev.dieHeld n = false →
    s.dev.activating = false → (s.vault.lifecycle ≠ 3 ∨ s.dev.hall.serviceUntil.isSome = true) → testBad t = true → (t.inject = 0 ∨ s.dev.stagingFull = false) →
    Does (.twillTestStart r n t) s (fun d => d.answer r .range))
  ∧ (∀ (s : State) (r : Req) (n : Die), Ready s r 0x3401 (n + 1) 1 → Answers (.twillTestStop r n 1) s r (fun d => d.testFinish n 3))
  ∧ (∀ (s : State) (n : Die) (bits : Nat) (errors : Vector Nat 34) (t : TwillTest), (s.dev.dies.get n).test = some t →
    Does (.twillTestEnd n bits errors) s (fun d =>
      (((allFin 34).foldl (fun d l => if t.lanes.testBit l.val then
          d.put (0x3410 + n) (l.val + 1) (min (2 ^ 32 - 1) (errors.get l + injectedErrors t.inject bits)) else d) d).put
        (0x3410 + n) 0x23 (bits % 2 ^ 64)).testFinish n 2))
  ∧ (∀ (s : State) (n : Die) (bits : Nat) (errors : Vector Nat 34), (s.dev.dies.get n).test = none → Does (.twillTestEnd n bits errors) s id)

/-! ## Time, diagnostics, telemetry and calibration -/

/-- TIME_SET, TIME_STEP, TIME_ADJUST_APPLY, TIME_FREQ_ADJ_WRITE (R306 to R308, R320): a granted set or step waits behind those that wait; a set with more
than 999,999,999 ns is refused, as is a step past 1,000 s; at the instant all that wait apply in order and the adjusted bit reads 1, and without one
nothing happens; a frequency adjustment within its range is stored, and suspends a discipline that runs; one outside is refused.
PPS_IN_EDGE, PPS_IN_MISSING, PPS_OUT_EDGE, PPS_OUT_FALL (R320, R321, R395): in mode 0 the input does nothing; else an edge farther than 1 µs from a whole
second sets its event and breaks the row; a nearer one ends the row of missing edges, and is one more in the row when it is within 10 ns, else breaks it;
with the discipline running it also ends holdover; the third missing edge in a row sets its event, and a running discipline enters holdover, as does one
begun after it at the next, while another is only counted; an enabled output that is low rises, one that is high falls, and nothing else changes an output.
-/
def Obligations.TimeAndPulses : Prop :=
  (∀ (s : State) (r : Req) (sec ns frac : Nat), Ready s r 0x6000 2 (sec * 2 ^ 48 + ns * 2 ^ 16 + frac * 256) → sec < 2 ^ 48 → ns < 1000000000 → frac < 16 →
    Answers (.timeSet r sec ns frac) s r (fun d => { d with time := { d.time with adjust := d.time.adjust ++ [.set (sec * 16000000000 + ns * 16 + frac)] } }))
  ∧ (∀ (s : State) (r : Req) (sec ns frac : Nat), Ready s r 0x6000 2 (sec * 2 ^ 48 + ns * 2 ^ 16 + frac * 256) → sec < 2 ^ 48 → 1000000000 ≤ ns → ns < 2 ^ 32 →
    frac < 16 → Does (.timeSet r sec ns frac) s (fun d => d.answer r .range))
  ∧ (∀ (s : State) (r : Req) (v : Nat), Ready s r 0x6000 3 v → (signed 64 v).natAbs ≤ 1000 * 16000000000 →
    0 ≤ adjusted s.dev.adjustInstant (s.dev.time.adjust ++ [.step (signed 64 v)]) →
    Answers (.timeStep r v) s r (fun d => { d with time := { d.time with adjust := d.time.adjust ++ [.step (signed 64 v)] } }))
  ∧ (∀ (s : State) (r : Req) (v : Nat), Ready s r 0x6000 3 v → 1000 * 16000000000 < (signed 64 v).natAbs →
    Does (.timeStep r v) s (fun d => d.answer r .range))
  ∧ (∀ (s : State), s.dev.time.adjust ≠ [] → Gives .timeAdjustApply s (fun t =>
      t.dev.time.count = s.dev.time.adjust.foldl (fun c a => (adjusted c [a]).toNat) s.dev.time.count
      ∧ t.dev.time.adjust = [] ∧ t.dev.get 0x6000 5 = 1 ∧ t.vault = s.vault))
  ∧ (∀ (s : State), s.dev.time.adjust = [] → Does .timeAdjustApply s id)
  ∧ (∀ (s : State) (r : Req) (v : Nat), Writable s r 0x6000 4 v → beyond 32 500000000 v = false → (s.dev.get 0x6010 1 ≠ 2 ∨ s.dev.pps.suspended = true) →
    Answers (.timeFreqAdjWrite r v) s r (fun d => d.stored 0x6000 4 v))
  ∧ (∀ (s : State) (r : Req) (v : Nat), Writable s r 0x6000 4 v → beyond 32 500000000 v = false → s.dev.get 0x6010 1 = 2 → s.dev.pps.suspended = false →
    Answers (.timeFreqAdjWrite r v) s r (fun d => let e := d.stored 0x6000 4 v
      { e with pps := { e.pps with suspended := true, holdover := false } }.event 0x6030 9))
  ∧ (∀ (s : State) (r : Req) (v : Nat), Writable s r 0x6000 4 v → beyond 32 500000000 v = true →
    Does (.timeFreqAdjWrite r v) s (fun d => d.answer r .range))
  ∧ (∀ (s : State) (time : Nat), s.dev.get 0x6010 1 = 0 → Does (.ppsInEdge time) s id ∧ Does .ppsInMissing s id)
  ∧ (∀ (s : State) (time : Nat), s.dev.get 0x6010 1 ≠ 0 → 16000 < (ppsOffset ((time : Int) - signed 32 (s.dev.get 0x6010 2))).natAbs →
    Gives (.ppsInEdge time) s (fun t => t.dev.pps.edges = 0 ∧ t.dev.pps.missing = 0 ∧ t.dev.get 0x6030 1 = s.dev.get 0x6030 1 ||| 8 ∧ t.dev.time = s.dev.time))
  ∧ (∀ (s : State) (time : Nat), s.dev.get 0x6010 1 ≠ 0 → (ppsOffset ((time : Int) - signed 32 (s.dev.get 0x6010 2))).natAbs ≤ 160 →
    Gives (.ppsInEdge time) s (fun t => t.dev.pps.edges = s.dev.pps.edges + 1 ∧ t.dev.pps.missing = 0))
  ∧ (∀ (s : State) (time : Nat), s.dev.get 0x6010 1 ≠ 0 → 160 < (ppsOffset ((time : Int) - signed 32 (s.dev.get 0x6010 2))).natAbs →
    (ppsOffset ((time : Int) - signed 32 (s.dev.get 0x6010 2))).natAbs ≤ 16000 →
    Gives (.ppsInEdge time) s (fun t => t.dev.pps.edges = 0 ∧ t.dev.pps.missing = 0))
  ∧ (∀ (s : State) (time : Nat), s.dev.get 0x6010 1 = 2 → s.dev.pps.suspended = false →
    (ppsOffset ((time : Int) - signed 32 (s.dev.get 0x6010 2))).natAbs ≤ 16000 → Gives (.ppsInEdge time) s (fun t => t.dev.pps.holdover = false))
  ∧ (∀ (s : State), s.dev.get 0x6010 1 = 2 → s.dev.pps.suspended = false → s.dev.pps.holdover = false → s.dev.pps.missing = 2 → Gives .ppsInMissing s (fun t =>
      t.dev.pps.holdover = true ∧ t.dev.pps.missing = 3 ∧ t.dev.get 0x6030 1 = s.dev.get 0x6030 1 ||| 4 ||| 16))
  ∧ (∀ (s : State), s.dev.get 0x6010 1 ≠ 0 → (s.dev.get 0x6010 1 ≠ 2 ∨ s.dev.pps.suspended = true ∨ s.dev.pps.holdover = true) → s.dev.pps.missing = 2 → Does .ppsInMissing s (fun d =>
      { d with pps := { d.pps with edges := 0, missing := 3 } }.event 0x6030 2))
  ∧ (∀ (s : State), s.dev.get 0x6010 1 = 2 → s.dev.pps.suspended = false → s.dev.pps.holdover = false → 3 ≤ s.dev.pps.missing → Does .ppsInMissing s (fun d =>
      { d with pps := { d.pps with edges := 0, missing := d.pps.missing + 1, holdover := true } }.event 0x6030 4))
  ∧ (∀ (s : State), s.dev.get 0x6010 1 ≠ 0 → s.dev.pps.missing ≠ 2 →
    (s.dev.get 0x6010 1 ≠ 2 ∨ s.dev.pps.suspended = true ∨ s.dev.pps.holdover = true ∨ s.dev.pps.missing < 2) → Does .ppsInMissing s (fun d =>
      { d with pps := { d.pps with edges := 0, missing := d.pps.missing + 1 } }))
  ∧ (∀ (s : State), s.dev.get 0x6014 1 = 1 → s.dev.pinsLive = true → s.dev.options.pinEnable.testBit 1 = true → s.dev.time.ppsOutHigh = false →
    Does .ppsOutEdge s (fun d => { d with time := { d.time with ppsOutHigh := true } }.emit (.ppsOut true)))
  ∧ (∀ (s : State), (s.dev.flag 0x6014 1 = false ∨ s.dev.pinsLive = false ∨ s.dev.options.pinEnable.testBit 1 = false ∨ s.dev.time.ppsOutHigh = true) →
    Does .ppsOutEdge s id)
  ∧ (∀ (s : State), s.dev.time.ppsOutHigh = true →
    Does .ppsOutFall s (fun d => { d with time := { d.time with ppsOutHigh := false } }.emit (.ppsOut false)))
  ∧ (∀ (s : State), s.dev.time.ppsOutHigh = false → Does .ppsOutFall s id)

/-- DIAG_START_*, DIAG_PERIODIC, DIAG_REPEAT, DIAG_ABORT, DIAG_COMMIT (R326, R329 to R332, R335, R336): a run in service starts on a link that is up, one
out of service where none is in training or up; otherwise the state refuses it, and a run in progress makes it busy; a periodic run starts only on a link
that is up and not in a relock, with no run in progress; an interfered pair of a run out of service is repeated after 0.5 ms to 2 ms, three times at most;
an abort ends the run; a commit counts it and frees the port, but not while a run in service has latched no coefficients, which it does when neither a
relock nor calibration or its ramp runs, or while calibration or its ramp runs.
SAMPLER_ARM, SAMPLER_TRIGGER, SAMPLER_TIMEOUT, SAMPLER_DONE, SAMPLER_ABORT, SAMPLER_SELECT, SAMPLER_DATA_READ (R339 to R343): a good arm arms, or triggers
at once with TRIGGER 0, and one is busy while a capture is armed or triggered; a condition triggers an armed capture whose TRIGGER only the environment
sees (another triggers in its own command), as does a timeout that the arm has; a trigger keeps its time and place, which the commit stores with the
samples of each selected pair, N less those that had not filled before it (log entry 93); an abort leaves no record, and none in progress alone; a
selection in a record is kept, without a record the state refuses it; a read answers the data at the selection and takes it on. A trigger, a timeout or an
end that finds no capture waiting for it changes nothing. -/
def Obligations.DiagnosisAndSampler : Prop :=
  (∀ (s : State) (r : Req) (p : Port), Ready s r (0x5C80 + p) 1 1 → (s.dev.port p).diag = none → s.dev.linkUp p = true →
    Answers (.diagStartInService r p) s r (fun d => (d.diagStart p false false).diagStale p))
  ∧ (∀ (s : State) (r : Req) (p : Port), Ready s r (0x5C80 + p) 1 1 → (s.dev.port p).diag = none → s.dev.linkUp p = false →
    Does (.diagStartInService r p) s (fun d => d.answer r .state))
  ∧ (∀ (s : State) (r : Req) (p : Port), Ready s r (0x5C80 + p) 1 2 → (s.dev.port p).diag = none → (s.dev.linkState p < 3 ∨ 8 < s.dev.linkState p) →
    Answers (.diagStartOutOfService r p) s r (fun d => (d.diagStart p true false).diagStale p))
  ∧ (∀ (s : State) (r : Req) (p : Port), Ready s r (0x5C80 + p) 1 2 → (s.dev.port p).diag = none → 3 ≤ s.dev.linkState p → s.dev.linkState p ≤ 8 →
    Does (.diagStartOutOfService r p) s (fun d => d.answer r .state))
  ∧ (∀ (s : State) (r : Req) (p : Port), Ready s r (0x5C80 + p) 1 1 → Ready s r (0x5C80 + p) 1 2 → (s.dev.port p).diag.isSome = true →
    Does (.diagStartInService r p) s (fun d => d.answer r .busy) ∧ Does (.diagStartOutOfService r p) s (fun d => d.answer r .busy))
  ∧ (∀ (s : State) (p : Port), s.dev.get (0x5C00 + p) 2 ≠ 0 → (s.dev.port p).diag = none → s.dev.linkUp p = true → s.dev.linkState p ≠ 5 →
    Does (.diagPeriodic p) s (fun d => (d.diagStart p false true).diagStale p))
  ∧ (∀ (s : State) (p : Port), (s.dev.get (0x5C00 + p) 2 = 0 ∨ (s.dev.port p).diag.isSome = true ∨ s.dev.linkUp p = false ∨ s.dev.linkState p = 5) →
    Does (.diagPeriodic p) s id)
  ∧ (∀ (s : State) (p : Port) (k : Pair) (r : DiagRun), (s.dev.port p).diag = some r → r.outOfService = true → r.repeats.get k < 3 →
    Does (.diagRepeat p k) s (fun d => (d.newDraw.onPort p (fun s => { s with diag := some { r with
      repeats := upd r.repeats k (· + 1), again := d.uptime + 500 + Config.drawBelow d.draws 1501 } })).inc 0x5F38 4))
  ∧ (∀ (s : State) (p : Port) (k : Pair), (∀ r, (s.dev.port p).diag = some r → r.outOfService = false ∨ 3 ≤ r.repeats.get k) → Does (.diagRepeat p k) s id)
  ∧ (∀ (s : State) (r : Req) (p : Port), Ready s r (0x5C80 + p) 2 1 → Answers (.diagAbort r p 1) s r (fun d => d.diagEnd p))
  ∧ (∀ (s : State) (p : Port) (m : DiagMeas) (r : DiagRun), (s.dev.port p).diag = some r →
    (r.outOfService = true ∨ (r.echo.isSome = true ∧ s.dev.calBusy p = false)) →
    Gives (.diagCommit p m) s (fun t => (t.dev.port p).diag = none ∧ t.dev.get (0x5C80 + p) 3 = 2
      ∧ t.dev.get (0x5D00 + p) 1 = (s.dev.get (0x5D00 + p) 1 + 1) % 2 ^ 32 ∧ t.dev.get (0x5D00 + p) 2 = if r.outOfService then 2 else 1))
  ∧ (∀ (s : State) (p : Port) (m : DiagMeas) (r : DiagRun), (s.dev.port p).diag = some r → r.outOfService = false →
    (r.echo = none ∨ s.dev.calBusy p = true) → Does (.diagCommit p m) s id)
  ∧ (∀ (d : Dev) (p : Port), d.calBusy p = false → d.linkState p ≠ 5 → (d.port p).diag.any (·.waits) = true → d.diagLatch p = d.echoLatch p)
  ∧ (∀ (d : Dev) (p : Port), (d.calBusy p = true ∨ d.linkState p = 5 ∨ (d.port p).diag.any (·.waits) = false) → d.diagLatch p = d)
  ∧ (∀ (s : State) (p : Port) (m : DiagMeas), (s.dev.port p).diag = none → Does (.diagCommit p m) s id)
  ∧ (∀ (s : State) (r : Req) (n : Die) (arm : Nat), Ready s r (0x5F10 + n) 1 arm → s.dev.get 0x1010 (n + 1) ≠ 4 → s.dev.armTested arm = false →
    s.dev.samplerState n ≠ 1 → s.dev.samplerState n ≠ 2 → armBad n arm = false → Answers (.samplerArm r n arm) s r (fun d =>
      let e := ((((((d.onSampler n (fun _ => { arm := arm, armedAt := d.uptime })).put (0x5F10 + n) 3 1).put (0x5F10 + n) 4 (arm / 2 ^ 32 * 2 ^ 32)).put
        (0x5F10 + n) 5 0).put (0x5F10 + n) 6 0).put (0x5F10 + n) 7 0)
      if armByte arm 3 = 0 then e.samplerTriggers n 0 0 else e))
  ∧ (∀ (s : State) (r : Req) (n : Die) (arm : Nat), Ready s r (0x5F10 + n) 1 arm → (s.dev.samplerState n = 1 ∨ s.dev.samplerState n = 2) →
    Does (.samplerArm r n arm) s (fun d => d.answer r .busy))
  ∧ (∀ (s : State) (n : Die) (pos : Nat), s.dev.samplerWaits n = true → Does (.samplerTrigger n pos) s (fun d => d.samplerTriggers n pos 1))
  ∧ (∀ (s : State) (n : Die) (pos : Nat), s.dev.samplerWaits n = false → Does (.samplerTrigger n pos) s id)
  ∧ (∀ (d : Dev) (n : Die) (pos flag : Nat), (d.samplerTriggers n pos flag).samplerState n = 2
    ∧ ((d.samplerTriggers n pos flag).sampler n).trigTime = d.now ∧ ((d.samplerTriggers n pos flag).sampler n).trigIndex = min pos (armPre (d.sampler n).arm)
    ∧ (d.samplerTriggers n pos flag).get (0x5F10 + n) 7 = flag + if pos < armPre (d.sampler n).arm then 8 else 0)
  ∧ (∀ (s : State) (n : Die) (pos : Nat), s.dev.samplerState n ≠ 1 → Does (.samplerTimeout n pos) s id)
  ∧ (∀ (s : State) (n : Die) (pos : Nat), s.dev.samplerState n = 1 →
    armByte (s.dev.sampler n).arm 10 * 256 + armByte (s.dev.sampler n).arm 11 ≠ 0 →
    Does (.samplerTimeout n pos) s (fun d => d.samplerTriggers n pos 0x20))
  ∧ (∀ (s : State) (n : Die) (pos : Nat), armByte (s.dev.sampler n).arm 10 = 0 → armByte (s.dev.sampler n).arm 11 = 0 → Does (.samplerTimeout n pos) s id)
  ∧ (∀ (s : State) (n : Die) (samples : List (Pair × List Int)) (a b c : Bool), s.dev.samplerState n = 2 →
    Gives (.samplerDone n samples a b c) s (fun t => t.dev.samplerState n = 3 ∧ (t.dev.sampler n).committed = true
      ∧ t.dev.get (0x5F10 + n) 5 = timeOctets (s.dev.sampler n).trigTime ∧ t.dev.get (0x5F10 + n) 6 = (s.dev.sampler n).trigIndex
      ∧ (t.dev.sampler n).samples.map (·.1) = armPairs (s.dev.sampler n).arm
      ∧ ∀ e ∈ (t.dev.sampler n).samples, e.2.length = (s.dev.sampler n).length))
  ∧ (∀ (s : State) (n : Die) (samples : List (Pair × List Int)) (a b c : Bool), s.dev.samplerState n ≠ 2 → Does (.samplerDone n samples a b c) s id)
  ∧ (∀ (s : State) (r : Req) (n : Die), Ready s r (0x5F10 + n) 2 1 → (s.dev.samplerState n = 1 ∨ s.dev.samplerState n = 2) →
    Answers (.samplerAbort r n 1) s r (fun d => (d.onSampler n (fun s => { s with samples := [], committed := false, select := 0 })).put (0x5F10 + n) 3 4))
  ∧ (∀ (s : State) (r : Req) (n : Die), Ready s r (0x5F10 + n) 2 1 → s.dev.samplerState n ≠ 1 → s.dev.samplerState n ≠ 2 →
    Answers (.samplerAbort r n 1) s r id)
  ∧ (∀ (s : State) (r : Req) (n : Die) (sel : Nat), Ready s r (0x5F10 + n) 8 sel → s.dev.samplerState n = 3 →
    selPair sel ∈ (armPairs (s.dev.sampler n).arm).map Fin.val → selOffset sel < armSamples (s.dev.sampler n).arm →
    Answers (.samplerSelect r n sel) s r (fun d => d.onSampler n (fun s => { s with select := selPair sel * 2 ^ 32 + selOffset sel })))
  ∧ (∀ (s : State) (r : Req) (n : Die) (sel : Nat), Ready s r (0x5F10 + n) 8 sel → s.dev.samplerState n ≠ 3 →
    Does (.samplerSelect r n sel) s (fun d => d.answer r .state))
  ∧ (∀ (s : State) (r : Req) (n : Die), s.dev.hears r.route = true → s.dev.busyIndex (0x5F10 + n) = false →
    (s.dev.modeRefuses (0x5F10 + n) = false ∨ s.dev.safe = true) →
    Does (.samplerDataRead r n) s (fun d => ((d.samplerAdvance n).answer r .ok).emit (.data r (d.samplerData n))))

/-- TLM_BLOCK_END, TSYNC_EDGE, TLM_SYNC, TLM_SYNC_APPLY, TLM_LATCH (R340, R347 to R351): a chain that does not run, or whose block has not ended, makes no
block; one whose block has ended publishes the last whole block of the grid that all chains share; an edge, or the command, is seen by the captures that
wait for one, and takes a sync when none came in the last 100 µs, makes one sync with the other of its window, and is else ignored and counted; at its
instant every chain restarts, and without one nothing does; a latch copies the outputs at the next sample instant (the time of an empty queue brings it:
log entries 1 and 98), and none waits before it. -/
def Obligations.TelemetryChains : Prop :=
  (∀ (s : State) (p : Port) (k : Pair) (l : List Nat), (s.dev.tlmOn p = false ∨ s.dev.tlmCount / s.dev.get 0x5F00 9 ≤ ((s.dev.port p).tlm.get k).next) →
    Does (.tlmBlockEnd p k l) s id)
  ∧ (∀ (s : State) (p : Port) (k : Pair) (l : List Nat), s.dev.tlmOn p = true → ((s.dev.port p).tlm.get k).next < s.dev.tlmCount / s.dev.get 0x5F00 9 →
    Gives (.tlmBlockEnd p k l) s (fun t => t.dev.get (0x5E00 + p) 0xD = (s.dev.tlmCount / s.dev.get 0x5F00 9 - 1) % 2 ^ 32
      ∧ ((t.dev.port p).tlm.get k).next = s.dev.tlmCount / s.dev.get 0x5F00 9))
  ∧ (∀ (d : Dev) (edge : Bool), (d.tlm.lastAt = none ∨ ∃ t, d.tlm.lastAt = some t ∧ t + 100 ≤ d.uptime) →
    d.tlmSyncAsk edge = d.samplerSync.tlmSyncTake edge (!edge))
  ∧ (∀ (d : Dev) (edge : Bool), d.tlm.lastAt = some d.uptime → (if edge then d.tlm.lastEdge else d.tlm.lastWrite) = false →
    d.tlmSyncAsk edge = (let e := d.samplerSync
      { e with tlm := { e.tlm with lastEdge := true, lastWrite := true } }))
  ∧ (∀ (d : Dev) (edge : Bool) (t : Nat), d.tlm.lastAt = some t → t ≤ d.uptime → d.uptime < t + 100 →
    (t = d.uptime → (if edge then d.tlm.lastEdge else d.tlm.lastWrite) = true) → d.tlmSyncAsk edge = (d.samplerSync.event 0x5F30 7).inc 0x5F38 6)
  ∧ (∀ (d : Dev), (∀ n, d.samplerState n ≠ 1) → d.samplerSync = d)
  ∧ (∀ (s : State) (r : Req), Ready s r 0x5F00 5 1 → Answers (.tlmSync r 1) s r (fun d => d.tlmSyncAsk false))
  ∧ (∀ (s : State), Does .tsyncEdge s (fun d => d.tlmSyncAsk true))
  ∧ (∀ (s : State) (t0 : Nat), s.dev.tlm.syncAt = some t0 → Gives .tlmSyncApply s (fun t =>
      t.dev.get 0x5F00 6 = timeOctets t0 ∧ t.dev.tlm.syncAt = none ∧ ∀ (p : Port) (k : Pair),
        (t.dev.port p).tlm.get k = { settle := s.dev.uptime, looks := ((s.dev.port p).tlm.get k).looks }))
  ∧ (∀ (s : State), s.dev.tlm.syncAt = none → Does .tlmSyncApply s id)
  ∧ (∀ (s : State) (r : Req), Ready s r 0x5F00 7 1 → Answers (.tlmLatch r 1) s r (fun d => { d with tlm := { d.tlm with latchAt := some d.tlmCount } }))
  ∧ (∀ (d : Dev) (k : Nat), d.tlm.latchAt = some k → k < d.tlmCount → d.tlmLatches.tlm.latchAt = none
    ∧ ∀ (p : Port) (i : Fin 14), d.tlmLatches.get (0x5E00 + p) (0x81 + i) = d.get (0x5E00 + p) (1 + i))
  ∧ (∀ (d : Dev), (∀ k ∈ d.tlm.latchAt, d.tlmCount ≤ k) → d.tlmLatches = d)

/-- CAL_START, CAL_ROUND, CAL_TIMEOUT, CAL_COMMIT, CAL_ABORT (R353, R354, R356 to R358): a run that its pre-check allows begins, one that it does not is
refused with its code, and one is busy while the port has a run or its die has four; a round whose check fails ends the run, any other joins the last
eight, and once eight differ by no more than a unit (log entry 112) the run goes on to storing; a timeout, an abort and a write that does not verify end
the run without a result; a good write stores its record. Outside their state rounds, timeouts and writes change nothing.
CAL_SLOT_USE_WRITE, TRIM_RAMP_END, CAL_TRACKING, CAL_AUTO_TIMER, CAL_AUTO_RETRY, TEMPER_SELECT (R359, R360, R363, R365, R368, R369): a write that leaves
the slot in use is stored, and one that changes it requests the trims of all four pairs and is recorded; the end of a ramp starts the request that waits;
every 10 ms the temperatures and the trims of every pair follow; an automatic request starts, waits behind four runs or a lower port, is refused and tried
again, or lapses; only one that waits is tried again; a good selection of a record is kept, one of a slot that is not valid is refused. -/
def Obligations.CalibrationRuns : Prop :=
  (∀ (s : State) (r : Req) (p : Port) (v : Nat) (m : CalMeas), Ready s r (0x5800 + p) 1 v → (s.dev.port p).cal = none → s.dev.calRuns p < 4 →
    s.dev.get (0x5800 + p) 6 ≠ 1 → field v 8 5 ≠ 0 → field v 0 4 ≠ 0 → s.dev.calCheck p (field v 8 5) (field v 0 4) m = 0 →
    Answers (.calStart r p v m) s r (fun d => d.calBegin p (field v 8 5) (field v 0 4) false))
  ∧ (∀ (s : State) (r : Req) (p : Port) (v : Nat) (m : CalMeas), Ready s r (0x5800 + p) 1 v → (s.dev.port p).cal = none → s.dev.calRuns p < 4 →
    s.dev.get (0x5800 + p) 6 ≠ 1 → s.dev.calCheck p (field v 8 5) (field v 0 4) m ≠ 0 →
    Does (.calStart r p v m) s (fun d => (d.calRefuse p (d.calCheck p (field v 8 5) (field v 0 4) m)).answer r .state))
  ∧ (∀ (s : State) (r : Req) (p : Port) (v : Nat) (m : CalMeas), Ready s r (0x5800 + p) 1 v → ((s.dev.port p).cal.isSome = true ∨ 4 ≤ s.dev.calRuns p) →
    Does (.calStart r p v m) s (fun d => d.answer r .busy))
  ∧ (∀ (s : State) (p : Port) (m : CalMeas) (c : CalRun), (s.dev.port p).cal = some c → c.storing = false →
    s.dev.calCheck p c.classes c.pairMask m ≠ 0 → Does (.calRound p m) s (fun d => d.calFails p (d.calCheck p c.classes c.pairMask m)))
  ∧ (∀ (s : State) (p : Port) (m : CalMeas) (c : CalRun), (s.dev.port p).cal = some c → c.storing = false →
    s.dev.calCheck p c.classes c.pairMask m = 0 → Does (.calRound p m) s (fun d =>
      let rounds := (m.estimate :: c.rounds).take 8
      (d.onPort p (fun s => { s with cal := some { c with rounds := rounds, storing := settledBy c.classes (pairsOf c.pairMask) rounds } })).calState p))
  ∧ (∀ (classes : Nat) (ps : List Pair) (rounds : List (Vector (List Int) 4)), settledBy classes ps rounds = true ↔
    8 ≤ rounds.length ∧ ∀ k ∈ ps, ∀ i < 57, classes.testBit (trimClass i) = true → ∀ a ∈ rounds, ∀ b ∈ rounds,
      ((a.get k).getD i 0 - (b.get k).getD i 0).natAbs ≤ 1)
  ∧ (∀ (s : State) (p : Port) (m : CalMeas), (∀ c ∈ (s.dev.port p).cal, c.storing = true) →
    Does (.calRound p m) s id ∧ Does (.calTimeout p) s id)
  ∧ (∀ (s : State) (p : Port) (c : CalRun), (s.dev.port p).cal = some c → c.storing = false → Does (.calTimeout p) s (fun d => d.calEnd p 2))
  ∧ (∀ (s : State) (p : Port) (c : CalRun), (s.dev.port p).cal = some c → c.storing = true →
    Does (.calCommit p true) s (fun d => d.calStore p c) ∧ Does (.calCommit p false) s (fun d => d.calEnd p 6))
  ∧ (∀ (s : State) (p : Port) (ok : Bool), (∀ c ∈ (s.dev.port p).cal, c.storing = false) → Does (.calCommit p ok) s id)
  ∧ (∀ (s : State) (r : Req) (p : Port), Ready s r (0x5800 + p) 2 1 → Answers (.calAbort r p 1) s r (fun d => d.calEnd p 5))
  ∧ (∀ (s : State) (r : Req) (p : Port) (v : Nat), Writable s r (0x5800 + p) 6 v → s.dev.slotChanges p v = false →
    (v ≠ 1 ∨ ((s.dev.port p).cal = none ∧ (s.dev.slotFor p 1).isSome = true)) → Answers (.calSlotUseWrite r p v) s r (fun d => d.stored (0x5800 + p) 6 v))
  ∧ (∀ (s : State) (r : Req) (p : Port) (v : Nat), Writable s r (0x5800 + p) 6 v → s.dev.slotChanges p v = true → s.dev.stagingFull = false →
    (v ≠ 1 ∨ ((s.dev.port p).cal = none ∧ (s.dev.slotFor p 1).isSome = true)) → Answers (.calSlotUseWrite r p v) s r (fun d =>
      let e := ((d.stored (0x5800 + p) 6 v).put (0x5880 + p) 5 ((d.slotFor p v).getD 0).val).onHall (fun h => { h with reserved := h.reserved + 1 })
      ((forAll 4 (fun k d => d.trimRequest p k (d.trimsNow p k)) e).onHall (fun h => { h with reserved := h.reserved - 1 })).touch 0x0014
        (bytesOf 1 p.val ++ bytesOf 1 0xFF ++ bytesOf 1 0)))
  ∧ (∀ (s : State) (r : Req) (p : Port), Writable s r (0x5800 + p) 6 1 → (s.dev.port p).cal.isSome = true →
    Does (.calSlotUseWrite r p 1) s (fun d => d.answer r .busy))
  ∧ (∀ (s : State) (p : Port) (k : Pair), Does (.trimRampEnd p k) s (fun d => d.trimEnd p k))
  ∧ (∀ (s : State) (temps : Vector Int 9), Does (.calTracking temps) s (fun d =>
      (forAll 9 (fun i d => d.put 0x5A10 (1 + i) (unsigned 16 (temps.get i))) d).eachPort (fun p d => forAll 4 (fun k d => d.trackPair p k) d)))
  ∧ (∀ (s : State) (p : Port) (m : CalMeas), Does (.calAutoTimer p m) s (fun d => d.calAuto p m))
  ∧ (∀ (s : State) (p : Port) (m : CalMeas), (s.dev.port p).calAsked ≠ 0 → Does (.calAutoRetry p m) s (fun d => d.calAuto p m))
  ∧ (∀ (s : State) (p : Port) (m : CalMeas), (s.dev.port p).calAsked = 0 → Does (.calAutoRetry p m) s id)
  ∧ (∀ (d : Dev) (p : Port) (m : CalMeas), (d.get (0x5800 + p) 3 = 0 ∨ d.get (0x5800 + p) 6 = 1 ∨ (d.port p).cal.isSome = true ∨ (d.port p).tested = true) →
    d.calAuto p m = d.onPort p (fun s => { s with calAsked := 0 }))
  ∧ (∀ (d : Dev) (p : Port) (m : CalMeas), d.get (0x5800 + p) 3 ≠ 0 → d.get (0x5800 + p) 6 ≠ 1 → (d.port p).cal = none →
    (d.port p).tested = false →
    (4 ≤ d.calRuns p ∨ ∃ k : Fin 16, k.val < localOf p ∧ (d.port (portAt (dieOf p) k)).calAsked = 1) →
    d.calAuto p m = d.onPort p (fun s => { s with calAsked := 1 }))
  ∧ (∀ (d : Dev) (p : Port) (m : CalMeas), d.get (0x5800 + p) 3 ≠ 0 → d.get (0x5800 + p) 6 ≠ 1 → (d.port p).cal = none →
    (d.port p).tested = false → d.calRuns p < 4 →
    (∀ k : Fin 16, k.val < localOf p → (d.port (portAt (dieOf p) k)).calAsked ≠ 1) → d.calAuto p m =
    if d.calCheck p (d.autoClasses p) 0xF m ≠ 0 then (d.onPort p (fun s => { s with calAsked := 2 })).calRefuse p (d.calCheck p (d.autoClasses p) 0xF m)
    else if d.autoClasses p = 0 then d.onPort p (fun s => { s with calAsked := 0 }) else d.calBegin p (d.autoClasses p) 0xF true)
  ∧ (∀ (s : State) (r : Req) (v : Nat), Ready s r 0x5A00 1 v → temperBad v = false → s.dev.temperInvalid v = false →
    Answers (.temperSelect r v) s r (fun d => { d with temperSelect := some v }))
  ∧ (∀ (s : State) (r : Req) (v : Nat), Ready s r 0x5A00 1 v → s.dev.temperInvalid v = true → Does (.temperSelect r v) s (fun d => d.answer r .state))

/-! ## Faults, injection, Assay and pins -/

/-- FAULT_EVENT, REACTION_END, SETTLE_END, FAULT_FIRST_REARM, MODULE_FIRST_REARM (R399 to R403, R408, R409): what a detector that a block has reports is
reported, and nothing else is (log entry 72); the end of the reaction of a SEVERE block sets it to settle, which is sent up; the end of its settle time
makes a settling block NORMAL with an empty window; in another state they change nothing; a rearmed record holds nothing, and there is none without a block.
What a detector's event makes of its block (R400, R401, R403, R407): a consequence of a block that masks it changes no state; a FATAL kind makes a block
that is not FATAL so; a SEVERE kind makes a block that is NORMAL or settling SEVERE, or brings the last resort; an escalating kind is counted in the window
of a NORMAL block, and makes it SEVERE or brings the last resort when the window is full; a MINOR kind that does not escalate changes no state. By its
verdict the block's state changes, the report goes up, and the reaction or the safe state follows, and after a lane's the link is lost when fewer than two
lanes of its direction are left (R288). -/
def Obligations.FaultLife : Prop :=
  (∀ (s : State) (ev : FaultEvent) (b : Block), block? ev.source = some b → canReport b ev.kind = true → Does (.faultEvent ev) s (fun d => d.report ev))
  ∧ (∀ (s : State) (ev : FaultEvent), (∀ b, block? ev.source = some b → canReport b ev.kind = false) → Does (.faultEvent ev) s id)
  ∧ (∀ (s : State) (src : Nat), s.dev.faultState src = 3 → Does (.reactionEnd src) s (fun d =>
      ((d.setFault src 1).sendUp { ev := { source := src, kind := 0 }, verdict := .reactionDone }).inbandWake))
  ∧ (∀ (s : State) (src : Nat), s.dev.faultState src ≠ 3 → Does (.reactionEnd src) s id)
  ∧ (∀ (s : State) (src : Nat), s.dev.faultState src = 1 → src < 969 → Gives (.settleEnd src) s (fun t =>
      t.dev.faultState src = 0 ∧ (t.dev.faultSt src).window = []))
  ∧ (∀ (s : State) (src : Nat), s.dev.faultState src ≠ 1 → Does (.settleEnd src) s id)
  ∧ (∀ (s : State) (r : Req) (src : Nat), Ready s r (0x1C00 + src) 9 1 → (block? src).isSome = true →
    Answers (.faultFirstRearm r src 1) s r (fun d => d.put (0x1C00 + src) 7 0))
  ∧ (∀ (s : State) (r : Req) (src v : Nat), s.dev.hears r.route = true → s.dev.lostRequest (0x1C00 + src) = false → block? src = none →
    Does (.faultFirstRearm r src v) s (fun d => d.answer r .index))
  ∧ (∀ (s : State) (r : Req), Ready s r 0x1FE0 3 1 → Answers (.moduleFirstRearm r 1) s r (fun d => d.put 0x1FE0 2 0))
  ∧ (∀ (d : Dev) (b : Block) (ev : FaultEvent) (c : Nat), d.maskedBy ev = some c → d.judge b ev = (.consequent c, d))
  ∧ (∀ (d : Dev) (b : Block) (ev : FaultEvent), d.maskedBy ev = none → baseSeverity ev.kind = 4 → d.faultState ev.source ≠ 4 → d.judge b ev = (.fatal, d))
  ∧ (∀ (d : Dev) (b : Block) (ev : FaultEvent), d.maskedBy ev = none → baseSeverity ev.kind = 3 → (d.faultState ev.source = 0 ∨ d.faultState ev.source = 1) →
    ((d.judge b ev).1 = .severe ∨ (d.judge b ev).1 = .lastResort) ∧ (d.judge b ev).2.objs = d.objs)
  ∧ (∀ (d : Dev) (b : Block) (ev : FaultEvent), ev.source < 969 → d.maskedBy ev = none → baseSeverity ev.kind < 3 → escalates b ev.kind = true →
    d.faultState ev.source = 0 →
    (recent d.uptime (d.escalation b).2.1 ((d.faultSt ev.source).window ++ [d.uptime])).length < (d.escalation b).1 →
    (d.judge b ev).1 = .plain ∧ ((d.judge b ev).2.faultSt ev.source).window =
      recent d.uptime (d.escalation b).2.1 ((d.faultSt ev.source).window ++ [d.uptime]))
  ∧ (∀ (d : Dev) (b : Block) (ev : FaultEvent), d.maskedBy ev = none → baseSeverity ev.kind < 3 → escalates b ev.kind = true →
    d.faultState ev.source = 0 →
    (d.escalation b).1 ≤ (recent d.uptime (d.escalation b).2.1 ((d.faultSt ev.source).window ++ [d.uptime])).length →
    (d.judge b ev).1 = .severe ∨ (d.judge b ev).1 = .lastResort)
  ∧ (∀ (d : Dev) (b : Block) (ev : FaultEvent), d.maskedBy ev = none → baseSeverity ev.kind < 3 → escalates b ev.kind = false → d.judge b ev = (.plain, d))
  ∧ (∀ (s : State) (ev : FaultEvent) (b : Block) (v : Verdict) (e : Dev), block? ev.source = some b → canReport b ev.kind = true →
    (s.dev.eventUp b ev).judge b ev = (v, e) →
    (v = .severe → Does (.faultEvent ev) s (fun _ => ((((e.setFault ev.source 3).sendUp { ev := ev, verdict := v }).react ev.source b).lanesLeft ev.source).inbandWake))
    ∧ (v = .lastResort → Does (.faultEvent ev) s (fun _ => ((((e.setFault ev.source 5).sendUp { ev := ev, verdict := v }).safeState b).lanesLeft ev.source).inbandWake))
    ∧ (v = .fatal → Does (.faultEvent ev) s (fun _ => ((((e.setFault ev.source 4).sendUp { ev := ev, verdict := v }).safeState b).lanesLeft ev.source).inbandWake))
    ∧ (v = .plain → Does (.faultEvent ev) s (fun _ => (((e.sendUp { ev := ev, verdict := v }).coefficientsBad b ev.kind).lanesLeft ev.source).inbandWake)))
  ∧ (∀ (d : Dev) (src : Nat) (n : Die) (w : Way) (l : Fin 34), block? src = some (.lane n w l) → d.lanesLeft src = d.fewLanes n w)
  ∧ (∀ (d : Dev) (src : Nat), (∀ n w l, block? src ≠ some (.lane n w l)) → d.lanesLeft src = d)

/-- MC_TASK_LATE, ALIVE_TICK, INJECT, INJECT_CHECK, INJECT_CANCEL (R411 to R413): a late task of a running controller is kind 13 against it; ALIVE toggles
while the device is served and not in its safe state; an injection names a checker that its target has and a count, is recorded, is counted at each check
that comes SPACING after the last, and ends with its count; it is refused without the session that its life-cycle state asks for, while its target is held
or one is pending, in RETIRED, in DEPLOYED without the service flag, and for another checker; without one a check does nothing; a cancel ends it.
SLED_FRAME, TAP_INSTRUCTION (R395, R427, R461): an LED frame is shifted out where its pins have their functions, and none elsewhere; IDCODE shows its code,
the other public instructions of the test access port change nothing, and a private code is BYPASS except in MANUFACTURE and RETURNED, where the spec does
not say what it does and the model refuses it (log entry 75). -/
def Obligations.SupervisionAndPins : Prop :=
  (∀ (s : State), s.dev.controllerRuns = true → Does .mcTaskLate s (fun d => d.report { source := srcController, kind := 13 }))
  ∧ (∀ (s : State), s.dev.controllerRuns = false → Does .mcTaskLate s id)
  ∧ (∀ (s : State), s.dev.mgmt.serving = true → s.dev.mgmt.romServes = false → s.dev.safe = false →
    Does .aliveTick s (fun d => { d with pins := { d.pins with alive := !d.pins.alive, aliveDriven := true } }))
  ∧ (∀ (s : State), (s.dev.mgmt.serving = false ∨ s.dev.mgmt.romServes = true ∨ s.dev.safe = true) → Does .aliveTick s id)
  ∧ (∀ (s : State) (r : Req) (src kind count spacing : Nat) (b : Block), Ready s r 0x1FF8 1 0 → s.dev.injectAuth r s.vault.lifecycle = false →
    src < 65536 → kind < 256 → count < 256 → spacing < 65536 → block? src = some b → s.dev.programHolds b = false → s.dev.injection = none → s.dev.stagingFull = false →
    s.vault.lifecycle ≠ 5 → (s.vault.lifecycle ≠ 3 ∨ s.dev.hall.serviceUntil.isSome = true) → hasChecker b kind = true → 0 < count →
    Answers (.inject r src kind count spacing) s r (fun d =>
      (({ d with injection := some { source := src, kind := kind, left := count, spacing := spacing } }.put 0x1FF8 2 1).touch 0x0050
        (bytesOf 2 src ++ bytesOf 2 kind ++ d.keyIdOf r)).injectTarget src))
  ∧ (∀ (s : State) (r : Req) (src kind count spacing : Nat), Ready s r 0x1FF8 1 0 → s.dev.injectAuth r s.vault.lifecycle = true →
    Does (.inject r src kind count spacing) s (fun d => (d.inc 0x1404 3).answer r .auth))
  ∧ (∀ (s : State) (r : Req) (src kind count spacing : Nat), Ready s r 0x1FF8 1 0 → s.dev.injectAuth r s.vault.lifecycle = false → src < 65536 →
    ((∃ b, block? src = some b ∧ s.dev.programHolds b = true) ∨ s.dev.injection.isSome = true ∨ s.dev.stagingFull = true) →
    Does (.inject r src kind count spacing) s (fun d => d.answer r .busy))
  ∧ (∀ (s : State) (r : Req) (src kind count spacing : Nat), Ready s r 0x1FF8 1 0 → s.dev.injectAuth r s.vault.lifecycle = false → src < 65536 →
    (∀ b, block? src = some b → s.dev.programHolds b = false) → s.dev.injection = none → s.dev.stagingFull = false →
    (s.vault.lifecycle = 5 ∨ s.vault.lifecycle = 3 ∧ s.dev.hall.serviceUntil = none) → Does (.inject r src kind count spacing) s (fun d => d.answer r .state))
  ∧ (∀ (s : State) (r : Req) (src kind count spacing : Nat), Ready s r 0x1FF8 1 0 → s.dev.injectAuth r s.vault.lifecycle = false → src < 65536 → kind < 256 →
    (∀ b, block? src = some b → s.dev.programHolds b = false) → s.dev.injection = none → s.dev.stagingFull = false →
    s.vault.lifecycle ≠ 5 → (s.vault.lifecycle ≠ 3 ∨ s.dev.hall.serviceUntil.isSome = true) → (∀ b, block? src = some b → hasChecker b kind = false) →
    Does (.inject r src kind count spacing) s (fun d => d.answer r .range))
  ∧ (∀ (s : State) (detail : Nat) (i : Injection), s.dev.injection = some i → (∀ t, i.last = some t → t + i.spacing ≤ s.dev.uptime) → i.left ≤ 1 →
    Does (.injectCheck detail) s (fun d =>
      ({ d.inc 0x1FF8 4 with injection := none }.put 0x1FF8 2 0).report { source := i.source, kind := i.kind, detail := detail, injected := true }))
  ∧ (∀ (s : State) (detail : Nat) (i : Injection), s.dev.injection = some i → (∀ t, i.last = some t → t + i.spacing ≤ s.dev.uptime) → 1 < i.left →
    Does (.injectCheck detail) s (fun d =>
      { d.inc 0x1FF8 4 with injection := some { i with left := i.left - 1, last := some d.uptime } }.report
        { source := i.source, kind := i.kind, detail := detail, injected := true }))
  ∧ (∀ (s : State) (detail t : Nat) (i : Injection), s.dev.injection = some i → i.last = some t → s.dev.uptime < t + i.spacing → Does (.injectCheck detail) s id)
  ∧ (∀ (s : State) (detail : Nat), s.dev.injection = none → Does (.injectCheck detail) s id)
  ∧ (∀ (s : State) (r : Req), Ready s r 0x1FF8 3 1 → s.dev.injectAuth r s.vault.lifecycle = false → s.vault.lifecycle ≠ 5 →
    Answers (.injectCancel r 1) s r (fun d => { d with injection := none }.put 0x1FF8 2 0))
  ∧ (∀ (s : State), s.dev.pinsLive = true → s.dev.options.pinEnable.testBit 0 = true →
    Does .sledFrame s (fun d => { d with pins := { d.pins with sledLast := d.sledBits } }.emit (.sled d.sledBits)))
  ∧ (∀ (s : State), (s.dev.pinsLive = false ∨ s.dev.options.pinEnable.testBit 0 = false) → Does .sledFrame s id)
  ∧ (∀ (s : State), Does (.tapInstruction .idcode) s (fun d => d.emit (.tdo 0x12800C6B)) ∧ Does (.tapInstruction .bypass) s id ∧ Does (.tapInstruction .samplePreload) s id
    ∧ Does (.tapInstruction .extest) s id ∧ Does (.tapInstruction .extestPulse) s id ∧ Does (.tapInstruction .extestTrain) s id
    ∧ Does (.tapInstruction .clamp) s id ∧ Does (.tapInstruction .highz) s id)
  ∧ (∀ (s : State) (code : Nat), s.vault.lifecycle ≠ 1 → s.vault.lifecycle ≠ 4 → Does (.tapInstruction (.vendor code)) s id)
  ∧ (∀ (s : State) (code : Nat), s.vault.lifecycle = 1 ∨ s.vault.lifecycle = 4 → exec (.tapInstruction (.vendor code)) s = .refused .privateTapInstruction)

/-- ASSAY_RUN, ASSAY_COMMIT, ASSAY_ABORT, SHUTDOWN (R414 to R420): a program that nothing forbids runs on its engines; it is refused without the session
that it needs, while its target is held or firmware activates, where the state forbids it, and for fields out of range; its end commits a record PASS, FAIL
or INCOMPLETE, and a store that was not restored is invalid; an end without a program changes nothing; an abort ends the programs it names; a shutdown that
nothing forbids starts SHUTDOWN on all nine engines, and is busy while a program runs. -/
def Obligations.AssayPrograms : Prop :=
  (∀ (s : State) (r : Req) (program target : Nat), Ready s r 0x6800 2 0 → s.dev.assayAuth r s.vault.lifecycle = false → s.dev.targetHeld program target = false →
    s.dev.activating = false → s.dev.runForbidden s.vault.lifecycle program target = false → runBad program target = false →
    Answers (.assayRun r program target) s r (fun d => (programEngines program target).foldl (fun d n => d.engineStart program target n) d))
  ∧ (∀ (s : State) (r : Req) (program target : Nat), Ready s r 0x6800 2 0 → s.dev.assayAuth r s.vault.lifecycle = true →
    Does (.assayRun r program target) s (fun d => (d.inc 0x1404 3).answer r .auth))
  ∧ (∀ (s : State) (r : Req) (program target : Nat), Ready s r 0x6800 2 0 → s.dev.assayAuth r s.vault.lifecycle = false → program < 256 → target < 256 →
    (s.dev.targetHeld program target = true ∨ s.dev.activating = true) → Does (.assayRun r program target) s (fun d => d.answer r .busy))
  ∧ (∀ (s : State) (r : Req) (program target : Nat), Ready s r 0x6800 2 0 → s.dev.assayAuth r s.vault.lifecycle = false → program < 256 → target < 256 →
    s.dev.targetHeld program target = false → s.dev.activating = false → s.dev.runForbidden s.vault.lifecycle program target = true →
    Does (.assayRun r program target) s (fun d => d.answer r .state))
  ∧ (∀ (s : State) (r : Req) (program target : Nat), Ready s r 0x6800 2 0 → s.dev.assayAuth r s.vault.lifecycle = false → program < 256 → target < 256 →
    s.dev.targetHeld program target = false → s.dev.activating = false → s.dev.runForbidden s.vault.lifecycle program target = false →
    runBad program target = true → Does (.assayRun r program target) s (fun d => d.answer r .range))
  ∧ (∀ (s : State) (n : DieId) (res : AssayResult) (program target : Nat), (s.dev.engineOf n).program = some (program, target) →
    Does (.assayCommit n res) s (fun d =>
      let e := d.onAssay n (fun e => { e with
        last := some (d.assayRecord program res), shutdown := if program = 1 then some (d.assayRecord program res) else e.shutdown })
      (match lineDie? n with
        | some m => if res.restored then e else e.storeInvalid m
        | none => e).engineEnd n 2))
  ∧ (∀ (s : State) (n : DieId) (res : AssayResult), (s.dev.engineOf n).program = none → Does (.assayCommit n res) s id)
  ∧ (∀ (r : AssayResult), (r.count < r.length → assayResult r = 3) ∧ (r.length ≤ r.count → r.got = r.expected → assayResult r = 1)
    ∧ (r.length ≤ r.count → r.got ≠ r.expected → assayResult r = 2))
  ∧ (∀ (s : State) (r : Req) (n : DieId), Ready s r 0x6800 3 n → s.dev.assayAuth r s.vault.lifecycle = false →
    Answers (.assayAbort r n) s r (fun d => d.engineEnd n 3))
  ∧ (∀ (s : State) (r : Req), Ready s r 0x6800 3 0xFF → s.dev.assayAuth r s.vault.lifecycle = false →
    Answers (.assayAbort r 0xFF) s r (fun d => (allFin 9).foldl (fun d n => d.engineEnd n 3) d))
  ∧ (∀ (s : State) (r : Req), Ready s r 0x6800 1 1 → s.dev.assayAuth r s.vault.lifecycle = false → (∀ n : DieId, (s.dev.assay.get n).program = none) →
    s.dev.activating = false → s.vault.lifecycle ≠ 5 → s.dev.get 0x6800 5 ≠ 2 → Answers (.shutdown r 1) s r (fun d =>
      let d := (d.put 0x6800 5 1).eachPort (fun p d => if d.linkState p = 10 then d else ((((d.calEnd p 5).portOut p).discardAll p 1).laneOff p).setLinkState p 0)
      (allFin 9).foldl (fun d n => d.engineStart 1 0 n) (d.onHall (fun h => h.askSign (.touch false)))))
  ∧ (∀ (s : State) (r : Req), Ready s r 0x6800 1 1 → s.dev.assayAuth r s.vault.lifecycle = false →
    ((∃ n : DieId, (s.dev.assay.get n).program.isSome = true) ∨ s.dev.activating = true) → Does (.shutdown r 1) s (fun d => d.answer r .busy))
end

