-- ==== Sys2Proof/Laws/State.lean ====
section
/-! SUPPORT. What each basic update leaves alone, one lemma for each field of the device, and what a read gives after a store. -/

namespace Sys2Proof.Machine

/-! ## The two parts of the state, and the queue -/

@[simp] theorem State.onDev_vault (s : State) (f : Dev → Dev) : (s.onDev f).vault = s.vault := rfl
@[simp] theorem State.onDev_dev (s : State) (f : Dev → Dev) : (s.onDev f).dev = f s.dev := rfl
@[simp] theorem State.onDev_pending (s : State) (f : Dev → Dev) : (s.onDev f).pending = s.pending := rfl

/-! ## `Dev.put` -/

@[simp] theorem Dev.put_warmCount (d : Dev) (i s v : Nat) : (d.put i s v).warmCount = d.warmCount := rfl
@[simp] theorem Dev.put_uptime (d : Dev) (i s v : Nat) : (d.put i s v).uptime = d.uptime := rfl
@[simp] theorem Dev.put_draws (d : Dev) (i s v : Nat) : (d.put i s v).draws = d.draws := rfl
@[simp] theorem Dev.put_life (d : Dev) (i s v : Nat) : (d.put i s v).life = d.life := rfl
@[simp] theorem Dev.put_safe (d : Dev) (i s v : Nat) : (d.put i s v).safe = d.safe := rfl
@[simp] theorem Dev.put_fieldValid (d : Dev) (i s v : Nat) : (d.put i s v).fieldValid = d.fieldValid := rfl
@[simp] theorem Dev.put_time (d : Dev) (i s v : Nat) : (d.put i s v).time = d.time := rfl
@[simp] theorem Dev.put_mgmt (d : Dev) (i s v : Nat) : (d.put i s v).mgmt = d.mgmt := rfl
@[simp] theorem Dev.put_hall (d : Dev) (i s v : Nat) : (d.put i s v).hall = d.hall := rfl
@[simp] theorem Dev.put_ports (d : Dev) (i s v : Nat) : (d.put i s v).ports = d.ports := rfl
@[simp] theorem Dev.put_dies (d : Dev) (i s v : Nat) : (d.put i s v).dies = d.dies := rfl
@[simp] theorem Dev.put_clocks (d : Dev) (i s v : Nat) : (d.put i s v).clocks = d.clocks := rfl
@[simp] theorem Dev.put_options (d : Dev) (i s v : Nat) : (d.put i s v).options = d.options := rfl
@[simp] theorem Dev.put_nv (d : Dev) (i s v : Nat) : (d.put i s v).nv = d.nv := rfl
@[simp] theorem Dev.put_pace (d : Dev) (i s v : Nat) : (d.put i s v).pace = d.pace := rfl
@[simp] theorem Dev.put_faults (d : Dev) (i s v : Nat) : (d.put i s v).faults = d.faults := rfl
@[simp] theorem Dev.put_blockReset (d : Dev) (i s v : Nat) : (d.put i s v).blockReset = d.blockReset := rfl
@[simp] theorem Dev.put_injection (d : Dev) (i s v : Nat) : (d.put i s v).injection = d.injection := rfl
@[simp] theorem Dev.put_firstAt (d : Dev) (i s v : Nat) : (d.put i s v).firstAt = d.firstAt := rfl
@[simp] theorem Dev.put_assay (d : Dev) (i s v : Nat) : (d.put i s v).assay = d.assay := rfl
@[simp] theorem Dev.put_samplers (d : Dev) (i s v : Nat) : (d.put i s v).samplers = d.samplers := rfl
@[simp] theorem Dev.put_tlm (d : Dev) (i s v : Nat) : (d.put i s v).tlm = d.tlm := rfl
@[simp] theorem Dev.put_temperSelect (d : Dev) (i s v : Nat) : (d.put i s v).temperSelect = d.temperSelect := rfl
@[simp] theorem Dev.put_pps (d : Dev) (i s v : Nat) : (d.put i s v).pps = d.pps := rfl
@[simp] theorem Dev.put_pins (d : Dev) (i s v : Nat) : (d.put i s v).pins = d.pins := rfl
@[simp] theorem Dev.put_out (d : Dev) (i s v : Nat) : (d.put i s v).out = d.out := rfl
@[simp] theorem Dev.put_port (d : Dev) (i s v : Nat) (q : Port) : (d.put i s v).port q = d.port q := rfl

/-! ## `Dev.count` -/

@[simp] theorem Dev.count_warmCount (d : Dev) (i s n : Nat) : (d.count i s n).warmCount = d.warmCount := rfl
@[simp] theorem Dev.count_uptime (d : Dev) (i s n : Nat) : (d.count i s n).uptime = d.uptime := rfl
@[simp] theorem Dev.count_draws (d : Dev) (i s n : Nat) : (d.count i s n).draws = d.draws := rfl
@[simp] theorem Dev.count_life (d : Dev) (i s n : Nat) : (d.count i s n).life = d.life := rfl
@[simp] theorem Dev.count_safe (d : Dev) (i s n : Nat) : (d.count i s n).safe = d.safe := rfl
@[simp] theorem Dev.count_fieldValid (d : Dev) (i s n : Nat) : (d.count i s n).fieldValid = d.fieldValid := rfl
@[simp] theorem Dev.count_time (d : Dev) (i s n : Nat) : (d.count i s n).time = d.time := rfl
@[simp] theorem Dev.count_mgmt (d : Dev) (i s n : Nat) : (d.count i s n).mgmt = d.mgmt := rfl
@[simp] theorem Dev.count_hall (d : Dev) (i s n : Nat) : (d.count i s n).hall = d.hall := rfl
@[simp] theorem Dev.count_ports (d : Dev) (i s n : Nat) : (d.count i s n).ports = d.ports := rfl
@[simp] theorem Dev.count_dies (d : Dev) (i s n : Nat) : (d.count i s n).dies = d.dies := rfl
@[simp] theorem Dev.count_clocks (d : Dev) (i s n : Nat) : (d.count i s n).clocks = d.clocks := rfl
@[simp] theorem Dev.count_options (d : Dev) (i s n : Nat) : (d.count i s n).options = d.options := rfl
@[simp] theorem Dev.count_nv (d : Dev) (i s n : Nat) : (d.count i s n).nv = d.nv := rfl
@[simp] theorem Dev.count_pace (d : Dev) (i s n : Nat) : (d.count i s n).pace = d.pace := rfl
@[simp] theorem Dev.count_faults (d : Dev) (i s n : Nat) : (d.count i s n).faults = d.faults := rfl
@[simp] theorem Dev.count_blockReset (d : Dev) (i s n : Nat) : (d.count i s n).blockReset = d.blockReset := rfl
@[simp] theorem Dev.count_injection (d : Dev) (i s n : Nat) : (d.count i s n).injection = d.injection := rfl
@[simp] theorem Dev.count_firstAt (d : Dev) (i s n : Nat) : (d.count i s n).firstAt = d.firstAt := rfl
@[simp] theorem Dev.count_assay (d : Dev) (i s n : Nat) : (d.count i s n).assay = d.assay := rfl
@[simp] theorem Dev.count_samplers (d : Dev) (i s n : Nat) : (d.count i s n).samplers = d.samplers := rfl
@[simp] theorem Dev.count_tlm (d : Dev) (i s n : Nat) : (d.count i s n).tlm = d.tlm := rfl
@[simp] theorem Dev.count_temperSelect (d : Dev) (i s n : Nat) : (d.count i s n).temperSelect = d.temperSelect := rfl
@[simp] theorem Dev.count_pps (d : Dev) (i s n : Nat) : (d.count i s n).pps = d.pps := rfl
@[simp] theorem Dev.count_pins (d : Dev) (i s n : Nat) : (d.count i s n).pins = d.pins := rfl
@[simp] theorem Dev.count_out (d : Dev) (i s n : Nat) : (d.count i s n).out = d.out := rfl
@[simp] theorem Dev.count_port (d : Dev) (i s n : Nat) (q : Port) : (d.count i s n).port q = d.port q := rfl

/-! ## `Dev.inc` -/

@[simp] theorem Dev.inc_warmCount (d : Dev) (i s : Nat) : (d.inc i s).warmCount = d.warmCount := rfl
@[simp] theorem Dev.inc_uptime (d : Dev) (i s : Nat) : (d.inc i s).uptime = d.uptime := rfl
@[simp] theorem Dev.inc_draws (d : Dev) (i s : Nat) : (d.inc i s).draws = d.draws := rfl
@[simp] theorem Dev.inc_life (d : Dev) (i s : Nat) : (d.inc i s).life = d.life := rfl
@[simp] theorem Dev.inc_safe (d : Dev) (i s : Nat) : (d.inc i s).safe = d.safe := rfl
@[simp] theorem Dev.inc_fieldValid (d : Dev) (i s : Nat) : (d.inc i s).fieldValid = d.fieldValid := rfl
@[simp] theorem Dev.inc_time (d : Dev) (i s : Nat) : (d.inc i s).time = d.time := rfl
@[simp] theorem Dev.inc_mgmt (d : Dev) (i s : Nat) : (d.inc i s).mgmt = d.mgmt := rfl
@[simp] theorem Dev.inc_hall (d : Dev) (i s : Nat) : (d.inc i s).hall = d.hall := rfl
@[simp] theorem Dev.inc_ports (d : Dev) (i s : Nat) : (d.inc i s).ports = d.ports := rfl
@[simp] theorem Dev.inc_dies (d : Dev) (i s : Nat) : (d.inc i s).dies = d.dies := rfl
@[simp] theorem Dev.inc_clocks (d : Dev) (i s : Nat) : (d.inc i s).clocks = d.clocks := rfl
@[simp] theorem Dev.inc_options (d : Dev) (i s : Nat) : (d.inc i s).options = d.options := rfl
@[simp] theorem Dev.inc_nv (d : Dev) (i s : Nat) : (d.inc i s).nv = d.nv := rfl
@[simp] theorem Dev.inc_pace (d : Dev) (i s : Nat) : (d.inc i s).pace = d.pace := rfl
@[simp] theorem Dev.inc_faults (d : Dev) (i s : Nat) : (d.inc i s).faults = d.faults := rfl
@[simp] theorem Dev.inc_blockReset (d : Dev) (i s : Nat) : (d.inc i s).blockReset = d.blockReset := rfl
@[simp] theorem Dev.inc_injection (d : Dev) (i s : Nat) : (d.inc i s).injection = d.injection := rfl
@[simp] theorem Dev.inc_firstAt (d : Dev) (i s : Nat) : (d.inc i s).firstAt = d.firstAt := rfl
@[simp] theorem Dev.inc_assay (d : Dev) (i s : Nat) : (d.inc i s).assay = d.assay := rfl
@[simp] theorem Dev.inc_samplers (d : Dev) (i s : Nat) : (d.inc i s).samplers = d.samplers := rfl
@[simp] theorem Dev.inc_tlm (d : Dev) (i s : Nat) : (d.inc i s).tlm = d.tlm := rfl
@[simp] theorem Dev.inc_temperSelect (d : Dev) (i s : Nat) : (d.inc i s).temperSelect = d.temperSelect := rfl
@[simp] theorem Dev.inc_pps (d : Dev) (i s : Nat) : (d.inc i s).pps = d.pps := rfl
@[simp] theorem Dev.inc_pins (d : Dev) (i s : Nat) : (d.inc i s).pins = d.pins := rfl
@[simp] theorem Dev.inc_out (d : Dev) (i s : Nat) : (d.inc i s).out = d.out := rfl
@[simp] theorem Dev.inc_port (d : Dev) (i s : Nat) (q : Port) : (d.inc i s).port q = d.port q := rfl

/-! ## `Dev.eventMask` -/

@[simp] theorem Dev.eventMask_warmCount (d : Dev) (i m : Nat) : (d.eventMask i m).warmCount = d.warmCount := rfl
@[simp] theorem Dev.eventMask_uptime (d : Dev) (i m : Nat) : (d.eventMask i m).uptime = d.uptime := rfl
@[simp] theorem Dev.eventMask_draws (d : Dev) (i m : Nat) : (d.eventMask i m).draws = d.draws := rfl
@[simp] theorem Dev.eventMask_life (d : Dev) (i m : Nat) : (d.eventMask i m).life = d.life := rfl
@[simp] theorem Dev.eventMask_safe (d : Dev) (i m : Nat) : (d.eventMask i m).safe = d.safe := rfl
@[simp] theorem Dev.eventMask_fieldValid (d : Dev) (i m : Nat) : (d.eventMask i m).fieldValid = d.fieldValid := rfl
@[simp] theorem Dev.eventMask_time (d : Dev) (i m : Nat) : (d.eventMask i m).time = d.time := rfl
@[simp] theorem Dev.eventMask_mgmt (d : Dev) (i m : Nat) : (d.eventMask i m).mgmt = d.mgmt := rfl
@[simp] theorem Dev.eventMask_hall (d : Dev) (i m : Nat) : (d.eventMask i m).hall = d.hall := rfl
@[simp] theorem Dev.eventMask_ports (d : Dev) (i m : Nat) : (d.eventMask i m).ports = d.ports := rfl
@[simp] theorem Dev.eventMask_dies (d : Dev) (i m : Nat) : (d.eventMask i m).dies = d.dies := rfl
@[simp] theorem Dev.eventMask_clocks (d : Dev) (i m : Nat) : (d.eventMask i m).clocks = d.clocks := rfl
@[simp] theorem Dev.eventMask_options (d : Dev) (i m : Nat) : (d.eventMask i m).options = d.options := rfl
@[simp] theorem Dev.eventMask_nv (d : Dev) (i m : Nat) : (d.eventMask i m).nv = d.nv := rfl
@[simp] theorem Dev.eventMask_pace (d : Dev) (i m : Nat) : (d.eventMask i m).pace = d.pace := rfl
@[simp] theorem Dev.eventMask_faults (d : Dev) (i m : Nat) : (d.eventMask i m).faults = d.faults := rfl
@[simp] theorem Dev.eventMask_blockReset (d : Dev) (i m : Nat) : (d.eventMask i m).blockReset = d.blockReset := rfl
@[simp] theorem Dev.eventMask_injection (d : Dev) (i m : Nat) : (d.eventMask i m).injection = d.injection := rfl
@[simp] theorem Dev.eventMask_firstAt (d : Dev) (i m : Nat) : (d.eventMask i m).firstAt = d.firstAt := rfl
@[simp] theorem Dev.eventMask_assay (d : Dev) (i m : Nat) : (d.eventMask i m).assay = d.assay := rfl
@[simp] theorem Dev.eventMask_samplers (d : Dev) (i m : Nat) : (d.eventMask i m).samplers = d.samplers := rfl
@[simp] theorem Dev.eventMask_tlm (d : Dev) (i m : Nat) : (d.eventMask i m).tlm = d.tlm := rfl
@[simp] theorem Dev.eventMask_temperSelect (d : Dev) (i m : Nat) : (d.eventMask i m).temperSelect = d.temperSelect := rfl
@[simp] theorem Dev.eventMask_pps (d : Dev) (i m : Nat) : (d.eventMask i m).pps = d.pps := rfl
@[simp] theorem Dev.eventMask_pins (d : Dev) (i m : Nat) : (d.eventMask i m).pins = d.pins := rfl
@[simp] theorem Dev.eventMask_out (d : Dev) (i m : Nat) : (d.eventMask i m).out = d.out := rfl
@[simp] theorem Dev.eventMask_port (d : Dev) (i m : Nat) (q : Port) : (d.eventMask i m).port q = d.port q := rfl

/-! ## `Dev.event` -/

@[simp] theorem Dev.event_warmCount (d : Dev) (i b : Nat) : (d.event i b).warmCount = d.warmCount := rfl
@[simp] theorem Dev.event_uptime (d : Dev) (i b : Nat) : (d.event i b).uptime = d.uptime := rfl
@[simp] theorem Dev.event_draws (d : Dev) (i b : Nat) : (d.event i b).draws = d.draws := rfl
@[simp] theorem Dev.event_life (d : Dev) (i b : Nat) : (d.event i b).life = d.life := rfl
@[simp] theorem Dev.event_safe (d : Dev) (i b : Nat) : (d.event i b).safe = d.safe := rfl
@[simp] theorem Dev.event_fieldValid (d : Dev) (i b : Nat) : (d.event i b).fieldValid = d.fieldValid := rfl
@[simp] theorem Dev.event_time (d : Dev) (i b : Nat) : (d.event i b).time = d.time := rfl
@[simp] theorem Dev.event_mgmt (d : Dev) (i b : Nat) : (d.event i b).mgmt = d.mgmt := rfl
@[simp] theorem Dev.event_hall (d : Dev) (i b : Nat) : (d.event i b).hall = d.hall := rfl
@[simp] theorem Dev.event_ports (d : Dev) (i b : Nat) : (d.event i b).ports = d.ports := rfl
@[simp] theorem Dev.event_dies (d : Dev) (i b : Nat) : (d.event i b).dies = d.dies := rfl
@[simp] theorem Dev.event_clocks (d : Dev) (i b : Nat) : (d.event i b).clocks = d.clocks := rfl
@[simp] theorem Dev.event_options (d : Dev) (i b : Nat) : (d.event i b).options = d.options := rfl
@[simp] theorem Dev.event_nv (d : Dev) (i b : Nat) : (d.event i b).nv = d.nv := rfl
@[simp] theorem Dev.event_pace (d : Dev) (i b : Nat) : (d.event i b).pace = d.pace := rfl
@[simp] theorem Dev.event_faults (d : Dev) (i b : Nat) : (d.event i b).faults = d.faults := rfl
@[simp] theorem Dev.event_blockReset (d : Dev) (i b : Nat) : (d.event i b).blockReset = d.blockReset := rfl
@[simp] theorem Dev.event_injection (d : Dev) (i b : Nat) : (d.event i b).injection = d.injection := rfl
@[simp] theorem Dev.event_firstAt (d : Dev) (i b : Nat) : (d.event i b).firstAt = d.firstAt := rfl
@[simp] theorem Dev.event_assay (d : Dev) (i b : Nat) : (d.event i b).assay = d.assay := rfl
@[simp] theorem Dev.event_samplers (d : Dev) (i b : Nat) : (d.event i b).samplers = d.samplers := rfl
@[simp] theorem Dev.event_tlm (d : Dev) (i b : Nat) : (d.event i b).tlm = d.tlm := rfl
@[simp] theorem Dev.event_temperSelect (d : Dev) (i b : Nat) : (d.event i b).temperSelect = d.temperSelect := rfl
@[simp] theorem Dev.event_pps (d : Dev) (i b : Nat) : (d.event i b).pps = d.pps := rfl
@[simp] theorem Dev.event_pins (d : Dev) (i b : Nat) : (d.event i b).pins = d.pins := rfl
@[simp] theorem Dev.event_out (d : Dev) (i b : Nat) : (d.event i b).out = d.out := rfl
@[simp] theorem Dev.event_port (d : Dev) (i b : Nat) (q : Port) : (d.event i b).port q = d.port q := rfl

/-! ## `Dev.emit` -/

@[simp] theorem Dev.emit_objs (d : Dev) (o : Out) : (d.emit o).objs = d.objs := rfl
@[simp] theorem Dev.emit_warmCount (d : Dev) (o : Out) : (d.emit o).warmCount = d.warmCount := rfl
@[simp] theorem Dev.emit_uptime (d : Dev) (o : Out) : (d.emit o).uptime = d.uptime := rfl
@[simp] theorem Dev.emit_draws (d : Dev) (o : Out) : (d.emit o).draws = d.draws := rfl
@[simp] theorem Dev.emit_life (d : Dev) (o : Out) : (d.emit o).life = d.life := rfl
@[simp] theorem Dev.emit_safe (d : Dev) (o : Out) : (d.emit o).safe = d.safe := rfl
@[simp] theorem Dev.emit_fieldValid (d : Dev) (o : Out) : (d.emit o).fieldValid = d.fieldValid := rfl
@[simp] theorem Dev.emit_time (d : Dev) (o : Out) : (d.emit o).time = d.time := rfl
@[simp] theorem Dev.emit_mgmt (d : Dev) (o : Out) : (d.emit o).mgmt = d.mgmt := rfl
@[simp] theorem Dev.emit_hall (d : Dev) (o : Out) : (d.emit o).hall = d.hall := rfl
@[simp] theorem Dev.emit_ports (d : Dev) (o : Out) : (d.emit o).ports = d.ports := rfl
@[simp] theorem Dev.emit_dies (d : Dev) (o : Out) : (d.emit o).dies = d.dies := rfl
@[simp] theorem Dev.emit_clocks (d : Dev) (o : Out) : (d.emit o).clocks = d.clocks := rfl
@[simp] theorem Dev.emit_options (d : Dev) (o : Out) : (d.emit o).options = d.options := rfl
@[simp] theorem Dev.emit_nv (d : Dev) (o : Out) : (d.emit o).nv = d.nv := rfl
@[simp] theorem Dev.emit_pace (d : Dev) (o : Out) : (d.emit o).pace = d.pace := rfl
@[simp] theorem Dev.emit_faults (d : Dev) (o : Out) : (d.emit o).faults = d.faults := rfl
@[simp] theorem Dev.emit_blockReset (d : Dev) (o : Out) : (d.emit o).blockReset = d.blockReset := rfl
@[simp] theorem Dev.emit_injection (d : Dev) (o : Out) : (d.emit o).injection = d.injection := rfl
@[simp] theorem Dev.emit_firstAt (d : Dev) (o : Out) : (d.emit o).firstAt = d.firstAt := rfl
@[simp] theorem Dev.emit_assay (d : Dev) (o : Out) : (d.emit o).assay = d.assay := rfl
@[simp] theorem Dev.emit_samplers (d : Dev) (o : Out) : (d.emit o).samplers = d.samplers := rfl
@[simp] theorem Dev.emit_tlm (d : Dev) (o : Out) : (d.emit o).tlm = d.tlm := rfl
@[simp] theorem Dev.emit_temperSelect (d : Dev) (o : Out) : (d.emit o).temperSelect = d.temperSelect := rfl
@[simp] theorem Dev.emit_pps (d : Dev) (o : Out) : (d.emit o).pps = d.pps := rfl
@[simp] theorem Dev.emit_pins (d : Dev) (o : Out) : (d.emit o).pins = d.pins := rfl
@[simp] theorem Dev.emit_get (d : Dev) (o : Out) (j t : Nat) : (d.emit o).get j t = d.get j t := rfl
@[simp] theorem Dev.emit_port (d : Dev) (o : Out) (q : Port) : (d.emit o).port q = d.port q := rfl

/-! ## `Dev.newDraw` -/

@[simp] theorem Dev.newDraw_objs (d : Dev) : (d.newDraw).objs = d.objs := rfl
@[simp] theorem Dev.newDraw_warmCount (d : Dev) : (d.newDraw).warmCount = d.warmCount := rfl
@[simp] theorem Dev.newDraw_uptime (d : Dev) : (d.newDraw).uptime = d.uptime := rfl
@[simp] theorem Dev.newDraw_life (d : Dev) : (d.newDraw).life = d.life := rfl
@[simp] theorem Dev.newDraw_safe (d : Dev) : (d.newDraw).safe = d.safe := rfl
@[simp] theorem Dev.newDraw_fieldValid (d : Dev) : (d.newDraw).fieldValid = d.fieldValid := rfl
@[simp] theorem Dev.newDraw_time (d : Dev) : (d.newDraw).time = d.time := rfl
@[simp] theorem Dev.newDraw_mgmt (d : Dev) : (d.newDraw).mgmt = d.mgmt := rfl
@[simp] theorem Dev.newDraw_hall (d : Dev) : (d.newDraw).hall = d.hall := rfl
@[simp] theorem Dev.newDraw_ports (d : Dev) : (d.newDraw).ports = d.ports := rfl
@[simp] theorem Dev.newDraw_dies (d : Dev) : (d.newDraw).dies = d.dies := rfl
@[simp] theorem Dev.newDraw_clocks (d : Dev) : (d.newDraw).clocks = d.clocks := rfl
@[simp] theorem Dev.newDraw_options (d : Dev) : (d.newDraw).options = d.options := rfl
@[simp] theorem Dev.newDraw_nv (d : Dev) : (d.newDraw).nv = d.nv := rfl
@[simp] theorem Dev.newDraw_pace (d : Dev) : (d.newDraw).pace = d.pace := rfl
@[simp] theorem Dev.newDraw_faults (d : Dev) : (d.newDraw).faults = d.faults := rfl
@[simp] theorem Dev.newDraw_blockReset (d : Dev) : (d.newDraw).blockReset = d.blockReset := rfl
@[simp] theorem Dev.newDraw_injection (d : Dev) : (d.newDraw).injection = d.injection := rfl
@[simp] theorem Dev.newDraw_firstAt (d : Dev) : (d.newDraw).firstAt = d.firstAt := rfl
@[simp] theorem Dev.newDraw_assay (d : Dev) : (d.newDraw).assay = d.assay := rfl
@[simp] theorem Dev.newDraw_samplers (d : Dev) : (d.newDraw).samplers = d.samplers := rfl
@[simp] theorem Dev.newDraw_tlm (d : Dev) : (d.newDraw).tlm = d.tlm := rfl
@[simp] theorem Dev.newDraw_temperSelect (d : Dev) : (d.newDraw).temperSelect = d.temperSelect := rfl
@[simp] theorem Dev.newDraw_pps (d : Dev) : (d.newDraw).pps = d.pps := rfl
@[simp] theorem Dev.newDraw_pins (d : Dev) : (d.newDraw).pins = d.pins := rfl
@[simp] theorem Dev.newDraw_out (d : Dev) : (d.newDraw).out = d.out := rfl
@[simp] theorem Dev.newDraw_get (d : Dev) (j t : Nat) : (d.newDraw).get j t = d.get j t := rfl
@[simp] theorem Dev.newDraw_port (d : Dev) (q : Port) : (d.newDraw).port q = d.port q := rfl

/-! ## `Dev.onMgmt` -/

@[simp] theorem Dev.onMgmt_objs (d : Dev) (f : Mgmt → Mgmt) : (d.onMgmt f).objs = d.objs := rfl
@[simp] theorem Dev.onMgmt_warmCount (d : Dev) (f : Mgmt → Mgmt) : (d.onMgmt f).warmCount = d.warmCount := rfl
@[simp] theorem Dev.onMgmt_uptime (d : Dev) (f : Mgmt → Mgmt) : (d.onMgmt f).uptime = d.uptime := rfl
@[simp] theorem Dev.onMgmt_draws (d : Dev) (f : Mgmt → Mgmt) : (d.onMgmt f).draws = d.draws := rfl
@[simp] theorem Dev.onMgmt_life (d : Dev) (f : Mgmt → Mgmt) : (d.onMgmt f).life = d.life := rfl
@[simp] theorem Dev.onMgmt_safe (d : Dev) (f : Mgmt → Mgmt) : (d.onMgmt f).safe = d.safe := rfl
@[simp] theorem Dev.onMgmt_fieldValid (d : Dev) (f : Mgmt → Mgmt) : (d.onMgmt f).fieldValid = d.fieldValid := rfl
@[simp] theorem Dev.onMgmt_time (d : Dev) (f : Mgmt → Mgmt) : (d.onMgmt f).time = d.time := rfl
@[simp] theorem Dev.onMgmt_hall (d : Dev) (f : Mgmt → Mgmt) : (d.onMgmt f).hall = d.hall := rfl
@[simp] theorem Dev.onMgmt_ports (d : Dev) (f : Mgmt → Mgmt) : (d.onMgmt f).ports = d.ports := rfl
@[simp] theorem Dev.onMgmt_dies (d : Dev) (f : Mgmt → Mgmt) : (d.onMgmt f).dies = d.dies := rfl
@[simp] theorem Dev.onMgmt_clocks (d : Dev) (f : Mgmt → Mgmt) : (d.onMgmt f).clocks = d.clocks := rfl
@[simp] theorem Dev.onMgmt_options (d : Dev) (f : Mgmt → Mgmt) : (d.onMgmt f).options = d.options := rfl
@[simp] theorem Dev.onMgmt_nv (d : Dev) (f : Mgmt → Mgmt) : (d.onMgmt f).nv = d.nv := rfl
@[simp] theorem Dev.onMgmt_pace (d : Dev) (f : Mgmt → Mgmt) : (d.onMgmt f).pace = d.pace := rfl
@[simp] theorem Dev.onMgmt_faults (d : Dev) (f : Mgmt → Mgmt) : (d.onMgmt f).faults = d.faults := rfl
@[simp] theorem Dev.onMgmt_blockReset (d : Dev) (f : Mgmt → Mgmt) : (d.onMgmt f).blockReset = d.blockReset := rfl
@[simp] theorem Dev.onMgmt_injection (d : Dev) (f : Mgmt → Mgmt) : (d.onMgmt f).injection = d.injection := rfl
@[simp] theorem Dev.onMgmt_firstAt (d : Dev) (f : Mgmt → Mgmt) : (d.onMgmt f).firstAt = d.firstAt := rfl
@[simp] theorem Dev.onMgmt_assay (d : Dev) (f : Mgmt → Mgmt) : (d.onMgmt f).assay = d.assay := rfl
@[simp] theorem Dev.onMgmt_samplers (d : Dev) (f : Mgmt → Mgmt) : (d.onMgmt f).samplers = d.samplers := rfl
@[simp] theorem Dev.onMgmt_tlm (d : Dev) (f : Mgmt → Mgmt) : (d.onMgmt f).tlm = d.tlm := rfl
@[simp] theorem Dev.onMgmt_temperSelect (d : Dev) (f : Mgmt → Mgmt) : (d.onMgmt f).temperSelect = d.temperSelect := rfl
@[simp] theorem Dev.onMgmt_pps (d : Dev) (f : Mgmt → Mgmt) : (d.onMgmt f).pps = d.pps := rfl
@[simp] theorem Dev.onMgmt_pins (d : Dev) (f : Mgmt → Mgmt) : (d.onMgmt f).pins = d.pins := rfl
@[simp] theorem Dev.onMgmt_out (d : Dev) (f : Mgmt → Mgmt) : (d.onMgmt f).out = d.out := rfl
@[simp] theorem Dev.onMgmt_get (d : Dev) (f : Mgmt → Mgmt) (j t : Nat) : (d.onMgmt f).get j t = d.get j t := rfl
@[simp] theorem Dev.onMgmt_port (d : Dev) (f : Mgmt → Mgmt) (q : Port) : (d.onMgmt f).port q = d.port q := rfl

/-! ## `Dev.onHall` -/

@[simp] theorem Dev.onHall_objs (d : Dev) (f : Hall → Hall) : (d.onHall f).objs = d.objs := rfl
@[simp] theorem Dev.onHall_warmCount (d : Dev) (f : Hall → Hall) : (d.onHall f).warmCount = d.warmCount := rfl
@[simp] theorem Dev.onHall_uptime (d : Dev) (f : Hall → Hall) : (d.onHall f).uptime = d.uptime := rfl
@[simp] theorem Dev.onHall_draws (d : Dev) (f : Hall → Hall) : (d.onHall f).draws = d.draws := rfl
@[simp] theorem Dev.onHall_life (d : Dev) (f : Hall → Hall) : (d.onHall f).life = d.life := rfl
@[simp] theorem Dev.onHall_safe (d : Dev) (f : Hall → Hall) : (d.onHall f).safe = d.safe := rfl
@[simp] theorem Dev.onHall_fieldValid (d : Dev) (f : Hall → Hall) : (d.onHall f).fieldValid = d.fieldValid := rfl
@[simp] theorem Dev.onHall_time (d : Dev) (f : Hall → Hall) : (d.onHall f).time = d.time := rfl
@[simp] theorem Dev.onHall_mgmt (d : Dev) (f : Hall → Hall) : (d.onHall f).mgmt = d.mgmt := rfl
@[simp] theorem Dev.onHall_ports (d : Dev) (f : Hall → Hall) : (d.onHall f).ports = d.ports := rfl
@[simp] theorem Dev.onHall_dies (d : Dev) (f : Hall → Hall) : (d.onHall f).dies = d.dies := rfl
@[simp] theorem Dev.onHall_clocks (d : Dev) (f : Hall → Hall) : (d.onHall f).clocks = d.clocks := rfl
@[simp] theorem Dev.onHall_options (d : Dev) (f : Hall → Hall) : (d.onHall f).options = d.options := rfl
@[simp] theorem Dev.onHall_nv (d : Dev) (f : Hall → Hall) : (d.onHall f).nv = d.nv := rfl
@[simp] theorem Dev.onHall_pace (d : Dev) (f : Hall → Hall) : (d.onHall f).pace = d.pace := rfl
@[simp] theorem Dev.onHall_faults (d : Dev) (f : Hall → Hall) : (d.onHall f).faults = d.faults := rfl
@[simp] theorem Dev.onHall_blockReset (d : Dev) (f : Hall → Hall) : (d.onHall f).blockReset = d.blockReset := rfl
@[simp] theorem Dev.onHall_injection (d : Dev) (f : Hall → Hall) : (d.onHall f).injection = d.injection := rfl
@[simp] theorem Dev.onHall_firstAt (d : Dev) (f : Hall → Hall) : (d.onHall f).firstAt = d.firstAt := rfl
@[simp] theorem Dev.onHall_assay (d : Dev) (f : Hall → Hall) : (d.onHall f).assay = d.assay := rfl
@[simp] theorem Dev.onHall_samplers (d : Dev) (f : Hall → Hall) : (d.onHall f).samplers = d.samplers := rfl
@[simp] theorem Dev.onHall_tlm (d : Dev) (f : Hall → Hall) : (d.onHall f).tlm = d.tlm := rfl
@[simp] theorem Dev.onHall_temperSelect (d : Dev) (f : Hall → Hall) : (d.onHall f).temperSelect = d.temperSelect := rfl
@[simp] theorem Dev.onHall_pps (d : Dev) (f : Hall → Hall) : (d.onHall f).pps = d.pps := rfl
@[simp] theorem Dev.onHall_pins (d : Dev) (f : Hall → Hall) : (d.onHall f).pins = d.pins := rfl
@[simp] theorem Dev.onHall_out (d : Dev) (f : Hall → Hall) : (d.onHall f).out = d.out := rfl
@[simp] theorem Dev.onHall_get (d : Dev) (f : Hall → Hall) (j t : Nat) : (d.onHall f).get j t = d.get j t := rfl
@[simp] theorem Dev.onHall_port (d : Dev) (f : Hall → Hall) (q : Port) : (d.onHall f).port q = d.port q := rfl

/-! ## `Dev.onDie` -/

@[simp] theorem Dev.onDie_objs (d : Dev) (n : Die) (f : DieSt → DieSt) : (d.onDie n f).objs = d.objs := rfl
@[simp] theorem Dev.onDie_warmCount (d : Dev) (n : Die) (f : DieSt → DieSt) : (d.onDie n f).warmCount = d.warmCount := rfl
@[simp] theorem Dev.onDie_uptime (d : Dev) (n : Die) (f : DieSt → DieSt) : (d.onDie n f).uptime = d.uptime := rfl
@[simp] theorem Dev.onDie_draws (d : Dev) (n : Die) (f : DieSt → DieSt) : (d.onDie n f).draws = d.draws := rfl
@[simp] theorem Dev.onDie_life (d : Dev) (n : Die) (f : DieSt → DieSt) : (d.onDie n f).life = d.life := rfl
@[simp] theorem Dev.onDie_safe (d : Dev) (n : Die) (f : DieSt → DieSt) : (d.onDie n f).safe = d.safe := rfl
@[simp] theorem Dev.onDie_fieldValid (d : Dev) (n : Die) (f : DieSt → DieSt) : (d.onDie n f).fieldValid = d.fieldValid := rfl
@[simp] theorem Dev.onDie_time (d : Dev) (n : Die) (f : DieSt → DieSt) : (d.onDie n f).time = d.time := rfl
@[simp] theorem Dev.onDie_mgmt (d : Dev) (n : Die) (f : DieSt → DieSt) : (d.onDie n f).mgmt = d.mgmt := rfl
@[simp] theorem Dev.onDie_hall (d : Dev) (n : Die) (f : DieSt → DieSt) : (d.onDie n f).hall = d.hall := rfl
@[simp] theorem Dev.onDie_ports (d : Dev) (n : Die) (f : DieSt → DieSt) : (d.onDie n f).ports = d.ports := rfl
@[simp] theorem Dev.onDie_clocks (d : Dev) (n : Die) (f : DieSt → DieSt) : (d.onDie n f).clocks = d.clocks := rfl
@[simp] theorem Dev.onDie_options (d : Dev) (n : Die) (f : DieSt → DieSt) : (d.onDie n f).options = d.options := rfl
@[simp] theorem Dev.onDie_nv (d : Dev) (n : Die) (f : DieSt → DieSt) : (d.onDie n f).nv = d.nv := rfl
@[simp] theorem Dev.onDie_pace (d : Dev) (n : Die) (f : DieSt → DieSt) : (d.onDie n f).pace = d.pace := rfl
@[simp] theorem Dev.onDie_faults (d : Dev) (n : Die) (f : DieSt → DieSt) : (d.onDie n f).faults = d.faults := rfl
@[simp] theorem Dev.onDie_blockReset (d : Dev) (n : Die) (f : DieSt → DieSt) : (d.onDie n f).blockReset = d.blockReset := rfl
@[simp] theorem Dev.onDie_injection (d : Dev) (n : Die) (f : DieSt → DieSt) : (d.onDie n f).injection = d.injection := rfl
@[simp] theorem Dev.onDie_firstAt (d : Dev) (n : Die) (f : DieSt → DieSt) : (d.onDie n f).firstAt = d.firstAt := rfl
@[simp] theorem Dev.onDie_assay (d : Dev) (n : Die) (f : DieSt → DieSt) : (d.onDie n f).assay = d.assay := rfl
@[simp] theorem Dev.onDie_samplers (d : Dev) (n : Die) (f : DieSt → DieSt) : (d.onDie n f).samplers = d.samplers := rfl
@[simp] theorem Dev.onDie_tlm (d : Dev) (n : Die) (f : DieSt → DieSt) : (d.onDie n f).tlm = d.tlm := rfl
@[simp] theorem Dev.onDie_temperSelect (d : Dev) (n : Die) (f : DieSt → DieSt) : (d.onDie n f).temperSelect = d.temperSelect := rfl
@[simp] theorem Dev.onDie_pps (d : Dev) (n : Die) (f : DieSt → DieSt) : (d.onDie n f).pps = d.pps := rfl
@[simp] theorem Dev.onDie_pins (d : Dev) (n : Die) (f : DieSt → DieSt) : (d.onDie n f).pins = d.pins := rfl
@[simp] theorem Dev.onDie_out (d : Dev) (n : Die) (f : DieSt → DieSt) : (d.onDie n f).out = d.out := rfl
@[simp] theorem Dev.onDie_get (d : Dev) (n : Die) (f : DieSt → DieSt) (j t : Nat) : (d.onDie n f).get j t = d.get j t := rfl
@[simp] theorem Dev.onDie_port (d : Dev) (n : Die) (f : DieSt → DieSt) (q : Port) : (d.onDie n f).port q = d.port q := rfl

/-! ## `Dev.onClock` -/

@[simp] theorem Dev.onClock_objs (d : Dev) (n : DieId) (f : ClockSt → ClockSt) : (d.onClock n f).objs = d.objs := rfl
@[simp] theorem Dev.onClock_warmCount (d : Dev) (n : DieId) (f : ClockSt → ClockSt) : (d.onClock n f).warmCount = d.warmCount := rfl
@[simp] theorem Dev.onClock_uptime (d : Dev) (n : DieId) (f : ClockSt → ClockSt) : (d.onClock n f).uptime = d.uptime := rfl
@[simp] theorem Dev.onClock_draws (d : Dev) (n : DieId) (f : ClockSt → ClockSt) : (d.onClock n f).draws = d.draws := rfl
@[simp] theorem Dev.onClock_life (d : Dev) (n : DieId) (f : ClockSt → ClockSt) : (d.onClock n f).life = d.life := rfl
@[simp] theorem Dev.onClock_safe (d : Dev) (n : DieId) (f : ClockSt → ClockSt) : (d.onClock n f).safe = d.safe := rfl
@[simp] theorem Dev.onClock_fieldValid (d : Dev) (n : DieId) (f : ClockSt → ClockSt) : (d.onClock n f).fieldValid = d.fieldValid := rfl
@[simp] theorem Dev.onClock_time (d : Dev) (n : DieId) (f : ClockSt → ClockSt) : (d.onClock n f).time = d.time := rfl
@[simp] theorem Dev.onClock_mgmt (d : Dev) (n : DieId) (f : ClockSt → ClockSt) : (d.onClock n f).mgmt = d.mgmt := rfl
@[simp] theorem Dev.onClock_hall (d : Dev) (n : DieId) (f : ClockSt → ClockSt) : (d.onClock n f).hall = d.hall := rfl
@[simp] theorem Dev.onClock_ports (d : Dev) (n : DieId) (f : ClockSt → ClockSt) : (d.onClock n f).ports = d.ports := rfl
@[simp] theorem Dev.onClock_dies (d : Dev) (n : DieId) (f : ClockSt → ClockSt) : (d.onClock n f).dies = d.dies := rfl
@[simp] theorem Dev.onClock_options (d : Dev) (n : DieId) (f : ClockSt → ClockSt) : (d.onClock n f).options = d.options := rfl
@[simp] theorem Dev.onClock_nv (d : Dev) (n : DieId) (f : ClockSt → ClockSt) : (d.onClock n f).nv = d.nv := rfl
@[simp] theorem Dev.onClock_pace (d : Dev) (n : DieId) (f : ClockSt → ClockSt) : (d.onClock n f).pace = d.pace := rfl
@[simp] theorem Dev.onClock_faults (d : Dev) (n : DieId) (f : ClockSt → ClockSt) : (d.onClock n f).faults = d.faults := rfl
@[simp] theorem Dev.onClock_blockReset (d : Dev) (n : DieId) (f : ClockSt → ClockSt) : (d.onClock n f).blockReset = d.blockReset := rfl
@[simp] theorem Dev.onClock_injection (d : Dev) (n : DieId) (f : ClockSt → ClockSt) : (d.onClock n f).injection = d.injection := rfl
@[simp] theorem Dev.onClock_firstAt (d : Dev) (n : DieId) (f : ClockSt → ClockSt) : (d.onClock n f).firstAt = d.firstAt := rfl
@[simp] theorem Dev.onClock_assay (d : Dev) (n : DieId) (f : ClockSt → ClockSt) : (d.onClock n f).assay = d.assay := rfl
@[simp] theorem Dev.onClock_samplers (d : Dev) (n : DieId) (f : ClockSt → ClockSt) : (d.onClock n f).samplers = d.samplers := rfl
@[simp] theorem Dev.onClock_tlm (d : Dev) (n : DieId) (f : ClockSt → ClockSt) : (d.onClock n f).tlm = d.tlm := rfl
@[simp] theorem Dev.onClock_temperSelect (d : Dev) (n : DieId) (f : ClockSt → ClockSt) : (d.onClock n f).temperSelect = d.temperSelect := rfl
@[simp] theorem Dev.onClock_pps (d : Dev) (n : DieId) (f : ClockSt → ClockSt) : (d.onClock n f).pps = d.pps := rfl
@[simp] theorem Dev.onClock_pins (d : Dev) (n : DieId) (f : ClockSt → ClockSt) : (d.onClock n f).pins = d.pins := rfl
@[simp] theorem Dev.onClock_out (d : Dev) (n : DieId) (f : ClockSt → ClockSt) : (d.onClock n f).out = d.out := rfl
@[simp] theorem Dev.onClock_get (d : Dev) (n : DieId) (f : ClockSt → ClockSt) (j t : Nat) : (d.onClock n f).get j t = d.get j t := rfl
@[simp] theorem Dev.onClock_port (d : Dev) (n : DieId) (f : ClockSt → ClockSt) (q : Port) : (d.onClock n f).port q = d.port q := rfl

/-! ## `Dev.onPort` -/

@[simp] theorem Dev.onPort_objs (d : Dev) (p : Port) (f : PortSt → PortSt) : (d.onPort p f).objs = d.objs := rfl
@[simp] theorem Dev.onPort_warmCount (d : Dev) (p : Port) (f : PortSt → PortSt) : (d.onPort p f).warmCount = d.warmCount := rfl
@[simp] theorem Dev.onPort_uptime (d : Dev) (p : Port) (f : PortSt → PortSt) : (d.onPort p f).uptime = d.uptime := rfl
@[simp] theorem Dev.onPort_draws (d : Dev) (p : Port) (f : PortSt → PortSt) : (d.onPort p f).draws = d.draws := rfl
@[simp] theorem Dev.onPort_life (d : Dev) (p : Port) (f : PortSt → PortSt) : (d.onPort p f).life = d.life := rfl
@[simp] theorem Dev.onPort_safe (d : Dev) (p : Port) (f : PortSt → PortSt) : (d.onPort p f).safe = d.safe := rfl
@[simp] theorem Dev.onPort_fieldValid (d : Dev) (p : Port) (f : PortSt → PortSt) : (d.onPort p f).fieldValid = d.fieldValid := rfl
@[simp] theorem Dev.onPort_time (d : Dev) (p : Port) (f : PortSt → PortSt) : (d.onPort p f).time = d.time := rfl
@[simp] theorem Dev.onPort_mgmt (d : Dev) (p : Port) (f : PortSt → PortSt) : (d.onPort p f).mgmt = d.mgmt := rfl
@[simp] theorem Dev.onPort_hall (d : Dev) (p : Port) (f : PortSt → PortSt) : (d.onPort p f).hall = d.hall := rfl
@[simp] theorem Dev.onPort_dies (d : Dev) (p : Port) (f : PortSt → PortSt) : (d.onPort p f).dies = d.dies := rfl
@[simp] theorem Dev.onPort_clocks (d : Dev) (p : Port) (f : PortSt → PortSt) : (d.onPort p f).clocks = d.clocks := rfl
@[simp] theorem Dev.onPort_options (d : Dev) (p : Port) (f : PortSt → PortSt) : (d.onPort p f).options = d.options := rfl
@[simp] theorem Dev.onPort_nv (d : Dev) (p : Port) (f : PortSt → PortSt) : (d.onPort p f).nv = d.nv := rfl
@[simp] theorem Dev.onPort_pace (d : Dev) (p : Port) (f : PortSt → PortSt) : (d.onPort p f).pace = d.pace := rfl
@[simp] theorem Dev.onPort_faults (d : Dev) (p : Port) (f : PortSt → PortSt) : (d.onPort p f).faults = d.faults := rfl
@[simp] theorem Dev.onPort_blockReset (d : Dev) (p : Port) (f : PortSt → PortSt) : (d.onPort p f).blockReset = d.blockReset := rfl
@[simp] theorem Dev.onPort_injection (d : Dev) (p : Port) (f : PortSt → PortSt) : (d.onPort p f).injection = d.injection := rfl
@[simp] theorem Dev.onPort_firstAt (d : Dev) (p : Port) (f : PortSt → PortSt) : (d.onPort p f).firstAt = d.firstAt := rfl
@[simp] theorem Dev.onPort_assay (d : Dev) (p : Port) (f : PortSt → PortSt) : (d.onPort p f).assay = d.assay := rfl
@[simp] theorem Dev.onPort_samplers (d : Dev) (p : Port) (f : PortSt → PortSt) : (d.onPort p f).samplers = d.samplers := rfl
@[simp] theorem Dev.onPort_tlm (d : Dev) (p : Port) (f : PortSt → PortSt) : (d.onPort p f).tlm = d.tlm := rfl
@[simp] theorem Dev.onPort_temperSelect (d : Dev) (p : Port) (f : PortSt → PortSt) : (d.onPort p f).temperSelect = d.temperSelect := rfl
@[simp] theorem Dev.onPort_pps (d : Dev) (p : Port) (f : PortSt → PortSt) : (d.onPort p f).pps = d.pps := rfl
@[simp] theorem Dev.onPort_pins (d : Dev) (p : Port) (f : PortSt → PortSt) : (d.onPort p f).pins = d.pins := rfl
@[simp] theorem Dev.onPort_out (d : Dev) (p : Port) (f : PortSt → PortSt) : (d.onPort p f).out = d.out := rfl
@[simp] theorem Dev.onPort_get (d : Dev) (p : Port) (f : PortSt → PortSt) (j t : Nat) : (d.onPort p f).get j t = d.get j t := rfl

/-! ## `Dev.onLink` -/

@[simp] theorem Dev.onLink_objs (d : Dev) (p : Port) (f : LinkSt → LinkSt) : (d.onLink p f).objs = d.objs := rfl
@[simp] theorem Dev.onLink_warmCount (d : Dev) (p : Port) (f : LinkSt → LinkSt) : (d.onLink p f).warmCount = d.warmCount := rfl
@[simp] theorem Dev.onLink_uptime (d : Dev) (p : Port) (f : LinkSt → LinkSt) : (d.onLink p f).uptime = d.uptime := rfl
@[simp] theorem Dev.onLink_draws (d : Dev) (p : Port) (f : LinkSt → LinkSt) : (d.onLink p f).draws = d.draws := rfl
@[simp] theorem Dev.onLink_life (d : Dev) (p : Port) (f : LinkSt → LinkSt) : (d.onLink p f).life = d.life := rfl
@[simp] theorem Dev.onLink_safe (d : Dev) (p : Port) (f : LinkSt → LinkSt) : (d.onLink p f).safe = d.safe := rfl
@[simp] theorem Dev.onLink_fieldValid (d : Dev) (p : Port) (f : LinkSt → LinkSt) : (d.onLink p f).fieldValid = d.fieldValid := rfl
@[simp] theorem Dev.onLink_time (d : Dev) (p : Port) (f : LinkSt → LinkSt) : (d.onLink p f).time = d.time := rfl
@[simp] theorem Dev.onLink_mgmt (d : Dev) (p : Port) (f : LinkSt → LinkSt) : (d.onLink p f).mgmt = d.mgmt := rfl
@[simp] theorem Dev.onLink_hall (d : Dev) (p : Port) (f : LinkSt → LinkSt) : (d.onLink p f).hall = d.hall := rfl
@[simp] theorem Dev.onLink_dies (d : Dev) (p : Port) (f : LinkSt → LinkSt) : (d.onLink p f).dies = d.dies := rfl
@[simp] theorem Dev.onLink_clocks (d : Dev) (p : Port) (f : LinkSt → LinkSt) : (d.onLink p f).clocks = d.clocks := rfl
@[simp] theorem Dev.onLink_options (d : Dev) (p : Port) (f : LinkSt → LinkSt) : (d.onLink p f).options = d.options := rfl
@[simp] theorem Dev.onLink_nv (d : Dev) (p : Port) (f : LinkSt → LinkSt) : (d.onLink p f).nv = d.nv := rfl
@[simp] theorem Dev.onLink_pace (d : Dev) (p : Port) (f : LinkSt → LinkSt) : (d.onLink p f).pace = d.pace := rfl
@[simp] theorem Dev.onLink_faults (d : Dev) (p : Port) (f : LinkSt → LinkSt) : (d.onLink p f).faults = d.faults := rfl
@[simp] theorem Dev.onLink_blockReset (d : Dev) (p : Port) (f : LinkSt → LinkSt) : (d.onLink p f).blockReset = d.blockReset := rfl
@[simp] theorem Dev.onLink_injection (d : Dev) (p : Port) (f : LinkSt → LinkSt) : (d.onLink p f).injection = d.injection := rfl
@[simp] theorem Dev.onLink_firstAt (d : Dev) (p : Port) (f : LinkSt → LinkSt) : (d.onLink p f).firstAt = d.firstAt := rfl
@[simp] theorem Dev.onLink_assay (d : Dev) (p : Port) (f : LinkSt → LinkSt) : (d.onLink p f).assay = d.assay := rfl
@[simp] theorem Dev.onLink_samplers (d : Dev) (p : Port) (f : LinkSt → LinkSt) : (d.onLink p f).samplers = d.samplers := rfl
@[simp] theorem Dev.onLink_tlm (d : Dev) (p : Port) (f : LinkSt → LinkSt) : (d.onLink p f).tlm = d.tlm := rfl
@[simp] theorem Dev.onLink_temperSelect (d : Dev) (p : Port) (f : LinkSt → LinkSt) : (d.onLink p f).temperSelect = d.temperSelect := rfl
@[simp] theorem Dev.onLink_pps (d : Dev) (p : Port) (f : LinkSt → LinkSt) : (d.onLink p f).pps = d.pps := rfl
@[simp] theorem Dev.onLink_pins (d : Dev) (p : Port) (f : LinkSt → LinkSt) : (d.onLink p f).pins = d.pins := rfl
@[simp] theorem Dev.onLink_out (d : Dev) (p : Port) (f : LinkSt → LinkSt) : (d.onLink p f).out = d.out := rfl
@[simp] theorem Dev.onLink_get (d : Dev) (p : Port) (f : LinkSt → LinkSt) (j t : Nat) : (d.onLink p f).get j t = d.get j t := rfl

/-! ## `Dev.onTrain` -/

@[simp] theorem Dev.onTrain_objs (d : Dev) (p : Port) (f : Train → Train) : (d.onTrain p f).objs = d.objs := rfl
@[simp] theorem Dev.onTrain_warmCount (d : Dev) (p : Port) (f : Train → Train) : (d.onTrain p f).warmCount = d.warmCount := rfl
@[simp] theorem Dev.onTrain_uptime (d : Dev) (p : Port) (f : Train → Train) : (d.onTrain p f).uptime = d.uptime := rfl
@[simp] theorem Dev.onTrain_draws (d : Dev) (p : Port) (f : Train → Train) : (d.onTrain p f).draws = d.draws := rfl
@[simp] theorem Dev.onTrain_life (d : Dev) (p : Port) (f : Train → Train) : (d.onTrain p f).life = d.life := rfl
@[simp] theorem Dev.onTrain_safe (d : Dev) (p : Port) (f : Train → Train) : (d.onTrain p f).safe = d.safe := rfl
@[simp] theorem Dev.onTrain_fieldValid (d : Dev) (p : Port) (f : Train → Train) : (d.onTrain p f).fieldValid = d.fieldValid := rfl
@[simp] theorem Dev.onTrain_time (d : Dev) (p : Port) (f : Train → Train) : (d.onTrain p f).time = d.time := rfl
@[simp] theorem Dev.onTrain_mgmt (d : Dev) (p : Port) (f : Train → Train) : (d.onTrain p f).mgmt = d.mgmt := rfl
@[simp] theorem Dev.onTrain_hall (d : Dev) (p : Port) (f : Train → Train) : (d.onTrain p f).hall = d.hall := rfl
@[simp] theorem Dev.onTrain_dies (d : Dev) (p : Port) (f : Train → Train) : (d.onTrain p f).dies = d.dies := rfl
@[simp] theorem Dev.onTrain_clocks (d : Dev) (p : Port) (f : Train → Train) : (d.onTrain p f).clocks = d.clocks := rfl
@[simp] theorem Dev.onTrain_options (d : Dev) (p : Port) (f : Train → Train) : (d.onTrain p f).options = d.options := rfl
@[simp] theorem Dev.onTrain_nv (d : Dev) (p : Port) (f : Train → Train) : (d.onTrain p f).nv = d.nv := rfl
@[simp] theorem Dev.onTrain_pace (d : Dev) (p : Port) (f : Train → Train) : (d.onTrain p f).pace = d.pace := rfl
@[simp] theorem Dev.onTrain_faults (d : Dev) (p : Port) (f : Train → Train) : (d.onTrain p f).faults = d.faults := rfl
@[simp] theorem Dev.onTrain_blockReset (d : Dev) (p : Port) (f : Train → Train) : (d.onTrain p f).blockReset = d.blockReset := rfl
@[simp] theorem Dev.onTrain_injection (d : Dev) (p : Port) (f : Train → Train) : (d.onTrain p f).injection = d.injection := rfl
@[simp] theorem Dev.onTrain_firstAt (d : Dev) (p : Port) (f : Train → Train) : (d.onTrain p f).firstAt = d.firstAt := rfl
@[simp] theorem Dev.onTrain_assay (d : Dev) (p : Port) (f : Train → Train) : (d.onTrain p f).assay = d.assay := rfl
@[simp] theorem Dev.onTrain_samplers (d : Dev) (p : Port) (f : Train → Train) : (d.onTrain p f).samplers = d.samplers := rfl
@[simp] theorem Dev.onTrain_tlm (d : Dev) (p : Port) (f : Train → Train) : (d.onTrain p f).tlm = d.tlm := rfl
@[simp] theorem Dev.onTrain_temperSelect (d : Dev) (p : Port) (f : Train → Train) : (d.onTrain p f).temperSelect = d.temperSelect := rfl
@[simp] theorem Dev.onTrain_pps (d : Dev) (p : Port) (f : Train → Train) : (d.onTrain p f).pps = d.pps := rfl
@[simp] theorem Dev.onTrain_pins (d : Dev) (p : Port) (f : Train → Train) : (d.onTrain p f).pins = d.pins := rfl
@[simp] theorem Dev.onTrain_out (d : Dev) (p : Port) (f : Train → Train) : (d.onTrain p f).out = d.out := rfl
@[simp] theorem Dev.onTrain_get (d : Dev) (p : Port) (f : Train → Train) (j t : Nat) : (d.onTrain p f).get j t = d.get j t := rfl

/-! ## `Dev.onNative` -/

@[simp] theorem Dev.onNative_objs (d : Dev) (p : Port) (f : Native → Native) : (d.onNative p f).objs = d.objs := rfl
@[simp] theorem Dev.onNative_warmCount (d : Dev) (p : Port) (f : Native → Native) : (d.onNative p f).warmCount = d.warmCount := rfl
@[simp] theorem Dev.onNative_uptime (d : Dev) (p : Port) (f : Native → Native) : (d.onNative p f).uptime = d.uptime := rfl
@[simp] theorem Dev.onNative_draws (d : Dev) (p : Port) (f : Native → Native) : (d.onNative p f).draws = d.draws := rfl
@[simp] theorem Dev.onNative_life (d : Dev) (p : Port) (f : Native → Native) : (d.onNative p f).life = d.life := rfl
@[simp] theorem Dev.onNative_safe (d : Dev) (p : Port) (f : Native → Native) : (d.onNative p f).safe = d.safe := rfl
@[simp] theorem Dev.onNative_fieldValid (d : Dev) (p : Port) (f : Native → Native) : (d.onNative p f).fieldValid = d.fieldValid := rfl
@[simp] theorem Dev.onNative_time (d : Dev) (p : Port) (f : Native → Native) : (d.onNative p f).time = d.time := rfl
@[simp] theorem Dev.onNative_mgmt (d : Dev) (p : Port) (f : Native → Native) : (d.onNative p f).mgmt = d.mgmt := rfl
@[simp] theorem Dev.onNative_hall (d : Dev) (p : Port) (f : Native → Native) : (d.onNative p f).hall = d.hall := rfl
@[simp] theorem Dev.onNative_dies (d : Dev) (p : Port) (f : Native → Native) : (d.onNative p f).dies = d.dies := rfl
@[simp] theorem Dev.onNative_clocks (d : Dev) (p : Port) (f : Native → Native) : (d.onNative p f).clocks = d.clocks := rfl
@[simp] theorem Dev.onNative_options (d : Dev) (p : Port) (f : Native → Native) : (d.onNative p f).options = d.options := rfl
@[simp] theorem Dev.onNative_nv (d : Dev) (p : Port) (f : Native → Native) : (d.onNative p f).nv = d.nv := rfl
@[simp] theorem Dev.onNative_pace (d : Dev) (p : Port) (f : Native → Native) : (d.onNative p f).pace = d.pace := rfl
@[simp] theorem Dev.onNative_faults (d : Dev) (p : Port) (f : Native → Native) : (d.onNative p f).faults = d.faults := rfl
@[simp] theorem Dev.onNative_blockReset (d : Dev) (p : Port) (f : Native → Native) : (d.onNative p f).blockReset = d.blockReset := rfl
@[simp] theorem Dev.onNative_injection (d : Dev) (p : Port) (f : Native → Native) : (d.onNative p f).injection = d.injection := rfl
@[simp] theorem Dev.onNative_firstAt (d : Dev) (p : Port) (f : Native → Native) : (d.onNative p f).firstAt = d.firstAt := rfl
@[simp] theorem Dev.onNative_assay (d : Dev) (p : Port) (f : Native → Native) : (d.onNative p f).assay = d.assay := rfl
@[simp] theorem Dev.onNative_samplers (d : Dev) (p : Port) (f : Native → Native) : (d.onNative p f).samplers = d.samplers := rfl
@[simp] theorem Dev.onNative_tlm (d : Dev) (p : Port) (f : Native → Native) : (d.onNative p f).tlm = d.tlm := rfl
@[simp] theorem Dev.onNative_temperSelect (d : Dev) (p : Port) (f : Native → Native) : (d.onNative p f).temperSelect = d.temperSelect := rfl
@[simp] theorem Dev.onNative_pps (d : Dev) (p : Port) (f : Native → Native) : (d.onNative p f).pps = d.pps := rfl
@[simp] theorem Dev.onNative_pins (d : Dev) (p : Port) (f : Native → Native) : (d.onNative p f).pins = d.pins := rfl
@[simp] theorem Dev.onNative_out (d : Dev) (p : Port) (f : Native → Native) : (d.onNative p f).out = d.out := rfl
@[simp] theorem Dev.onNative_get (d : Dev) (p : Port) (f : Native → Native) (j t : Nat) : (d.onNative p f).get j t = d.get j t := rfl

/-! ## `Dev.onSelvage` -/

@[simp] theorem Dev.onSelvage_objs (d : Dev) (p : Port) (f : Selvage → Selvage) : (d.onSelvage p f).objs = d.objs := rfl
@[simp] theorem Dev.onSelvage_warmCount (d : Dev) (p : Port) (f : Selvage → Selvage) : (d.onSelvage p f).warmCount = d.warmCount := rfl
@[simp] theorem Dev.onSelvage_uptime (d : Dev) (p : Port) (f : Selvage → Selvage) : (d.onSelvage p f).uptime = d.uptime := rfl
@[simp] theorem Dev.onSelvage_draws (d : Dev) (p : Port) (f : Selvage → Selvage) : (d.onSelvage p f).draws = d.draws := rfl
@[simp] theorem Dev.onSelvage_life (d : Dev) (p : Port) (f : Selvage → Selvage) : (d.onSelvage p f).life = d.life := rfl
@[simp] theorem Dev.onSelvage_safe (d : Dev) (p : Port) (f : Selvage → Selvage) : (d.onSelvage p f).safe = d.safe := rfl
@[simp] theorem Dev.onSelvage_fieldValid (d : Dev) (p : Port) (f : Selvage → Selvage) : (d.onSelvage p f).fieldValid = d.fieldValid := rfl
@[simp] theorem Dev.onSelvage_time (d : Dev) (p : Port) (f : Selvage → Selvage) : (d.onSelvage p f).time = d.time := rfl
@[simp] theorem Dev.onSelvage_mgmt (d : Dev) (p : Port) (f : Selvage → Selvage) : (d.onSelvage p f).mgmt = d.mgmt := rfl
@[simp] theorem Dev.onSelvage_hall (d : Dev) (p : Port) (f : Selvage → Selvage) : (d.onSelvage p f).hall = d.hall := rfl
@[simp] theorem Dev.onSelvage_dies (d : Dev) (p : Port) (f : Selvage → Selvage) : (d.onSelvage p f).dies = d.dies := rfl
@[simp] theorem Dev.onSelvage_clocks (d : Dev) (p : Port) (f : Selvage → Selvage) : (d.onSelvage p f).clocks = d.clocks := rfl
@[simp] theorem Dev.onSelvage_options (d : Dev) (p : Port) (f : Selvage → Selvage) : (d.onSelvage p f).options = d.options := rfl
@[simp] theorem Dev.onSelvage_nv (d : Dev) (p : Port) (f : Selvage → Selvage) : (d.onSelvage p f).nv = d.nv := rfl
@[simp] theorem Dev.onSelvage_pace (d : Dev) (p : Port) (f : Selvage → Selvage) : (d.onSelvage p f).pace = d.pace := rfl
@[simp] theorem Dev.onSelvage_faults (d : Dev) (p : Port) (f : Selvage → Selvage) : (d.onSelvage p f).faults = d.faults := rfl
@[simp] theorem Dev.onSelvage_blockReset (d : Dev) (p : Port) (f : Selvage → Selvage) : (d.onSelvage p f).blockReset = d.blockReset := rfl
@[simp] theorem Dev.onSelvage_injection (d : Dev) (p : Port) (f : Selvage → Selvage) : (d.onSelvage p f).injection = d.injection := rfl
@[simp] theorem Dev.onSelvage_firstAt (d : Dev) (p : Port) (f : Selvage → Selvage) : (d.onSelvage p f).firstAt = d.firstAt := rfl
@[simp] theorem Dev.onSelvage_assay (d : Dev) (p : Port) (f : Selvage → Selvage) : (d.onSelvage p f).assay = d.assay := rfl
@[simp] theorem Dev.onSelvage_samplers (d : Dev) (p : Port) (f : Selvage → Selvage) : (d.onSelvage p f).samplers = d.samplers := rfl
@[simp] theorem Dev.onSelvage_tlm (d : Dev) (p : Port) (f : Selvage → Selvage) : (d.onSelvage p f).tlm = d.tlm := rfl
@[simp] theorem Dev.onSelvage_temperSelect (d : Dev) (p : Port) (f : Selvage → Selvage) : (d.onSelvage p f).temperSelect = d.temperSelect := rfl
@[simp] theorem Dev.onSelvage_pps (d : Dev) (p : Port) (f : Selvage → Selvage) : (d.onSelvage p f).pps = d.pps := rfl
@[simp] theorem Dev.onSelvage_pins (d : Dev) (p : Port) (f : Selvage → Selvage) : (d.onSelvage p f).pins = d.pins := rfl
@[simp] theorem Dev.onSelvage_out (d : Dev) (p : Port) (f : Selvage → Selvage) : (d.onSelvage p f).out = d.out := rfl
@[simp] theorem Dev.onSelvage_get (d : Dev) (p : Port) (f : Selvage → Selvage) (j t : Nat) : (d.onSelvage p f).get j t = d.get j t := rfl

/-! ## `Dev.onSignal` -/

@[simp] theorem Dev.onSignal_objs (d : Dev) (p : Port) (f : Signal → Signal) : (d.onSignal p f).objs = d.objs := rfl
@[simp] theorem Dev.onSignal_warmCount (d : Dev) (p : Port) (f : Signal → Signal) : (d.onSignal p f).warmCount = d.warmCount := rfl
@[simp] theorem Dev.onSignal_uptime (d : Dev) (p : Port) (f : Signal → Signal) : (d.onSignal p f).uptime = d.uptime := rfl
@[simp] theorem Dev.onSignal_draws (d : Dev) (p : Port) (f : Signal → Signal) : (d.onSignal p f).draws = d.draws := rfl
@[simp] theorem Dev.onSignal_life (d : Dev) (p : Port) (f : Signal → Signal) : (d.onSignal p f).life = d.life := rfl
@[simp] theorem Dev.onSignal_safe (d : Dev) (p : Port) (f : Signal → Signal) : (d.onSignal p f).safe = d.safe := rfl
@[simp] theorem Dev.onSignal_fieldValid (d : Dev) (p : Port) (f : Signal → Signal) : (d.onSignal p f).fieldValid = d.fieldValid := rfl
@[simp] theorem Dev.onSignal_time (d : Dev) (p : Port) (f : Signal → Signal) : (d.onSignal p f).time = d.time := rfl
@[simp] theorem Dev.onSignal_mgmt (d : Dev) (p : Port) (f : Signal → Signal) : (d.onSignal p f).mgmt = d.mgmt := rfl
@[simp] theorem Dev.onSignal_hall (d : Dev) (p : Port) (f : Signal → Signal) : (d.onSignal p f).hall = d.hall := rfl
@[simp] theorem Dev.onSignal_dies (d : Dev) (p : Port) (f : Signal → Signal) : (d.onSignal p f).dies = d.dies := rfl
@[simp] theorem Dev.onSignal_clocks (d : Dev) (p : Port) (f : Signal → Signal) : (d.onSignal p f).clocks = d.clocks := rfl
@[simp] theorem Dev.onSignal_options (d : Dev) (p : Port) (f : Signal → Signal) : (d.onSignal p f).options = d.options := rfl
@[simp] theorem Dev.onSignal_nv (d : Dev) (p : Port) (f : Signal → Signal) : (d.onSignal p f).nv = d.nv := rfl
@[simp] theorem Dev.onSignal_pace (d : Dev) (p : Port) (f : Signal → Signal) : (d.onSignal p f).pace = d.pace := rfl
@[simp] theorem Dev.onSignal_faults (d : Dev) (p : Port) (f : Signal → Signal) : (d.onSignal p f).faults = d.faults := rfl
@[simp] theorem Dev.onSignal_blockReset (d : Dev) (p : Port) (f : Signal → Signal) : (d.onSignal p f).blockReset = d.blockReset := rfl
@[simp] theorem Dev.onSignal_injection (d : Dev) (p : Port) (f : Signal → Signal) : (d.onSignal p f).injection = d.injection := rfl
@[simp] theorem Dev.onSignal_firstAt (d : Dev) (p : Port) (f : Signal → Signal) : (d.onSignal p f).firstAt = d.firstAt := rfl
@[simp] theorem Dev.onSignal_assay (d : Dev) (p : Port) (f : Signal → Signal) : (d.onSignal p f).assay = d.assay := rfl
@[simp] theorem Dev.onSignal_samplers (d : Dev) (p : Port) (f : Signal → Signal) : (d.onSignal p f).samplers = d.samplers := rfl
@[simp] theorem Dev.onSignal_tlm (d : Dev) (p : Port) (f : Signal → Signal) : (d.onSignal p f).tlm = d.tlm := rfl
@[simp] theorem Dev.onSignal_temperSelect (d : Dev) (p : Port) (f : Signal → Signal) : (d.onSignal p f).temperSelect = d.temperSelect := rfl
@[simp] theorem Dev.onSignal_pps (d : Dev) (p : Port) (f : Signal → Signal) : (d.onSignal p f).pps = d.pps := rfl
@[simp] theorem Dev.onSignal_pins (d : Dev) (p : Port) (f : Signal → Signal) : (d.onSignal p f).pins = d.pins := rfl
@[simp] theorem Dev.onSignal_out (d : Dev) (p : Port) (f : Signal → Signal) : (d.onSignal p f).out = d.out := rfl
@[simp] theorem Dev.onSignal_get (d : Dev) (p : Port) (f : Signal → Signal) (j t : Nat) : (d.onSignal p f).get j t = d.get j t := rfl

/-! ## `Dev.onCrypt` -/

@[simp] theorem Dev.onCrypt_objs (d : Dev) (p : Port) (f : SealSt → SealSt) : (d.onCrypt p f).objs = d.objs := rfl
@[simp] theorem Dev.onCrypt_warmCount (d : Dev) (p : Port) (f : SealSt → SealSt) : (d.onCrypt p f).warmCount = d.warmCount := rfl
@[simp] theorem Dev.onCrypt_uptime (d : Dev) (p : Port) (f : SealSt → SealSt) : (d.onCrypt p f).uptime = d.uptime := rfl
@[simp] theorem Dev.onCrypt_draws (d : Dev) (p : Port) (f : SealSt → SealSt) : (d.onCrypt p f).draws = d.draws := rfl
@[simp] theorem Dev.onCrypt_life (d : Dev) (p : Port) (f : SealSt → SealSt) : (d.onCrypt p f).life = d.life := rfl
@[simp] theorem Dev.onCrypt_safe (d : Dev) (p : Port) (f : SealSt → SealSt) : (d.onCrypt p f).safe = d.safe := rfl
@[simp] theorem Dev.onCrypt_fieldValid (d : Dev) (p : Port) (f : SealSt → SealSt) : (d.onCrypt p f).fieldValid = d.fieldValid := rfl
@[simp] theorem Dev.onCrypt_time (d : Dev) (p : Port) (f : SealSt → SealSt) : (d.onCrypt p f).time = d.time := rfl
@[simp] theorem Dev.onCrypt_mgmt (d : Dev) (p : Port) (f : SealSt → SealSt) : (d.onCrypt p f).mgmt = d.mgmt := rfl
@[simp] theorem Dev.onCrypt_hall (d : Dev) (p : Port) (f : SealSt → SealSt) : (d.onCrypt p f).hall = d.hall := rfl
@[simp] theorem Dev.onCrypt_dies (d : Dev) (p : Port) (f : SealSt → SealSt) : (d.onCrypt p f).dies = d.dies := rfl
@[simp] theorem Dev.onCrypt_clocks (d : Dev) (p : Port) (f : SealSt → SealSt) : (d.onCrypt p f).clocks = d.clocks := rfl
@[simp] theorem Dev.onCrypt_options (d : Dev) (p : Port) (f : SealSt → SealSt) : (d.onCrypt p f).options = d.options := rfl
@[simp] theorem Dev.onCrypt_nv (d : Dev) (p : Port) (f : SealSt → SealSt) : (d.onCrypt p f).nv = d.nv := rfl
@[simp] theorem Dev.onCrypt_pace (d : Dev) (p : Port) (f : SealSt → SealSt) : (d.onCrypt p f).pace = d.pace := rfl
@[simp] theorem Dev.onCrypt_faults (d : Dev) (p : Port) (f : SealSt → SealSt) : (d.onCrypt p f).faults = d.faults := rfl
@[simp] theorem Dev.onCrypt_blockReset (d : Dev) (p : Port) (f : SealSt → SealSt) : (d.onCrypt p f).blockReset = d.blockReset := rfl
@[simp] theorem Dev.onCrypt_injection (d : Dev) (p : Port) (f : SealSt → SealSt) : (d.onCrypt p f).injection = d.injection := rfl
@[simp] theorem Dev.onCrypt_firstAt (d : Dev) (p : Port) (f : SealSt → SealSt) : (d.onCrypt p f).firstAt = d.firstAt := rfl
@[simp] theorem Dev.onCrypt_assay (d : Dev) (p : Port) (f : SealSt → SealSt) : (d.onCrypt p f).assay = d.assay := rfl
@[simp] theorem Dev.onCrypt_samplers (d : Dev) (p : Port) (f : SealSt → SealSt) : (d.onCrypt p f).samplers = d.samplers := rfl
@[simp] theorem Dev.onCrypt_tlm (d : Dev) (p : Port) (f : SealSt → SealSt) : (d.onCrypt p f).tlm = d.tlm := rfl
@[simp] theorem Dev.onCrypt_temperSelect (d : Dev) (p : Port) (f : SealSt → SealSt) : (d.onCrypt p f).temperSelect = d.temperSelect := rfl
@[simp] theorem Dev.onCrypt_pps (d : Dev) (p : Port) (f : SealSt → SealSt) : (d.onCrypt p f).pps = d.pps := rfl
@[simp] theorem Dev.onCrypt_pins (d : Dev) (p : Port) (f : SealSt → SealSt) : (d.onCrypt p f).pins = d.pins := rfl
@[simp] theorem Dev.onCrypt_out (d : Dev) (p : Port) (f : SealSt → SealSt) : (d.onCrypt p f).out = d.out := rfl
@[simp] theorem Dev.onCrypt_get (d : Dev) (p : Port) (f : SealSt → SealSt) (j t : Nat) : (d.onCrypt p f).get j t = d.get j t := rfl

/-! ## `Dev.onHost` -/

@[simp] theorem Dev.onHost_objs (d : Dev) (p : Port) (f : HostSt → HostSt) : (d.onHost p f).objs = d.objs := rfl
@[simp] theorem Dev.onHost_warmCount (d : Dev) (p : Port) (f : HostSt → HostSt) : (d.onHost p f).warmCount = d.warmCount := rfl
@[simp] theorem Dev.onHost_uptime (d : Dev) (p : Port) (f : HostSt → HostSt) : (d.onHost p f).uptime = d.uptime := rfl
@[simp] theorem Dev.onHost_draws (d : Dev) (p : Port) (f : HostSt → HostSt) : (d.onHost p f).draws = d.draws := rfl
@[simp] theorem Dev.onHost_life (d : Dev) (p : Port) (f : HostSt → HostSt) : (d.onHost p f).life = d.life := rfl
@[simp] theorem Dev.onHost_safe (d : Dev) (p : Port) (f : HostSt → HostSt) : (d.onHost p f).safe = d.safe := rfl
@[simp] theorem Dev.onHost_fieldValid (d : Dev) (p : Port) (f : HostSt → HostSt) : (d.onHost p f).fieldValid = d.fieldValid := rfl
@[simp] theorem Dev.onHost_time (d : Dev) (p : Port) (f : HostSt → HostSt) : (d.onHost p f).time = d.time := rfl
@[simp] theorem Dev.onHost_mgmt (d : Dev) (p : Port) (f : HostSt → HostSt) : (d.onHost p f).mgmt = d.mgmt := rfl
@[simp] theorem Dev.onHost_hall (d : Dev) (p : Port) (f : HostSt → HostSt) : (d.onHost p f).hall = d.hall := rfl
@[simp] theorem Dev.onHost_dies (d : Dev) (p : Port) (f : HostSt → HostSt) : (d.onHost p f).dies = d.dies := rfl
@[simp] theorem Dev.onHost_clocks (d : Dev) (p : Port) (f : HostSt → HostSt) : (d.onHost p f).clocks = d.clocks := rfl
@[simp] theorem Dev.onHost_options (d : Dev) (p : Port) (f : HostSt → HostSt) : (d.onHost p f).options = d.options := rfl
@[simp] theorem Dev.onHost_nv (d : Dev) (p : Port) (f : HostSt → HostSt) : (d.onHost p f).nv = d.nv := rfl
@[simp] theorem Dev.onHost_pace (d : Dev) (p : Port) (f : HostSt → HostSt) : (d.onHost p f).pace = d.pace := rfl
@[simp] theorem Dev.onHost_faults (d : Dev) (p : Port) (f : HostSt → HostSt) : (d.onHost p f).faults = d.faults := rfl
@[simp] theorem Dev.onHost_blockReset (d : Dev) (p : Port) (f : HostSt → HostSt) : (d.onHost p f).blockReset = d.blockReset := rfl
@[simp] theorem Dev.onHost_injection (d : Dev) (p : Port) (f : HostSt → HostSt) : (d.onHost p f).injection = d.injection := rfl
@[simp] theorem Dev.onHost_firstAt (d : Dev) (p : Port) (f : HostSt → HostSt) : (d.onHost p f).firstAt = d.firstAt := rfl
@[simp] theorem Dev.onHost_assay (d : Dev) (p : Port) (f : HostSt → HostSt) : (d.onHost p f).assay = d.assay := rfl
@[simp] theorem Dev.onHost_samplers (d : Dev) (p : Port) (f : HostSt → HostSt) : (d.onHost p f).samplers = d.samplers := rfl
@[simp] theorem Dev.onHost_tlm (d : Dev) (p : Port) (f : HostSt → HostSt) : (d.onHost p f).tlm = d.tlm := rfl
@[simp] theorem Dev.onHost_temperSelect (d : Dev) (p : Port) (f : HostSt → HostSt) : (d.onHost p f).temperSelect = d.temperSelect := rfl
@[simp] theorem Dev.onHost_pps (d : Dev) (p : Port) (f : HostSt → HostSt) : (d.onHost p f).pps = d.pps := rfl
@[simp] theorem Dev.onHost_pins (d : Dev) (p : Port) (f : HostSt → HostSt) : (d.onHost p f).pins = d.pins := rfl
@[simp] theorem Dev.onHost_out (d : Dev) (p : Port) (f : HostSt → HostSt) : (d.onHost p f).out = d.out := rfl
@[simp] theorem Dev.onHost_get (d : Dev) (p : Port) (f : HostSt → HostSt) (j t : Nat) : (d.onHost p f).get j t = d.get j t := rfl

@[simp] theorem Dev.emit_out' (d : Dev) (x : Out) : (d.emit x).out = d.out ++ [x] := rfl
@[simp] theorem Dev.onMgmt_mgmt' (d : Dev) (f : Mgmt → Mgmt) : (d.onMgmt f).mgmt = f d.mgmt := rfl
@[simp] theorem Dev.onHall_hall' (d : Dev) (f : Hall → Hall) : (d.onHall f).hall = f d.hall := rfl
@[simp] theorem Dev.newDraw_draws' (d : Dev) : d.newDraw.draws = d.draws + 1 := rfl

/-! ## Vectors -/

theorem upd_same {α : Type} {n : Nat} (v : Vector α n) (i : Fin n) (f : α → α) : (upd v i f).get i = f (v.get i) := by
  simp only [upd, Vector.get, Vector.set]
  exact Array.getElem_set_self _

theorem upd_other {α : Type} {n : Nat} (v : Vector α n) (i j : Fin n) (f : α → α) (h : i ≠ j) : (upd v i f).get j = v.get j := by
  have h' : i.val ≠ j.val := fun e => h (Fin.ext e)
  simp only [upd, Vector.get, Vector.set]
  exact Array.getElem_set_ne _ _ h'

@[simp] theorem Dev.port_onPort_same (d : Dev) (p : Port) (f : PortSt → PortSt) : (d.onPort p f).port p = f (d.port p) := upd_same _ _ _

theorem Dev.port_onPort_other (d : Dev) (p q : Port) (f : PortSt → PortSt) (h : p ≠ q) : (d.onPort p f).port q = d.port q := upd_other _ _ _ _ h

/-! ## The store of objects -/

theorem Store.find_insert_same (k v : Nat) (l : List (Nat × Nat)) : Store.find k (Store.insert k v l) = some v := by
  induction l with
  | nil => simp [Store.insert, Store.find]
  | cons e l ih =>
    simp only [Store.insert]
    split
    · next h => simp only [Store.find]; rw [if_neg (by omega)]; exact ih
    · split <;> simp [Store.find]

theorem Store.find_insert_other (k j v : Nat) (l : List (Nat × Nat)) (h : k ≠ j) : Store.find j (Store.insert k v l) = Store.find j l := by
  induction l with
  | nil => simp [Store.insert, Store.find, h]
  | cons e l ih =>
    simp only [Store.insert]
    split
    · simp only [Store.find, ih]
    · split
      · next h' => simp [Store.find, h, h']
      · simp [Store.find, h]

theorem Store.find_erase_same (k : Nat) (l : List (Nat × Nat)) : Store.find k (Store.erase k l) = none := by
  induction l with
  | nil => rfl
  | cons e l ih =>
    simp only [Store.erase, List.filter_cons]
    split
    · next h => simp only [Store.find]; rw [if_neg (by simpa using h)]; exact ih
    · exact ih

theorem Store.find_erase_other (k j : Nat) (l : List (Nat × Nat)) (h : k ≠ j) : Store.find j (Store.erase k l) = Store.find j l := by
  induction l with
  | nil => rfl
  | cons e l ih =>
    simp only [Store.erase, List.filter_cons]
    split
    · simp only [Store.find]; rw [show l.filter (fun e => decide (e.1 ≠ k)) = Store.erase k l from rfl, ih]
    · next h' =>
      have : e.1 ≠ j := by simp at h'; omega
      simp only [Store.find]; rw [if_neg this]; exact ih

/-- A stored value is read back. -/
@[simp] theorem Dev.get_put_same (d : Dev) (i s v : Nat) : (d.put i s v).get i s = v := by
  simp only [Dev.put, Dev.get]
  split
  · next h => rw [Store.find_erase_same]; exact h.symm
  · rw [Store.find_insert_same]; rfl

/-- A store leaves every other object alone. -/
theorem Dev.get_put_other (d : Dev) (i s v j t : Nat) (h : key i s ≠ key j t) : (d.put i s v).get j t = d.get j t := by
  simp only [Dev.put, Dev.get]
  split
  · rw [Store.find_erase_other _ _ _ h]
  · rw [Store.find_insert_other _ _ _ _ h]

theorem key_ne_index {i j s t : Nat} (h : i ≠ j) (hs : s < 256) (ht : t < 256) : key i s ≠ key j t := by
  unfold key; omega

theorem key_ne_sub {i j s t : Nat} (h : s ≠ t) (hs : s < 256) (ht : t < 256) : key i s ≠ key j t := by
  unfold key; omega

/-- A counter counts up by `n` modulo its width. -/
@[simp] theorem Dev.get_count_same (d : Dev) (i s n : Nat) : (d.count i s n).get i s = (d.get i s + n) % 2 ^ Catalog.width i s :=
  d.get_put_same i s _

theorem Dev.get_count_other (d : Dev) (i s n j t : Nat) (h : key i s ≠ key j t) : (d.count i s n).get j t = d.get j t :=
  d.get_put_other i s _ j t h

theorem Dev.get_inc_other (d : Dev) (i s j t : Nat) (h : key i s ≠ key j t) : (d.inc i s).get j t = d.get j t :=
  d.get_put_other i s _ j t h

/-- An event sets its bit. -/
theorem Dev.get_eventMask_bits (d : Dev) (i m : Nat) : (d.eventMask i m).get i 1 = d.get i 1 ||| m := by
  unfold Dev.eventMask
  rw [Dev.get_put_other _ _ _ _ _ _ (by unfold key; omega), Dev.get_put_same]

/-- An event counts the object's sequence number up. -/
theorem Dev.get_eventMask_seq (d : Dev) (i m : Nat) : (d.eventMask i m).get i 2 = (d.get i 2 + 1) % 65536 :=
  Dev.get_put_same _ _ _ _

theorem Dev.get_eventMask_other (d : Dev) (i m j t : Nat) (h1 : key i 1 ≠ key j t) (h2 : key i 2 ≠ key j t) :
    (d.eventMask i m).get j t = d.get j t := by
  unfold Dev.eventMask
  rw [Dev.get_put_other _ _ _ _ _ _ h2, Dev.get_put_other _ _ _ _ _ _ h1]

theorem Dev.get_event_other (d : Dev) (i b j t : Nat) (h1 : key i 1 ≠ key j t) (h2 : key i 2 ≠ key j t) :
    (d.event i b).get j t = d.get j t :=
  d.get_eventMask_other i _ j t h1 h2

/-! ## The canonical form -/

theorem Store.wf_tail {e : Nat × Nat} {l : List (Nat × Nat)} (h : Store.wf (e :: l) = true) : Store.wf l = true := by
  cases l with
  | nil => rfl
  | cons e' l => simp [Store.wf] at h; exact h.2

/-- Every listed key is above a bound. -/
def Store.above (k : Nat) (l : List (Nat × Nat)) : Prop := ∀ e ∈ l, k < e.1

theorem Store.wf_above {e : Nat × Nat} {l : List (Nat × Nat)} (h : Store.wf (e :: l) = true) : Store.above e.1 l := by
  induction l generalizing e with
  | nil => intro x hx; cases hx
  | cons e' l ih =>
    simp [Store.wf] at h
    intro x hx
    rcases List.mem_cons.mp hx with rfl | hx
    · exact h.1.2
    · exact Nat.lt_trans h.1.2 (ih h.2 x hx)

theorem Store.wf_head {e : Nat × Nat} {l : List (Nat × Nat)} (h : Store.wf (e :: l) = true) :
    e.2 ≠ Catalog.dflt (e.1 / 256) (e.1 % 256) := by
  cases l <;> simp [Store.wf] at h
  · exact h
  · exact h.1.1

theorem Store.wf_cons {e : Nat × Nat} {l : List (Nat × Nat)} (hl : Store.wf l = true) (ha : Store.above e.1 l)
    (hd : e.2 ≠ Catalog.dflt (e.1 / 256) (e.1 % 256)) : Store.wf (e :: l) = true := by
  cases l with
  | nil => simpa [Store.wf] using hd
  | cons e' l => simp [Store.wf, hl, hd, ha e' (List.mem_cons_self ..)]

theorem Store.above_insert {k m v : Nat} {l : List (Nat × Nat)} (h : Store.above m l) (hk : m < k) : Store.above m (Store.insert k v l) := by
  induction l with
  | nil => intro e he; simp [Store.insert] at he; subst he; exact hk
  | cons e l ih =>
    have hl : Store.above m l := fun x hx => h x (List.mem_cons_of_mem _ hx)
    have he := h e (List.mem_cons_self ..)
    simp only [Store.insert]
    split
    · intro x hx
      rcases List.mem_cons.mp hx with rfl | hx
      · exact he
      · exact ih hl x hx
    · split
      · intro x hx
        rcases List.mem_cons.mp hx with rfl | hx
        · exact hk
        · exact hl x hx
      · intro x hx
        rcases List.mem_cons.mp hx with rfl | hx
        · exact hk
        · exact h x hx

/-- Keeping some entries keeps the form. -/
theorem Store.wf_filter (f : Nat × Nat → Bool) {l : List (Nat × Nat)} (h : Store.wf l = true) : Store.wf (l.filter f) = true := by
  induction l with
  | nil => rfl
  | cons e l ih =>
    simp only [List.filter_cons]
    split
    · exact Store.wf_cons (ih (Store.wf_tail h)) (fun x hx => Store.wf_above h x (List.mem_of_mem_filter hx)) (Store.wf_head h)
    · exact ih (Store.wf_tail h)

/-- Listing a value that is no power-on value keeps the form. -/
theorem Store.wf_insert {k v : Nat} {l : List (Nat × Nat)} (h : Store.wf l = true) (hv : v ≠ Catalog.dflt (k / 256) (k % 256)) :
    Store.wf (Store.insert k v l) = true := by
  induction l with
  | nil => simpa [Store.insert, Store.wf] using hv
  | cons e l ih =>
    simp only [Store.insert]
    split
    · next hk => exact Store.wf_cons (ih (Store.wf_tail h)) (Store.above_insert (Store.wf_above h) hk) (Store.wf_head h)
    · split
      · next hk =>
        subst hk
        exact Store.wf_cons (e := (e.1, v)) (Store.wf_tail h) (fun x hx => Store.wf_above h x hx) hv
      · next h1 h2 =>
        refine Store.wf_cons h ?_ hv
        intro x hx
        rcases List.mem_cons.mp hx with rfl | hx
        · show k < _; omega
        · have := Store.wf_above h x hx; show k < _; omega

/-- A store keeps the canonical form of the dictionary. -/
theorem Dev.put_wf {d : Dev} (h : Store.wf d.objs = true) (i s v : Nat) (hs : s < 256) : Store.wf (d.put i s v).objs = true := by
  simp only [Dev.put]
  split
  · exact Store.wf_filter _ h
  · next hv =>
    refine Store.wf_insert h ?_
    have e1 : key i s / 256 = i := by unfold key; omega
    have e2 : key i s % 256 = s := by unfold key; omega
    rwa [e1, e2]

/-- The dictionary is canonical at reset. -/
theorem State.reset_wf : Store.wf State.reset.dev.objs = true := rfl

end Sys2Proof.Machine
end

