-- ==== Sys2Proof/Laws/Ops.lean ====
section
/-! SUPPORT. What the shared operations can do: the response code of a list of conditions, a software write that is heard and granted, refused, or
not heard, and what no command of the device's own touches. -/

namespace Sys2Proof.Machine

/-! ## Response codes (R36) -/

/-- With no condition that applies the code is OK. -/
theorem firstCode_ok {l : List (Bool × Code)} (h : ∀ x ∈ l, x.1 = false) : firstCode l = .ok := by
  induction l with
  | nil => rfl
  | cons x l ih =>
    obtain ⟨b, c⟩ := x
    have hb : b = false := h (b, c) (List.mem_cons_self ..)
    subst hb
    simpa [firstCode] using ih (fun y hy => h y (List.mem_cons_of_mem _ hy))

@[simp] theorem firstCode_nil : firstCode [] = .ok := rfl
@[simp] theorem firstCode_cons_false (c : Code) (l : List (Bool × Code)) : firstCode ((false, c) :: l) = firstCode l := rfl

theorem Code.first_ok (c : Code) : Code.first c .ok = c := by cases c <;> rfl

/-- The code of two lists of conditions is the first in R36's order of the codes of each. -/
theorem firstCode_append (l m : List (Bool × Code)) : firstCode (l ++ m) = .ok ↔ firstCode l = .ok ∧ firstCode m = .ok := by
  induction l with
  | nil => simp
  | cons x l ih =>
    obtain ⟨b, c⟩ := x
    cases b
    · simpa [firstCode] using ih
    · have key : ∀ a : Code, Code.first c a = .ok ↔ c = .ok ∧ a = .ok := by intro a; cases c <;> cases a <;> decide
      simp [firstCode, key, ih, and_assoc]

/-- A condition that applies, alone with conditions that do not, gives its own code. -/
theorem firstCode_cons_true (c : Code) {l : List (Bool × Code)} (h : firstCode l = .ok) : firstCode ((true, c) :: l) = c := by
  simp [firstCode, h, Code.first_ok]

/-! ## Software writes -/

/-- A write that no condition refuses has its effect. -/
theorem Op.apply_ok {o : Op} (h : firstCode o.checks = .ok) (r : Req) (idx sub : Nat) (d : Dev) : o.apply r idx sub d = (.ok, o.effect d) := by
  simp [Op.apply, h]

/-- A write that is heard, not lost on its way, and that nothing refuses: its effect, the answer OK, what follows the answer. -/
theorem Op.run_ok {o : Op} {d : Dev} {r : Req} (idx sub : Nat) (hh : d.hears r.route = true) (hl : d.lostRequest idx = false)
    (h : firstCode o.checks = .ok) :
    o.run r idx sub d = o.later ((o.effect d).answer r .ok) := by
  simp [Op.run, hh, hl, Op.apply_ok h]

/-- A write that is heard and refused: what the refusal does, and its answer. -/
theorem Op.run_refused {o : Op} {d : Dev} {r : Req} (idx sub : Nat) {c : Code} (hh : d.hears r.route = true) (hl : d.lostRequest idx = false)
    (h : firstCode o.checks = c) (hc : c ≠ .ok) : o.run r idx sub d = ((o.refusal c d).refused r idx sub c).answer r c := by
  have e : o.apply r idx sub d = (c, (o.refusal c d).refused r idx sub c) := by
    unfold Op.apply; rw [h]; cases c <;> first | exact absurd rfl hc | rfl
  simp [Op.run, hh, hl, e, hc]

/-- A write that is heard and lost on its way to a line die has no effect and no answer. -/
theorem Op.run_lost {o : Op} {d : Dev} {r : Req} (idx sub : Nat) (hh : d.hears r.route = true) (hl : d.lostRequest idx = true) :
    o.run r idx sub d = d.lostTaken idx := by
  simp [Op.run, hh, hl]

/-- A write that nobody hears changes nothing. -/
theorem Op.run_unheard {o : Op} {d : Dev} {r : Req} (idx sub : Nat) (hh : d.hears r.route = false) : o.run r idx sub d = d := by
  simp [Op.run, hh]

theorem State.write_ok {s : State} {r : Req} (idx sub : Nat) {o : Vault → Dev → Op} (hh : s.dev.hears r.route = true)
    (hl : s.dev.lostRequest idx = false)
    (h : firstCode (o s.vault s.dev).checks = .ok) :
    s.write r idx sub o = .next (s.onDev (fun d => (o s.vault s.dev).later (((o s.vault s.dev).effect d).answer r .ok))) := by
  simp [State.write, State.onDev, Op.run_ok idx sub hh hl h]

/-- A command of the device's own answers a next state, and leaves the one-way store and the queue alone. -/
theorem State.event_next (s : State) (f : Dev → Dev) :
    ∃ t, s.event f = .next t ∧ t.dev = f s.dev ∧ t.vault = s.vault ∧ t.pending = s.pending :=
  ⟨s.onDev f, rfl, rfl, rfl, rfl⟩

/-- So does a software write, whatever its answer. -/
theorem State.write_next (s : State) (r : Req) (idx sub : Nat) (o : Vault → Dev → Op) :
    ∃ t, s.write r idx sub o = .next t ∧ t.dev = (o s.vault s.dev).run r idx sub s.dev ∧ t.vault = s.vault ∧ t.pending = s.pending :=
  ⟨_, rfl, rfl, rfl, rfl⟩

/-! ## Answers -/

/-- The answer to an access stands last among what the device has sent. -/
@[simp] theorem Dev.answer_out (d : Dev) (r : Req) (c : Code) : (d.answer r c).out = d.out ++ [.answer r c.value] := by
  unfold Dev.answer; split <;> rfl

theorem Dev.answer_get (d : Dev) (r : Req) (c : Code) (i t : Nat) (h : key 0x1404 1 ≠ key i t) : (d.answer r c).get i t = d.get i t := by
  unfold Dev.answer
  split
  · rw [Dev.emit_get, Dev.get_inc_other _ _ _ _ _ h]
  · rw [Dev.emit_get]

@[simp] theorem Dev.answer_port (d : Dev) (r : Req) (c : Code) (p : Port) : (d.answer r c).port p = d.port p := by
  unfold Dev.answer; split <;> rfl

/-! ## Folds -/

/-- What every step of a fold keeps, the fold keeps. -/
theorem foldl_keeps {α β : Type} (P : α → Prop) (f : α → β → α) (l : List β) (h : ∀ a b, P a → P (f a b)) {a : α} (ha : P a) : P (l.foldl f a) := by
  induction l generalizing a with
  | nil => exact ha
  | cons b l ih => exact ih (h a b ha)

/-- A field that no step of a fold over every port, die or pair changes. -/
theorem forAll_keeps {α β : Type} (n : Nat) (f : Fin n → α → α) (g : α → β) (h : ∀ i a, g (f i a) = g a) (a : α) : g (forAll n f a) = g a :=
  foldl_keeps (fun x => g x = g a) _ _ (fun x i hx => (h i x).trans hx) rfl

/-- What the step for one index establishes and the steps for all others keep holds at the end. -/
theorem foldl_establishes {α β : Type} (P : α → Prop) (f : α → β → α) (l : List β) (b : β) (hb : b ∈ l) (he : ∀ a, P (f a b))
    (hk : ∀ a c, P a → P (f a c)) (a : α) : P (l.foldl f a) := by
  induction l generalizing a with
  | nil => cases hb
  | cons c l ih =>
    rcases List.mem_cons.mp hb with rfl | hb
    · exact foldl_keeps P f l hk (he a)
    · exact ih hb (f a c)

end Sys2Proof.Machine
end

