-- ==== Sys2Proof/Laws/Vault.lean ====
section
/-! SUPPORT. What the writes that reach the one-way store can do to it: nothing when they are refused, and their own effect when they are granted. -/

namespace Sys2Proof.Machine

/-- The order on one-way stores is reflexive and transitive. -/
theorem Vault.Advances.refl (v : Vault) : v.Advances v := ⟨Nat.le_refl _, fun _ => Nat.le_refl _⟩

theorem Vault.Advances.trans {u v w : Vault} (h : u.Advances v) (k : v.Advances w) : u.Advances w :=
  ⟨Nat.le_trans h.1 k.1, fun i => Nat.le_trans (h.2 i) (k.2 i)⟩

/-- No condition of a granted list applies. -/
theorem firstCode_mem {l : List (Bool × Code)} (h : firstCode l = .ok) {b : Bool} {c : Code} (hm : (b, c) ∈ l) (hc : c ≠ .ok) : b = false := by
  obtain ⟨l₁, l₂, rfl⟩ := List.append_of_mem hm
  obtain ⟨-, h2⟩ := (firstCode_append _ _).mp h
  cases b with
  | false => rfl
  | true =>
    exfalso; revert h2
    simp only [firstCode]
    have key : ∀ a : Code, Code.first c a = .ok → c = .ok := by intro a; cases c <;> cases a <;> decide
    exact fun h2 => hc (key _ h2)

/-- A write that may reach the one-way store leaves it, or is granted and gives its effect's; the queue it leaves alone. -/
theorem VOp.apply_vault (o : VOp) (r : Req) (idx sub : Nat) (s : State) :
    (o.apply r idx sub s).2.pending = s.pending ∧ ((o.apply r idx sub s).2.vault = s.vault
      ∨ (firstCode o.checks = .ok ∧ (o.apply r idx sub s).2.vault = (o.effect s.vault s.dev).1)) := by
  unfold VOp.apply
  split
  · next h => exact ⟨rfl, .inr ⟨h, rfl⟩⟩
  · exact ⟨rfl, .inl rfl⟩

/-- As a whole command it answers a next state. -/
theorem State.vaultWrite_next (s : State) (r : Req) (idx sub : Nat) (heard : Bool) (o : VOp) :
    ∃ t, s.vaultWrite r idx sub heard o = .next t ∧ t.pending = s.pending
      ∧ (t.vault = s.vault ∨ (firstCode o.checks = .ok ∧ t.vault = (o.effect s.vault s.dev).1)) := by
  cases heard with
  | false => exact ⟨s, rfl, rfl, .inl rfl⟩
  | true => exact ⟨_, rfl, (o.apply_vault r idx sub s).1, (o.apply_vault r idx sub s).2⟩

/-- So does a write of either kind. -/
theorem AnyOp.apply_vault (o : AnyOp) (r : Req) (idx sub : Nat) (s : State) :
    (o.apply r idx sub s).2.pending = s.pending ∧ ((o.apply r idx sub s).2.vault = s.vault
      ∨ ∃ w : VOp, o = .vault w ∧ firstCode w.checks = .ok ∧ (o.apply r idx sub s).2.vault = (w.effect s.vault s.dev).1) := by
  cases o with
  | dev o => exact ⟨rfl, .inl rfl⟩
  | vault o =>
    obtain ⟨h1, h2⟩ := o.apply_vault r idx sub s
    exact ⟨h1, h2.imp id (fun h => ⟨o, rfl, h⟩)⟩

/-- Further conditions do not change what a write of the one-way store does to it. -/
theorem AnyOp.under_vault {o : AnyOp} {more : List (Bool × Code)} {w : VOp} (h : o.under more = .vault w) (hw : firstCode w.checks = .ok) :
    ∃ u : VOp, o = .vault u ∧ firstCode u.checks = .ok ∧ w.effect = u.effect := by
  cases o with
  | dev o => cases h
  | vault u =>
    cases h
    exact ⟨u, rfl, ((firstCode_append _ _).mp hw).2, rfl⟩

/-- A transition of R216 moves the life-cycle state on, and touches no fuse. -/
theorem lifeEffect_advances {v : Vault} {d : Dev} {dest : Nat} {keys : List (List Byte)} {root : Option (List Byte)} (h : lifeAllowed v.lifecycle dest = true) :
    v.Advances (lifeEffect dest keys root v d).1 ∧ (lifeEffect dest keys root v d).1.fuseLevels = v.fuseLevels
      ∧ (v.Legal → (lifeEffect dest keys root v d).1.Legal) := by
  simp only [lifeAllowed, Bool.or_eq_true, Bool.and_eq_true, decide_eq_true_eq] at h
  rcases h with (((⟨h, rfl⟩ | ⟨h, rfl⟩) | ⟨h, rfl⟩) | ⟨h, rfl⟩) | ⟨h, rfl⟩ <;>
    by_cases h4 : v.lifecycle = 4 <;> simp [lifeEffect, eraseOwner, Vault.Advances, Vault.Legal, h, h4]
  all_goals omega

end Sys2Proof.Machine
end

