-- ==== Sys2Proof/WellFormed.lean ====
section
/-! DEFINITION. Well-formed commands: every operand fits the field that carries it. A command's meaning is defined whether or not it is well
formed; a value that fits its field and is not allowed in it is a well-formed command that the device refuses with a response code. -/

namespace Sys2Proof

/-- A requester: a MAC address of 48 bits, a SESSION byte (R54). -/
def Req.wf (r : Req) : Bool := r.mac < 2 ^ 48 && r.session < 2 ^ 8

/-- An item of a READ: INDEX and SUBINDEX (R55). -/
def RItem.wf (i : RItem) : Bool := i.index < 2 ^ 16 && i.sub < 2 ^ 8

/-- An item of a WRITE: INDEX, SUBINDEX, TYPE, LENGTH, and a value of LENGTH bytes (R55). -/
def WItem.wf (i : WItem) : Bool :=
  i.index < 2 ^ 16 && i.sub < 2 ^ 8 && i.type < 2 ^ 8 && i.length < 2 ^ 16 && i.value < 2 ^ (8 * i.length)

/-- An access in an arbitration window (R463). -/
def Access.wf : Access → Bool
  | .write r w => r.wf && w.wf
  | .clear r index seq => r.wf && index < 2 ^ 16 && seq < 2 ^ 16
  | .read r i => r.wf && i.wf

/-- The fields before the body of a management frame (R54, R64). -/
def MHdr.wf (h : MHdr) : Bool :=
  h.mac < 2 ^ 48 && h.dest < 2 ^ 48 && h.version < 2 ^ 8 && h.flags < 2 ^ 8 && h.reqId < 2 ^ 16 && h.session < 2 ^ 8
    && h.itemCount < 2 ^ 8 && h.counter < 2 ^ 64

/-- The body of SEAL_HELLO (R221). -/
def SealHello.wf (h : SealHello) : Bool :=
  h.version < 2 ^ 8 && h.purpose < 2 ^ 8 && h.epoch < 2 ^ 32 && h.xPub.length == 56 && h.nonce.length == 16 && h.identity.length == 57

/-- The value of SA_INSTALL (R232). -/
def SaInstall.wf (v : SaInstall) : Bool :=
  v.an < 2 ^ 8 && v.ssci < 2 ^ 32 && v.salt.length == 12 && v.lowestPn < 2 ^ 64 && v.wrapped.length == 40

/-- Bits that a lane carries for one block: its 264 bits and the at most nine that stuffing put among them (R271, R278). -/
def lineWf (l : List Bool) : Bool := 264 ≤ l.length && l.length ≤ 273

/-- A twill message: its KIND has four bits, its CRC 32 (R271, R272). -/
def TwillMsg.wf (m : TwillMsg) : Bool := m.kind < 2 ^ 4 && m.crc < 2 ^ 32

/-- MODE and VALUE of a COMMIT (R50), and a SESSION request without step data (R60). -/
def CommitAsk.wf (v : CommitAsk) : Bool := v.mode < 2 ^ 8 && v.value < 2 ^ 32
def SessionAsk.wf (v : SessionAsk) : Bool := v.hdr.wf && v.step < 2 ^ 8

/-- Gwynale's keys: an owner root is an Ed448 public key of 57 bytes (R215). -/
def FactoryKeys.wf (k : FactoryKeys) : Bool := k.ownerRoot.all (fun r => r.length == 57)

/-- A command whose every operand fits its field. -/
def Instr.wellFormed : Instr → Bool
  | .powerOn _ => true
  | .domainPowerLoss _ => true
  | .fieldDomainValid => true
  | .pinReset => true
  | .start _ => true
  | .startTimeout => true
  | .recoveryExit r v => r.wf && (v < 2 ^ 8)
  | .warmReset _ => true
  | .warmResetRequest r _ => r.wf
  | .dieResetRequest r die => r.wf && (die < 2 ^ 8)
  | .portResetRequest r port => r.wf && (port < 2 ^ 8)
  | .blockResetRequest r source => r.wf && (source < 2 ^ 16)
  | .wrapperCut source => source < 2 ^ 16
  | .blockReinitialised source => source < 2 ^ 16
  | .clockMonitorTrip _ _ => true
  | .fallbackDelayEnd _ => true
  | .fallbackConfirmed _ => true
  | .fallbackFailed _ => true
  | .muxForced _ => true
  | .referenceReturn _ => true
  | .qualMeasurement _ island _ => island < 2 ^ 8
  | .islandRelease r die island => r.wf && (die < 2 ^ 8) && (island < 2 ^ 8)
  | .fcStart r _ meas ref gate => r.wf && (meas < 2 ^ 8) && (ref < 2 ^ 8) && (gate < 2 ^ 32)
  | .fcComplete _ measCount refCount => (measCount < 2 ^ 64) && (refCount < 2 ^ 64)
  | .fcAbort r _ v => r.wf && (v < 2 ^ 8)
  | .paceEvaluation _ => true
  | .avsTransactionDone _ _ => true
  | .paceFault source _ _ => source < 2 ^ 16
  | .powerControllerRecover _ => true
  | .arbitrationGrant reqs => reqs.all Access.wf
  | .objectWrite r w => r.wf && w.wf
  | .lockSet r _ v => r.wf && (v < 2 ^ 8)
  | .bitAliasWrite r index sub v => r.wf && (index < 2 ^ 16) && (sub < 2 ^ 8) && (v < 2 ^ 8)
  | .stClear r index seq => r.wf && (index < 2 ^ 16) && (seq < 2 ^ 16)
  | .read h items => h.wf && (items.all RItem.wf)
  | .write h items => h.wf && (items.all WItem.wf)
  | .readMulti h items => h.wf && (items.all RItem.wf)
  | .writeMulti h items => h.wf && (items.all WItem.wf)
  | .snapshot h => h.wf
  | .snapshotCapture => true
  | .commitAdopt h => h.wf
  | .commitVerify h v => h.wf && v.wf
  | .commitTimeout => true
  | .openConfig h => h.wf
  | .configPassComplete => true
  | .open1 h keyId xPub nonce => h.wf && (keyId.length == 8) && (xPub.length == 56) && (nonce.length == 16)
  | .open3 h signature => h.wf && (signature.length == 114)
  | .close v => v.wf
  | .sessionOpenTimeout _ => true
  | .sessionIdleTimeout _ => true
  | .notifyIntervalEnd index => index < 2 ^ 16
  | .mdioAddress _ _ addr => addr < 2 ^ 16
  | .mdioWrite _ _ data => data < 2 ^ 16
  | .mdioRead _ _ => true
  | .mdioReadIncrement _ _ => true
  | .configGateOpen => true
  | .configGateCommit => true
  | .portIdleRequest _ _ => true
  | .pewterSoftReset _ => true
  | .softResetDone _ => true
  | .portAdvertiseWrite r _ v => r.wf && (v < 2 ^ 16)
  | .hlRateWrite r _ v => r.wf && (v < 2 ^ 8)
  | .forcedLinkOk _ => true
  | .portEnable r _ => r.wf
  | .portDisable r _ => r.wf
  | .negRestart r _ v => r.wf && (v < 2 ^ 8)
  | .negotiationComplete _ _ => true
  | .trainingFrameRx _ header => header < 2 ^ 32
  | .trainStageTimeout _ => true
  | .trainTimeoutWrite r _ _ v => r.wf && (v < 2 ^ 16)
  | .standardTrainingDone _ _ => true
  | .backoffEnd _ => true
  | .hushStart _ => true
  | .hushEnd _ => true
  | .bundleGroupWrite r _ v => r.wf && (v < 2 ^ 8)
  | .nativeFrameTx _ => true
  | .nativeFrameRx _ _ => true
  | .relockNow r _ v => r.wf && (v < 2 ^ 8)
  | .relockStart _ => true
  | .relockReacquired _ _ => true
  | .relockFailed _ => true
  | .holdExpired _ => true
  | .linkPulsesReceived _ => true
  | .marginUpdate _ _ _ => true
  | .lossMarginTimeout _ => true
  | .standardLinkFail _ => true
  | .fastRetrainStart _ => true
  | .fastRetrainDone _ => true
  | .fastRetrainTimeout _ => true
  | .quietEntry _ => true
  | .quietRefresh _ _ => true
  | .deepRequest _ => true
  | .wakeToneRx _ => true
  | .presencePulse _ => true
  | .presencePulseRx _ => true
  | .refreshMissing _ => true
  | .wakeFailed _ => true
  | .selvageTelemetryTimer _ => true
  | .relockReport _ cause held => (cause < 2 ^ 8) && (held < 2 ^ 16)
  | .hushNote _ _ duration => duration < 2 ^ 8
  | .precoder _ pair _ => pair < 2 ^ 8
  | .precoderAck _ pair result => (pair < 2 ^ 8) && (result < 2 ^ 8)
  | .telemetry _ _ corrected uncorrectable => (corrected < 2 ^ 32) && (uncorrectable < 2 ^ 32)
  | .partnerQuery r _ v => r.wf && (v < 2 ^ 8)
  | .partnerQueryRx _ item => item < 2 ^ 8
  | .partnerReply _ item result _ => (item < 2 ^ 8) && (result < 2 ^ 8)
  | .partnerQueryTimeout _ => true
  | .selvageMsgTxStart _ => true
  | .adaptHold r _ ms => r.wf && (ms < 2 ^ 16)
  | .adaptHoldExpiry _ => true
  | .coefCapture r _ sel => r.wf && (sel < 2 ^ 64)
  | .coefWrite r _ values => r.wf && (values < 2 ^ 8192)
  | .coefRampEnd _ _ _ => true
  | .coefRelease r _ v => r.wf && (v < 2 ^ 8)
  | .ckptNow r _ v => r.wf && (v < 2 ^ 8)
  | .ckptTimer _ => true
  | .checkpointDone _ => true
  | .coefStoreEccError _ _ _ _ => true
  | .sealModeWrite r _ v => r.wf && (v < 2 ^ 8)
  | .sealHello _ hello => hello.wf
  | .sealProof _ epoch signature => (epoch < 2 ^ 32) && (signature.length == 114)
  | .sealFinish _ epoch tag => (epoch < 2 ^ 32) && (tag.length == 32)
  | .sealReject _ epoch reason => (epoch < 2 ^ 32) && (reason < 2 ^ 8)
  | .hallmarkSignDone => true
  | .hallmarkVerifyDone => true
  | .sealRekeyNow r _ v => r.wf && (v < 2 ^ 8)
  | .rekeyTimer _ => true
  | .oldKeyErase _ => true
  | .rekeyRetry _ => true
  | .saInstall r _ v => r.wf && v.wf
  | .saTxSelect r _ v => r.wf && (v < 2 ^ 8)
  | .saDelete r _ v => r.wf && (v < 2 ^ 8)
  | .managerEnrol r pub role => r.wf && (pub.length == 57) && (role < 2 ^ 8)
  | .managerRevoke r keyId => r.wf && (keyId.length == 8)
  | .lifecycleToManufacture r _ _ keys => r.wf && keys.wf
  | .lifecycleToProvisioned r _ _ => r.wf
  | .lifecycleToDeployed r _ _ => r.wf
  | .lifecycleToReturned r _ _ => r.wf
  | .lifecycleToRetired r _ _ => r.wf
  | .serviceRequest r minutes => r.wf && (minutes < 2 ^ 16)
  | .serviceExpiry => true
  | .attestRequest r nonce => r.wf && (nonce.length == 32)
  | .attestDone => true
  | .touchFlashCopy => true
  | .touchSign r v => r.wf && (v < 2 ^ 8)
  | .touchSignTimer => true
  | .touchSelect r seq => r.wf && (seq < 2 ^ 64)
  | .fwStageBegin r slot length => r.wf && (slot < 2 ^ 8) && (length < 2 ^ 32)
  | .fwStageData r offset count _ => r.wf && (offset < 2 ^ 32) && (count < 2 ^ 16)
  | .fwStageVerify r v => r.wf && (v < 2 ^ 8)
  | .fwVerifyDone => true
  | .fwActivate r v => r.wf && (v < 2 ^ 8)
  | .fwControllerRestarted => true
  | .fwDieNext => true
  | .fwConfirm r v => r.wf && (v < 2 ^ 8)
  | .fwRevert r v => r.wf && (v < 2 ^ 8)
  | .fwTrialTimeout => true
  | .hlLockAcquired _ => true
  | .hlLockLost _ => true
  | .hlFaultSequenceRx _ _ => true
  | .egressFrameArrival _ _ _ _ => true
  | .ingressFrameArrival _ _ => true
  | .schedulerPick _ _ => true
  | .fcFrameFromSwitch _ _ => true
  | .fcFrameFromLine _ _ => true
  | .pauseExpiry _ _ _ => true
  | .pauseResend _ _ => true
  | .twillAttempt _ => true
  | .twillTrainWindowEnd _ trainedDown trainedUp => (trainedDown < 2 ^ 34) && (trainedUp < 2 ^ 34)
  | .twillAligned _ => true
  | .twillAlignTimeout _ => true
  | .twillLinkLoss _ => true
  | .trainBlockRx _ _ _ line => lineWf line
  | .markerRx _ _ _ line => lineWf line
  | .markerSlot _ _ _ => true
  | .rateFillRx _ _ _ _ => true
  | .dataBlockRx _ _ block => lineWf block.line
  | .managementMessage _ _ msg => msg.wf
  | .eventMessage _ _ => true
  | .timestampMessage _ _ => true
  | .keyMessage _ _ msg => msg.wf
  | .timeMessage _ _ => true
  | .laneCtlPark _ _ _ => true
  | .laneCtlNarrow _ _ => true
  | .laneCtlWiden _ _ => true
  | .laneCtlRetrain _ _ _ => true
  | .laneLockLost _ _ _ => true
  | .twillNarrow _ _ => true
  | .laneReinstateTimer _ _ _ => true
  | .twillReinstateWrite r v => r.wf && (v < 2 ^ 8)
  | .laneRetrainDone _ _ _ _ => true
  | .twillTestStart r _ _ => r.wf
  | .twillTestStop r _ v => r.wf && (v < 2 ^ 8)
  | .twillTestEnd _ _ _ => true
  | .timeSet r seconds ns frac => r.wf && (seconds < 2 ^ 48) && (ns < 2 ^ 32) && (frac < 2 ^ 8)
  | .timeStep r v => r.wf && (v < 2 ^ 64)
  | .timeAdjustApply => true
  | .timeFreqAdjWrite r v => r.wf && (v < 2 ^ 32)
  | .ppsInEdge _ => true
  | .ppsInMissing => true
  | .ppsOutEdge => true
  | .ppsOutFall => true
  | .diagStartInService r _ => r.wf
  | .diagStartOutOfService r _ => r.wf
  | .diagPeriodic _ => true
  | .diagRepeat _ _ => true
  | .diagCommit _ _ => true
  | .diagAbort r _ v => r.wf && (v < 2 ^ 8)
  | .samplerArm r _ arm => r.wf && (arm < 2 ^ 128)
  | .samplerTrigger _ _ => true
  | .samplerTimeout _ _ => true
  | .samplerDone _ _ _ _ _ => true
  | .samplerAbort r _ v => r.wf && (v < 2 ^ 8)
  | .samplerSelect r _ sel => r.wf && (sel < 2 ^ 64)
  | .samplerDataRead r _ => r.wf
  | .tlmBlockEnd _ _ _ => true
  | .tsyncEdge => true
  | .tlmSync r v => r.wf && (v < 2 ^ 8)
  | .tlmSyncApply => true
  | .tlmLatch r v => r.wf && (v < 2 ^ 8)
  | .calStart r _ v _ => r.wf && (v < 2 ^ 16)
  | .calRound _ _ => true
  | .calTimeout _ => true
  | .calCommit _ _ => true
  | .calAbort r _ v => r.wf && (v < 2 ^ 8)
  | .calSlotUseWrite r _ v => r.wf && (v < 2 ^ 8)
  | .trimRampEnd _ _ => true
  | .calTracking _ => true
  | .calAutoTimer _ _ => true
  | .calAutoRetry _ _ => true
  | .temperSelect r v => r.wf && (v < 2 ^ 32)
  | .faultEvent _ => true
  | .reactionEnd source => source < 2 ^ 16
  | .settleEnd source => source < 2 ^ 16
  | .faultFirstRearm r source v => r.wf && (source < 2 ^ 16) && (v < 2 ^ 8)
  | .moduleFirstRearm r v => r.wf && (v < 2 ^ 8)
  | .mcTaskLate => true
  | .aliveTick => true
  | .inject r source kind count spacing => r.wf && (source < 2 ^ 16) && (kind < 2 ^ 8) && (count < 2 ^ 8) && (spacing < 2 ^ 16)
  | .injectCheck _ => true
  | .injectCancel r v => r.wf && (v < 2 ^ 8)
  | .assayRun r program target => r.wf && (program < 2 ^ 8) && (target < 2 ^ 8)
  | .assayCommit _ _ => true
  | .assayAbort r v => r.wf && (v < 2 ^ 8)
  | .shutdown r v => r.wf && (v < 2 ^ 8)
  | .sledFrame => true
  | .kLost _ => true
  | .kClockReturn _ => true
  | .dieRunning _ => true
  | .partnerLpi _ _ => true
  | .hlHiBer _ => true
  | .tapInstruction _ => true

end Sys2Proof
end

