-- ==== Sys2Proof/Tests/Slice0.lean ====
section
/-! SUPPORT. Tests: the well-formedness checks refuse what they are there to refuse, and every statement's hypotheses are met by a concrete state. -/

namespace Sys2Proof.Tests

open Sys2Proof Sys2Proof.Machine

set_option Elab.async false

/-! ## Small states -/

/-- A running device whose controller serves; session 1 belongs to OWNER, 2 to GWYNALE, 3 to AUDIT, and 4 is free. -/
def live : Dev := { life := .running, mgmt := { serving := true, sessions :=
  #v[{ phase := 2, role := 2 }, { phase := 2, role := 3 }, { phase := 2, role := 0 }, {}] } }
/-- It with some objects at other values. -/
def dev (l : List (Nat × Nat × Nat)) : Dev := l.foldl (fun d e => d.put e.1 e.2.1 e.2.2) live
def st (d : Dev) (v : Vault := { lifecycle := 2 }) : State := { dev := d, vault := v }
/-- A device whose islands have all been qualified and released. -/
def clocked (d : Dev) : Dev :=
  { d with clocks := Vector.replicate 9 { released := clockCodes, qualified := clockCodes.map (fun k => (k, 8)) } }
def own : Req := { session := 1 }
def gwy : Req := { session := 2 }
def aud : Req := { session := 3 }
def anyone : Req := {}
/-- A header without a session, addressed to the device's power-on address. -/
def hdr (items : Nat) : MHdr := { dest := 0x247575A0000, itemCount := items, reqId := 7 }
def confirmItem : WItem := { index := 0x6440, sub := 8, type := Ty.u8.code, length := 1, value := 1 }

theorem Ready.of_checks {s : State} {r : Req} {idx sub v : Nat} (h : s.dev.hears r.route = true ∧ s.dev.lostRequest idx = false
    ∧ s.dev.meets r (writeRole idx) = true ∧ s.dev.busyIndex idx = false ∧ s.dev.modeRefuses idx = false ∧
      misfits idx sub v = false) : Ready s r idx sub v :=
  let ⟨heard, delivered, role, free, mode, fits⟩ := h
  { heard, delivered, role, free, mode, fits }
theorem Writable.of_checks {s : State} {r : Req} {idx sub v : Nat} (h : (s.dev.hears r.route = true ∧ s.dev.lostRequest idx = false
    ∧ s.dev.meets r (writeRole idx) = true ∧ s.dev.busyIndex idx = false ∧ s.dev.modeRefuses idx = false ∧ misfits idx sub v = false)
    ∧ s.dev.locked idx sub = false ∧ outOfRange idx sub v = false) : Writable s r idx sub v :=
  { Ready.of_checks h.1 with unlocked := h.2.1, inRange := h.2.2 }
theorem Negotiates.of_checks {d : Dev} {p : Port} (h : d.linkState p = 2 ∧ d.forced p = false ∧ d.enabled p = true ∧ d.lineServes p = true
    ∧ (d.port p).diag.any (·.outOfService) = false) : Negotiates d p :=
  let ⟨negotiating, free, enabled, serves, untested⟩ := h
  ⟨negotiating, free, enabled, serves, untested⟩
theorem LifeReady.of_checks {s : State} {r : Req} {dest : Nat} (h : lifeHeard s.vault s.dev r = true ∧ s.dev.lifeRole r s.vault.lifecycle dest = true
    ∧ s.dev.busyIndex 0x6410 = false ∧ s.dev.activating = false ∧ s.dev.stagingFull = false ∧
      s.dev.modeRefuses 0x6410 = false) : LifeReady s r dest :=
  let ⟨heard, role, free, still, room, mode⟩ := h
  { heard, role, free, still, room, mode }

/-- A key enrolled in slot 0 is found there. -/
theorem slot_of_enrolled : ({ lifecycle := 2, managers := upd (Vector.replicate 16 none) 0 (fun _ => some { pub := [1], role := 1 }) } : Vault).slotOf (keyIdOf [1])
    = some 0 := by
  have hm : (upd (Vector.replicate 16 none) (0 : Fin 16) (fun _ => some ({ pub := [1], role := 1 } : Manager))).get 0 = some { pub := [1], role := 1 } := by
    decide
  have hf : allFin 16 = 0 :: (allFin 16).tail := by decide
  unfold Vault.slotOf
  rw [hf, List.find?_cons_of_pos]
  simp only [hm, decide_true]

/-- A trial of a set whose levels lie above the fuses. -/
def onTrial : State := st ((dev [(0x6440, 5, 6)]).onHall (fun h => { h with slots := Vector.replicate 2 { levels := Vector.replicate 4 1 } }))
theorem confirm_changes : (onTrial.writeAccess own confirmItem).vault ≠ onTrial.vault := by decide +kernel

/-- What holds of the one block of a source holds of every block it has. -/
theorem every_block {src : Nat} {f : Block → Bool} {v : Bool} (h : (block? src).all (fun b => f b == v) = true) : ∀ b, block? src = some b →
  f b = v := by
  intro b hb
  rw [hb] at h
  simpa using h

theorem judged {x : Verdict × Dev} {v : Verdict} (h : x.1 = v) : x = (v, x.2) := by rw [← h]
theorem taken {d d1 : Dev} {h : MHdr} {op items : Nat} {body : List Byte} (ht : (d.frameTaken h op items body).1 = true)
    (hd : (d.frameTaken h op items body).2 = d1) : d.frameTaken h op items body = (true, d1) := by rw [← ht, ← hd]

/-- A frame of session 1 with the tag its key gives it. -/
def closeHdr : MHdr :=
  let plain := { hdr 0 with session := 1, counter := 1 }
  { plain with tag := Config.kmac256 [] (requestBytes plain 9 (bytesOf 1 4 ++ bytesOf 3 0)) 256 (ascii "DZ12800 MGMT") }
theorem close_taken : (live.frameTaken closeHdr 9 0 (bytesOf 1 4 ++ bytesOf 3 0)).1 = true := by
  have h1 : (!live.hears closeHdr.route || decide (closeHdr.dest ≠ live.get 0x1420 1)) = false := by decide +kernel
  have h2 : malformed closeHdr 0 (bytesOf 1 4 ++ bytesOf 3 0) = false := by decide +kernel
  have h3 : (live.sessionCheck closeHdr 9 (bytesOf 1 4 ++ bytesOf 3 0)) = (true, live.onMgmt (fun m => { m with sessions := upd m.sessions 0 (fun s =>
    { s with rxCounter := 1 }) })) := by
    have hb : requestBytes closeHdr 9 (bytesOf 1 4 ++ bytesOf 3 0) = requestBytes { hdr 0 with session := 1, counter := 1 } 9 (bytesOf 1 4 ++ bytesOf 3 0) := rfl
    have hs : live.mgmt.sessions.get 0 = { phase := 2, role := 2 } := by decide
    unfold Dev.sessionCheck
    rw [if_neg (by decide), dif_pos ⟨by decide, by decide⟩]
    rw [if_neg, if_neg]
    · rfl
    · decide +kernel
    · simp only [Bool.not_eq_true, Bool.or_eq_false_iff, decide_eq_false_iff_not, ne_eq, not_not]
      exact ⟨by decide, rfl⟩
  have h4 : (live.onMgmt (fun m => { m with sessions := upd m.sessions 0 (fun s => { s with rxCounter := 1 }) })).keptOf closeHdr = none := by decide +kernel
  have h5 : (live.onMgmt (fun m => { m with sessions := upd m.sessions 0 (fun s => { s with rxCounter := 1 }) })).awaits closeHdr = false := by decide +kernel
  unfold Dev.frameTaken
  rw [h1, h2, h3]
  simp only [h4, h5, Bool.false_eq_true, if_false]

/-- A tagged message under Gwynale's identifier gives its page 4 and its seed. -/
theorem native_set {x seed page : Nat} (h1 : x / 512 % 4 = 2) (h2 : x % 512 = seed) (h3 : page % 2048 = page) :
    nativeSet [#v[598, 1657, x, page]] = some (page, seed) := by
  have e : (List.find? (fun v : Vector Nat 4 => v.get 0 % 2048 * 2 ^ 13 + v.get 1 % 2048 * 4 + v.get 2 / 512 % 4 = gwynaleOui) [#v[598, 1657, x,
    page]])
      = some #v[598, 1657, x, page] := by
    rw [List.find?_cons_of_pos]
    show decide (598 % 2048 * 2 ^ 13 + 1657 % 2048 * 4 + x / 512 % 4 = gwynaleOui) = true
    rw [h1]
    decide
  unfold nativeSet
  rw [e]
  show some (page % 2048, x % 512) = _
  rw [h2, h3]
theorem seed_bits (x : Nat) (h : x < 512) : (1024 + x) / 512 % 4 = 2 ∧ (1024 + x) % 512 = x := by omega

/-- What a partner sends whose rank is the default one and whose seed is the one this end draws. -/
def drawnPages : List (Vector Nat 4) := [#v[598, 1657, 1024 + Config.drawBelow 0 512, 0x741]]
theorem drawn_set : nativeSet drawnPages = some (0x741, Config.drawBelow 0 512) :=
  have h := seed_bits (Config.drawBelow 0 512) (Nat.mod_lt _ (by decide))
  native_set h.1 h.2 (by decide)
/-- A port that negotiates with every mode advertised. -/
def negotiating (l : List (Nat × Nat × Nat)) (adv : Nat := 0x3FF) : State := st (dev ([(0x4080 + 17, 6, 2), (0x1010, 2, 2), (0x3010, 2, 3), (0x1030,
  1, 2 ^ 64 - 1),
  (0x4000 + 17, 4, adv), (0x2000 + 17, 1, 1)] ++ l))
theorem drawn_common (pages : List (Vector Nat 4)) (h : nativeSet pages = some (0x741, Config.drawBelow 0 512)) :
    8 ≤ (negotiating []).dev.commonMode 17 0 pages := by
  unfold Dev.commonMode
  rw [h]
  decide +kernel

/-! ## Well-formed commands: each check refuses an ill-formed term, and nothing but that check refuses it -/

def aHello : SealHello := { xPub := List.replicate 56 0, nonce := List.replicate 16 0, identity := List.replicate 57 0 }
def anSa : SaInstall := { an := 0, ssci := 0, salt := List.replicate 12 0, lowestPn := 1, wrapped := List.replicate 40 0 }
def anItem : WItem := { index := 0x1428, sub := 3, type := 3, length := 2, value := 9 }

theorem test_illFormed_requester : ([{ mac := 2 ^ 48 }, { session := 256 }] : List Req).all (fun r => !r.wf) = true := by decide
theorem test_illFormed_items : ([{ index := 2 ^ 16, sub := 0 }, { index := 0, sub := 256 }] : List RItem).all (fun i => !i.wf) = true
    ∧ ([{ anItem with index := 2 ^ 16 }, { anItem with sub := 256 }, { anItem with type := 256 }, { anItem with length := 2 ^ 16 },
      { anItem with value := 2 ^ 16 }] : List WItem).all (fun i => !i.wf) = true ∧ anItem.wf = true := by decide
theorem test_illFormed_access : ([.write { session := 256 } anItem, .write {} { anItem with sub := 256 }, .clear { session := 256 } 0 0,
    .clear {} (2 ^ 16) 0, .clear {} 0 (2 ^ 16), .read { session := 256 } { index := 0, sub := 0 },
      .read {} { index := 0, sub := 256 }] : List Access).all
    (fun a => !a.wf) = true := by decide
theorem test_illFormed_header : ([{ mac := 2 ^ 48 }, { dest := 2 ^ 48 }, { version := 256 }, { flags := 256 }, { reqId := 2 ^ 16 },
  { session := 256 },
    { itemCount := 256 }, { counter := 2 ^ 64 }] : List MHdr).all (fun h => !h.wf) = true := by decide
theorem test_illFormed_asks : ([{ mode := 256 }, { value := 2 ^ 32 }] : List CommitAsk).all (fun v => !v.wf) = true
    ∧ ([{ step := 256 }, { hdr := { session := 256 } }] : List SessionAsk).all (fun v => !v.wf) = true
    ∧ ({ ownerRoot := some [] } : FactoryKeys).wf = false ∧ ({} : FactoryKeys).wf = true ∧
      ({ ownerRoot := some (List.replicate 57 0) } : FactoryKeys).wf = true := by decide
theorem test_illFormed_hello : ([{ aHello with version := 256 }, { aHello with purpose := 256 }, { aHello with epoch := 2 ^ 32 },
    { aHello with xPub := [] }, { aHello with nonce := [] }, { aHello with identity := [] }] : List SealHello).all (fun h => !h.wf) = true
    ∧ aHello.wf = true := by decide
theorem test_illFormed_sa : ([{ anSa with an := 256 }, { anSa with ssci := 2 ^ 32 }, { anSa with salt := [] }, { anSa with lowestPn := 2 ^ 64 },
    { anSa with wrapped := [] }] : List SaInstall).all (fun v => !v.wf) = true ∧ anSa.wf = true := by decide
/-- A block's 264 bits and the nine that stuffing may put among them (R278). -/
def aLine : List Bool := List.replicate 264 false
theorem test_illFormed_blocks : lineWf [] = false ∧ lineWf (List.replicate 263 false) = false ∧ lineWf (List.replicate 274 false) = false
    ∧ lineWf aLine = true ∧ ([{ kind := 16 }, { crc := 2 ^ 32 }] : List TwillMsg).all (fun m => !m.wf) = true := by decide +kernel

def aTest : TwillTest := { mode := 0, dir := 0, pattern := 0, lanes := 1, inject := 0, duration := 1 }
theorem test_illFormed_1 : ([
    .recoveryExit { session := 256 } 0, .recoveryExit {} (2 ^ 8), .warmResetRequest { session := 256 } {}, .dieResetRequest { session := 256 } 0,
    .dieResetRequest {} (2 ^ 8), .portResetRequest { session := 256 } 0, .portResetRequest {} (2 ^ 8), .blockResetRequest { session := 256 } 0,
    .blockResetRequest {} (2 ^ 16), .wrapperCut (2 ^ 16), .blockReinitialised (2 ^ 16), .qualMeasurement 1 (2 ^ 8) false,
    .islandRelease { session := 256 } 0 0, .islandRelease {} (2 ^ 8) 0, .islandRelease {} 0 (2 ^ 8), .fcStart { session := 256 } 1 0 0 0,
    .fcStart {} 1 (2 ^ 8) 0 0, .fcStart {} 1 0 (2 ^ 8) 0, .fcStart {} 1 0 0 (2 ^ 32), .fcComplete 1 (2 ^ 64) 0, .fcComplete 1 0 (2 ^ 64),
    .fcAbort { session := 256 } 1 0, .fcAbort {} 1 (2 ^ 8), .paceFault (2 ^ 16) false .egress,
    .arbitrationGrant [.read {} { index := 2 ^ 16, sub := 0 }],
    .objectWrite { session := 256 } { index := 0x1428, sub := 3, type := 3, length := 2, value := 9 },
    .objectWrite {} { index := 2 ^ 16, sub := 0, type := 0, length := 0, value := 0 }, .lockSet { session := 256 } .pewter 0,
    .lockSet {} .pewter (2 ^ 8), .bitAliasWrite { session := 256 } 0 0 0, .bitAliasWrite {} (2 ^ 16) 0 0, .bitAliasWrite {} 0 (2 ^ 8) 0,
    .bitAliasWrite {} 0 0 (2 ^ 8), .stClear { session := 256 } 0 0, .stClear {} (2 ^ 16) 0, .stClear {} 0 (2 ^ 16), .read { session := 256 } [],
    .read {} [{ index := 2 ^ 16, sub := 0 }], .write { session := 256 } [],
    .write {} [{ index := 2 ^ 16, sub := 0, type := 0, length := 0, value := 0 }], .readMulti { session := 256 } [],
    .readMulti {} [{ index := 2 ^ 16, sub := 0 }], .writeMulti { session := 256 } [],
    .writeMulti {} [{ index := 2 ^ 16, sub := 0, type := 0, length := 0, value := 0 }], .snapshot { session := 256 },
    .commitAdopt { session := 256 }, .commitVerify { session := 256 } {}, .commitVerify {} { mode := 256 }, .openConfig { session := 256 },
    .open1 { session := 256 } (List.replicate 8 0) (List.replicate 56 0) (List.replicate 16 0),
    .open1 {} [] (List.replicate 56 0) (List.replicate 16 0), .open1 {} (List.replicate 8 0) [] (List.replicate 16 0),
    .open1 {} (List.replicate 8 0) (List.replicate 56 0) [], .open3 { session := 256 } (List.replicate 114 0), .open3 {} [], .close { step := 256 },
    .notifyIntervalEnd (2 ^ 16), .mdioAddress 1 1 (2 ^ 16), .mdioWrite 1 1 (2 ^ 16),
      .portAdvertiseWrite { session := 256 } 5 0] : List Instr).all (fun i => !i.wellFormed) = true := by decide +kernel
theorem test_illFormed_2 : ([
    .portAdvertiseWrite {} 5 (2 ^ 16), .hlRateWrite { session := 256 } 5 0, .hlRateWrite {} 5 (2 ^ 8), .portEnable { session := 256 } 5,
    .portDisable { session := 256 } 5, .negRestart { session := 256 } 5 0, .negRestart {} 5 (2 ^ 8), .trainingFrameRx 5 (2 ^ 32),
    .trainTimeoutWrite { session := 256 } 5 1 0, .trainTimeoutWrite {} 5 1 (2 ^ 16), .bundleGroupWrite { session := 256 } 5 0,
    .bundleGroupWrite {} 5 (2 ^ 8), .relockNow { session := 256 } 5 0, .relockNow {} 5 (2 ^ 8), .relockReport 5 (2 ^ 8) 0,
    .relockReport 5 0 (2 ^ 16), .hushNote 5 0 (2 ^ 8), .precoder 5 (2 ^ 8) [], .precoderAck 5 (2 ^ 8) 0, .precoderAck 5 0 (2 ^ 8),
    .telemetry 5 (Vector.replicate 4 0) (2 ^ 32) 0, .telemetry 5 (Vector.replicate 4 0) 0 (2 ^ 32), .partnerQuery { session := 256 } 5 0,
    .partnerQuery {} 5 (2 ^ 8), .partnerQueryRx 5 (2 ^ 8), .partnerReply 5 (2 ^ 8) 0 [], .partnerReply 5 0 (2 ^ 8) [],
    .adaptHold { session := 256 } 5 0, .adaptHold {} 5 (2 ^ 16), .coefCapture { session := 256 } 1 0, .coefCapture {} 1 (2 ^ 64),
    .coefWrite { session := 256 } 1 0, .coefWrite {} 1 (2 ^ 8192), .coefRelease { session := 256 } 1 0, .coefRelease {} 1 (2 ^ 8),
    .ckptNow { session := 256 } 5 0, .ckptNow {} 5 (2 ^ 8), .sealModeWrite { session := 256 } 5 0, .sealModeWrite {} 5 (2 ^ 8), .sealHello 5 {},
    .sealProof 5 (2 ^ 32) (List.replicate 114 0), .sealProof 5 0 [], .sealFinish 5 (2 ^ 32) (List.replicate 32 0), .sealFinish 5 0 [],
    .sealReject 5 (2 ^ 32) 0, .sealReject 5 0 (2 ^ 8), .sealRekeyNow { session := 256 } 5 0, .sealRekeyNow {} 5 (2 ^ 8),
    .saInstall { session := 256 } 5 anSa, .saInstall {} 5 { anSa with an := 256 }, .saTxSelect { session := 256 } 5 0, .saTxSelect {} 5 (2 ^ 8),
    .saDelete { session := 256 } 5 0, .saDelete {} 5 (2 ^ 8), .managerEnrol { session := 256 } (List.replicate 57 0) 0, .managerEnrol {} [] 0,
    .managerEnrol {} (List.replicate 57 0) (2 ^ 8), .managerRevoke { session := 256 } (List.replicate 8 0), .managerRevoke {} [],
    .lifecycleToManufacture { session := 256 } [] [] {}] : List Instr).all (fun i => !i.wellFormed) = true := by decide +kernel
theorem test_illFormed_3 : ([
    .lifecycleToManufacture {} [] [] { ownerRoot := some [] }, .lifecycleToProvisioned { session := 256 } [] [],
    .lifecycleToDeployed { session := 256 } [] [], .lifecycleToReturned { session := 256 } [] [], .lifecycleToRetired { session := 256 } [] [],
    .serviceRequest { session := 256 } 0, .serviceRequest {} (2 ^ 16), .attestRequest { session := 256 } (List.replicate 32 0),
    .attestRequest {} [], .touchSign { session := 256 } 0, .touchSign {} (2 ^ 8), .touchSelect { session := 256 } 0, .touchSelect {} (2 ^ 64),
    .fwStageBegin { session := 256 } 0 0, .fwStageBegin {} (2 ^ 8) 0, .fwStageBegin {} 0 (2 ^ 32), .fwStageData { session := 256 } 0 0 [],
    .fwStageData {} (2 ^ 32) 0 [], .fwStageData {} 0 (2 ^ 16) [], .fwStageVerify { session := 256 } 0, .fwStageVerify {} (2 ^ 8),
    .fwActivate { session := 256 } 0, .fwActivate {} (2 ^ 8), .fwConfirm { session := 256 } 0, .fwConfirm {} (2 ^ 8),
    .fwRevert { session := 256 } 0, .fwRevert {} (2 ^ 8), .twillTrainWindowEnd 1 (2 ^ 34) 0, .twillTrainWindowEnd 1 0 (2 ^ 34),
    .trainBlockRx 1 .up 1 [], .markerRx 1 .up 1 [], .dataBlockRx 1 .up {}, .managementMessage 1 .up { kind := 16 },
    .keyMessage 1 .up { kind := 16 }, .twillReinstateWrite { session := 256 } 0, .twillReinstateWrite {} (2 ^ 8),
    .twillTestStart { session := 256 } 1 aTest, .twillTestStop { session := 256 } 1 0, .twillTestStop {} 1 (2 ^ 8),
    .timeSet { session := 256 } 0 0 0, .timeSet {} (2 ^ 48) 0 0, .timeSet {} 0 (2 ^ 32) 0, .timeSet {} 0 0 (2 ^ 8), .timeStep { session := 256 } 0,
    .timeStep {} (2 ^ 64), .timeFreqAdjWrite { session := 256 } 0, .timeFreqAdjWrite {} (2 ^ 32), .diagStartInService { session := 256 } 5,
    .diagStartOutOfService { session := 256 } 5, .diagAbort { session := 256 } 5 0, .diagAbort {} 5 (2 ^ 8), .samplerArm { session := 256 } 1 0,
    .samplerArm {} 1 (2 ^ 128), .samplerAbort { session := 256 } 1 0, .samplerAbort {} 1 (2 ^ 8), .samplerSelect { session := 256 } 1 0,
    .samplerSelect {} 1 (2 ^ 64), .samplerDataRead { session := 256 } 1, .tlmSync { session := 256 } 0,
      .tlmSync {} (2 ^ 8)] : List Instr).all (fun i => !i.wellFormed) = true := by decide +kernel
theorem test_illFormed_4 : ([
    .tlmLatch { session := 256 } 0, .tlmLatch {} (2 ^ 8), .calStart { session := 256 } 5 0 {}, .calStart {} 5 (2 ^ 16) {},
    .calAbort { session := 256 } 5 0, .calAbort {} 5 (2 ^ 8), .calSlotUseWrite { session := 256 } 5 0, .calSlotUseWrite {} 5 (2 ^ 8),
    .temperSelect { session := 256 } 0, .temperSelect {} (2 ^ 32), .reactionEnd (2 ^ 16), .settleEnd (2 ^ 16),
    .faultFirstRearm { session := 256 } 0 0, .faultFirstRearm {} (2 ^ 16) 0, .faultFirstRearm {} 0 (2 ^ 8), .moduleFirstRearm { session := 256 } 0,
    .moduleFirstRearm {} (2 ^ 8), .inject { session := 256 } 0 0 0 0, .inject {} (2 ^ 16) 0 0 0, .inject {} 0 (2 ^ 8) 0 0, .inject {} 0 0 (2 ^ 8) 0,
    .inject {} 0 0 0 (2 ^ 16), .injectCancel { session := 256 } 0, .injectCancel {} (2 ^ 8), .assayRun { session := 256 } 0 0,
    .assayRun {} (2 ^ 8) 0, .assayRun {} 0 (2 ^ 8), .assayAbort { session := 256 } 0, .assayAbort {} (2 ^ 8), .shutdown { session := 256 } 0,
    .shutdown {} (2 ^ 8)] : List Instr).all (fun i => !i.wellFormed) = true := by decide +kernel
theorem test_wellFormed_1 : ([
    .recoveryExit {} 0, .warmResetRequest {} {}, .dieResetRequest {} 0, .portResetRequest {} 0, .blockResetRequest {} 0, .wrapperCut 0,
    .blockReinitialised 0, .qualMeasurement 1 0 false, .islandRelease {} 0 0, .fcStart {} 1 0 0 0, .fcComplete 1 0 0, .fcAbort {} 1 0,
    .paceFault 0 false .egress, .arbitrationGrant [], .objectWrite {} { index := 0x1428, sub := 3, type := 3, length := 2, value := 9 },
    .lockSet {} .pewter 0, .bitAliasWrite {} 0 0 0, .stClear {} 0 0, .read {} [], .write {} [], .readMulti {} [], .writeMulti {} [], .snapshot {},
    .commitAdopt {}, .commitVerify {} {}, .openConfig {}, .open1 {} (List.replicate 8 0) (List.replicate 56 0) (List.replicate 16 0),
    .open3 {} (List.replicate 114 0), .close {}, .notifyIntervalEnd 0, .mdioAddress 1 1 0, .mdioWrite 1 1 0, .portAdvertiseWrite {} 5 0,
    .hlRateWrite {} 5 0, .portEnable {} 5, .portDisable {} 5, .negRestart {} 5 0, .trainingFrameRx 5 0, .trainTimeoutWrite {} 5 1 0,
    .bundleGroupWrite {} 5 0, .relockNow {} 5 0, .relockReport 5 0 0, .hushNote 5 0 0, .precoder 5 0 [], .precoderAck 5 0 0,
    .telemetry 5 (Vector.replicate 4 0) 0 0, .partnerQuery {} 5 0, .partnerQueryRx 5 0, .partnerReply 5 0 0 [], .adaptHold {} 5 0,
    .coefCapture {} 1 0, .coefWrite {} 1 0, .coefRelease {} 1 0, .ckptNow {} 5 0, .sealModeWrite {} 5 0, .sealHello 5 aHello,
    .sealProof 5 0 (List.replicate 114 0), .sealFinish 5 0 (List.replicate 32 0), .sealReject 5 0 0, .sealRekeyNow {} 5 0, .saInstall {} 5 anSa,
    .saTxSelect {} 5 0, .saDelete {} 5 0, .managerEnrol {} (List.replicate 57 0) 0, .managerRevoke {} (List.replicate 8 0),
    .lifecycleToManufacture {} [] [] {}, .lifecycleToProvisioned {} [] [], .lifecycleToDeployed {} [] [], .lifecycleToReturned {} [] [],
    .lifecycleToRetired {} [] []] : List Instr).all Instr.wellFormed = true := by decide +kernel
theorem test_wellFormed_2 : ([
    .serviceRequest {} 0, .attestRequest {} (List.replicate 32 0), .touchSign {} 0, .touchSelect {} 0, .fwStageBegin {} 0 0, .fwStageData {} 0 0 [],
    .fwStageVerify {} 0, .fwActivate {} 0, .fwConfirm {} 0, .fwRevert {} 0, .twillTrainWindowEnd 1 0 0, .trainBlockRx 1 .up 1 aLine,
    .markerRx 1 .up 1 aLine, .dataBlockRx 1 .up { line := aLine }, .managementMessage 1 .up {}, .keyMessage 1 .up {}, .twillReinstateWrite {} 0,
    .twillTestStart {} 1 aTest, .twillTestStop {} 1 0, .timeSet {} 0 0 0, .timeStep {} 0, .timeFreqAdjWrite {} 0, .diagStartInService {} 5,
    .diagStartOutOfService {} 5, .diagAbort {} 5 0, .samplerArm {} 1 0, .samplerAbort {} 1 0, .samplerSelect {} 1 0, .samplerDataRead {} 1,
    .tlmSync {} 0, .tlmLatch {} 0, .calStart {} 5 0 {}, .calAbort {} 5 0, .calSlotUseWrite {} 5 0, .temperSelect {} 0, .reactionEnd 0, .settleEnd 0,
    .faultFirstRearm {} 0 0, .moduleFirstRearm {} 0, .inject {} 0 0 0 0, .injectCancel {} 0, .assayRun {} 0 0, .assayAbort {} 0,
      .shutdown {} 0] : List Instr).all Instr.wellFormed = true := by decide +kernel

/-! ## The spec's own worked examples, one step each -/

/-- The device after a command. -/
def after (c : Instr) (s : State) : Dev :=
  match exec c s with
  | .next t => t.dev
  | _ => {}
def rd (d : Dev) (idx sub : Nat) : Nat := d.readValue {} idx sub
def write (idx sub : Nat) (ty : Ty) (v : Nat) : Instr := .objectWrite own { index := idx, sub := sub, type := ty.code, length := ty.size, value := v }
def aliasOf (sub : Nat) : WItem := { index := 0x7001, sub := sub, type := Ty.bool.code, length := 1, value := 1 }
def word (v : Nat) : WItem := { index := 0x1030, sub := 2, type := Ty.u64.code, length := 8, value := v }
def owned (r : Route) : Req := { route := r, session := 1 }

/-- "Two managers enable ports at once": whole words lose the first write, aliases keep both (chapter 14). -/
theorem test_two_managers :
    rd (after (.arbitrationGrant [.write (owned .inBand) (word 0x4001), .write (owned .mgmtLink) (word 0x2001)]) (st (dev [(0x1424, 1, 5), (0x1030, 2,
      1)]))) 0x1030 2 = 0x4001
    ∧ rd (after (.arbitrationGrant [.write (owned .inBand) (aliasOf 0xF), .write (owned .mgmtLink) (aliasOf 0xE)]) (st (dev [(0x1424, 1, 5), (0x1030,
      2, 1)]))) 0x1030 2 = 0x6001 := by
  decide +kernel

/-- "Changing the voltage step under the check": STEP 4 from the next evaluation (chapter 2). -/
theorem test_voltage_step : rd (after (write 0x1200 1 .u32 0x20400A04) (st live)) 0x1200 1 = 0x20400A04
    ∧ paceStep 0x20400A04 = 4 ∧ policyBad 0x20400A04 = false := by decide +kernel

/-- "Checking a VLC regulator": the limits are accepted (chapter 1). -/
theorem test_limits : rd (after (write 0x1204 1 .u32 0x03200226) (st live)) 0x1204 1 = 0x03200226
    ∧ rd (after (write 0x1204 2 .u32 0x0352028A) (st live)) 0x1204 2 = 0x0352028A := by decide +kernel

/-- "Reading counter 5 of P077 through the window": its page, its port address, its registers (chapter 2). -/
theorem test_window_counter : (after (.mdioWrite 13 31 2) (st ((dev [(0x1440, 1,
  2)]).onMgmt (fun m => { m with mdioAddr := [(13 * 32 + 31, 0xF000)] })))).mgmt.page = 2
    ∧ (live.onMgmt (fun m => { m with page := 2 })).windowPort 13 = 77 ∧ windowReg 30 0x226 = 0x222 ∧ windowReg 30 0x1222 = 0x222 := by decide +kernel

/-- "Placing group 1,037 of an N100 frame": label 89 (chapter 3). -/
theorem test_label_89 : labelPair 89 = (5, -9) ∧ 1037 % 4 = 1 ∧ 2 * (1037 / 4) = 518 := by decide

/-- "Freezing and reading the echo canceller of P037, pair B" (chapter 4). -/
theorem test_frozen_echo : rd (after (write 0x5025 1 .u32 0x8000) (st (dev [(0x40A5, 4, 9), (0x40A5, 6, 4)]))) 0x50A5 2 = 0x3FE := by decide +kernel

/-- "A group of six on LD3": maps and disturbers once five of the six cancel (chapter 4). -/
def sixOf : Dev := dev ((0x43B5, 3, 1) :: (List.range 6).flatMap (fun k => [(0x43B2 + k, 1, 0), (0x43B2 + k, 2, if k = 3 then 5 else 4)]))
theorem test_group_of_six : rd sixOf 0x5600 4 = 0xFC ∧ rd sixOf 0x5601 4 = 0xDC ∧ rd sixOf 0x43B2 4 = 16 ∧ rd sixOf 0x43B5 4 = 0 := by decide +kernel

/-- "A crushed cord on P012": the third timeout of stage 3 enters back-off (chapter 5). -/
theorem test_crushed_cord : let d := after (.trainStageTimeout 12) (st (dev [(0x408C, 4, 9), (0x408C, 6, 3), (0x418C, 1, 3), (0x418C, 8, 3), (0x418C,
  9, 30), (0x418C, 0xB, 2)]))
    d.linkState 12 = 9 ∧ rd d 0x418C 0xB = 3 := by decide +kernel

/-- "A hitless update in DEPLOYED": slot B for 9,674,752 bytes; the class 3 fuse rises to 6 (chapter 6). -/
theorem test_hitless_update : (after (write 0x6440 2 (.octets 8) 0x010000000093A000) (st live)).hall.fw.length = 9674752
    ∧ (match exec (.fwConfirm own 1) (st ((dev [(0x6440, 5,
      6)]).onHall (fun h => { h with slots := Vector.replicate 2 { levels := #v[4, 4, 6, 2] } }))
        { lifecycle := 3, fuseLevels := #v[4, 4, 5, 2] }) with
      | .next t => t.vault.fuseLevels == #v[4, 4, 6, 2]
      | _ => false) = true := by decide +kernel

/-- "N50 on a 100 Gbit/s lane, with PFC": the frame that takes the queue past 65,536 bytes pauses priority 3 (chapter 7). -/
def pfcFrame (n : Nat) : EthFrame := { bytes := List.replicate 12 0 ++ bytesOf 2 0x8100 ++ bytesOf 2 0x6000 ++ List.replicate (n - 16) 0 }
theorem test_pfc : let d := after (.egressFrameArrival 90 (pfcFrame 1500) 0 0) (st ((dev [(0x215A, 1, 2), (0x40DA, 4, 8), (0x40DA, 6, 4), (0x225A, 1,
  2)]).onPort 90
      (fun s => { s with host := { s.host with queues := upd s.host.queues 3 (fun _ => List.replicate 43 (pfcFrame 1500)) } })))
    rd d 0x235A 4 = 66000 ∧ rd d 0x235A 0x23 = 8 := by decide +kernel

/-- "LD6 loses four lanes": capacity with 32, 31 and 30 lanes (chapter 8). -/
def ld6 (parked : List Nat) : Dev :=
  parked.foldl (fun d l => d.setMap 6 .down l 0xFF) (dev ([(0x3010, 7, 3), (0x3000, 1, 0), (0x3038, 7,
    0)] ++ (List.range 16).map (fun k => (0x2060 + k, 1, 1))))
theorem test_ld6_capacity : rd (ld6 []) 0x3040 7 = 1682805 ∧ rd (ld6 [22]) 0x3040 7 = 1629968 ∧ rd (ld6 [9,
  22]) 0x3040 7 = 1577130 := by decide +kernel

/-- "Far-end loopback of LD3 in DEPLOYED": the fields of the value written (chapter 8). -/
theorem test_far_end_loopback : twillTestOf 0x03000200000000_03FFFFFFFF03E80064
    = { mode := 3, dir := 0, pattern := 2, lanes := 2 ^ 34 - 1, inject := 1000, duration := 100 } := by decide

/-- "Checking P037's path delay": 1,696,811,904 s + 500,000,018.5625 ns as OCTETS(12) (chapter 9). -/
theorem test_timestamp : timeOctets (1696811904 * perSecond + 500000018 * 16 + 9) = 0x000065234B80_1DCD6512_0900 := by decide

/-- "Watching a bundle while P053 joins": the arm is accepted (chapter 10). -/
theorem test_sampler_arm : rd (after (write 0x5F13 1 (.octets 16) 0x33010301350008020000000000000000) (st live)) 0x5F13 3 = 1 := by decide +kernel

/-- "Calibrating pair B of P037 at 47.3 °C": 4 from 3 and 6, 11 stored for 9, 9 from 11 and 6 (chapter 11). -/
def pairB (at40 : Int) : PairRecs := #v[none, none, none, some { values := List.replicate 57 at40, source := 1, runTemp := 40 },
  some { values := List.replicate 57 6, source := 1, runTemp := 60 }, none, none, none]
theorem test_calibrating : let t : Int := 473 * 256 / 10
    activeTrim (pairB 3) t 5 = 4 ∧ nearestPoint t = 3 ∧ storeValue (pairB 3) t 5 9 = 11 ∧ activeTrim (pairB 11) t 5 = 9 := by decide +kernel

/-- "LREFCLK fails under independent clocking": the forced switch adds bits 2, 4 and 5 to the loss (chapter 12, R376). -/
theorem test_lrefclk : (rd (after (.muxForced 5) (st ((dev [(0x182D, 1, 1), (0x3010, 6,
  3)]).onClock 5 (fun c => { c with phase := .switching, stopped := true })))) 0x182D 1 &&& 0x34)
    = 0x34 := by decide +kernel

/-- "The time base fails in front of 128 timestamp units": the second event in a second is SEVERE;
  then a stamp unit's report is consequent (chapter 13). -/
theorem test_time_base : let d := after (.faultEvent { source := 0x3C4, kind := 3 }) (st ((dev [(0x3010, 1,
  3)]).onFault 0x3C4 (fun f => { f with window := [0] })))
    d.faultState 0x3C4 = 3 ∧ rd d 0x1FE0 2 / 256 ^ 16 = 0x03C40303
    ∧ (let d' := after (.faultEvent { source := 0x80, kind := 17 }) (st d); rd d' 0x1C80 0x11 = 1 ∧ rd d' 0x1C80 0x10 = 0 ∧
      rd d' 0x1C80 8 = 0x3C4) := by
  decide +kernel

/-! ## Every statement's hypotheses are met: one conjunct for each clause that has any -/

theorem test_met_IdleTick :
    (∃ s : State, s.pending = [])
    ∧ (∃ d : Dev, (∀ k, d.tlm.latchAt = some k → d.tlmCount ≤ k))
    ∧ (∃ d : Dev, (∀ p : Port, d.get 0x1424 1 = p.val → d.linePending p = false)) :=
  ⟨⟨State.reset, rfl⟩,
   ⟨live, fun _ h => nomatch h⟩,
   ⟨dev [(0x1424, 1, 255)], fun p h => by rw [show (dev [(0x1424, 1, 255)]).get 0x1424 1 = 255 from by decide +kernel] at h; have := p.isLt; omega⟩⟩
theorem test_met_VaultAdvances : ∃ s t : State, step s = .next t :=
  ⟨State.reset, State.reset.idle, rfl⟩
theorem test_met_VaultStaysLegal : ∃ s t : State, s.vault.Legal ∧ step s = .next t :=
  ⟨State.reset, State.reset.idle, ⟨⟨by decide, fun _ => rfl, fun _ => rfl⟩, rfl⟩⟩
theorem test_met_OneWayStoreWriters :
    (∃ (c : Instr) (s t : State), storesInVault c = false ∧ exec c s = .next t)
    ∧ (∃ (c : Instr) (s t : State), lifecycleRequest c = true ∧ exec c s = .next t)
    ∧ (∃ (s t : State) (r : Req) (pub : List Byte) (role : Nat), exec (.managerEnrol r pub role) s = .next t)
    ∧ (∃ (s t : State) (r : Req) (keyId : List Byte), exec (.managerRevoke r keyId) s = .next t)
    ∧ (∃ (s t : State) (r : Req) (v : Nat), exec (.fwConfirm r v) s = .next t)
    ∧ (∃ (s t : State) (r : Req) (w : WItem), exec (.objectWrite r w) s = .next t ∧ t.vault ≠ s.vault) :=
  ⟨⟨.ppsInMissing, State.reset, _, ⟨rfl, rfl⟩⟩,
   ⟨.lifecycleToDeployed {} [] [], State.reset, _, ⟨rfl, rfl⟩⟩,
   ⟨State.reset, _, {}, [], 0, rfl⟩,
   ⟨State.reset, _, {}, [], rfl⟩,
   ⟨State.reset, _, {}, 1, rfl⟩,
   ⟨onTrial, onTrial.writeAccess own confirmItem, own, confirmItem, ⟨rfl, confirm_changes⟩⟩⟩
theorem test_met_UnheardRequests : ∃ (c : Instr) (r : Req) (s : State), request? c = some r ∧ s.dev.hears r.route = false ∧
  (lifecycleRequest c = true → s.vault.lifecycle ≠ 0) :=
  ⟨.serviceRequest {} 1, {}, State.reset, ⟨rfl, by decide +kernel, fun h => nomatch h⟩⟩
theorem test_met_UnauthorisedRequests :
    (∃ (s : State) (r : Req), s.dev.hears r.route = true ∧ s.dev.permits r 2 = false)
    ∧ (∃ (s : State) (r : Req), s.dev.hears r.route = true ∧ s.dev.permits r 1 = false)
    ∧ (∃ (s : State) (r : Req), s.dev.hears r.route = true ∧ s.dev.permits r 0 = false) :=
  ⟨⟨st live, aud, by decide +kernel⟩,
   ⟨st live, aud, by decide +kernel⟩,
   ⟨st live, anyone, by decide +kernel⟩⟩
theorem test_met_PortCommandsStayLocal : ∃ (c : Instr) (p : Port), portLocal? c = some p :=
  ⟨.deepRequest 17, 17, rfl⟩
theorem test_met_UnitCommandsStayLocal :
    (∃ (c : Instr), ((∃ time, c = .ppsInEdge time) ∨ c = .ppsInMissing ∨ c = .ppsOutEdge ∨ c = .ppsOutFall))
    ∧ (∃ (c : Instr), (c = .touchFlashCopy ∨ c = .touchSignTimer ∨ c = .serviceExpiry ∨ c = .attestDone))
    ∧ (∃ (n : Die) (w : Way) (c : Instr), (c = .kLost n ∨ c = .kClockReturn n ∨ c = .laneCtlWiden n w ∨ c = .twillNarrow n w ∨ (∃ lane,
      c = .laneReinstateTimer n w lane)))
    ∧ (∃ (n : Die) (c : Instr), ((∃ pos, c = .samplerTrigger n pos ∨ c = .samplerTimeout n pos) ∨ (∃ samples a b x,
      c = .samplerDone n samples a b x)))
    ∧ (∃ (c : Instr), ((∃ prtad mmd addr, c = .mdioAddress prtad mmd addr) ∨ (∃ p, c = .softResetDone p))) :=
  ⟨⟨.ppsInMissing, .inr (.inl rfl)⟩,
   ⟨.touchFlashCopy, .inl rfl⟩,
   ⟨1, .up, .kLost 1, .inl rfl⟩,
   ⟨1, .samplerTrigger 1 5, .inl ⟨5, .inl rfl⟩⟩,
   ⟨.mdioAddress 1 1 0, .inl ⟨1, 1, 0, rfl⟩⟩⟩
theorem test_met_StatusObjects :
    (∃ (s : State) (r : Req) (idx : Nat), object? idx 3 = .inl (.u16, .st) ∧ Ready s r idx 3 (s.dev.stSeq idx))
    ∧ (∃ (s : State) (r : Req) (idx seq : Nat), object? idx 3 = .inl (.u16, .st) ∧ Ready s r idx 3 seq ∧ seq ≠ s.dev.stSeq idx)
    ∧ (∃ (idx : Nat), object? idx 3 = .inl (.u16, .st)) :=
  ⟨⟨st (dev [(0x20FF, 2, 65535)]), own, 0x20FF, ⟨by decide +kernel, Ready.of_checks (by decide +kernel)⟩⟩,
   ⟨st live, own, 0x20FF, 65535, ⟨by decide +kernel, Ready.of_checks (by decide +kernel), by decide +kernel⟩⟩,
   ⟨0x1400, by decide +kernel⟩⟩
theorem test_met_LockedWrites :
    (∃ (s : State) (r : Req) (w : WItem) (ty : Ty), object? w.index w.sub = .inl (ty, .rwl) ∧ w.type = ty.code ∧ w.length = ty.size ∧
      w.value < 256 ^ w.length ∧ s.dev.hears r.route = true ∧ s.dev.lostRequest w.index = false ∧ s.dev.meets r (writeRole w.index) = true ∧
      s.dev.locked w.index w.sub = true)
    ∧ (∃ (s : State) (r : Req) (p : Port) (bit v : Nat), bit < 8 ∧ v < 2 ∧ s.dev.hears r.route = true ∧ s.dev.permits r 1 = true ∧
      s.dev.lostRequest (0x4400 + p) = false ∧ s.dev.locked (0x4400 + p) 2 = true)
    ∧ (∃ (s : State) (r : Req) (lock : Lock) (v : Nat), v < 256 ∧ s.dev.hears r.route = true ∧ s.dev.meets r (writeRole (lockObject lock).1) = true ∧
      s.dev.flag (lockObject lock).1 (lockObject lock).2 = true)
    ∧ (∃ (s : State) (r : Req) (lock : Lock), Ready s r (lockObject lock).1 (lockObject lock).2 1 ∧
      s.dev.flag (lockObject lock).1 (lockObject lock).2 = false ∧ s.dev.stagingFull = false) :=
  ⟨⟨st (dev [(0x6404, 1, 1), (0x1440, 2, 1)]), own, { index := 0x447F, sub := 9, type := (Ty.octets 8).code, length := 8, value := 2 ^ 64 - 1 },
    .octets 8, by decide +kernel⟩,
   ⟨st (dev [(0x6404, 1, 1), (0x1440, 2, 1)]), own, 127, 7, 1, by decide +kernel⟩,
   ⟨st (dev [(0x6404, 1, 1), (0x1440, 2, 1)]), own, .pewter, 255, by decide +kernel⟩,
   ⟨st live, own, .sealPolicy, ⟨Ready.of_checks (by decide +kernel), by decide +kernel⟩⟩⟩
theorem test_met_FailedChecksAreDiscarded : ∃ (s : State) (n : Die) (c : Instr), s.dev.get 0x3010 (n + 1) = 3 ∧ ((∃ (w : Way) (m : TwillMsg),
  intact m = false ∧ (c = .managementMessage n w m ∨ c = .keyMessage n w m)) ∨ (∃ ev : FaultEvent,
  c = .eventMessage n (.fault false ev)) ∨ (∃ bits : List Nat,
  c = .eventMessage n (.clock false bits)) ∨ (∃ (k : Fin 16) (egress wasSealed moved : Bool) (time : Nat) (ev : List Byte),
  c = .timestampMessage n (.stamp false k egress wasSealed moved time ev)) ∨ (∃ (k : Fin 16) (valid : Bool),
  c = .timestampMessage n (.phase false k valid)) ∨ (∃ m : TimeMsg, m.crcOk = false ∧ c = .timeMessage n m)) :=
  ⟨st (dev [(0x3010, 8, 3)]), 7, .keyMessage 7 .up { crc := 1 }, ⟨by decide +kernel, .inl ⟨.up, { crc := 1 }, by decide +kernel, .inr rfl⟩⟩⟩
theorem test_met_AssayResults : ∃ (s : State) (n : DieId) (res : AssayResult) (program target : Nat), (s.dev.engineOf n).program = some (program,
  target) ∧ (n.val = 8 ∨ res.restored = true) :=
  ⟨st (live.onAssay 3 (fun e => { e with program := some (4, 3) })), 3, { count := 5, length := 5, expected := 1, got := 1, restored := true }, 4, 3,
    by decide +kernel⟩
theorem test_met_PowerAndPinReset :
    (∃ s : State, s.dev.life = .off)
    ∧ (∃ s : State, s.dev.fieldValid = false)
    ∧ (∃ s : State, s.dev.fieldValid = false)
    ∧ (∃ s : State, s.dev.fieldValid = true)
    ∧ (∃ s : State, s.dev.life ≠ .off)
    ∧ (∃ s : State, s.dev.life = .starting) :=
  ⟨⟨st { live with life := .off, fieldValid := false }, by decide +kernel⟩,
   ⟨st { live with life := .off, fieldValid := false }, by decide +kernel⟩,
   ⟨st { live with life := .off, fieldValid := false }, by decide +kernel⟩,
   ⟨State.reset, by decide +kernel⟩,
   ⟨st live, by decide +kernel⟩,
   ⟨State.reset, by decide +kernel⟩⟩
theorem test_met_StartCompletes :
    (∃ (s : State), s.dev.life = .starting ∧ s.dev.nv.lastStep = 0 ∧ s.vault.lifecycle ≠ 0 ∧ s.dev.nv.fails < 3 ∧ s.dev.nv.toRecovery = false)
    ∧ (∃ (s : State), s.dev.life = .starting ∧ s.dev.nv.lastStep = 0 ∧ s.vault.lifecycle ≠ 0 ∧ (3 ≤ s.dev.nv.fails ∨ s.dev.nv.toRecovery = true))
    ∧ (∃ (s : State), s.dev.life = .starting ∧ s.dev.nv.lastStep = 0 ∧ s.vault.lifecycle = 0) :=
  ⟨⟨{ State.reset with vault := { lifecycle := 1 } }, by decide +kernel⟩,
   ⟨st { State.reset.dev with nv := { fails := 3 } }, by decide +kernel⟩,
   ⟨State.reset, by decide +kernel⟩⟩
theorem test_met_WarmAndOtherResets :
    (∃ (s : State) (r : Req) (v : Nat), Ready s r 0x1806 0 v ∧ s.dev.mgmt.recovery = true ∧ (v = 1 ∨ v = 2) ∧
      slotRuns s.vault (s.dev.hall.slots.get (if v = 1 then 0 else 1)) = true)
    ∧ (∃ (s : State), s.dev.life = .running ∧ s.dev.mgmt.recovery = false ∧ s.dev.activating = false)
    ∧ (∃ (s : State), s.dev.life = .starting)
    ∧ (∃ (s : State), s.dev.life = .running ∧ s.dev.mgmt.recovery = false ∧ s.dev.activating = true)
    ∧ (∃ (s : State), s.dev.life = .off)
    ∧ (∃ (s : State), s.dev.life = .running ∧ s.dev.mgmt.recovery = true)
    ∧ (∃ (s : State) (r : Req), s.dev.hears r.route = true ∧ (s.vault.lifecycle = 2 ∨ s.vault.lifecycle = 3 → s.dev.permits r 1 = true) ∧
      s.dev.life = .running ∧ s.dev.mgmt.recovery = false ∧ s.dev.activating = false)
    ∧ (∃ (s : State) (r : Req) (n : Die), s.dev.hears r.route = true ∧ (s.vault.lifecycle = 2 ∨ s.vault.lifecycle = 3 → s.dev.permits r 1 = true) ∧
      s.dev.life = .running ∧ s.dev.mgmt.recovery = false ∧ s.dev.activating = false ∧ s.dev.safe = false ∧ s.dev.get 0x1010 (n + 1) ≠ 4 ∧
      s.dev.dieReachable n = true ∧ s.dev.dieState n ≠ 3)
    ∧ (∃ (s : State) (r : Req) (p : Port), s.dev.hears r.route = true ∧ s.dev.life = .running ∧ s.dev.mgmt.recovery = false ∧
      s.dev.activating = false ∧ s.dev.safe = false ∧ s.dev.linkState p ≠ 10)
    ∧ (∃ (s : State) (r : Req) (n : Die), s.dev.hears r.route = true ∧ (s.vault.lifecycle = 2 ∨ s.vault.lifecycle = 3 → s.dev.permits r 1 = true) ∧
      s.dev.life = .running ∧ s.dev.mgmt.recovery = false ∧ s.dev.activating = false ∧ s.dev.safe = false ∧ s.dev.get 0x1010 (n + 1) ≠ 4 ∧
      (s.dev.dieReachable n = false ∨ s.dev.dieState n = 3))
    ∧ (∃ (s : State) (r : Req) (source : Nat), s.dev.hears r.route = true ∧ s.dev.life = .running ∧ s.dev.mgmt.recovery = false ∧
      s.dev.activating = false ∧ s.dev.safe = false ∧ (block? source).isSome = true)
    ∧ (∃ (s : State) (source : Nat), source ∈ s.dev.blockReset)
    ∧ (∃ (s : State) (source : Nat), source ∈ s.dev.blockReset)
    ∧ (∃ (s : State) (source : Nat), source ∉ s.dev.blockReset) :=
  ⟨⟨st ((live.onMgmt (fun m => { m with recovery := true })).onHall (fun h => { h with slots := Vector.replicate 2 { valid := true } })), own, 2,
    ⟨Ready.of_checks (by decide +kernel), by decide +kernel⟩⟩,
   ⟨st live, by decide +kernel⟩,
   ⟨State.reset, by decide +kernel⟩,
   ⟨st (dev [(0x6440, 5, 5)]), by decide +kernel⟩,
   ⟨st { live with life := .off, fieldValid := false }, by decide +kernel⟩,
   ⟨st (live.onMgmt (fun m => { m with recovery := true })), by decide +kernel⟩,
   ⟨st live { lifecycle := 3 }, own, by decide +kernel⟩,
   ⟨st (dev [(0x1010, 2, 2), (0x3010, 2, 3)]), own, 1, by decide +kernel⟩,
   ⟨st live, anyone, 127, by decide +kernel⟩,
   ⟨st live, own, 1, by decide +kernel⟩,
   ⟨st live, anyone, 0x3C8, by decide +kernel⟩,
   ⟨st { live with blockReset := [0x101] }, 0x101, by decide +kernel⟩,
   ⟨st { live with blockReset := [0x101] }, 0x101, by decide +kernel⟩,
   ⟨st live, 0x101, by decide +kernel⟩⟩
theorem test_met_ClockLossAndReturn :
    (∃ (s : State) (m : Die), (s.dev.clock (dieId m)).phase = .onReference)
    ∧ (∃ (s : State), (s.dev.clock hd).phase = .onReference)
    ∧ (∃ (s : State) (n : DieId), (s.dev.clock n).phase = .requalifying)
    ∧ (∃ (s : State) (n : DieId), (s.dev.clock n).phase ≠ .onReference ∧ (s.dev.clock n).phase ≠ .requalifying)
    ∧ (∃ (s : State) (n : DieId), (s.dev.clock n).phase = .delay)
    ∧ (∃ (s : State) (n : DieId), (s.dev.clock n).phase = .confirming ∧ ((s.dev.clock n).stopped = false ∨ (s.dev.clock n).returned = true))
    ∧ (∃ (s : State) (n : DieId), (s.dev.clock n).phase = .confirming ∧ (s.dev.clock n).stopped = true ∧ (s.dev.clock n).returned = false)
    ∧ (∃ (s : State) (n : DieId), (s.dev.clock n).phase = .switching)
    ∧ (∃ (s : State) (n : DieId), n.val < 8 ∧ ((s.dev.clock n).phase = .delay ∨ (s.dev.clock n).phase = .confirming))
    ∧ (∃ (s : State), ((s.dev.clock 8).phase = .delay ∨ (s.dev.clock 8).phase = .confirming))
    ∧ (∃ (s : State) (n : DieId), ((s.dev.clock n).phase = .onFallback ∨ (s.dev.clock n).phase = .fallbackFailed))
    ∧ (∃ (s : State) (n : DieId), ((s.dev.clock n).phase = .delay ∨ (s.dev.clock n).phase = .confirming ∨ (s.dev.clock n).phase = .switching)) :=
  ⟨⟨st live, 7, by decide +kernel⟩,
   ⟨st live, by decide +kernel⟩,
   ⟨st (live.onClock 8 (fun c => { c with phase := .requalifying })), 8, by decide +kernel⟩,
   ⟨st (live.onClock 3 (fun c => { c with phase := .onFallback })), 3, by decide +kernel⟩,
   ⟨st (live.onClock 3 (fun c => { c with phase := .delay })), 3, by decide +kernel⟩,
   ⟨st (live.onClock 3 (fun c => { c with phase := .confirming })), 3, by decide +kernel⟩,
   ⟨st (live.onClock 3 (fun c => { c with phase := .confirming, stopped := true })), 3, by decide +kernel⟩,
   ⟨st (live.onClock 8 (fun c => { c with phase := .switching })), 8, by decide +kernel⟩,
   ⟨st (live.onClock 7 (fun c => { c with phase := .delay })), 7, by decide +kernel⟩,
   ⟨st (live.onClock 8 (fun c => { c with phase := .confirming })), by decide +kernel⟩,
   ⟨st (live.onClock 8 (fun c => { c with phase := .onFallback })), 8, by decide +kernel⟩,
   ⟨st (live.onClock 0 (fun c => { c with phase := .switching })), 0, by decide +kernel⟩⟩
theorem test_met_QualificationAndCounter :
    (∃ (code : Nat), code ∈ clockCodes)
    ∧ (∃ (s : State) (n : DieId) (code : Nat), code ∈ clockCodes ∧ qualCount (s.dev.clock n) code < 7)
    ∧ (∃ (s : State) (n : DieId) (code : Nat), code ∈ clockCodes ∧ qualCount (s.dev.clock n) code = 7 ∧ code ∈ (s.dev.clock n).deferred ∧
      code ≠ s.dev.referenceCode n)
    ∧ (∃ (s : State) (n : DieId), (s.dev.clock n).phase = .requalifying ∧ qualCount (s.dev.clock n) (s.dev.referenceCode n) = 7 ∧
      s.dev.referenceCode n ∉ (s.dev.clock n).deferred)
    ∧ (∃ (s : State) (r : Req) (n : DieId) (code : Nat), Ready s r 0x1808 0 0 ∧ code ∈ clockCodes ∧ code ∉ (s.dev.clock n).released ∧
      8 ≤ qualCount (s.dev.clock n) code)
    ∧ (∃ (s : State) (r : Req) (n : DieId) (code : Nat), Ready s r 0x1808 0 0 ∧ code ∈ clockCodes ∧ code ∈ (s.dev.clock n).released)
    ∧ (∃ (s : State) (r : Req) (n : DieId) (code : Nat), Ready s r 0x1808 0 0 ∧ code ∈ clockCodes ∧ code ∉ (s.dev.clock n).released ∧
      qualCount (s.dev.clock n) code < 8 ∧ code ∉ (s.dev.clock n).deferred)
    ∧ (∃ (s : State) (r : Req) (n : DieId) (meas ref gate : Nat), Ready s r (0x1830 + n) 1 0 ∧ meas ∈ clockCodes ∧ ref ∈ clockCodes ∧ 10 ≤ gate ∧
      gate ≤ 10000000 ∧ s.dev.get (0x1830 + n) 2 ≠ 1 ∧ s.dev.counterHeld n = false ∧ s.dev.get 0x1010 (n + 1) ≠ 4 ∧ (n.val < 8 →
      s.dev.get 0x1010 (n + 1) = 1 ∨ s.dev.get 0x1010 (n + 1) = 2))
    ∧ (∃ (s : State) (n : DieId) (refCount : Nat), s.dev.get (0x1830 + n) 2 = 1 ∧ refCount ≠ 0)
    ∧ (∃ (s : State) (n : DieId), s.dev.get (0x1830 + n) 2 = 1)
    ∧ (∃ (s : State) (r : Req) (n : DieId), Ready s r (0x1830 + n) 6 1 ∧ s.dev.get (0x1830 + n) 2 = 1) :=
  ⟨⟨0, by decide +kernel⟩,
   ⟨st (live.onClock 1 (fun c => { c with qualified := [(0, 6)] })), 1, 0, by decide +kernel⟩,
   ⟨st (live.onClock 8 (fun c => { c with qualified := [(0x10, 7)], deferred := [0x10] })), 8, 0x10, by decide +kernel⟩,
   ⟨st (live.onClock 3 (fun c => { c with phase := .requalifying, qualified := [(3, 7)] })), 3, by decide +kernel⟩,
   ⟨st (live.onClock 1 (fun c => { c with qualified := [(0, 8)] })), own, 1, 0, ⟨Ready.of_checks (by decide +kernel), by decide +kernel⟩⟩,
   ⟨st (clocked live), own, 8, 0x1F, ⟨Ready.of_checks (by decide +kernel), by decide +kernel⟩⟩,
   ⟨st live, own, 1, 0, ⟨Ready.of_checks (by decide +kernel), by decide +kernel⟩⟩,
   ⟨st (dev [(0x1010, 8, 1)]), own, 7, 0, 0, 10000000, ⟨Ready.of_checks (by decide +kernel), by decide +kernel⟩⟩,
   ⟨st (dev [(0x1838, 2, 1)]), 8, 1, by decide +kernel⟩,
   ⟨st (dev [(0x1838, 2, 1)]), 8, by decide +kernel⟩,
   ⟨st (dev [(0x1830, 2, 1)]), own, 0, ⟨Ready.of_checks (by decide +kernel), by decide +kernel⟩⟩⟩
theorem test_met_VoltageLoops :
    (∃ (s : State) (dom : Domain), s.dev.mayCommand dom = true)
    ∧ (∃ (s : State) (dom : Domain), s.dev.mayCommand dom = true ∧ (s.dev.loop dom).avsFails < 2)
    ∧ (∃ (s : State) (dom : Domain), s.dev.mayCommand dom = true ∧ 2 ≤ (s.dev.loop dom).avsFails)
    ∧ (∃ (s : State) (dom : Domain), (s.dev.loop dom).goodSince.isSome = true)
    ∧ (∃ (src : Nat) (n : Die) (w : Way) (l : Fin 34), block? src = some (.lane n w l))
    ∧ (∃ (src : Nat), (∀ b, block? src = some b → hasChecker b 6 = false)) :=
  ⟨⟨st ((dev []).onLoop .host (fun l => { l with running := true })), .host, by decide +kernel⟩,
   ⟨st ((dev [(0x1010, 1, 2)]).onLoop .field (fun l => { l with running := true, avsFails := 1 })), .field, by decide +kernel⟩,
   ⟨st ((dev []).onLoop .host (fun l => { l with running := true, avsFails := 2 })), .host, by decide +kernel⟩,
   ⟨st ((dev []).onLoop .field (fun l => { l with goodSince := some 0 })), .field, by decide +kernel⟩,
   ⟨0x180, 0, .down, 0, by decide +kernel⟩,
   ⟨0x3A0, every_block (f := fun b => hasChecker b 6) (by decide +kernel)⟩⟩
theorem test_met_DictionaryWrites :
    (∃ (s : State) (r : Req) (w : WItem) (idx sub : Nat) (o : Op), itemOp s r w = (idx, sub, .dev o) ∧ s.dev.hears r.route = true ∧
      s.dev.lostRequest idx = false ∧ firstCode o.checks = .ok)
    ∧ (∃ (s : State) (r : Req) (v : Nat), Writable s r 0x1428 3 v)
    ∧ (∃ (s : State) (r : Req) (lock : Lock), Ready s r (lockObject lock).1 (lockObject lock).2 1 ∧
      s.dev.flag (lockObject lock).1 (lockObject lock).2 = false ∧ s.dev.stagingFull = false)
    ∧ (∃ (s : State) (r : Req) (lock : Lock), Ready s r (lockObject lock).1 (lockObject lock).2 0 ∧
      s.dev.flag (lockObject lock).1 (lockObject lock).2 = false)
    ∧ (∃ (s : State) (r : Req) (bit v : Nat), bit < 32 ∧ v < 2 ∧ Writable s r 0x1C00 4 (putBit (s.dev.get 0x1C00 4) bit (v = 1)))
    ∧ (∃ (s : State) (r : Req) (index : Nat), wordBit? index = none ∧ s.dev.hears r.route = true ∧ s.dev.lostRequest index = false)
    ∧ (∃ (l : List Access), (∀ a ∈ l, accessReach a = 0))
    ∧ (∃ (s : State) (r q : Req) (w x : WItem), routeRank r.route ≤ routeRank q.route ∧ 0 < s.resetReach (.write r w) ∧
      s.resetReach (.write r w) < s.resetReach (.write q x))
    ∧ (∃ (r q : Req) (w x : WItem), routeRank r.route < routeRank q.route ∧ w.index ≠ 0x1804 ∧ x.index ≠ 0x1804)
    ∧ (∃ (w x : WItem), w.index ≠ 0x1804 ∧ x.index ≠ 0x1804) :=
  ⟨⟨st live, own, { index := 0x1428, sub := 3, type := Ty.u16.code, length := 2, value := 100 }, 0x1428, 3, _, ⟨rfl, by decide +kernel,
    by decide +kernel, by decide +kernel⟩⟩,
   ⟨st live, own, 100, Writable.of_checks (by decide +kernel)⟩,
   ⟨st live, own, .avsLimits, ⟨Ready.of_checks (by decide +kernel), by decide +kernel⟩⟩,
   ⟨st live, own, .mgmtMac, ⟨Ready.of_checks (by decide +kernel), by decide +kernel⟩⟩,
   ⟨st live, own, 31, 1, ⟨by decide +kernel, by decide +kernel, Writable.of_checks (by decide +kernel)⟩⟩,
   ⟨st live, own, 0x1428, by decide +kernel⟩,
   ⟨[.write own { index := 0x1428, sub := 3, type := Ty.u16.code, length := 2, value := 100 }, .read {} { index := 0x1000, sub := 1 }],
     by decide +kernel⟩,
   ⟨st (dev [(0x1424, 1, 5)]), own, { own with route := .inBand },
     { index := 0x1804, sub := 0, type := (Ty.octets 4).code, length := 4, value := 0x03000000 },
     { index := 0x1804, sub := 0, type := (Ty.octets 4).code, length := 4, value := 0x01000000 }, by decide +kernel⟩,
   ⟨own, { own with route := .inBand }, { index := 0x1428, sub := 3, type := Ty.u16.code, length := 2, value := 100 },
     { index := 0x1428, sub := 3, type := Ty.u16.code, length := 2, value := 100 }, by decide +kernel⟩,
   ⟨{ index := 0x1428, sub := 3, type := Ty.u16.code, length := 2, value := 100 },
     { index := 0x1428, sub := 3, type := Ty.u16.code, length := 2, value := 100 }, by decide +kernel⟩⟩
theorem test_met_RequestsAnswered :
    (∃ (s : State) (h : MHdr) (i : RItem), (s.dev.frameTaken h 1 1 (readBody [i])).1 = true ∧
      (s.dev.frameTaken h 1 1 (readBody [i])).2.lostRequest i.index = false ∧
      (s.dev.frameTaken h 1 1 (readBody [i])).2.responseLength s.vault h [i] ≤ 1500)
    ∧ (∃ (s : State) (h : MHdr) (items : List RItem), 1 ≤ items.length ∧ items.length ≤ 64 ∧
      (s.dev.frameTaken h 3 items.length (readBody items)).1 = true ∧ (∀ i ∈ items,
      (s.dev.frameTaken h 3 items.length (readBody items)).2.lostRequest i.index = false) ∧
      (s.dev.frameTaken h 3 items.length (readBody items)).2.responseLength s.vault h items ≤ 1500)
    ∧ (∃ (s : State) (h : MHdr) (w : WItem), (s.dev.frameTaken h 2 1 (writeItemBytes w)).1 = true ∧
      (s.dev.frameTaken h 2 1 (writeItemBytes w)).2.lostRequest w.index = false)
    ∧ (∃ (s : State) (h : MHdr) (items : List WItem), 1 ≤ items.length ∧ items.length ≤ 64 ∧
      (s.dev.frameTaken h 4 items.length (items.flatMap writeItemBytes)).1 = true ∧ (∀ w ∈ items,
      (s.dev.frameTaken h 4 items.length (items.flatMap writeItemBytes)).2.lostRequest w.index = false)) :=
  ⟨⟨st live, hdr 1, { index := 0x1000, sub := 1 }, by decide +kernel⟩,
   ⟨st live, hdr 2, [{ index := 0x1000, sub := 1 }, { index := 0xFFFF, sub := 0 }], by decide +kernel⟩,
   ⟨st live, hdr 1, { index := 0x1428, sub := 3, type := Ty.u16.code, length := 2, value := 100 }, by decide +kernel⟩,
   ⟨st live, hdr 1, [{ index := 0x1428, sub := 3, type := Ty.u16.code, length := 2, value := 100 }], by decide +kernel⟩⟩
theorem test_met_FramesRefused :
    (∃ (d : Dev) (h : MHdr), h.dest ≠ d.get 0x1420 1)
    ∧ (∃ (d : Dev) (h : MHdr), d.hears h.route = false)
    ∧ (∃ (d : Dev) (h : MHdr) (n : Nat) (b : List Byte), d.hears h.route = true ∧ h.dest = d.get 0x1420 1 ∧ malformed h n b = true)
    ∧ (∃ (d : Dev) (h : MHdr) (op n : Nat) (b : List Byte) (k : Fin 4), d.hears h.route = true ∧ h.dest = d.get 0x1420 1 ∧ malformed h n b = false ∧
      h.session = k + 1 ∧ h.tag ≠ Config.kmac256 (d.mgmt.sessions.get k).keyIn (requestBytes h op b) 256 (ascii "DZ12800 MGMT"))
    ∧ (∃ (d : Dev) (h : MHdr) (n : Nat) (b : List Byte) (k : Fin 4), d.hears h.route = true ∧ h.dest = d.get 0x1420 1 ∧ malformed h n b = false ∧
      h.session = k + 1 ∧ (d.mgmt.sessions.get k).phase ≠ 2)
    ∧ (∃ (d : Dev) (h : MHdr) (op n : Nat) (b : List Byte) (k : Fin 4), d.hears h.route = true ∧ h.dest = d.get 0x1420 1 ∧ malformed h n b = false ∧
      h.session = k + 1 ∧ (d.mgmt.sessions.get k).phase = 2 ∧
      h.tag = Config.kmac256 (d.mgmt.sessions.get k).keyIn (requestBytes h op b) 256 (ascii "DZ12800 MGMT") ∧
      h.counter ≤ (d.mgmt.sessions.get k).rxCounter)
    ∧ (∃ (d d1 : Dev) (h : MHdr) (op n : Nat) (b : List Byte), d.hears h.route = true ∧ h.dest = d.get 0x1420 1 ∧ malformed h n b = false ∧
      d.sessionCheck h op b = (true, d1) ∧ d1.awaits h = true)
    ∧ (∃ (d d1 : Dev) (h : MHdr) (op n : Nat) (b : List Byte) (k : Kept) (reply : Reply), d.hears h.route = true ∧ h.dest = d.get 0x1420 1 ∧
      malformed h n b = false ∧ d.sessionCheck h op b = (true, d1) ∧ d1.awaits h = false ∧ d1.keptOf h = some k ∧ k.reqId = h.reqId ∧
      k.reply = some reply) :=
  ⟨⟨live, {}, by decide +kernel⟩,
   ⟨State.reset.dev, hdr 1, by decide +kernel⟩,
   ⟨live, hdr 1, 0, [], by decide +kernel⟩,
   ⟨live, { hdr 0 with session := 1, tag := 0 :: Config.kmac256 [] (requestBytes { hdr 0 with session := 1 } 1 []) 256 (ascii "DZ12800 MGMT") }, 1, 0,
     [], 0, ⟨by decide +kernel, by decide +kernel, by decide +kernel, rfl, List.cons_ne_self _ _⟩⟩,
   ⟨live, { hdr 0 with session := 4 }, 0, [], 3, by decide +kernel⟩,
   ⟨live, { hdr 0 with session := 1, tag := Config.kmac256 [] (requestBytes { hdr 0 with session := 1 } 1 []) 256 (ascii "DZ12800 MGMT") }, 1, 0, [],
     0, ⟨by decide +kernel, by decide +kernel, by decide +kernel, rfl, rfl, rfl, by decide +kernel⟩⟩,
   ⟨(live.onMgmt (fun m => { m with snaps := [{ hdr := hdr 0, clear := true }] })),
     (live.onMgmt (fun m => { m with snaps := [{ hdr := hdr 0, clear := true }] })), hdr 0, 5, 0, [], ⟨by decide +kernel, by decide +kernel,
     by decide +kernel, rfl, by decide +kernel⟩⟩,
   ⟨(live.onMgmt (fun m => { m with kept := [{ mac := 0, route := .mgmtLink, session := 0, reqId := 7, reply := some { op := 1 } }] })),
     (live.onMgmt (fun m => { m with kept := [{ mac := 0, route := .mgmtLink, session := 0, reqId := 7, reply := some { op := 1 } }] })), hdr 0, 5, 0,
     [], { mac := 0, route := .mgmtLink, session := 0, reqId := 7, reply := some { op := 1 } }, { op := 1 }, ⟨by decide +kernel, by decide +kernel,
     by decide +kernel, rfl, by decide +kernel⟩⟩⟩
theorem test_met_SnapshotsAndConfiguration :
    (∃ (s : State) (h : MHdr), (s.dev.frameTaken h 5 0 []).1 = true ∧ (s.dev.frameTaken h 5 0 []).2.loaderOnly = false)
    ∧ (∃ (s : State) (j : SnapJob) (rest : List SnapJob), s.dev.mgmt.snaps = j :: rest)
    ∧ (∃ (s : State) (h : MHdr), (s.dev.frameTaken h 6 0 (commitBody 0 0)).1 = true ∧ (s.dev.frameTaken h 6 0 (commitBody 0 0)).2.loaderOnly = false ∧
      (s.dev.frameTaken h 6 0 (commitBody 0 0)).2.stagingFull = false)
    ∧ (∃ (s : State) (h : MHdr) (v : Nat), (s.dev.frameTaken h 6 0 (commitBody 1 v)).1 = true ∧
      (s.dev.frameTaken h 6 0 (commitBody 1 v)).2.loaderOnly = false ∧ (s.dev.frameTaken h 6 0 (commitBody 1 v)).2.stagingFull = false)
    ∧ (∃ (s : State) (h : MHdr) (mode v : Nat), 1 < mode ∧ (s.dev.frameTaken h 6 0 (commitBody mode v)).1 = true ∧
      (s.dev.frameTaken h 6 0 (commitBody mode v)).2.loaderOnly = false ∧ (s.dev.frameTaken h 6 0 (commitBody mode v)).2.stagingFull = false)
    ∧ (∃ (s : State) (j : CommitJob) (rest : List CommitJob), s.dev.mgmt.commits = j :: rest ∧ j.hdr.route ≠ .pewter)
    ∧ (∃ (s : State) (j : CommitJob) (rest : List CommitJob), s.dev.mgmt.commits = j :: rest ∧ j.hdr.route = .pewter)
    ∧ (∃ (s : State) (h : MHdr), (s.dev.frameTaken h 7 0 []).1 = true ∧ (s.dev.frameTaken h 7 0 []).2.loaderOnly = false)
    ∧ (∃ (s : State), s.dev.controllerRuns = true ∧ s.dev.mgmt.commits = [])
    ∧ (∃ (s : State) (j : CommitJob), s.dev.controllerRuns = true ∧ s.dev.mgmt.commits = [j] ∧ j.started = true ∧ s.dev.mgmt.passDirty = false)
    ∧ (∃ (s : State) (j : CommitJob) (rest : List CommitJob), s.dev.controllerRuns = true ∧ s.dev.mgmt.commits = j :: rest ∧ j.started = true ∧
      s.dev.mgmt.passDirty = true)
    ∧ (∃ (d : Dev), d.get 0x1408 1 = 0)
    ∧ (∃ (d : Dev) (result : Nat), d.get 0x1408 1 = 0 ∧ result ≠ d.get 0x1408 3)
    ∧ (∃ (d : Dev), d.get 0x1408 1 = 2)
    ∧ (∃ (d : Dev) (result : Nat), d.get 0x1408 1 = 2 ∧ result ≠ d.get 0x1408 3)
    ∧ (∃ (d : Dev) (result : Nat) (last : Option Nat), d.get 0x1408 1 = 2 ∧ result ≠ d.get 0x1408 3 ∧ last ≠ some result)
    ∧ (∃ (d : Dev), d.get 0x1408 1 = 1) :=
  ⟨⟨st live, hdr 0, by decide +kernel⟩,
   ⟨st (live.onMgmt (fun m => { m with snaps := [{ hdr := hdr 0, clear := true }] })), { hdr := hdr 0, clear := true }, [], by decide +kernel⟩,
   ⟨st live, hdr 0, by decide +kernel⟩,
   ⟨st live, hdr 0, 2 ^ 32 - 1, by decide +kernel⟩,
   ⟨st live, hdr 0, 2, 0, by decide +kernel⟩,
   ⟨st (live.onMgmt (fun m => { m with commits := [{ hdr := hdr 0, mode := 0, value := 0 }] })), { hdr := hdr 0, mode := 0, value := 0 }, [],
     by decide +kernel⟩,
   ⟨st (live.onMgmt (fun m => { m with commits := [{ hdr := { hdr 0 with route := .pewter }, mode := 0, value := 0 }] })),
     { hdr := { hdr 0 with route := .pewter }, mode := 0, value := 0 }, [], by decide +kernel⟩,
   ⟨st live, hdr 0, by decide +kernel⟩,
   ⟨st live, by decide +kernel⟩,
   ⟨st (live.onMgmt (fun m => { m with commits := [{ hdr := hdr 0, mode := 0, value := 0, started := true }] })),
     { hdr := hdr 0, mode := 0, value := 0, started := true }, by decide +kernel⟩,
   ⟨st (live.onMgmt (fun m => { m with commits := [{ hdr := hdr 0, mode := 0, value := 0, started := true }], passDirty := true })),
     { hdr := hdr 0, mode := 0, value := 0, started := true }, [], by decide +kernel⟩,
   ⟨dev [(0x1408, 1, 0)], by decide +kernel⟩,
   ⟨dev [(0x1408, 1, 0)], 1, by decide +kernel⟩,
   ⟨dev [(0x1408, 1, 2)], by decide +kernel⟩,
   ⟨dev [(0x1408, 1, 2)], 1, by decide +kernel⟩,
   ⟨dev [(0x1408, 1, 2)], 1, some 2, by decide +kernel⟩,
   ⟨dev [(0x1408, 1, 1)], by decide +kernel⟩⟩
theorem test_met_SessionLife :
    (∃ (s : State) (h : MHdr) (keyId xPub nonce : List Byte) (d1 : Dev) (n : Fin 4),
      s.dev.frameTaken h 9 0 (bytesOf 1 1 ++ bytesOf 3 0 ++ exactly 8 keyId ++ exactly 56 xPub ++ exactly 16 nonce) = (true, d1) ∧ h.session = 0 ∧
      d1.openingOf h = none ∧ (allFin 4).find? (fun k => (d1.mgmt.sessions.get k).phase = 0) = some n ∧ d1.hall.logClosed = false ∧
      (d1.get 0x6400 1 = 1 ∨ d1.get 0x6400 1 = 2))
    ∧ (∃ (s : State) (h : MHdr) (sig : List Byte) (d1 : Dev) (n : Fin 4),
      s.dev.frameTaken h 9 0 (bytesOf 1 3 ++ bytesOf 3 0 ++ exactly 114 sig) = (true, d1) ∧ h.session = 0 ∧ d1.openingOf h = some n)
    ∧ (∃ (s : State) (h : MHdr) (n : Fin 4), h.session = n + 1 ∧ (s.dev.frameTaken h 9 0 (bytesOf 1 4 ++ bytesOf 3 0)).1 = true)
    ∧ (∃ (s : State) (h : MHdr) (step : Nat), step ≠ 1 ∧ step ≠ 3 ∧ step ≠ 4 ∧ (s.dev.frameTaken h 9 0 (bytesOf 1 step ++ bytesOf 3 0)).1 = true)
    ∧ (∃ (s : State) (h : MHdr) (step : Nat), (step = 1 ∨ step = 3) ∧ s.dev.hears h.route = true ∧ h.dest = s.dev.get 0x1420 1)
    ∧ (∃ (s : State) (n : Fin 4), (s.dev.mgmt.sessions.get n).phase = 1 ∧ (s.dev.mgmt.sessions.get n).proving = false)
    ∧ (∃ (s : State) (n : Fin 4), (s.dev.mgmt.sessions.get n).phase = 2)
    ∧ (∃ (s : State) (idx : Nat), assocGet s.dev.mgmt.notify idx = some true ∧ s.dev.get 0x1428 1 ≠ 0 ∧ s.dev.get 0x1428 2 ≠ 0 ∧
      s.dev.mgmt.serving = true) :=
  ⟨⟨st (dev [(0x6400, 1, 1)]), hdr 0, [], [], [], ((dev [(0x6400, 1,
    1)]).frameTaken (hdr 0) 9 0 (bytesOf 1 1 ++ bytesOf 3 0 ++ exactly 8 [] ++ exactly 56 [] ++ exactly 16 [])).2, 3, ⟨taken (by decide +kernel) rfl,
    by decide +kernel⟩⟩,
   ⟨st (live.onMgmt (fun m => { m with sessions := upd m.sessions 3 (fun _ => { phase := 1, offered := true }) })), hdr 0, [],
     ((live.onMgmt (fun m => { m with sessions := upd m.sessions 3 (fun _ => { phase := 1, offered := true }) })).frameTaken (hdr 0) 9 0 (bytesOf 1 3 ++ bytesOf 3 0 ++ exactly 114 [])).2,
     3, ⟨taken (by decide +kernel) rfl, by decide +kernel⟩⟩,
   ⟨st live, closeHdr, 0, ⟨rfl, close_taken⟩⟩,
   ⟨st live, hdr 0, 2, by decide +kernel⟩,
   ⟨st live, hdr 0, 3, by decide +kernel⟩,
   ⟨st (live.onMgmt (fun m => { m with sessions := upd m.sessions 3 (fun _ => { phase := 1, offered := true }) })), 3, by decide +kernel⟩,
   ⟨st live, 0, by decide +kernel⟩,
   ⟨st ((dev [(0x1428, 1, 1), (0x1428, 2, 1)]).onMgmt (fun m => { m with notify := [(0x1400, true)] })), 0x1400, by decide +kernel⟩⟩
theorem test_met_WindowWrites :
    (∃ (s : State) (mmd : Fin 32), s.dev.windowDriven mmd = true)
    ∧ (∃ (s : State) (mmd : Fin 32), s.dev.windowDriven mmd = false)
    ∧ (∃ (s : State) (mmd : Fin 32), s.dev.windowDriven mmd = true ∧ s.dev.get 0x1440 1 = 1)
    ∧ (∃ (s : State) (mmd : Fin 32), s.dev.windowDriven mmd = true ∧ s.dev.get 0x1440 1 ≠ 1)
    ∧ (∃ (d : Dev) (p : Port), d.windowBusy p 30 = false ∧ d.safe = false) :=
  ⟨⟨st (dev [(0x1440, 1, 2)]), 31, by decide +kernel⟩,
   ⟨st (dev [(0x1440, 1, 0)]), 1, by decide +kernel⟩,
   ⟨st (dev [(0x1440, 1, 1)]), 1, by decide +kernel⟩,
   ⟨st (dev [(0x1440, 1, 2)]), 30, by decide +kernel⟩,
   ⟨live, 127, by decide +kernel⟩⟩
theorem test_met_WindowReadsAndCommands :
    (∃ (s : State) (mmd : Fin 32), s.dev.windowDriven mmd = false)
    ∧ (∃ (s : State) (mmd : Fin 32), s.dev.windowDriven mmd = true)
    ∧ (∃ (s : State) (prtad : Fin 32), s.dev.windowDriven 31 = true ∧ s.dev.mdioAt prtad 31 % 4096 = 0)
    ∧ (∃ (s : State) (prtad : Fin 32), s.dev.windowDriven 30 = true ∧ s.dev.mdioAt prtad 30 = 0x100 ∧
      s.dev.busyIndex (0x4000 + s.dev.windowPort prtad) = false ∧ s.dev.softUnidled (s.dev.windowPort prtad) = false)
    ∧ (∃ (d : Dev) (p : Port) (h : Nat), latchOf d.mgmt.readLatch p = some (0x100, h))
    ∧ (∃ (s : State), s.dev.windowDriven 30 = true ∧ s.dev.get 0x1440 1 ≠ 1 ∧ s.dev.safe = false)
    ∧ (∃ (s : State), s.dev.windowDriven 30 = true ∧ s.dev.get 0x1440 1 ≠ 1 ∧ s.dev.safe = false ∧ s.dev.stagingFull = false)
    ∧ (∃ (s : State) (prtad : Fin 32), s.dev.windowDriven 30 = true ∧ s.dev.get 0x1440 1 ≠ 1 ∧ s.dev.safe = false ∧
      s.dev.busyIndex (0x4000 + s.dev.windowPort prtad) = false)
    ∧ (∃ (s : State) (prtad : Fin 32), s.dev.windowDriven 30 = true ∧ s.dev.get 0x1440 1 ≠ 1 ∧ s.dev.safe = false ∧
      s.dev.busyIndex (0x4000 + s.dev.windowPort prtad) = false)
    ∧ (∃ (s : State) (prtad : Fin 32), s.dev.windowDriven 1 = true ∧ s.dev.get 0x1440 1 ≠ 1 ∧ s.dev.safe = false ∧
      s.dev.busyIndex (0x4000 + s.dev.windowPort prtad) = false ∧
      (s.dev.native (s.dev.windowPort prtad) = true ∨ s.dev.linkState (s.dev.windowPort prtad) < 3 ∨ 8 < s.dev.linkState (s.dev.windowPort prtad)))
    ∧ (∃ (s : State) (prtad : Fin 32), s.dev.windowDriven 1 = true ∧ s.dev.get 0x1440 1 ≠ 1 ∧ s.dev.safe = false ∧
      s.dev.busyIndex (0x4000 + s.dev.windowPort prtad) = false ∧ s.dev.native (s.dev.windowPort prtad) = false ∧
      3 ≤ s.dev.linkState (s.dev.windowPort prtad) ∧ s.dev.linkState (s.dev.windowPort prtad) ≤ 8)
    ∧ (∃ (s : State) (prtad mmd : Fin 32), s.dev.windowDriven mmd = true ∧ mmd ≠ 31 ∧ s.dev.busyIndex (0x4000 + s.dev.windowPort prtad) = false ∧
      s.dev.softUnidled (s.dev.windowPort prtad) = true) :=
  ⟨⟨st (dev [(0x1440, 1, 0)]), 1, by decide +kernel⟩,
   ⟨st (dev [(0x1440, 1, 2)]), 30, by decide +kernel⟩,
   ⟨st (dev [(0x1440, 1, 2)]), 0, by decide +kernel⟩,
   ⟨st ((dev [(0x1440, 1, 2)]).onMgmt (fun m => { m with mdioAddr := [(0 * 32 + 30, 0x100)] })), 0, by decide +kernel⟩,
   ⟨(live.onMgmt (fun m => { m with readLatch := latchSet m.readLatch 17 0x100 9 })), 17, 9, by decide +kernel⟩,
   ⟨st (dev [(0x1440, 1, 2)]), by decide +kernel⟩,
   ⟨st (dev [(0x1440, 1, 2)]), by decide +kernel⟩,
   ⟨st (dev [(0x1440, 1, 2)]), 31, by decide +kernel⟩,
   ⟨st (dev [(0x1440, 1, 2)]), 0, by decide +kernel⟩,
   ⟨st (dev [(0x1440, 1, 2), (0x4080, 4, 8), (0x4080, 6, 4)]), 0, by decide +kernel⟩,
   ⟨st (dev [(0x1440, 1, 2), (0x4080, 4, 3), (0x4080, 6, 8)]), 0, by decide +kernel⟩,
   ⟨st ((dev [(0x1440, 1, 2)]).onMgmt (fun m => { m with softReset := [(17, false)] })), 17, 1, by decide +kernel⟩⟩
theorem test_met_PortsComeAndGo :
    (∃ (s : State) (r : Req) (p : Port) (v : Nat), Writable s r (0x4000 + p) 4 v)
    ∧ (∃ (s : State) (r : Req) (p : Port) (v : Nat), Writable s r (0x2000 + p) 1 v ∧ v ≠ s.dev.get (0x2000 + p) 1)
    ∧ (∃ (s : State) (r : Req) (p : Port), Writable s r (0x2000 + p) 1 (s.dev.get (0x2000 + p) 1))
    ∧ (∃ (s : State) (r : Req) (p : Port), Writable s r 0x1030 (1 + p.val / 64) (s.dev.enableWord p true) ∧ s.dev.hall.logClosed = false ∧
      s.dev.get 0x6800 5 ≠ 2 ∧ (s.dev.get 0x1030 (1 + p.val / 64)).testBit (p.val % 64) = false)
    ∧ (∃ (s : State) (r : Req) (p : Port), Writable s r 0x1030 (1 + p.val / 64) (s.dev.enableWord p true) ∧ s.dev.hall.logClosed = false ∧
      s.dev.get 0x6800 5 ≠ 2 ∧ (s.dev.get 0x1030 (1 + p.val / 64)).testBit (p.val % 64) = true)
    ∧ (∃ (s : State) (r : Req) (p : Port), Writable s r 0x1030 (1 + p.val / 64) (s.dev.enableWord p false) ∧ s.dev.get 0x6800 5 ≠ 2 ∧
      (s.dev.hall.logClosed = false ∨ s.dev.enableWord p false = 0) ∧ (s.dev.get 0x1030 (1 + p.val / 64)).testBit (p.val % 64) = true)
    ∧ (∃ (s : State) (r : Req) (p : Port), Writable s r 0x1030 (1 + p.val / 64) (s.dev.enableWord p false) ∧ s.dev.get 0x6800 5 ≠ 2 ∧
      (s.dev.hall.logClosed = false ∨ s.dev.enableWord p false = 0) ∧ (s.dev.get 0x1030 (1 + p.val / 64)).testBit (p.val % 64) = false)
    ∧ (∃ (s : State) (r : Req) (p : Port), Ready s r (0x4100 + p) 2 1 ∧ s.dev.linkState p ≠ 0 ∧ s.dev.linkState p ≠ 10)
    ∧ (∃ (s : State) (r : Req) (p : Port), Ready s r (0x4100 + p) 2 1 ∧ (s.dev.linkState p = 0 ∨ s.dev.linkState p = 10))
    ∧ (∃ (s : State) (p : Port), s.dev.linkState p = 9)
    ∧ (∃ (s : State) (p : Port), s.dev.linkState p ≠ 9) :=
  ⟨⟨st live, own, 127, 0x3FF, Writable.of_checks (by decide +kernel)⟩,
   ⟨st live, own, 127, 2, ⟨Writable.of_checks (by decide +kernel), by decide +kernel⟩⟩,
   ⟨st live, own, 0, Writable.of_checks (by decide +kernel)⟩,
   ⟨st (dev [(0x1030, 1, 0), (0x1030, 2, 0)]), own, 127, ⟨Writable.of_checks (by decide +kernel), by decide +kernel⟩⟩,
   ⟨st (dev [(0x1030, 1, 2 ^ 64 - 1), (0x1030, 2, 2 ^ 64 - 1)]), own, 0, ⟨Writable.of_checks (by decide +kernel), by decide +kernel⟩⟩,
   ⟨st (dev [(0x1030, 1, 2 ^ 64 - 1), (0x1030, 2, 2 ^ 64 - 1)]), own, 0, ⟨Writable.of_checks (by decide +kernel), by decide +kernel⟩⟩,
   ⟨st (dev [(0x1030, 1, 0), (0x1030, 2, 0)]), own, 127, ⟨Writable.of_checks (by decide +kernel), by decide +kernel⟩⟩,
   ⟨st (dev [(0x4080 + 17, 4, 0), (0x4080 + 17, 6, 11)]), own, 17, ⟨Ready.of_checks (by decide +kernel), by decide +kernel⟩⟩,
   ⟨st (dev [(0x4080 + 17, 4, 0), (0x4080 + 17, 6, 10)]), own, 17, ⟨Ready.of_checks (by decide +kernel), by decide +kernel⟩⟩,
   ⟨st (dev [(0x4080 + 17, 4, 0), (0x4080 + 17, 6, 9)]), 17, by decide +kernel⟩,
   ⟨st (dev [(0x4080 + 17, 4, 0), (0x4080 + 17, 6, 8)]), 17, by decide +kernel⟩⟩
theorem test_met_NegotiationResolves :
    (∃ (s : State) (p : Port), ¬ Negotiates s.dev p)
    ∧ (∃ (s : State) (p : Port), Negotiates s.dev p ∧ (s.dev.effAdvertise p).testBit 0 = true)
    ∧ (∃ (s : State) (p : Port), Negotiates s.dev p ∧ (s.dev.effAdvertise p).testBit 0 = false)
    ∧ (∃ (s : State) (p : Port) (modes : Nat) (tagged : List (Vector Nat 4)), Negotiates s.dev p ∧ s.dev.commonMode p modes tagged = 0)
    ∧ (∃ (s : State) (p : Port) (modes : Nat) (tagged : List (Vector Nat 4)), Negotiates s.dev p ∧ s.dev.commonMode p modes tagged = 1)
    ∧ (∃ (s : State) (p : Port) (modes : Nat) (tagged : List (Vector Nat 4)), Negotiates s.dev p ∧ 2 ≤ s.dev.commonMode p modes tagged ∧
      s.dev.commonMode p modes tagged ≤ 7)
    ∧ (∃ (s : State) (p : Port) (modes page seed : Nat) (tagged : List (Vector Nat 4)), Negotiates s.dev p ∧ nativeSet tagged = some (page, seed) ∧
      8 ≤ s.dev.commonMode p modes tagged ∧ s.dev.ownRank p = 3 ∧ field page 6 2 = 3)
    ∧ (∃ (s : State) (p : Port) (modes page seed : Nat) (tagged : List (Vector Nat 4)), Negotiates s.dev p ∧ nativeSet tagged = some (page, seed) ∧
      8 ≤ s.dev.commonMode p modes tagged ∧ ¬ (s.dev.ownRank p = 3 ∧ field page 6 2 = 3) ∧
      (s.dev.ownRank p ≠ field page 6 2 ∨ Config.drawBelow s.dev.draws 512 ≠ seed))
    ∧ (∃ (s : State) (p : Port) (modes page seed : Nat) (tagged : List (Vector Nat 4)), Negotiates s.dev p ∧ nativeSet tagged = some (page, seed) ∧
      8 ≤ s.dev.commonMode p modes tagged ∧ s.dev.ownRank p ≠ 3 ∧ s.dev.ownRank p = field page 6 2 ∧ Config.drawBelow s.dev.draws 512 = seed) :=
  ⟨⟨st live, 17, fun h => absurd h.1 (by decide +kernel)⟩,
   ⟨negotiating [], 17, ⟨Negotiates.of_checks (by decide +kernel), by decide +kernel⟩⟩,
   ⟨negotiating [] 0x3FE, 17, ⟨Negotiates.of_checks (by decide +kernel), by decide +kernel⟩⟩,
   ⟨negotiating [], 17, 0, [], ⟨Negotiates.of_checks (by decide +kernel), by decide +kernel⟩⟩,
   ⟨negotiating [], 17, 1, [], ⟨Negotiates.of_checks (by decide +kernel), by decide +kernel⟩⟩,
   ⟨negotiating [], 17, 2, [], ⟨Negotiates.of_checks (by decide +kernel), by decide +kernel⟩⟩,
   ⟨negotiating [(0x4100 + 17, 1, 2)], 17, 0, 0x7C1, 0, [#v[598, 1657, 1024 + 0, 0x7C1]], ⟨Negotiates.of_checks (by decide +kernel),
     by decide +kernel⟩⟩,
   ⟨negotiating [], 17, 0, 0x701, 5, [#v[598, 1657, 1024 + 5, 0x701]], ⟨Negotiates.of_checks (by decide +kernel), by decide +kernel,
     by decide +kernel, by decide +kernel, .inl (by decide +kernel)⟩⟩,
   ⟨negotiating [], 17, 0, 0x741, Config.drawBelow 0 512, drawnPages, ⟨Negotiates.of_checks (by decide +kernel), drawn_set, drawn_common _ drawn_set,
     by decide +kernel, by decide +kernel, rfl⟩⟩⟩
theorem test_met_TrainingRuns :
    (∃ (s : State) (p : Port), s.dev.linkState p = 2 ∧ s.dev.forced p = true ∧ s.dev.lineServes p = true ∧
      (s.dev.port p).diag.any (·.outOfService) = false)
    ∧ (∃ (s : State) (p : Port), s.dev.linkState p = 3 ∧ s.dev.native p = false)
    ∧ (∃ (s : State) (p : Port), s.dev.linkState p = 3 ∧ s.dev.stage p ≠ 0 ∧ s.dev.stageExit p = false ∧ s.dev.stage p ≠ 5)
    ∧ (∃ (s : State) (p : Port), s.dev.linkState p = 3 ∧ s.dev.stage p = 5 ∧ (s.dev.port p).crypt.failing = none)
    ∧ (∃ (s : State) (p : Port), s.dev.linkState p = 3 ∧ s.dev.stage p = 5 ∧ (s.dev.port p).crypt.failing ≠ none)
    ∧ (∃ (s : State) (p : Port), s.dev.linkState p = 3 ∧ s.dev.native p = true ∧ s.dev.stage p ≠ 0 ∧ s.dev.stageExit p = true)
    ∧ (∃ (s : State) (r : Req) (p : Port) (stage : Fin 6) (v : Nat), Writable s r (0x4180 + p) (2 + stage) v ∧
      (s.dev.linkState p ≠ 3 ∨ s.dev.stage p ≠ stage + 1 ∨ s.dev.uptime < (s.dev.port p).train.since + v * 1000))
    ∧ (∃ (s : State) (r : Req) (p : Port) (stage : Fin 6) (v : Nat), Writable s r (0x4180 + p) (2 + stage) v ∧ s.dev.linkState p = 3 ∧
      s.dev.stage p = stage + 1 ∧ (s.dev.port p).train.since + v * 1000 ≤ s.dev.uptime)
    ∧ (∃ (s : State) (p : Port) (h : Nat), s.dev.native p = true ∧ s.dev.linkState p = 3 ∧ s.dev.stage p ≠ 0 ∧ headerValid h = true)
    ∧ (∃ (s : State) (p : Port) (h : Nat), s.dev.native p = true ∧ s.dev.linkState p = 3 ∧ s.dev.stage p ≠ 0 ∧ headerValid h = false)
    ∧ (∃ (s : State) (p : Port) (h : Nat), s.dev.native p = true ∧ 5 ≤ s.dev.linkState p ∧ s.dev.linkState p ≤ 7 ∧ headerValid h = true)
    ∧ (∃ (s : State) (p : Port) (h : Nat), (s.dev.native p = false ∨ (s.dev.linkState p = 3 ∧ s.dev.stage p = 0) ∨ (s.dev.linkState p ≠ 3 ∧
      (headerValid h = false ∨ s.dev.linkState p < 5 ∨ 7 < s.dev.linkState p)))) :=
  ⟨⟨st (dev [(0x4080 + 17, 6, 2), (0x4000 + 17, 5, 1), (0x1010, 2, 2), (0x3010, 2, 3)]), 17, by decide +kernel⟩,
   ⟨st (dev [(0x4080 + 17, 4, 3), (0x4080 + 17, 6, 3)]), 17, by decide +kernel⟩,
   ⟨st (dev [(0x4080 + 17, 4, 8), (0x4080 + 17, 6, 3), (0x4180 + 17, 1, 1)]), 17, by decide +kernel⟩,
   ⟨st (dev [(0x4080 + 17, 4, 8), (0x4080 + 17, 6, 3), (0x4180 + 17, 1, 5)]), 17, by decide +kernel⟩,
   ⟨st ((dev [(0x4080 + 17, 4, 8), (0x4080 + 17, 6, 3), (0x4180 + 17, 1,
     5)]).onPort 17 (fun s => { s with crypt := { s.crypt with failing := some 5 } })), 17, by decide +kernel⟩,
   ⟨st ((dev [(0x4080 + 17, 4, 8), (0x4080 + 17, 6, 3), (0x4180 + 17, 1,
     3)]).onPort 17 (fun s => { s with train := { s.train with converged := true, partnerConverged := true } })), 17, by decide +kernel⟩,
   ⟨st live, own, 17, 5, 100, ⟨Writable.of_checks (by decide +kernel), by decide +kernel⟩⟩,
   ⟨{ st (dev [(0x4080 + 17, 4, 8), (0x4080 + 17, 6, 3), (0x4180 + 17, 1, 6)]) with dev := { (st (dev [(0x4080 + 17, 4, 8), (0x4080 + 17, 6, 3), (0x4180 + 17, 1, 6)])).dev with uptime := 10 ^ 12 } },
     own, 17, 5, 100, ⟨Writable.of_checks (by decide +kernel), by decide +kernel⟩⟩,
   ⟨st (dev [(0x4080 + 17, 4, 8), (0x4080 + 17, 6, 3), (0x4180 + 17, 1, 2)]), 17, trainHeader 2 false false 0 none false 0, by decide +kernel⟩,
   ⟨st (dev [(0x4080 + 17, 4, 8), (0x4080 + 17, 6, 3), (0x4180 + 17, 1, 6)]), 17, 0, by decide +kernel⟩,
   ⟨st (dev [(0x4080 + 17, 4, 8), (0x4080 + 17, 6, 5)]), 17, trainHeader 7 false false 0 none false 0, by decide +kernel⟩,
   ⟨st live, 17, 0, by decide +kernel⟩⟩
theorem test_met_BundleMembers :
    (∃ (s : State) (p : Port), s.dev.bundleState p = 2 ∧ (∀ q ∈ s.dev.neighbours p, s.dev.bundleState q ≠ 3 ∧ (s.dev.bundleState q = 2 →
      (s.dev.port p).signal.hushOrder < (s.dev.port q).signal.hushOrder ∨ ((s.dev.port p).signal.hushOrder = (s.dev.port q).signal.hushOrder ∧
      p < q))))
    ∧ (∃ (s : State) (p : Port), (s.dev.bundleState p ≠ 2 ∨ ∃ q ∈ s.dev.neighbours p, s.dev.bundleState q = 3 ∨ (s.dev.bundleState q = 2 ∧
      ((s.dev.port q).signal.hushOrder < (s.dev.port p).signal.hushOrder ∨ ((s.dev.port q).signal.hushOrder = (s.dev.port p).signal.hushOrder ∧
      q < p)))))
    ∧ (∃ (s : State) (p : Port), s.dev.bundleState p = 3)
    ∧ (∃ (s : State) (p : Port), s.dev.bundleState p ≠ 3)
    ∧ (∃ (s : State) (r : Req) (p : Port) (v : Nat), Writable s r (0x4380 + p) 1 v ∧ v < 4 ∧ 4 ≤ s.dev.groupOf p ∧
      (s.dev.members (dieOf p) v).length < 8)
    ∧ (∃ (s : State) (r : Req) (p : Port) (v : Nat), Writable s r (0x4380 + p) 1 v ∧ v < 4 ∧ s.dev.groupOf p < 4 ∧ s.dev.groupOf p ≠ v ∧
      (s.dev.members (dieOf p) v).length < 8)
    ∧ (∃ (s : State) (r : Req) (p : Port) (v : Nat), Writable s r (0x4380 + p) 1 v ∧ ((v < 4 ∧ v = s.dev.groupOf p) ∨ (v = 0xFF ∧
      4 ≤ s.dev.groupOf p)))
    ∧ (∃ (s : State) (r : Req) (p : Port), Writable s r (0x4380 + p) 1 0xFF ∧ s.dev.groupOf p < 4)
    ∧ (∃ (s : State) (r : Req) (p : Port) (v : Nat), Ready s r (0x4380 + p) 1 v ∧ s.dev.locked (0x4380 + p) 1 = false ∧ ((3 < v ∧ v ≠ 0xFF) ∨ (v < 4 ∧
      s.dev.groupOf p ≠ v ∧ 8 ≤ (s.dev.members (dieOf p) v).length))) :=
  ⟨⟨st (dev [(0x4380 + 17, 1, 0), (0x4380 + 17, 2, 2), (0x4380 + 18, 1, 0), (0x4380 + 18, 2, 4)]), 17, by decide +kernel⟩,
   ⟨st (dev [(0x4380 + 17, 1, 0), (0x4380 + 17, 2, 2), (0x4380 + 18, 1, 0), (0x4380 + 18, 2, 3)]), 17, by decide +kernel⟩,
   ⟨st (dev [(0x4380 + 17, 1, 3), (0x4380 + 17, 2, 3)]), 17, by decide +kernel⟩,
   ⟨st live, 17, by decide +kernel⟩,
   ⟨st live, own, 127, 3, ⟨Writable.of_checks (by decide +kernel), by decide +kernel⟩⟩,
   ⟨st (dev [(0x4380 + 17, 1, 3), (0x4380 + 17, 2, 4)]), own, 17, 2, ⟨Writable.of_checks (by decide +kernel), by decide +kernel⟩⟩,
   ⟨st (dev [(0x4380 + 17, 1, 3), (0x4380 + 17, 2, 4)]), own, 17, 3, ⟨Writable.of_checks (by decide +kernel), by decide +kernel⟩⟩,
   ⟨st (dev [(0x4380 + 17, 1, 3), (0x4380 + 17, 2, 4)]), own, 17, ⟨Writable.of_checks (by decide +kernel), by decide +kernel⟩⟩,
   ⟨st (dev [(0x4380 + 16, 1, 3), (0x4380 + 16, 2, 4), (0x4380 + 17, 1, 3), (0x4380 + 17, 2, 4), (0x4380 + 18, 1, 3), (0x4380 + 18, 2, 4),
     (0x4380 + 19, 1, 3), (0x4380 + 19, 2, 4), (0x4380 + 20, 1, 3), (0x4380 + 20, 2, 4), (0x4380 + 21, 1, 3), (0x4380 + 21, 2, 4), (0x4380 + 22, 1,
     3), (0x4380 + 22, 2, 4), (0x4380 + 23, 1, 3), (0x4380 + 23, 2, 4)]), own, 31, 3, ⟨Ready.of_checks (by decide +kernel), by decide +kernel⟩⟩⟩
theorem test_met_NativeFrames :
    (∃ (s : State) (p : Port), s.dev.native p = true ∧ s.dev.linkState p ≠ 3 ∧ s.dev.txRuns p = true)
    ∧ (∃ (s : State) (p : Port), s.dev.native p = true ∧ s.dev.linkState p = 3 ∧ s.dev.stage p ≠ 0 ∧ s.dev.trainSilent p = false ∧
      (s.dev.port p).train.dataSent = true)
    ∧ (∃ (s : State) (p : Port), s.dev.native p = true ∧ s.dev.linkState p = 3 ∧ s.dev.trainSilent p = false ∧ s.dev.dataNext p = true ∧
      (s.dev.port p).train.dataSent = false)
    ∧ (∃ (s : State) (p : Port), s.dev.native p = true ∧ s.dev.linkState p = 3 ∧ s.dev.stage p ≠ 0 ∧ s.dev.trainSilent p = false ∧
      s.dev.dataNext p = false ∧ (s.dev.port p).train.dataSent = false)
    ∧ (∃ (s : State) (p : Port), s.dev.native p = true ∧ s.dev.linkState p ≠ 3 ∧ s.dev.txRuns p = false ∧ s.dev.bursting p = true ∧
      s.dev.burstWaits p = false)
    ∧ (∃ (s : State) (p : Port), (s.dev.native p = false ∨ (s.dev.linkState p = 3 ∧ s.dev.trainSilent p = true)))
    ∧ (∃ (s : State) (p : Port) (f : NativeRx), s.dev.rxRuns p = true ∧ s.dev.rxTail p = false ∧ s.dev.rxBad p f = true)
    ∧ (∃ (s : State) (p : Port) (f : NativeRx), s.dev.rxRuns p = true ∧ s.dev.rxTail p = false ∧ s.dev.rxBad p f = false)
    ∧ (∃ (s : State) (p : Port), s.dev.rxTail p = true)
    ∧ (∃ (s : State) (p : Port), s.dev.rxRuns p = false ∧ s.dev.rxTail p = false) :=
  ⟨⟨st (dev [(0x4080 + 17, 4, 8), (0x4080 + 17, 6, 4)]), 17, by decide +kernel⟩,
   ⟨st ((dev [(0x4080 + 17, 4, 8), (0x4080 + 17, 6, 3), (0x4180 + 17, 1,
     6)]).onPort 17 (fun s => { s with train := { s.train with dataSent := true } })), 17, by decide +kernel⟩,
   ⟨st ((dev [(0x4080 + 17, 4, 8), (0x4080 + 17, 6, 3), (0x4180 + 17, 1,
     6)]).onPort 17 (fun s => { s with train := { s.train with stage6Sent := 4, stage6Run := 4 } })), 17, by decide +kernel⟩,
   ⟨st (dev [(0x4080 + 17, 4, 8), (0x4080 + 17, 6, 3), (0x4180 + 17, 1, 2)]), 17, by decide +kernel⟩,
   ⟨st ((dev [(0x4080 + 17, 4, 8), (0x4080 + 17, 6,
     5)]).onPort 17 (fun s => { s with link := { s.link with relock := some { reloaded := true, burst := true } } })), 17, by decide +kernel⟩,
   ⟨st live, 17, by decide +kernel⟩,
   ⟨st (dev [(0x4080 + 17, 4, 10), (0x4080 + 17, 6, 4)]), 17, { cws := [{ uncorrectable := true, info := overhead 10 7 0 none }] },
     by decide +kernel⟩,
   ⟨st (dev [(0x4080 + 17, 4, 10), (0x4080 + 17, 6, 4)]), 17, { cws := [{ uncorrectable := false, info := overhead 10 7 0 none }] },
     by decide +kernel⟩,
   ⟨st (dev [(0x4080 + 17, 4, 10), (0x4080 + 17, 6, 6), (0x4200 + 17, 5, 2)]), 17, by decide +kernel⟩,
   ⟨st live, 17, by decide +kernel⟩⟩
theorem test_met_WarmRelock :
    (∃ (s : State) (r : Req) (p : Port), Ready s r (0x4180 + p) 0x10 1 ∧ s.dev.nativeLink p = true ∧ (s.dev.port p).link.relock = none ∧
      (s.dev.port p).link.relockPending = none)
    ∧ (∃ (s : State) (r : Req) (p : Port), Ready s r (0x4180 + p) 0x10 1 ∧ s.dev.native p = true ∧
      (s.dev.linkState p = 5 ∨ (s.dev.port p).link.relockPending.isSome = true))
    ∧ (∃ (s : State) (r : Req) (p : Port), Ready s r (0x4180 + p) 0x10 1 ∧ s.dev.nativeLink p = false ∧
      (s.dev.native p = false ∨ s.dev.linkState p ≠ 5) ∧ (s.dev.native p = false ∨ (s.dev.port p).link.relockPending = none))
    ∧ (∃ (s : State) (p : Port) (c : Nat), s.dev.nativeLink p = true ∧ (s.dev.port p).link.relock = none ∧ (s.dev.port p).link.relockPending = some c)
    ∧ (∃ (s : State) (p : Port), ((s.dev.port p).link.relockPending = none ∨ s.dev.nativeLink p = false ∨ (s.dev.port p).link.relock ≠ none))
    ∧ (∃ (s : State) (p : Port) (r : Relock), (s.dev.port p).link.relock = some r ∧ r.reloaded = true ∧ r.resumed = false ∧ r.silent = true)
    ∧ (∃ (s : State) (p : Port) (r : Relock), (s.dev.port p).link.relock = some r ∧ r.reloaded = true ∧ r.burst = true ∧ r.resumed = false ∧
      r.silent = false ∧ ((s.dev.port p).link.held = false ∨ r.heard = true))
    ∧ (∃ (s : State) (p : Port) (r : Relock), (s.dev.port p).link.relock = some r ∧ r.silent = false ∧
      (r.burst = false ∨ ((s.dev.port p).link.held = true ∧ r.heard = false)))
    ∧ (∃ (s : State) (p : Port), (∀ r ∈ (s.dev.port p).link.relock, r.reloaded = false ∨ r.resumed = true))
    ∧ (∃ (s : State) (p : Port) (r : Relock), (s.dev.port p).link.relock = some r ∧ r.silent = false ∧ r.answered = false)
    ∧ (∃ (s : State) (p : Port), (∀ r ∈ (s.dev.port p).link.relock, r.silent = true ∨ r.answered = true))
    ∧ (∃ (s : State) (p : Port), (s.dev.port p).link.held = true)
    ∧ (∃ (s : State) (p : Port), (s.dev.port p).link.held = false) :=
  ⟨⟨st (dev [(0x4080 + 17, 4, 8), (0x4080 + 17, 6, 7)]), own, 17, ⟨Ready.of_checks (by decide +kernel), by decide +kernel⟩⟩,
   ⟨st (dev [(0x4080 + 17, 4, 8), (0x4080 + 17, 6, 5)]), own, 17, ⟨Ready.of_checks (by decide +kernel), by decide +kernel⟩⟩,
   ⟨st live, own, 17, ⟨Ready.of_checks (by decide +kernel), by decide +kernel⟩⟩,
   ⟨st ((dev [(0x4080 + 17, 4, 8), (0x4080 + 17, 6, 4)]).onPort 17 (fun s => { s with link := { s.link with relockPending := some 5 } })), 17, 5,
     by decide +kernel⟩,
   ⟨st ((dev [(0x4080 + 17, 4, 8), (0x4080 + 17, 6,
     4)]).onPort 17 (fun s => { s with link := { s.link with relockPending := some 0, relock := some {} } })), 17, by decide +kernel⟩,
   ⟨st ((dev [(0x4080 + 17, 4, 8), (0x4080 + 17, 6,
     5)]).onPort 17 (fun s => { s with link := { s.link with relock := some { reloaded := true, silent := true } } })), 17,
     { reloaded := true, silent := true }, by decide +kernel⟩,
   ⟨st ((dev [(0x4080 + 17, 4, 8), (0x4080 + 17, 6,
     5)]).onPort 17 (fun s => { s with link := { s.link with relock := some { reloaded := true, burst := true } } })), 17,
     { reloaded := true, burst := true }, by decide +kernel⟩,
   ⟨st ((dev [(0x4080 + 17, 4, 8), (0x4080 + 17, 6, 5)]).onPort 17 (fun s => { s with link := { s.link with relock := some {} } })), 17, {},
     by decide +kernel⟩,
   ⟨st ((dev [(0x4080 + 17, 4, 8), (0x4080 + 17, 6,
     5)]).onPort 17 (fun s => { s with link := { s.link with relock := some { reloaded := true, resumed := true } } })), 17, by decide +kernel⟩,
   ⟨st ((dev [(0x4080 + 17, 4, 8), (0x4080 + 17, 6, 5)]).onPort 17 (fun s => { s with link := { s.link with relock := some {} } })), 17, {},
     by decide +kernel⟩,
   ⟨st ((dev [(0x4080 + 17, 4, 8), (0x4080 + 17, 6, 5)]).onPort 17 (fun s => { s with link := { s.link with relock := some { silent := true } } })),
     17, by decide +kernel⟩,
   ⟨st ((dev [(0x4080 + 17, 4, 8), (0x4080 + 17, 6, 4)]).onPort 17 (fun s => { s with link := { s.link with held := true } })), 17,
     by decide +kernel⟩,
   ⟨st live, 17, by decide +kernel⟩⟩
theorem test_met_LinksAreLost :
    (∃ (s : State) (p : Port), s.dev.linkState p = 3)
    ∧ (∃ (s : State) (p : Port), s.dev.native p = true ∧ 4 ≤ s.dev.linkState p ∧ s.dev.linkState p ≤ 7 ∧ (s.dev.port p).link.held = false)
    ∧ (∃ (s : State) (p : Port), s.dev.native p = true ∧ 4 ≤ s.dev.linkState p ∧ s.dev.linkState p ≤ 7 ∧ (s.dev.port p).link.held = true)
    ∧ (∃ (s : State) (p : Port), s.dev.linkState p ≠ 3 ∧ (s.dev.native p = false ∨ s.dev.linkState p < 4 ∨ 7 < s.dev.linkState p))
    ∧ (∃ (s : State) (p : Port), s.dev.nativeLink p = true ∧ s.dev.rxActive p = true ∧ (s.dev.port p).link.lowMargin.any (fun n => 10 ≤ n) = true)
    ∧ (∃ (s : State) (p : Port),
      (s.dev.nativeLink p = false ∨ s.dev.rxActive p = false ∨ (s.dev.port p).link.lowMargin.any (fun n => 10 ≤ n) = false))
    ∧ (∃ (s : State) (p : Port), s.dev.linkUp p = true ∧ s.dev.native p = false)
    ∧ (∃ (s : State) (p : Port), (s.dev.linkUp p = false ∨ s.dev.native p = true))
    ∧ (∃ (s : State) (p : Port), s.dev.native p = false ∧ 3 ≤ s.dev.mode p ∧ (s.dev.linkState p = 4 ∨ s.dev.linkState p = 6) ∧
      (s.dev.port p).link.fastRetrainAble = true ∧ s.dev.flag (0x4180 + p) 0x16 = true)
    ∧ (∃ (s : State) (p : Port), s.dev.mayFastRetrain p = false)
    ∧ (∃ (s : State) (p : Port), s.dev.linkState p = 8)
    ∧ (∃ (s : State) (p : Port), s.dev.linkState p = 8)
    ∧ (∃ (s : State) (p : Port), s.dev.linkState p ≠ 8)
    ∧ (∃ (s : State) (p : Port), (s.dev.linkState p = 4 ∨ s.dev.linkState p = 6) ∧ s.dev.rxActive p = true)
    ∧ (∃ (s : State) (p : Port), s.dev.linkState p = 3 ∧ s.dev.native p = true)
    ∧ (∃ (s : State) (p : Port), (s.dev.linkState p ≠ 3 ∨ s.dev.native p = false) ∧ ((s.dev.linkState p ≠ 4 ∧
      s.dev.linkState p ≠ 6) ∨ s.dev.rxActive p = false))
    ∧ (∃ (s : State) (p : Port), s.dev.linkUp p = true ∧ s.dev.native p = false ∧ s.dev.enabled p = true ∧ s.dev.forced p = false ∧
      s.dev.effAdvertise p ≠ 0) :=
  ⟨⟨st (dev [(0x4080 + 17, 4, 8), (0x4080 + 17, 6, 3)]), 17, by decide +kernel⟩,
   ⟨st (dev [(0x4080 + 17, 4, 8), (0x4080 + 17, 6, 7)]), 17, by decide +kernel⟩,
   ⟨st ((dev [(0x4080 + 17, 4, 8), (0x4080 + 17, 6, 4)]).onPort 17 (fun s => { s with link := { s.link with held := true } })), 17,
     by decide +kernel⟩,
   ⟨st (dev [(0x4080 + 17, 4, 3), (0x4080 + 17, 6, 8)]), 17, by decide +kernel⟩,
   ⟨st ((dev [(0x4080 + 17, 4, 8), (0x4080 + 17, 6, 4)]).onPort 17 (fun s => { s with link := { s.link with lowMargin := Vector.replicate 4 10 } })),
     17, by decide +kernel⟩,
   ⟨st live, 17, by decide +kernel⟩,
   ⟨st (dev [(0x4080 + 17, 4, 3), (0x4080 + 17, 6, 8)]), 17, by decide +kernel⟩,
   ⟨st (dev [(0x4080 + 17, 4, 8), (0x4080 + 17, 6, 4)]), 17, by decide +kernel⟩,
   ⟨st ((dev [(0x4080 + 17, 4, 3), (0x4080 + 17, 6, 6), (0x4180 + 17, 0x16,
     1)]).onPort 17 (fun s => { s with link := { s.link with fastRetrainAble := true } })), 17, by decide +kernel⟩,
   ⟨st (dev [(0x4080 + 17, 4, 3), (0x4080 + 17, 6, 4)]), 17, by decide +kernel⟩,
   ⟨st (dev [(0x4080 + 17, 4, 3), (0x4080 + 17, 6, 8)]), 17, by decide +kernel⟩,
   ⟨st (dev [(0x4080 + 17, 4, 3), (0x4080 + 17, 6, 8)]), 17, by decide +kernel⟩,
   ⟨st live, 17, by decide +kernel⟩,
   ⟨st (dev [(0x4080 + 17, 4, 8), (0x4080 + 17, 6, 6)]), 17, by decide +kernel⟩,
   ⟨st (dev [(0x4080 + 17, 4, 8), (0x4080 + 17, 6, 3), (0x4180 + 17, 1, 3)]), 17, by decide +kernel⟩,
   ⟨st (dev [(0x4080 + 17, 4, 3), (0x4080 + 17, 6, 3)]), 17, by decide +kernel⟩,
   ⟨st (dev [(0x4080 + 17, 4, 3), (0x4080 + 17, 6, 4), (0x1030, 1, 2 ^ 64 - 1), (0x4000 + 17, 4, 0x3FF), (0x2000 + 17, 1, 1)]), 17,
     by decide +kernel⟩⟩
theorem test_met_QuietLife :
    (∃ (s : State) (p : Port), s.dev.mayQuiet p = true ∧ s.dev.native p = true)
    ∧ (∃ (s : State) (p : Port), s.dev.mayQuiet p = true ∧ s.dev.native p = false)
    ∧ (∃ (s : State) (p : Port), s.dev.mayQuiet p = false)
    ∧ (∃ (s : State) (p : Port), s.dev.native p = true ∧ s.dev.linkState p = 6 ∧ (s.dev.txQuiet p = 2 ∨ s.dev.txQuiet p = 3))
    ∧ (∃ (s : State) (p : Port), s.dev.native p = true ∧ (s.dev.linkState p = 5 ∨ s.dev.linkState p = 6) ∧
      (s.dev.rxQuiet p = 2 ∨ s.dev.rxQuiet p = 3))
    ∧ (∃ (s : State) (p : Port), s.dev.native p = true ∧ (s.dev.linkState p = 5 ∨ s.dev.linkState p = 6) ∧ s.dev.rxQuiet p = 5)
    ∧ (∃ (s : State) (p : Port) (sent : Bool), (s.dev.native p = false ∨ (s.dev.linkState p ≠ 6 ∧ (s.dev.linkState p ≠ 5 ∨ sent = true))))
    ∧ (∃ (s : State) (p : Port), s.dev.native p = true ∧ s.dev.linkState p = 6 ∧ s.dev.txQuiet p = 2 ∧ s.dev.get (0x4200 + p) 1 = 2 ∧
      (s.dev.get (0x4200 + p) 6).testBit 1 = true)
    ∧ (∃ (s : State) (p : Port), (s.dev.linkState p ≠ 6 ∨ s.dev.txQuiet p ≠ 2 ∨ s.dev.get (0x4200 + p) 1 ≠ 2))
    ∧ (∃ (s : State) (p : Port), s.dev.linkState p = 7 ∧ s.dev.native p = true ∧ s.dev.txQuiet p = 5)
    ∧ (∃ (s : State) (p : Port), s.dev.linkState p = 7 ∧ s.dev.native p = true ∧ s.dev.txQuiet p ≠ 5)
    ∧ (∃ (s : State) (p : Port), s.dev.linkState p ≠ 7)
    ∧ (∃ (s : State) (p : Port), s.dev.linkState p = 7 ∧ s.dev.isMaster p = true)
    ∧ (∃ (s : State) (p : Port), s.dev.linkState p = 7 ∧ s.dev.isMaster p = false)
    ∧ (∃ (s : State) (p : Port), s.dev.native p = true ∧ (s.dev.linkState p = 7 ∨ ((s.dev.linkState p = 5 ∨ s.dev.linkState p = 6) ∧
      2 ≤ s.dev.rxQuiet p ∧ s.dev.rxQuiet p ≤ 4)))
    ∧ (∃ (s : State) (p : Port), s.dev.native p = true ∧ 5 ≤ s.dev.linkState p ∧ s.dev.linkState p ≤ 7 ∧ (s.dev.txQuiet p = 5 ∨ s.dev.rxQuiet p = 5))
    ∧ (∃ (s : State) (p : Port), s.dev.native p = false)
    ∧ (∃ (s : State) (p : Port), s.dev.native p = false ∧ (s.dev.linkState p = 4 ∨ s.dev.linkState p = 6))
    ∧ (∃ (s : State) (p : Port), s.dev.native p = true) :=
  ⟨⟨st (dev [(0x4080 + 17, 4, 8), (0x4080 + 17, 6, 4), (0x4200 + 17, 4, 0), (0x4200 + 17, 5, 0), (0x4200 + 17, 1, 1), (0x4200 + 17, 6, 1)]), 17,
    by decide +kernel⟩,
   ⟨st ((dev [(0x4080 + 17, 4, 3), (0x4080 + 17, 6, 4), (0x4200 + 17, 1, 1)]).onPort 17 (fun s => { s with link := { s.link with eee := true } })),
     17, by decide +kernel⟩,
   ⟨st live, 17, by decide +kernel⟩,
   ⟨st (dev [(0x4080 + 17, 4, 8), (0x4080 + 17, 6, 6), (0x4200 + 17, 4, 3), (0x4200 + 17, 5, 0)]), 17, by decide +kernel⟩,
   ⟨st (dev [(0x4080 + 17, 4, 8), (0x4080 + 17, 6, 6), (0x4200 + 17, 4, 0), (0x4200 + 17, 5, 2)]), 17, by decide +kernel⟩,
   ⟨st (dev [(0x4080 + 17, 4, 8), (0x4080 + 17, 6, 6), (0x4200 + 17, 4, 0), (0x4200 + 17, 5, 5)]), 17, by decide +kernel⟩,
   ⟨st (dev [(0x4080 + 17, 4, 8), (0x4080 + 17, 6, 5)]), 17, true, by decide +kernel⟩,
   ⟨st (dev [(0x4080 + 17, 4, 8), (0x4080 + 17, 6, 6), (0x4200 + 17, 4, 2), (0x4200 + 17, 5, 2), (0x4200 + 17, 1, 2), (0x4200 + 17, 6, 3)]), 17,
     by decide +kernel⟩,
   ⟨st live, 17, by decide +kernel⟩,
   ⟨st (dev [(0x4080 + 17, 4, 8), (0x4080 + 17, 6, 7), (0x4200 + 17, 4, 5), (0x4200 + 17, 5, 4)]), 17, by decide +kernel⟩,
   ⟨st (dev [(0x4080 + 17, 4, 8), (0x4080 + 17, 6, 7), (0x4200 + 17, 4, 4), (0x4200 + 17, 5, 4)]), 17, by decide +kernel⟩,
   ⟨st live, 17, by decide +kernel⟩,
   ⟨st (dev [(0x4080 + 17, 4, 8), (0x4080 + 17, 6, 7), (0x4200 + 17, 4, 4), (0x4200 + 17, 5, 4), (0x5180 + 17, 4, 1)]), 17, by decide +kernel⟩,
   ⟨st (dev [(0x4080 + 17, 4, 8), (0x4080 + 17, 6, 7), (0x4200 + 17, 4, 4), (0x4200 + 17, 5, 4), (0x5180 + 17, 4, 2)]), 17, by decide +kernel⟩,
   ⟨st (dev [(0x4080 + 17, 4, 8), (0x4080 + 17, 6, 7), (0x4200 + 17, 4, 4), (0x4200 + 17, 5, 4)]), 17, by decide +kernel⟩,
   ⟨st (dev [(0x4080 + 17, 4, 8), (0x4080 + 17, 6, 7), (0x4200 + 17, 4, 5), (0x4200 + 17, 5, 5)]), 17, by decide +kernel⟩,
   ⟨st live, 17, by decide +kernel⟩,
   ⟨st (dev [(0x4080 + 17, 4, 3), (0x4080 + 17, 6, 6)]), 17, by decide +kernel⟩,
   ⟨st (dev [(0x4080 + 17, 4, 8), (0x4080 + 17, 6, 4)]), 17, by decide +kernel⟩⟩
theorem test_met_SelvageMessages :
    (∃ (s : State) (p : Port), s.dev.selvageRuns p = true)
    ∧ (∃ (s : State) (p : Port), s.dev.selvageRuns p = true)
    ∧ (∃ (s : State) (p : Port) (pair : Pair) (taps : List Int), s.dev.selvageRuns p = true ∧ goodTaps pair taps = true)
    ∧ (∃ (s : State) (p : Port) (pair : Nat) (taps : List Int), s.dev.selvageRuns p = true ∧ goodTaps pair taps = false)
    ∧ (∃ (s : State) (p : Port), s.dev.selvageRuns p = false)
    ∧ (∃ (s : State) (p : Port), s.dev.selvageRuns p = true ∧ s.dev.linkState p = 3 ∧ s.dev.stage p = 4)
    ∧ (∃ (s : State) (p : Port), s.dev.selvageRuns p = true)
    ∧ (∃ (s : State) (r : Req) (p : Port) (v : Nat), Ready s r (0x4100 + p) 0x20 v ∧ s.dev.nativeData p = true ∧ s.dev.get (0x4100 + p) 0x21 ≠ 1 ∧
      (v = 1 ∨ v = 2))
    ∧ (∃ (s : State) (p : Port) (item : Nat), s.dev.selvageRuns p = true ∧ s.dev.flag (0x4000 + p) 6 = true ∧ (item = 1 ∨ item = 2))
    ∧ (∃ (s : State) (p : Port) (item : Nat), s.dev.selvageRuns p = true ∧ (s.dev.flag (0x4000 + p) 6 = false ∨ (item ≠ 1 ∧ item ≠ 2)))
    ∧ (∃ (s : State) (p : Port) (data : List Byte), s.dev.selvageRuns p = true ∧ s.dev.get (0x4100 + p) 0x21 = 1 ∧ data.length = 25)
    ∧ (∃ (s : State) (p : Port) (data : List Byte), s.dev.selvageRuns p = true ∧ s.dev.get (0x4100 + p) 0x21 = 1 ∧ data.length = 16)
    ∧ (∃ (s : State) (p : Port) (result : Nat), s.dev.selvageRuns p = true ∧ s.dev.get (0x4100 + p) 0x21 = 1 ∧ result ≠ 0)
    ∧ (∃ (s : State) (p : Port) (item result : Nat) (data : List Byte), s.dev.selvageRuns p = true ∧
      data.length ≠ (if result ≠ 0 then 0 else if item = 1 then 25 else 16))
    ∧ (∃ (s : State) (p : Port), s.dev.get (0x4100 + p) 0x21 = 1)
    ∧ (∃ (s : State) (p : Port), s.dev.get (0x4100 + p) 0x21 ≠ 1)
    ∧ (∃ (s : State) (p : Port), s.dev.nativeData p = true ∧ s.dev.get (0x4000 + p) 7 ≠ 0)
    ∧ (∃ (s : State) (p : Port), (s.dev.nativeData p = false ∨ s.dev.get (0x4000 + p) 7 = 0))
    ∧ (∃ (s : State) (p : Port), (s.dev.port p).selvage.sending.isSome = true)
    ∧ (∃ (s : State) (p : Port) (m : SelvageMsg) (rest : List SelvageMsg), s.dev.selvageRuns p = true ∧ (s.dev.port p).selvage.sending = none ∧
      (s.dev.port p).selvage.sequencer = m :: rest)
    ∧ (∃ (s : State) (p : Port) (m : SelvageMsg) (rest : List SelvageMsg), s.dev.selvageRuns p = true ∧ (s.dev.port p).selvage.sending = none ∧
      (s.dev.port p).selvage.sequencer = [] ∧ (s.dev.port p).selvage.service = m :: rest) :=
  ⟨⟨st (dev [(0x4080 + 17, 4, 8), (0x4080 + 17, 6, 4)]), 17, by decide +kernel⟩,
   ⟨st (dev [(0x4080 + 17, 4, 8), (0x4080 + 17, 6, 4)]), 17, by decide +kernel⟩,
   ⟨st (dev [(0x4080 + 17, 4, 8), (0x4080 + 17, 6, 4)]), 17, 3, List.replicate 32 (-32768), by decide +kernel⟩,
   ⟨st (dev [(0x4080 + 17, 4, 8), (0x4080 + 17, 6, 4)]), 17, 3, [], by decide +kernel⟩,
   ⟨st live, 17, by decide +kernel⟩,
   ⟨st (dev [(0x4080 + 17, 4, 8), (0x4080 + 17, 6, 3), (0x4180 + 17, 1, 4)]), 17, by decide +kernel⟩,
   ⟨st (dev [(0x4080 + 17, 4, 8), (0x4080 + 17, 6, 4)]), 17, by decide +kernel⟩,
   ⟨st (dev [(0x4080 + 17, 4, 8), (0x4080 + 17, 6, 4)]), own, 17, 2, ⟨Ready.of_checks (by decide +kernel), by decide +kernel⟩⟩,
   ⟨st (dev [(0x4080 + 17, 4, 8), (0x4080 + 17, 6, 6), (0x4000 + 17, 6, 1)]), 17, 1, by decide +kernel⟩,
   ⟨st (dev [(0x4080 + 17, 4, 8), (0x4080 + 17, 6, 4), (0x4000 + 17, 6, 0)]), 17, 3, by decide +kernel⟩,
   ⟨st (dev [(0x4080 + 17, 4, 8), (0x4080 + 17, 6, 4), (0x4100 + 17, 0x21, 1)]), 17, List.replicate 25 0, by decide +kernel⟩,
   ⟨st (dev [(0x4080 + 17, 4, 8), (0x4080 + 17, 6, 4), (0x4100 + 17, 0x21, 1)]), 17, List.replicate 16 0, by decide +kernel⟩,
   ⟨st (dev [(0x4080 + 17, 4, 8), (0x4080 + 17, 6, 4), (0x4100 + 17, 0x21, 1)]), 17, 1, by decide +kernel⟩,
   ⟨st (dev [(0x4080 + 17, 4, 8), (0x4080 + 17, 6, 4)]), 17, 1, 0, List.replicate 24 0, by decide +kernel⟩,
   ⟨st (dev [(0x4100 + 17, 0x21, 1)]), 17, by decide +kernel⟩,
   ⟨st live, 17, by decide +kernel⟩,
   ⟨st (dev [(0x4080 + 17, 4, 8), (0x4080 + 17, 6, 4), (0x4000 + 17, 7, 10)]), 17, by decide +kernel⟩,
   ⟨st live, 17, by decide +kernel⟩,
   ⟨st ((dev [(0x4080 + 17, 4, 8), (0x4080 + 17, 6, 4)]).onPort 17 (fun s => { s with selvage := { s.selvage with sending := some .hushNote } })), 17,
     by decide +kernel⟩,
   ⟨st ((dev [(0x4080 + 17, 4, 8), (0x4080 + 17, 6, 4)]).onPort 17 (fun s => { s with selvage := { s.selvage with sequencer := [.hushNote] } })), 17,
     .hushNote, [], by decide +kernel⟩,
   ⟨st ((dev [(0x4080 + 17, 4, 8), (0x4080 + 17, 6, 4)]).onPort 17 (fun s => { s with selvage := { s.selvage with service := [.partnerQuery 1] } })),
     17, .partnerQuery 1, [], by decide +kernel⟩⟩
theorem test_met_CoefficientsAndCheckpoints :
    (∃ (s : State) (r : Req) (p : Port) (ms : Nat), Ready s r (0x5000 + p) 0xB ms ∧ s.dev.linkUp p = true ∧ 1 ≤ ms ∧ ms ≤ 60000)
    ∧ (∃ (s : State) (r : Req) (p : Port), Ready s r (0x5000 + p) 0xB 0 ∧ s.dev.linkUp p = true)
    ∧ (∃ (s : State) (r : Req) (p : Port) (ms : Nat), Ready s r (0x5000 + p) 0xB ms ∧ s.dev.linkUp p = false)
    ∧ (∃ (s : State) (r : Req) (p : Port) (ms : Nat), Ready s r (0x5000 + p) 0xB ms ∧ s.dev.linkUp p = true ∧ 60000 < ms)
    ∧ (∃ (s : State) (p : Port), (s.dev.port p).signal.holdUntil = none)
    ∧ (∃ (s : State) (p : Port), (s.dev.port p).signal.holdUntil.isSome = true)
    ∧ (∃ (s : State) (r : Req) (w : Fin 16) (sel : Nat), Ready s r (0x5400 + w) 1 sel ∧
      (selectionOf sel).portIs (fun p => (s.dev.port p).tested) = false ∧ s.dev.selectionInRange (selectionOf sel) = true)
    ∧ (∃ (s : State) (r : Req) (w : Fin 16) (sel : Nat), Ready s r (0x5400 + w) 1 sel ∧
      (selectionOf sel).portIs (fun p => (s.dev.port p).tested) = false)
    ∧ (∃ (s : State) (r : Req) (w : Fin 16) (values : Nat) (p : Port), Ready s r (0x5400 + w) 2 values ∧ s.dev.captured w = true ∧
      (selectionOf (s.dev.get (0x5400 + w) 5)).port? = some p ∧ (selectionOf (s.dev.get (0x5400 + w) 5)).engine ≠ 10 ∧
      ((selectionOf (s.dev.get (0x5400 + w) 5)).engine = 9 →
      (List.range (selectionOf (s.dev.get (0x5400 + w) 5)).count).all (fun i => (s.dev.tapKey p 9 ((selectionOf (s.dev.get (0x5400 + w) 5)).first + i)).isSome) = true) ∧
      (s.dev.port p).tested = false ∧ s.dev.carriesData p = true ∧ s.dev.stagingFull = false ∧
      (unpackI32 values (selectionOf (s.dev.get (0x5400 + w) 5)).count).all fits24 = true)
    ∧ (∃ (s : State) (r : Req) (w : Fin 16) (values : Nat), Ready s r (0x5400 + w) 2 values ∧ s.dev.captured w = true ∧
      (selectionOf (s.dev.get (0x5400 + w) 5)).engine = 10)
    ∧ (∃ (s : State) (r : Req) (w : Fin 16) (values : Nat), Ready s r (0x5400 + w) 2 values ∧ s.dev.stagingFull = false ∧ s.dev.captured w = false)
    ∧ (∃ (s : State) (p : Port) (k : Pair) (e : Fin 11) (r : Ramp), (s.dev.engine p k e).ramp = some r ∧ (s.dev.engine p k e).waiting = none)
    ∧ (∃ (s : State) (p : Port) (k : Pair) (e : Fin 11) (r q : Ramp), (s.dev.engine p k e).ramp = some r ∧ (s.dev.engine p k e).waiting = some q)
    ∧ (∃ (s : State) (p : Port) (k : Pair) (e : Fin 11), (s.dev.engine p k e).ramp = none)
    ∧ (∃ (s : State) (r : Req) (w : Fin 16) (p : Port), Ready s r (0x5400 + w) 3 1 ∧ s.dev.captured w = true ∧
      (selectionOf (s.dev.get (0x5400 + w) 5)).port? = some p ∧ (s.dev.port p).tested = false)
    ∧ (∃ (s : State) (r : Req) (w : Fin 16), Ready s r (0x5400 + w) 3 1 ∧ s.dev.captured w = false)
    ∧ (∃ (s : State) (r : Req) (p : Port), Ready s r (0x5200 + p) 4 1 ∧ s.dev.native p = true ∧ s.dev.carriesData p = true)
    ∧ (∃ (s : State) (r : Req) (p : Port), Ready s r (0x5200 + p) 4 1 ∧ (s.dev.native p = false ∨ s.dev.carriesData p = false))
    ∧ (∃ (d : Dev) (p : Port), d.native p = true ∧ 4 ≤ d.linkState p ∧ d.linkState p ≤ 7 ∧
      (d.portHeld p = true ∨ (d.port p).signal.writing.isSome = true))
    ∧ (∃ (s : State) (p : Port) (k : Fin 2) (c : Checkpoint), (s.dev.port p).signal.writing = some (k, c))
    ∧ (∃ (s : State) (p : Port), (s.dev.port p).signal.writing = none) :=
  ⟨⟨st (dev [(0x4080 + 17, 4, 8), (0x4080 + 17, 6, 4)]), own, 17, 60000, ⟨Ready.of_checks (by decide +kernel), by decide +kernel⟩⟩,
   ⟨st (dev [(0x4080 + 17, 4, 3), (0x4080 + 17, 6, 8)]), own, 17, ⟨Ready.of_checks (by decide +kernel), by decide +kernel⟩⟩,
   ⟨st live, own, 17, 1, ⟨Ready.of_checks (by decide +kernel), by decide +kernel⟩⟩,
   ⟨st (dev [(0x4080 + 17, 4, 8), (0x4080 + 17, 6, 4)]), own, 17, 60001, ⟨Ready.of_checks (by decide +kernel), by decide +kernel⟩⟩,
   ⟨st live, 17, by decide +kernel⟩,
   ⟨st ((dev [(0x4080 + 17, 4, 8), (0x4080 + 17, 6, 4)]).onPort 17 (fun s => { s with signal := { s.signal with holdUntil := some 5 } })), 17,
     by decide +kernel⟩,
   ⟨st live, own, 15, (17 * 256 ^ 7 + 2 ^ 0), ⟨Ready.of_checks (by decide +kernel), by decide +kernel⟩⟩,
   ⟨st (dev [(0x4080 + 17, 4, 8), (0x4080 + 17, 6, 4), (0x5400 + 15, 5, 17 * 256 ^ 7 + 10 * 256 ^ 5 + 2 ^ 0)]), own, 15, 17 * 256 ^ 7 + 2 ^ 0,
     ⟨Ready.of_checks (by decide +kernel), by decide +kernel⟩⟩,
   ⟨st (dev [(0x4080 + 17, 4, 8), (0x4080 + 17, 6, 4), (0x5400 + 15, 4, 1), (0x5400 + 15, 5, (17 * 256 ^ 7 + 2 ^ 0))]), own, 15, 2 ^ 22, 17,
     ⟨Ready.of_checks (by decide +kernel), by decide +kernel⟩⟩,
   ⟨st (dev [(0x4080 + 17, 4, 8), (0x4080 + 17, 6, 4), (0x5400 + 15, 5, 17 * 256 ^ 7 + 10 * 256 ^ 5 + 2 ^ 0)]), own, 15, 0,
     ⟨Ready.of_checks (by decide +kernel), by decide +kernel⟩⟩,
   ⟨st live, own, 15, 0, ⟨Ready.of_checks (by decide +kernel), by decide +kernel⟩⟩,
   ⟨st (live.onEngine 17 3 8 (fun g => { g with ramp := some { window := some 15, values := [] } })), 17, 3, 8, { window := some 15, values := [] },
     by decide +kernel⟩,
   ⟨st (live.onEngine 17 3 8 (fun g => { g with ramp := some { window := some 15, values := [] }, waiting := some { window := some 15, values := [] } })),
     17, 3, 8, { window := some 15, values := [] }, { window := some 15, values := [] }, by decide +kernel⟩,
   ⟨st live, 17, 3, 8, by decide +kernel⟩,
   ⟨st ((dev [(0x5400 + 15, 4, 1), (0x5400 + 15, 5, (17 * 256 ^ 7 + 2 ^ 0))])), own, 15, 17, ⟨Ready.of_checks (by decide +kernel),
     by decide +kernel⟩⟩,
   ⟨st live, own, 15, ⟨Ready.of_checks (by decide +kernel), by decide +kernel⟩⟩,
   ⟨st (dev [(0x4080 + 17, 4, 8), (0x4080 + 17, 6, 6)]), own, 17, ⟨Ready.of_checks (by decide +kernel), by decide +kernel⟩⟩,
   ⟨st live, own, 17, ⟨Ready.of_checks (by decide +kernel), by decide +kernel⟩⟩,
   ⟨(st (dev [(0x4080 + 17, 4, 8), (0x4080 + 17, 6, 5)])).dev, 17, by decide +kernel⟩,
   ⟨st ((dev [(0x4080 + 17, 4, 8), (0x4080 + 17, 6,
     4)]).onPort 17 (fun s => { s with signal := { s.signal with writing := some (1, { sequence := 0, mode := 8, epoch := 0, members := 0, engines := Vector.replicate 4 (Vector.replicate 11 {}), time := 0 }) } })),
     17, 1, { sequence := 0, mode := 8, epoch := 0, members := 0, engines := Vector.replicate 4 (Vector.replicate 11 {}), time := 0 },
     by decide +kernel⟩,
   ⟨st live, 17, by decide +kernel⟩⟩
theorem test_met_SealKeys :
    (∃ (s : State) (r : Req) (p : Port) (v : Nat), Writable s r (0x4400 + p) 1 v ∧ s.dev.modeEndsLink p v = false)
    ∧ (∃ (s : State) (r : Req) (p : Port) (v : Nat), Writable s r (0x4400 + p) 1 v ∧ s.dev.modeEndsLink p v = true)
    ∧ (∃ (s : State) (r : Req) (p : Port), Ready s r (0x4400 + p) 0xF 1 ∧ s.dev.sealedData p = true ∧ s.dev.rekeying p = false)
    ∧ (∃ (s : State) (r : Req) (p : Port), Ready s r (0x4400 + p) 0xF 1 ∧ s.dev.rekeying p = true)
    ∧ (∃ (s : State) (r : Req) (p : Port), Ready s r (0x4400 + p) 0xF 1 ∧ s.dev.rekeying p = false ∧ s.dev.sealedData p = false)
    ∧ (∃ (s : State) (p : Port), (s.dev.sealedUp p = false ∨ s.dev.rekeying p = true))
    ∧ (∃ (s : State) (p : Port), s.dev.sealedUp p = true ∧ s.dev.rekeying p = false)
    ∧ (∃ (s : State) (p : Port) (an : Fin 4), (s.dev.port p).crypt.oldAn = some an)
    ∧ (∃ (s : State) (p : Port), (s.dev.port p).crypt.oldAn = none)
    ∧ (∃ (s : State) (p : Port) (t : Nat), s.dev.sealedUp p = true ∧ s.dev.rekeySince p = some t ∧ t + 60000000 ≤ s.dev.uptime)
    ∧ (∃ (s : State) (p : Port) (t : Nat), s.dev.sealedUp p = true ∧ (s.dev.port p).crypt.exchange = none ∧ (s.dev.port p).crypt.retrySince = some t ∧
      s.dev.uptime < t + 60000000)
    ∧ (∃ (s : State) (p : Port), (s.dev.sealedUp p = false ∨ s.dev.rekeySince p = none))
    ∧ (∃ (s : State) (r : Req) (p : Port), Ready s r (0x4400 + p) 0x10 0 ∧ s.dev.get (0x4400 + p) 1 = 3 ∧ s.dev.hall.logClosed = false)
    ∧ (∃ (s : State) (r : Req) (p : Port) (an : Fin 4), Ready s r (0x4400 + p) 0x11 an ∧ ((s.dev.port p).crypt.tx.get an).isSome = true)
    ∧ (∃ (s : State) (r : Req) (p : Port) (an : Fin 4), Ready s r (0x4400 + p) 0x11 an ∧ (s.dev.port p).crypt.tx.get an = none)
    ∧ (∃ (s : State) (r : Req) (p : Port) (v : Nat), Ready s r (0x4400 + p) 0x12 v) :=
  ⟨⟨st live, own, 127, 3, ⟨Writable.of_checks (by decide +kernel), by decide +kernel⟩⟩,
   ⟨st (dev [(0x4080 + 17, 4, 8), (0x4080 + 17, 6, 4)]), own, 17, 2, ⟨Writable.of_checks (by decide +kernel), by decide +kernel⟩⟩,
   ⟨st (dev [(0x4080 + 17, 4, 8), (0x4080 + 17, 6, 6), (0x4400 + 17, 0xA, 2)]), own, 17, ⟨Ready.of_checks (by decide +kernel), by decide +kernel⟩⟩,
   ⟨st ((dev [(0x4080 + 17, 4, 8), (0x4080 + 17, 6, 4), (0x4400 + 17, 0xA,
     2)]).onPort 17 (fun s => { s with crypt := { s.crypt with retrySince := some 5 } })), own, 17, ⟨Ready.of_checks (by decide +kernel),
     by decide +kernel⟩⟩,
   ⟨st live, own, 17, ⟨Ready.of_checks (by decide +kernel), by decide +kernel⟩⟩,
   ⟨st live, 17, by decide +kernel⟩,
   ⟨st (dev [(0x4080 + 17, 4, 8), (0x4080 + 17, 6, 7), (0x4400 + 17, 0xA, 2)]), 17, by decide +kernel⟩,
   ⟨st (live.onPort 17 (fun s => { s with crypt := { s.crypt with oldAn := some 3 } })), 17, 3, by decide +kernel⟩,
   ⟨st live, 17, by decide +kernel⟩,
   ⟨{ st ((dev [(0x4080 + 17, 4, 8), (0x4080 + 17, 6, 4), (0x4400 + 17, 0xA, 2)]).onPort 17 (fun s => { s with crypt := { s.crypt with retrySince := some 5 } })) with dev := { (st ((dev [(0x4080 + 17, 4, 8), (0x4080 + 17, 6, 4), (0x4400 + 17, 0xA, 2)]).onPort 17 (fun s => { s with crypt := { s.crypt with retrySince := some 5 } }))).dev with uptime := 60000005 } },
     17, 5, by decide +kernel⟩,
   ⟨st ((dev [(0x4080 + 17, 4, 8), (0x4080 + 17, 6, 4), (0x4400 + 17, 0xA,
     2)]).onPort 17 (fun s => { s with crypt := { s.crypt with retrySince := some 5 } })), 17, 5, by decide +kernel⟩,
   ⟨st live, 17, by decide +kernel⟩,
   ⟨st (dev [(0x4400 + 17, 1, 3)]), own, 17, ⟨Ready.of_checks (by decide +kernel), by decide +kernel⟩⟩,
   ⟨st (live.onPort 17 (fun s => { s with crypt := { s.crypt with tx := Vector.replicate 4 (some { key := [], salt := [], ssci := 0, pn := 1 }) } })),
     own, 17, 3, ⟨Ready.of_checks (by decide +kernel), by decide +kernel⟩⟩,
   ⟨st live, own, 17, 3, ⟨Ready.of_checks (by decide +kernel), by decide +kernel⟩⟩,
   ⟨st live, own, 17, 3, Ready.of_checks (by decide +kernel)⟩⟩
theorem test_met_SealExchange :
    (∃ (s : State) (p : Port), s.dev.selvageRuns p = true ∧ (s.dev.port p).crypt.exchange.isSome = true)
    ∧ (∃ (s : State) (p : Port), s.dev.selvageRuns p = true ∧ (s.dev.port p).crypt.exchange = none ∧ (s.dev.port p).crypt.failing.isSome = true)
    ∧ (∃ (s : State) (p : Port), s.dev.selvageRuns p = true ∧ (s.dev.port p).crypt.exchange = none ∧ (s.dev.port p).crypt.failing = none ∧
      s.dev.linkState p = 3 ∧ (s.dev.port p).link.toSeal = true ∧ s.dev.stage p < 5)
    ∧ (∃ (s : State) (p : Port), s.dev.selvageRuns p = true ∧ (s.dev.port p).crypt.exchange = none ∧ (s.dev.port p).crypt.failing = none ∧
      s.dev.sealedUp p = true)
    ∧ (∃ (s : State) (p : Port), s.dev.selvageRuns p = false)
    ∧ (∃ (s : State) (p : Port) (epoch : Nat) (x : Exchange), s.dev.selvageRuns p = true ∧ (s.dev.port p).crypt.exchange = some x ∧ epoch = x.epoch ∧
      x.listed = true ∧ x.peerProof = none)
    ∧ (∃ (s : State) (p : Port) (epoch : Nat) (x : Exchange), s.dev.selvageRuns p = true ∧ (s.dev.port p).crypt.exchange = some x ∧ epoch = x.epoch ∧
      (x.listed = false ∨ x.peerProof ≠ none))
    ∧ (∃ (s : State) (p : Port) (epoch : Nat) (x : Exchange), s.dev.selvageRuns p = true ∧ (s.dev.port p).crypt.exchange = some x ∧ epoch = x.epoch ∧
      x.peerTag ≠ none)
    ∧ (∃ (s : State) (p : Port) (epoch : Nat) (x : Exchange), s.dev.selvageRuns p = true ∧ (s.dev.port p).crypt.exchange = some x ∧ epoch ≠ x.epoch)
    ∧ (∃ (s : State) (p : Port) (epoch : Nat) (x : Exchange), s.dev.selvageRuns p = true ∧ (s.dev.port p).crypt.exchange = some x ∧ epoch = x.epoch ∧
      x.peerTag = none)
    ∧ (∃ (s : State) (p : Port), s.dev.selvageRuns p = true ∧ (s.dev.port p).crypt.exchange = none) :=
  ⟨⟨st ((dev [(0x4080 + 17, 4, 8), (0x4080 + 17, 6,
    4)]).onPort 17 (fun s => { s with crypt := { s.crypt with exchange := some { purpose := 1, epoch := 3, secret := 0, own := {}, listed := true, since := 0 } } })),
    17, by decide +kernel⟩,
   ⟨st ((dev [(0x4080 + 17, 4, 8), (0x4080 + 17, 6, 4)]).onPort 17 (fun s => { s with crypt := { s.crypt with failing := some 5 } })), 17,
     by decide +kernel⟩,
   ⟨st ((dev [(0x4080 + 17, 4, 8), (0x4080 + 17, 6, 3), (0x4180 + 17, 1, 4)]).onPort 17 (fun s => { s with link := { s.link with toSeal := true } })),
     17, by decide +kernel⟩,
   ⟨st (dev [(0x4080 + 17, 4, 8), (0x4080 + 17, 6, 4), (0x4400 + 17, 0xA, 2)]), 17, by decide +kernel⟩,
   ⟨st live, 17, by decide +kernel⟩,
   ⟨st ((dev [(0x4080 + 17, 4, 8), (0x4080 + 17, 6,
     4)]).onPort 17 (fun s => { s with crypt := { s.crypt with exchange := some { purpose := 1, epoch := 3, secret := 0, own := {}, listed := true, since := 0 } } })),
     17, 3, { purpose := 1, epoch := 3, secret := 0, own := {}, listed := true, since := 0 }, by decide +kernel⟩,
   ⟨st ((dev [(0x4080 + 17, 4, 8), (0x4080 + 17, 6,
     4)]).onPort 17 (fun s => { s with crypt := { s.crypt with exchange := some { purpose := 1, epoch := 3, secret := 0, own := {}, listed := true, peerProof := some [], peerTag := some [], since := 0 } } })),
     17, 3, { purpose := 1, epoch := 3, secret := 0, own := {}, listed := true, peerProof := some [], peerTag := some [], since := 0 },
     by decide +kernel⟩,
   ⟨st ((dev [(0x4080 + 17, 4, 8), (0x4080 + 17, 6,
     4)]).onPort 17 (fun s => { s with crypt := { s.crypt with exchange := some { purpose := 1, epoch := 3, secret := 0, own := {}, listed := true, peerProof := some [], peerTag := some [], since := 0 } } })),
     17, 3, { purpose := 1, epoch := 3, secret := 0, own := {}, listed := true, peerProof := some [], peerTag := some [], since := 0 },
     by decide +kernel⟩,
   ⟨st ((dev [(0x4080 + 17, 4, 8), (0x4080 + 17, 6,
     4)]).onPort 17 (fun s => { s with crypt := { s.crypt with exchange := some { purpose := 1, epoch := 3, secret := 0, own := {}, listed := true, since := 0 } } })),
     17, 4, { purpose := 1, epoch := 3, secret := 0, own := {}, listed := true, since := 0 }, by decide +kernel⟩,
   ⟨st ((dev [(0x4080 + 17, 4, 8), (0x4080 + 17, 6,
     4)]).onPort 17 (fun s => { s with crypt := { s.crypt with exchange := some { purpose := 1, epoch := 3, secret := 0, own := {}, listed := true, since := 0 } } })),
     17, 3, { purpose := 1, epoch := 3, secret := 0, own := {}, listed := true, since := 0 }, by decide +kernel⟩,
   ⟨st (dev [(0x4080 + 17, 4, 8), (0x4080 + 17, 6, 4)]), 17, by decide +kernel⟩⟩
theorem test_met_SealRejected :
    (∃ (s : State) (p : Port), s.dev.selvageRuns p = true ∧ (s.dev.port p).crypt.failing = none ∧
      ((s.dev.port p).crypt.exchange.isSome = true ∨ (s.dev.linkState p = 3 ∧ (s.dev.port p).link.toSeal = true ∧ 5 ≤ s.dev.stage p)))
    ∧ (∃ (s : State) (p : Port), s.dev.selvageRuns p = true ∧ (s.dev.port p).crypt.failing.isSome = true)
    ∧ (∃ (s : State) (p : Port), s.dev.selvageRuns p = true ∧ (s.dev.port p).crypt.failing = none ∧ (s.dev.port p).crypt.exchange = none ∧
      s.dev.sealedUp p = true ∧ (s.dev.port p).crypt.oldAn.isSome = true)
    ∧ (∃ (s : State) (p : Port), s.dev.selvageRuns p = true ∧ (s.dev.port p).crypt.failing = none ∧ (s.dev.port p).crypt.exchange = none ∧
      (s.dev.linkState p ≠ 3 ∨ (s.dev.port p).link.toSeal = false ∨ s.dev.stage p < 5) ∧
      (s.dev.sealedUp p = false ∨ (s.dev.port p).crypt.oldAn = none))
    ∧ (∃ (s : State) (p : Port), s.dev.selvageRuns p = false) :=
  ⟨⟨st ((dev [(0x4080 + 17, 4, 8), (0x4080 + 17, 6,
    4)]).onPort 17 (fun s => { s with crypt := { s.crypt with exchange := some { purpose := 1, epoch := 3, secret := 0, own := {}, listed := true, since := 0 } } })),
    17, by decide +kernel⟩,
   ⟨st ((dev [(0x4080 + 17, 4, 8), (0x4080 + 17, 6, 4)]).onPort 17 (fun s => { s with crypt := { s.crypt with failing := some 10 } })), 17,
     by decide +kernel⟩,
   ⟨st ((dev [(0x4080 + 17, 4, 8), (0x4080 + 17, 6, 4), (0x4400 + 17, 0xA,
     2)]).onPort 17 (fun s => { s with crypt := { s.crypt with oldAn := some 1 } })), 17, by decide +kernel⟩,
   ⟨st (dev [(0x4080 + 17, 4, 8), (0x4080 + 17, 6, 4)]), 17, by decide +kernel⟩,
   ⟨st live, 17, by decide +kernel⟩⟩
theorem test_met_ManagersAndAttestation :
    (∃ (s : State) (r : Req) (role : Nat) (i : Fin 16), s.dev.hears r.route = true ∧ s.dev.permits r 2 = true ∧ s.dev.busyIndex 0x6424 = false ∧
      s.dev.modeRefuses 0x6424 = false ∧ s.dev.stagingFull = false ∧ role ≤ 2 ∧ s.vault.freeSlot = some i)
    ∧ (∃ (s : State) (r : Req), s.dev.hears r.route = true ∧ s.dev.permits r 2 = true ∧ s.vault.freeSlot = none)
    ∧ (∃ (s : State) (r : Req) (keyId : List Byte), s.dev.hears r.route = true ∧ s.dev.permits r 2 = true ∧ s.dev.busyIndex 0x6424 = false ∧
      s.dev.modeRefuses 0x6424 = false ∧ s.dev.stagingFull = false ∧ s.vault.slotOf keyId = none)
    ∧ (∃ (s : State) (r : Req) (keyId : List Byte) (i : Fin 16) (m : Manager), s.dev.hears r.route = true ∧ s.dev.permits r 2 = true ∧
      s.dev.busyIndex 0x6424 = false ∧ s.dev.modeRefuses 0x6424 = false ∧ s.dev.stagingFull = false ∧ s.vault.slotOf keyId = some i ∧
      s.vault.managers.get i = some m)
    ∧ (∃ (s : State) (r : Req) (m : Nat), Ready s r 0x6418 1 m ∧ s.dev.stagingFull = false ∧ m ≤ 480)
    ∧ (∃ (s : State) (r : Req) (m : Nat), Ready s r 0x6418 1 m ∧ s.dev.stagingFull = false ∧ 480 < m)
    ∧ (∃ (s : State), s.dev.hall.serviceUntil = none)
    ∧ (∃ (s : State), s.dev.hall.serviceUntil.isSome = true)
    ∧ (∃ (s : State) (r : Req), Ready s r 0x6460 1 0 ∧ s.dev.get 0x6460 2 ≠ 1 ∧ s.vault.identityKey = true ∧ s.dev.get 0x6400 1 = 1)
    ∧ (∃ (s : State) (r : Req), Ready s r 0x6460 1 0 ∧ s.dev.get 0x6460 2 = 1)
    ∧ (∃ (s : State) (r : Req), Ready s r 0x6460 1 0 ∧ s.dev.get 0x6460 2 ≠ 1 ∧ (s.vault.identityKey = false ∨ s.dev.get 0x6400 1 ≠ 1))
    ∧ (∃ (s : State), s.dev.hall.signQueue.head? ≠ some .attest)
    ∧ (∃ (s : State) (nonce : List Byte), s.dev.hall.signQueue.head? = some .attest ∧ s.dev.hall.attestNonce = some nonce) :=
  ⟨⟨st live, own, 2, 0, by decide +kernel⟩,
   ⟨st live { lifecycle := 2, managers := Vector.replicate 16 (some { pub := [1], role := 1 }) }, own, by decide +kernel⟩,
   ⟨st live, own, [2], ⟨by decide +kernel, by decide +kernel, by decide +kernel, by decide +kernel, by decide +kernel, rfl⟩⟩,
   ⟨st live { lifecycle := 2, managers := upd (Vector.replicate 16 none) 0 (fun _ => some { pub := [1], role := 1 }) }, own, keyIdOf [1], 0,
     { pub := [1], role := 1 }, ⟨by decide +kernel, by decide +kernel, by decide +kernel, by decide +kernel, by decide +kernel, slot_of_enrolled,
     by decide +kernel⟩⟩,
   ⟨st live, own, 480, ⟨Ready.of_checks (by decide +kernel), by decide +kernel⟩⟩,
   ⟨st live, own, 481, ⟨Ready.of_checks (by decide +kernel), by decide +kernel⟩⟩,
   ⟨st live, by decide +kernel⟩,
   ⟨st (live.onHall (fun h => { h with serviceUntil := some 9 })), by decide +kernel⟩,
   ⟨st (dev [(0x6400, 1, 1)]) { lifecycle := 2, identityKey := true }, aud, ⟨Ready.of_checks (by decide +kernel), by decide +kernel⟩⟩,
   ⟨st (dev [(0x6460, 2, 1)]), aud, ⟨Ready.of_checks (by decide +kernel), by decide +kernel⟩⟩,
   ⟨st live, aud, ⟨Ready.of_checks (by decide +kernel), by decide +kernel⟩⟩,
   ⟨st live, by decide +kernel⟩,
   ⟨st (live.onHall (fun h => { h with attestNonce := some [7], signQueue := [.attest] })), [7], by decide +kernel⟩⟩
theorem test_met_LifeCycle :
    (∃ (s : State) (r : Req), LifeReady s r 1 ∧ s.vault.lifecycle = 0)
    ∧ (∃ (s : State) (r : Req), LifeReady s r 2 ∧ s.vault.lifecycle = 1 ∧ s.vault.hasOwner = true)
    ∧ (∃ (s : State) (r : Req), LifeReady s r 3 ∧ s.vault.lifecycle = 2)
    ∧ (∃ (s : State) (r : Req) (root : List Byte), LifeReady s r 4 ∧ s.vault.lifecycle = 3 ∧ s.vault.ownerRoot = some root)
    ∧ (∃ (s : State) (r : Req), LifeReady s r 4 ∧ s.vault.lifecycle = 3 ∧ s.vault.ownerRoot = none)
    ∧ (∃ (s : State) (r : Req), LifeReady s r 5 ∧ (s.vault.lifecycle = 2 ∨ s.vault.lifecycle = 3))
    ∧ (∃ (s : State) (r : Req), LifeReady s r 5 ∧ s.vault.lifecycle = 4)
    ∧ (∃ (s : State) (r : Req), LifeReady s r 1 ∧ s.vault.lifecycle ≠ 0)
    ∧ (∃ (s : State) (r : Req), LifeReady s r 2 ∧ (s.vault.lifecycle ≠ 1 ∨ s.vault.hasOwner = false))
    ∧ (∃ (s : State) (r : Req), LifeReady s r 3 ∧ s.vault.lifecycle ≠ 2)
    ∧ (∃ (s : State) (r : Req), LifeReady s r 4 ∧ s.vault.lifecycle ≠ 3)
    ∧ (∃ (s : State) (r : Req), LifeReady s r 5 ∧ s.vault.lifecycle ≠ 2 ∧ s.vault.lifecycle ≠ 3 ∧ s.vault.lifecycle ≠ 4) :=
  ⟨⟨State.reset, anyone, ⟨LifeReady.of_checks (by decide +kernel), by decide +kernel⟩⟩,
   ⟨st live { lifecycle := 1, ownerRoot := some [] }, own, ⟨LifeReady.of_checks (by decide +kernel), by decide +kernel⟩⟩,
   ⟨st live, own, ⟨LifeReady.of_checks (by decide +kernel), by decide +kernel⟩⟩,
   ⟨st live { lifecycle := 3, ownerRoot := some [] }, own, [], ⟨LifeReady.of_checks (by decide +kernel), by decide +kernel⟩⟩,
   ⟨st live { lifecycle := 3 }, own, ⟨LifeReady.of_checks (by decide +kernel), by decide +kernel⟩⟩,
   ⟨st live { lifecycle := 3 }, own, ⟨LifeReady.of_checks (by decide +kernel), by decide +kernel⟩⟩,
   ⟨st live { lifecycle := 4 }, gwy, ⟨LifeReady.of_checks (by decide +kernel), by decide +kernel⟩⟩,
   ⟨st live { lifecycle := 1 }, own, ⟨LifeReady.of_checks (by decide +kernel), by decide +kernel⟩⟩,
   ⟨st live { lifecycle := 2 }, own, ⟨LifeReady.of_checks (by decide +kernel), by decide +kernel⟩⟩,
   ⟨st live { lifecycle := 1 }, own, ⟨LifeReady.of_checks (by decide +kernel), by decide +kernel⟩⟩,
   ⟨st live { lifecycle := 2 }, own, ⟨LifeReady.of_checks (by decide +kernel), by decide +kernel⟩⟩,
   ⟨st live { lifecycle := 1 }, own, ⟨LifeReady.of_checks (by decide +kernel), by decide +kernel⟩⟩⟩
theorem test_met_TouchmarkLog :
    (∃ (s : State) (e : TouchEntry) (rest : List TouchEntry), s.dev.hall.staging = e :: rest)
    ∧ (∃ (s : State), s.dev.hall.staging = [])
    ∧ (∃ (d : Dev), d.hall.gapLost ≠ 0 ∧ d.stagingFull = false)
    ∧ (∃ (s : State) (r : Req), Ready s r 0x6600 6 1 ∧ s.dev.stagingFull = false ∧ s.dev.hall.logClosed = false)
    ∧ (∃ (s : State), s.dev.hall.unsigned ≠ 0)
    ∧ (∃ (s : State), s.dev.hall.unsigned = 0)
    ∧ (∃ (s : State) (r : Req) (seq : Nat), Ready s r 0x6600 1 seq ∧ (s.dev.hall.nextSeq ≤ seq ∨ seq < s.dev.hall.oldest))
    ∧ (∃ (s : State) (r : Req) (seq : Nat), Ready s r 0x6600 1 seq ∧ seq < s.dev.hall.nextSeq ∧ s.dev.hall.oldest ≤ seq)
    ∧ (∃ (s : State) (rest : List HallJob), s.dev.hall.signQueue = .touch true :: rest ∧ s.dev.hall.nextSeq ≠ 0)
    ∧ (∃ (s : State) (rest : List HallJob), s.dev.hall.signQueue = .touch false :: rest ∧ s.dev.hall.nextSeq ≠ 0)
    ∧ (∃ (s : State) (n : Fin 4) (rest : List HallJob), s.dev.hall.signQueue = .open2 n :: rest)
    ∧ (∃ (s : State) (p : Port) (rest : List HallJob), s.dev.hall.signQueue = .sealSign p :: rest)
    ∧ (∃ (s : State) (rest : List HallJob), s.dev.hall.signQueue = .attest :: rest)
    ∧ (∃ (s : State), s.dev.hall.signQueue = [])
    ∧ (∃ (s : State), s.dev.hall.verifyQueue = [])
    ∧ (∃ (s : State) (n : Fin 4) (sig : List Byte) (rest : List HallJob), s.dev.hall.verifyQueue = .open3 n sig :: rest)
    ∧ (∃ (s : State) (k : Nat) (rest : List HallJob), s.dev.hall.verifyQueue = .image k :: rest)
    ∧ (∃ (s : State) (p : Port) (sig : List Byte) (rest : List HallJob), s.dev.hall.verifyQueue = .sealVerify p sig :: rest) :=
  ⟨⟨st (live.onHall (fun h => { h with staging := [{ seq := 0, time := 0, type := 1, body := [], chain := [] }] })),
    { seq := 0, time := 0, type := 1, body := [], chain := [] }, [], by decide +kernel⟩,
   ⟨st live, by decide +kernel⟩,
   ⟨live.onHall (fun h => { h with gapLost := 1 }), by decide +kernel⟩,
   ⟨st live, aud, ⟨Ready.of_checks (by decide +kernel), by decide +kernel⟩⟩,
   ⟨st (live.onHall (fun h => { h with unsigned := 1 })), by decide +kernel⟩,
   ⟨st live, by decide +kernel⟩,
   ⟨st live, aud, 5, ⟨Ready.of_checks (by decide +kernel), by decide +kernel⟩⟩,
   ⟨st (live.onHall (fun h => { h with nextSeq := 1, staging := [{ seq := 0, time := 0, type := 1, body := [], chain := [] }] })), aud, 0,
     ⟨Ready.of_checks (by decide +kernel), by decide +kernel⟩⟩,
   ⟨st (live.onHall (fun h => { h with signQueue := [.touch true], nextSeq := 1 })), [], by decide +kernel⟩,
   ⟨st (live.onHall (fun h => { h with signQueue := [.touch false], nextSeq := 1 })), [], by decide +kernel⟩,
   ⟨st (live.onHall (fun h => { h with signQueue := [.open2 3] })), 3, [], by decide +kernel⟩,
   ⟨st (live.onHall (fun h => { h with signQueue := [.sealSign 17] })), 17, [], by decide +kernel⟩,
   ⟨st (live.onHall (fun h => { h with signQueue := [.attest] })), [], by decide +kernel⟩,
   ⟨st live, by decide +kernel⟩,
   ⟨st live, by decide +kernel⟩,
   ⟨st (live.onHall (fun h => { h with verifyQueue := [.open3 3 []] })), 3, [], [], by decide +kernel⟩,
   ⟨st (live.onHall (fun h => { h with verifyQueue := [.image 0] })), 0, [], by decide +kernel⟩,
   ⟨st (live.onHall (fun h => { h with verifyQueue := [.sealVerify 17 []] })), 17, [], [], by decide +kernel⟩⟩
theorem test_met_FirmwareStaging :
    (∃ (s : State) (r : Req) (slot length : Nat), Ready s r 0x6440 2 0 ∧ s.dev.stagedByOther r = false ∧ s.dev.stagingFull = false ∧ slot ≤ 1 ∧
      length ≤ 12 * 1024 * 1024 ∧ (slot ≠ s.dev.hall.activeSlot.val ∨ s.dev.mgmt.recovery = true) ∧ s.dev.hall.trialPrev = none ∧
      s.dev.get 0x6440 5 ≠ 5 ∧ s.dev.get 0x6440 5 ≠ 6 ∧ s.dev.hall.logClosed = false)
    ∧ (∃ (s : State) (r : Req) (offset count : Nat), Ready s r 0x6440 3 0 ∧ s.dev.stagedByOther r = false ∧ s.dev.get 0x6440 5 = 1 ∧
      s.dev.hall.logClosed = false ∧ 1 ≤ count ∧ count ≤ 1016 ∧ offset + count ≤ s.dev.hall.fw.length ∧ offset + count < 2 ^ 32)
    ∧ (∃ (s : State) (r : Req), Ready s r 0x6440 4 1 ∧ s.dev.stagedByOther r = false ∧ s.dev.stagingFull = false ∧ s.dev.get 0x6440 5 = 1 ∧
      s.dev.hall.logClosed = false)
    ∧ (∃ (s : State), (∀ k : Nat, s.dev.hall.verifyQueue.head? ≠ some (.image k)))
    ∧ (∃ (s : State) (k : Nat) (rest : List HallJob), s.dev.hall.verifyQueue = .image k :: rest ∧ s.dev.get 0x6440 5 = 2) :=
  ⟨⟨st live, own, 1, 12 * 1024 * 1024, ⟨Ready.of_checks (by decide +kernel), by decide +kernel⟩⟩,
   ⟨st ((dev [(0x6440, 5, 1)]).onHall (fun h => { h with fw := { h.fw with length := 2000 } })), own, 984, 1016, ⟨Ready.of_checks (by decide +kernel),
     by decide +kernel⟩⟩,
   ⟨st (dev [(0x6440, 5, 1)]), own, ⟨Ready.of_checks (by decide +kernel), by decide +kernel⟩⟩,
   ⟨st live, fun _ h => nomatch h⟩,
   ⟨st ((dev [(0x6440, 5, 2)]).onHall (fun h => { h with verifyQueue := [.image 0] })), 0, [], by decide +kernel⟩⟩
theorem test_met_FirmwareTrial :
    (∃ (s : State) (r : Req), Ready s r 0x6440 7 1 ∧ (∃ i < 9, s.dev.get 0x1010 (i + 1) = 4))
    ∧ (∃ (s : State) (r : Req), Ready s r 0x6440 7 1 ∧ (∀ i < 9, s.dev.get 0x1010 (i + 1) ≠ 4) ∧ s.dev.stagingFull = false ∧ s.dev.get 0x6440 5 = 3 ∧
      s.dev.hall.logClosed = false)
    ∧ (∃ (s : State), s.dev.get 0x6440 5 = 5 ∧ s.dev.mgmt.serving = false ∧ s.dev.hall.fw.diesLeft ≠ [] ∧
      slotRuns s.vault (s.dev.hall.slots.get (slotOf s.dev.hall.fw.target)) = true)
    ∧ (∃ (s : State),
      (s.dev.get 0x6440 5 ≠ 5 ∨ s.dev.mgmt.serving = true ∨ slotRuns s.vault (s.dev.hall.slots.get (slotOf s.dev.hall.fw.target)) = false))
    ∧ (∃ (s : State), (s.dev.get 0x6440 5 ≠ 5 ∨ s.dev.mgmt.serving = false ∨ ∃ m : Die, s.dev.dieState m = 3))
    ∧ (∃ (s : State) (n : Die), s.dev.get 0x6440 5 = 5 ∧ s.dev.mgmt.serving = true ∧ (∀ m : Die, s.dev.dieState m ≠ 3) ∧
      s.dev.hall.fw.diesLeft.find? (fun n => s.dev.dieReachable n) = some n)
    ∧ (∃ (s : State), s.dev.get 0x6440 5 = 5 ∧ s.dev.mgmt.serving = true ∧ (∀ m : Die, s.dev.dieState m ≠ 3) ∧
      s.dev.hall.fw.diesLeft.find? (fun n => s.dev.dieReachable n) = none)
    ∧ (∃ (s : State) (r : Req), Ready s r 0x6440 8 1 ∧ s.dev.stagingFull = false ∧ s.dev.hall.logClosed = false ∧ s.dev.get 0x6440 5 = 6)
    ∧ (∃ (s : State) (r : Req), Ready s r 0x6440 9 1 ∧ s.dev.stagingFull = false ∧ slotRuns s.vault (s.dev.hall.slots.get s.dev.replaced) = false)
    ∧ (∃ (s : State) (r : Req), Ready s r 0x6440 9 1 ∧ s.dev.stagingFull = false ∧ s.dev.hall.logClosed = false ∧ s.dev.get 0x6440 5 = 6 ∧
      slotRuns s.vault (s.dev.hall.slots.get s.dev.replaced) = true)
    ∧ (∃ (s : State), (s.dev.get 0x6440 5 ≠ 5 ∨ s.dev.mgmt.serving = true ∨ s.dev.hall.fw.reverting ≠ none))
    ∧ (∃ (s : State), s.dev.get 0x6440 5 = 5 ∧ s.dev.mgmt.serving = false ∧ s.dev.hall.fw.reverting = none) :=
  ⟨⟨st (dev [(0x1010, 1, 4)]), own, ⟨Ready.of_checks (by decide +kernel), by decide +kernel⟩⟩,
   ⟨st (dev [(0x6440, 5, 3)]), own, ⟨Ready.of_checks (by decide +kernel), by decide +kernel⟩⟩,
   ⟨st (((st ((dev [(0x6440, 5,
     5)]).onHall (fun h => { h with slots := Vector.replicate 2 { valid := true }, fw := { h.fw with diesLeft := [1] } }))).dev).onMgmt (fun m => { m with serving := false })),
     by decide +kernel⟩,
   ⟨st live, by decide +kernel⟩,
   ⟨st live, by decide +kernel⟩,
   ⟨st ((dev [(0x6440, 5, 5), (0x1010, 2, 2), (0x3010, 2, 3)]).onHall (fun h => { h with fw := { h.fw with diesLeft := [0, 1] } })), 1,
     by decide +kernel⟩,
   ⟨st (dev [(0x6440, 5, 5)]), by decide +kernel⟩,
   ⟨st (dev [(0x6440, 5, 6)]), own, ⟨Ready.of_checks (by decide +kernel), by decide +kernel⟩⟩,
   ⟨st (dev [(0x6440, 5, 6)]), own, ⟨Ready.of_checks (by decide +kernel), by decide +kernel⟩⟩,
   ⟨st ((dev [(0x6440, 5, 6)]).onHall (fun h => { h with slots := Vector.replicate 2 { valid := true } })), own, ⟨Ready.of_checks (by decide +kernel),
     by decide +kernel⟩⟩,
   ⟨st live, by decide +kernel⟩,
   ⟨st (((st (dev [(0x6440, 5, 5)])).dev).onMgmt (fun m => { m with serving := false })), by decide +kernel⟩⟩
theorem test_met_HostLanesAndArrival :
    (∃ (s : State) (p : Port), (s.dev.get (0x2100 + p) 1 = 1 ∨ s.dev.get (0x2100 + p) 1 = 3))
    ∧ (∃ (s : State) (p : Port), s.dev.get (0x2100 + p) 1 ≠ 1 ∧ s.dev.get (0x2100 + p) 1 ≠ 3)
    ∧ (∃ (s : State) (p : Port), s.dev.get (0x2100 + p) 1 = 2)
    ∧ (∃ (s : State) (p : Port), s.dev.get (0x2100 + p) 1 ≠ 2)
    ∧ (∃ (s : State) (p : Port), s.dev.get (0x2100 + p) 1 = 2 ∧ (s.dev.port p).host.switchSends ≠ .localFault)
    ∧ (∃ (s : State) (p : Port), s.dev.get (0x2100 + p) 1 = 2 ∧ (s.dev.port p).host.switchSends ≠ .remoteFault)
    ∧ (∃ (s : State) (p : Port), s.dev.get (0x2100 + p) 1 = 2 ∧ (s.dev.port p).host.switchSends ≠ .none)
    ∧ (∃ (s : State) (p : Port) (f : HostFault), (s.dev.port p).host.switchSends = f)
    ∧ (∃ (s : State) (p : Port), s.dev.get (0x2100 + p) 1 ≠ 0)
    ∧ (∃ (s : State) (p : Port), s.dev.get (0x2100 + p) 1 = 0)
    ∧ (∃ (s : State) (p : Port), s.dev.get (0x2100 + p) 1 = 2)
    ∧ (∃ (s : State) (p : Port), s.dev.get (0x2100 + p) 1 ≠ 2)
    ∧ (∃ (d : Dev) (p : Port), d.get (0x2000 + p) 1 ≤ 2)
    ∧ (∃ (f : EthFrame) (fc : FcFrame), flowFrame? f = some fc)
    ∧ (∃ (d : Dev) (p : Port) (f : EthFrame), flowFrame? f = none ∧ (d.countFromSwitch p f).takesInband p f = true)
    ∧ (∃ (d : Dev) (p : Port) (f : EthFrame), flowFrame? f = none ∧ (d.countFromSwitch p f).takesInband p f = false)
    ∧ (∃ (s : State) (p : Port), s.dev.linkUp p = true)
    ∧ (∃ (s : State) (p : Port), s.dev.linkUp p = false)
    ∧ (∃ (d : Dev) (p : Port) (dir : Dir) (f : EthFrame) (tested : Bool) (c : Nat), d.refuses p dir f tested = some c)
    ∧ (∃ (d : Dev) (p : Port) (dir : Dir) (f : EthFrame) (tested : Bool), d.refuses p dir f tested = none ∧ f.bytes.length ≤ d.get (0x2000 + p) 4)
    ∧ (∃ (d : Dev) (p : Port), d.linkUp p = false)
    ∧ (∃ (d : Dev) (p : Port), d.linkUp p = true ∧ d.hasRoom p .egress = false)
    ∧ (∃ (d : Dev) (p : Port), d.hasRoom p .ingress = false)
    ∧ (∃ (d : Dev) (p : Port) (dir : Dir) (f : EthFrame), d.linkUp p = true ∧ d.cutThrough p dir f = false) :=
  ⟨⟨st ((dev [(0x2100 + 17, 1, 3)])), 17, by decide +kernel⟩,
   ⟨st live, 17, by decide +kernel⟩,
   ⟨st (dev [(0x2100 + 17, 1, 2), (0x4080 + 17, 4, 8), (0x4080 + 17, 6, 4)]), 17, by decide +kernel⟩,
   ⟨st live, 17, by decide +kernel⟩,
   ⟨st (dev [(0x2100 + 17, 1, 2), (0x4080 + 17, 4, 8), (0x4080 + 17, 6, 4)]), 17, by decide +kernel⟩,
   ⟨st (dev [(0x2100 + 17, 1, 2), (0x4080 + 17, 4, 8), (0x4080 + 17, 6, 4)]), 17, by decide +kernel⟩,
   ⟨st ((dev [(0x2100 + 17, 1, 2), (0x4080 + 17, 4, 8), (0x4080 + 17, 6, 4), (0x2000 + 17, 4,
     2000)]).onPort 17 (fun s => { s with host := { s.host with switchSends := .localFault } })), 17, by decide +kernel⟩,
   ⟨st live, 17, .none, by decide +kernel⟩,
   ⟨st ((dev [(0x2100 + 17, 1, 1)])), 17, by decide +kernel⟩,
   ⟨st live, 17, by decide +kernel⟩,
   ⟨st (dev [(0x2100 + 17, 1, 2), (0x4080 + 17, 4, 8), (0x4080 + 17, 6, 4)]), 17, by decide +kernel⟩,
   ⟨st live, 17, by decide +kernel⟩,
   ⟨dev [(0x2000 + 17, 1, 2)], 17, by decide +kernel⟩,
   ⟨{ bytes := bytesOf 12 0 ++ bytesOf 2 0x8808 ++ bytesOf 2 1 ++ bytesOf 48 0 }, .pause 0, by decide +kernel⟩,
   ⟨dev [(0x1424, 1, 17)], 17, { bytes := bytesOf 6 0x247575A0000 ++ bytesOf 6 0 ++ bytesOf 2 0x88B5 ++ bytesOf 50 0 }, by decide +kernel⟩,
   ⟨live, 127, { bytes := List.replicate 64 0 }, by decide +kernel⟩,
   ⟨st (dev [(0x2100 + 17, 1, 2), (0x4080 + 17, 4, 8), (0x4080 + 17, 6, 4)]), 17, by decide +kernel⟩,
   ⟨st live, 17, by decide +kernel⟩,
   ⟨live, 17, .egress, { bytes := List.replicate 64 0 }, false, 3, by decide +kernel⟩,
   ⟨(st (dev [(0x2100 + 17, 1, 2), (0x4080 + 17, 4, 8), (0x4080 + 17, 6, 4), (0x2000 + 17, 4, 2000)])).dev, 17, .egress,
     { bytes := List.replicate 64 0 }, false, by decide +kernel⟩,
   ⟨live, 17, by decide +kernel⟩,
   ⟨(st (dev [(0x2100 + 17, 1, 2), (0x4080 + 17, 4, 8), (0x4080 + 17, 6, 4), (0x2000 + 17, 4, 2 ^ 40)])).dev, 17, by decide +kernel⟩,
   ⟨dev [(0x2000 + 17, 4, 2 ^ 40)], 17, by decide +kernel⟩,
   ⟨(st (dev [(0x2100 + 17, 1, 2), (0x4080 + 17, 4, 8), (0x4080 + 17, 6, 4)])).dev, 17, .egress, { bytes := List.replicate 64 0 }, by decide +kernel⟩⟩
theorem test_met_SchedulersAndFlowControl :
    (∃ (s : State) (p : Port) (fc : FcFrame), s.dev.hlSignal p = 4 ∧ (s.dev.arrivals p).any (fun r => r.begun && !r.cut) = false ∧
      (s.dev.flow p .egress).pending = some fc)
    ∧ (∃ (s : State) (p : Port) (f : EthFrame) (q : Fin 32) (d : Dev), s.dev.hlSignal p = 4 ∧
      (s.dev.arrivals p).any (fun r => r.begun && !r.cut) = false ∧ (s.dev.flow p .egress).pending = none ∧ s.dev.takeFrame p .ingress = some (f, q,
      d))
    ∧ (∃ (s : State) (p : Port), s.dev.hlSignal p = 4 ∧ (s.dev.arrivals p).any (fun r => r.begun && !r.cut) = false ∧
      (s.dev.flow p .egress).pending = none ∧ s.dev.takeFrame p .ingress = none)
    ∧ (∃ (s : State) (p : Port), (s.dev.hlSignal p ≠ 4 ∨ (s.dev.arrivals p).any (fun r => r.begun && !r.cut) = true))
    ∧ (∃ (s : State) (p : Port), (s.dev.standardLeft p).lineTakes p = false)
    ∧ (∃ (s : State) (p : Port) (fc : FcFrame), (s.dev.standardLeft p).lineTakes p = true ∧ s.dev.native p = false ∧
      ((s.dev.standardLeft p).flow p .ingress).pending = some fc)
    ∧ (∃ (s : State) (p : Port) (f : EthFrame) (q : Fin 32) (d : Dev), (s.dev.standardLeft p).lineTakes p = true ∧
      (s.dev.native p = true ∨ ((s.dev.standardLeft p).flow p .ingress).pending = none) ∧ (s.dev.standardLeft p).takeFrame p .egress = some (f, q, d))
    ∧ (∃ (s : State) (p : Port), (s.dev.standardLeft p).lineTakes p = true ∧
      (s.dev.native p = true ∨ ((s.dev.standardLeft p).flow p .ingress).pending = none) ∧ (s.dev.standardLeft p).takeFrame p .egress = none)
    ∧ (∃ (d : Dev) (p : Port), (d.native p = true ∨ (d.port p).native.tx = none))
    ∧ (∃ (d : Dev) (p : Port) (t : TxFrame), d.native p = false ∧ (d.port p).native.tx = some t)
    ∧ (∃ (q : Nat), (q < 8 ∨ 16 ≤ q))
    ∧ (∃ (s : State) (p : Port), s.dev.get (0x2100 + p) 1 = 2 ∧ (s.dev.get (0x2200 + p) 0xC).testBit 0 = true)
    ∧ (∃ (s : State) (p : Port), s.dev.get (0x2100 + p) 1 = 2 ∧ (s.dev.get (0x2200 + p) 0xC).testBit 0 = true)
    ∧ (∃ (s : State) (p : Port), s.dev.get (0x2100 + p) 1 = 2 ∧ (s.dev.get (0x2200 + p) 0xC).testBit 0 = false)
    ∧ (∃ (s : State) (p : Port), s.dev.get (0x2100 + p) 1 ≠ 2)
    ∧ (∃ (s : State) (p : Port), s.dev.linkUp p = true ∧ (s.dev.get (0x2200 + p) 0xC).testBit 1 = true)
    ∧ (∃ (s : State) (p : Port), s.dev.linkUp p = true ∧ (s.dev.get (0x2200 + p) 0xC).testBit 1 = true)
    ∧ (∃ (s : State) (p : Port), s.dev.linkUp p = true ∧ (s.dev.get (0x2200 + p) 0xC).testBit 1 = false)
    ∧ (∃ (s : State) (p : Port), s.dev.linkUp p = false)
    ∧ (∃ (s : State) (p : Port) (dir : Dir), (s.dev.flow p dir).pausedAll = true)
    ∧ (∃ (s : State) (p : Port) (dir : Dir), (s.dev.flow p dir).pausedAll = false)
    ∧ (∃ (s : State) (p : Port) (dir : Dir), (s.dev.flow p dir).pausing ≠ 0)
    ∧ (∃ (s : State) (p : Port) (dir : Dir), (s.dev.flow p dir).pausing = 0) :=
  ⟨⟨st ((dev [(0x2100 + 17, 1, 2), (0x4080 + 17, 4, 8), (0x4080 + 17, 6, 4), (0x2000 + 17, 4,
    2000)]).onPort 17 (fun s => { s with host := { s.host with egFlow := { pending := some (.pause 0) } } })), 17, .pause 0, by decide +kernel⟩,
   ⟨st ((dev [(0x2100 + 17, 1, 2), (0x4080 + 17, 4, 8), (0x4080 + 17, 6, 4), (0x2000 + 17, 4,
     2000)]).onPort 17 (fun s => { s with host := { s.host with queues := upd s.host.queues (queueOf .ingress false 0) (fun _ => [{ bytes := List.replicate 64 0 }]) } })),
     17, { bytes := List.replicate 64 0 }, queueOf .ingress false 0, (((st ((dev [(0x2100 + 17, 1, 2), (0x4080 + 17, 4, 8), (0x4080 + 17, 6, 4),
     (0x2000 + 17, 4,
     2000)]).onPort 17 (fun s => { s with host := { s.host with queues := upd s.host.queues (queueOf .ingress false 0) (fun _ => [{ bytes := List.replicate 64 0 }]) } }))).dev.takeFrame 17 .ingress).get rfl).2.2,
     ⟨by decide +kernel, by decide +kernel, by decide +kernel, rfl⟩⟩,
   ⟨st (dev [(0x2100 + 17, 1, 2), (0x4080 + 17, 4, 8), (0x4080 + 17, 6, 4)]), 17, by decide +kernel⟩,
   ⟨st live, 17, by decide +kernel⟩,
   ⟨st live, 17, by decide +kernel⟩,
   ⟨st ((dev [(0x2100 + 17, 1, 2), (0x4080 + 17, 4, 2), (0x4080 + 17, 6, 4), (0x2000 + 17, 4,
     2000)]).onPort 17 (fun s => { s with host := { s.host with inFlow := { pending := some (.pause 0) } } })), 17, .pause 0, by decide +kernel⟩,
   ⟨st ((dev [(0x2100 + 17, 1, 2), (0x4080 + 17, 4, 8), (0x4080 + 17, 6, 4), (0x2000 + 17, 4,
     2000)]).onPort 17 (fun s => { s with host := { s.host with queues := upd s.host.queues (queueOf .egress false 0) (fun _ => [{ bytes := List.replicate 64 0 }]) } })),
     17, { bytes := List.replicate 64 0 }, queueOf .egress false 0, (((st ((dev [(0x2100 + 17, 1, 2), (0x4080 + 17, 4, 8), (0x4080 + 17, 6, 4),
     (0x2000 + 17, 4,
     2000)]).onPort 17 (fun s => { s with host := { s.host with queues := upd s.host.queues (queueOf .egress false 0) (fun _ => [{ bytes := List.replicate 64 0 }]) } }))).dev.takeFrame 17 .egress).get rfl).2.2,
     ⟨by decide +kernel, by decide +kernel, rfl⟩⟩,
   ⟨st (dev [(0x2100 + 17, 1, 2), (0x4080 + 17, 4, 8), (0x4080 + 17, 6, 4)]), 17, by decide +kernel⟩,
   ⟨live, 17, by decide +kernel⟩,
   ⟨live.onPort 17 (fun s => { s with native := { s.native with tx := some { frame := { bytes := [] }, queue := 0 } } }), 17,
     { frame := { bytes := [] }, queue := 0 }, by decide +kernel⟩,
   ⟨16, by decide +kernel⟩,
   ⟨st (dev [(0x2100 + 17, 1, 2), (0x4080 + 17, 4, 8), (0x4080 + 17, 6, 4), (0x2200 + 17, 0xC, 1)]), 17, by decide +kernel⟩,
   ⟨st (dev [(0x2100 + 17, 1, 2), (0x4080 + 17, 4, 8), (0x4080 + 17, 6, 4), (0x2200 + 17, 0xC, 1)]), 17, by decide +kernel⟩,
   ⟨st (dev [(0x2100 + 17, 1, 2), (0x4080 + 17, 4, 8), (0x4080 + 17, 6, 4), (0x2200 + 17, 0xC, 2)]), 17, by decide +kernel⟩,
   ⟨st live, 17, by decide +kernel⟩,
   ⟨st (dev [(0x4080 + 17, 6, 4), (0x2200 + 17, 0xC, 2)]), 17, by decide +kernel⟩,
   ⟨st (dev [(0x4080 + 17, 6, 4), (0x2200 + 17, 0xC, 2)]), 17, by decide +kernel⟩,
   ⟨st (dev [(0x4080 + 17, 6, 4), (0x2200 + 17, 0xC, 1)]), 17, by decide +kernel⟩,
   ⟨st live, 17, by decide +kernel⟩,
   ⟨st ((dev [(0x2100 + 17, 1, 2), (0x4080 + 17, 4, 8), (0x4080 + 17, 6, 4), (0x2000 + 17, 4,
     2000)]).onPort 17 (fun s => { s with host := { s.host with egFlow := { pausedAll := true } } })), 17, .egress, by decide +kernel⟩,
   ⟨st live, 17, .egress, by decide +kernel⟩,
   ⟨st ((dev [(0x2100 + 17, 1, 2), (0x4080 + 17, 4, 8), (0x4080 + 17, 6, 4), (0x2000 + 17, 4,
     2000)]).onPort 17 (fun s => { s with host := { s.host with inFlow := { pausing := 1 } } })), 17, .ingress, by decide +kernel⟩,
   ⟨st live, 17, .ingress, by decide +kernel⟩⟩
theorem test_met_TwillComesUp :
    (∃ (s : State) (n : Die), s.dev.mayAttempt n = true)
    ∧ (∃ (s : State) (n : Die), s.dev.mayAttempt n = true)
    ∧ (∃ (s : State) (n : Die), s.dev.lineTries n = true)
    ∧ (∃ (s : State) (n : Die), s.dev.mayAttempt n = false ∧ s.dev.lineTries n = false)
    ∧ (∃ (s : State) (n : Die) (down up : Nat), s.dev.get 0x3010 (n + 1) = 1 ∧ s.dev.answersTrain n = true ∧ (∃ a b : Fin 34, a ≠ b ∧
      down.testBit a = true ∧ down.testBit b = true ∧ up.testBit a = true ∧ up.testBit b = true))
    ∧ (∃ (s : State) (n : Die), s.dev.get 0x3010 (n + 1) = 1 ∧ s.dev.answersTrain n = false)
    ∧ (∃ (s : State) (n : Die), s.dev.get 0x3010 (n + 1) ≠ 1)
    ∧ (∃ (s : State) (n : Die), s.dev.get 0x3010 (n + 1) = 2)
    ∧ (∃ (s : State) (n : Die), s.dev.get 0x3010 (n + 1) = 2)
    ∧ (∃ (s : State) (n : Die), s.dev.get 0x3010 (n + 1) ≠ 2)
    ∧ (∃ (s : State) (n : Die), s.dev.get 0x3010 (n + 1) = 3 ∧ s.dev.dieHeld n = false)
    ∧ (∃ (s : State) (n : Die), s.dev.get 0x3010 (n + 1) = 3 ∧ s.dev.dieHeld n = true)
    ∧ (∃ (s : State) (n : Die), s.dev.get 0x3010 (n + 1) ≠ 3)
    ∧ (∃ (s : State) (n : Die), s.dev.get 0x3010 (n + 1) = 3 ∧ (s.dev.dieState n = 1 ∨ s.dev.dieState n = 3) ∧ (s.dev.dies.get n).imageBad = false)
    ∧ (∃ (s : State) (n : Die), s.dev.get 0x3010 (n + 1) = 3 ∧ s.dev.dieState n = 3 ∧ (s.dev.dies.get n).imageBad = true)
    ∧ (∃ (s : State) (n : Die), (s.dev.dieState n ≠ 1 ∨ (s.dev.dies.get n).imageBad = true) ∧ s.dev.dieState n ≠ 3) :=
  ⟨⟨st (clocked live), 7, by decide +kernel⟩,
   ⟨st (clocked live), 0, by decide +kernel⟩,
   ⟨st (clocked (live.onMgmt (fun m => { m with recovery := true }))), 1, by decide +kernel⟩,
   ⟨st (dev [(0x3010, 1+1, 3)]), 1, by decide +kernel⟩,
   ⟨st (clocked (dev [(0x3010, 1+1, 1)])), 1, 3 * 2 ^ 32, 3 * 2 ^ 32, ⟨by decide +kernel, by decide +kernel, 32, 33, by decide +kernel⟩⟩,
   ⟨st ((dev [(0x3010, 1+1, 1)]).onDie 1 (fun s => { s with powered := false })), 1, by decide +kernel⟩,
   ⟨st live, 1, by decide +kernel⟩,
   ⟨st (dev [(0x3010, 1+1, 2)]), 1, by decide +kernel⟩,
   ⟨st (dev [(0x3010, 1+1, 2)]), 1, by decide +kernel⟩,
   ⟨st live, 1, by decide +kernel⟩,
   ⟨st (dev [(0x3010, 1+1, 3)]), 1, by decide +kernel⟩,
   ⟨st ((dev [(0x3010, 1+1, 3)]).onDie 1 (fun s => { s with testHolds := true })), 1, by decide +kernel⟩,
   ⟨st live, 1, by decide +kernel⟩,
   ⟨st (dev [(0x3010, 1+1, 3), (0x1010, 2, 3)]), 1, by decide +kernel⟩,
   ⟨st ((dev [(0x3010, 1+1, 3), (0x1010, 2, 3)]).onDie 1 (fun s => { s with imageBad := true })), 1, by decide +kernel⟩,
   ⟨st live, 1, by decide +kernel⟩⟩
theorem test_met_TapsMarkersAndFill :
    (∃ (t : Int × Int × Int), tapsGood t = true)
    ∧ (∃ (s : State) (n : Die) (w : Way) (x : Fin 34) (line : List Bool) (b : TrainBody), s.dev.get 0x3010 (n + 1) ≠ 0 ∧
      s.dev.get 0x3010 (n + 1) ≠ 3 ∧ s.dev.laneState n w x = 1 ∧ (w = .up ∨ s.dev.answersTrain n = true) ∧ let r := s.dev.laneRead n w x line;
      r.1.violation = false ∧ isData r.1.header = false ∧ blockKind r.1.header = 3 ∧ readTrain (natOf r.1.body) = some b ∧ b.phys = x.val ∧
      assocGet (s.dev.twillDir n (Way.back w)).answers x.val = none)
    ∧ (∃ (s : State) (n : Die) (w : Way) (x : Fin 34) (line : List Bool) (b : TrainBody), s.dev.get 0x3010 (n + 1) = 3 ∧ s.dev.laneState n w x = 1 ∧
      (w = .up ∨ s.dev.answersTrain n = true) ∧ let r := s.dev.laneRead n w x line; isData r.1.header = false ∧ blockKind r.1.header = 3 ∧
      readTrain (natOf r.1.body) = some b ∧ b.phys = x.val)
    ∧ (∃ (s : State) (n : Die) (w : Way) (x : Fin 34) (line : List Bool), s.dev.get 0x3010 (n + 1) ≠ 0 ∧ s.dev.laneState n w x = 1 ∧
      (w = .up ∨ s.dev.answersTrain n = true) ∧ readTrain (natOf (s.dev.laneRead n w x line).1.body) = none)
    ∧ (∃ (s : State) (n : Die) (w : Way) (x : Fin 34) (line : List Bool) (b : TrainBody), s.dev.get 0x3010 (n + 1) ≠ 0 ∧ s.dev.laneState n w x = 1 ∧
      (w = .up ∨ s.dev.answersTrain n = true) ∧ readTrain (natOf (s.dev.laneRead n w x line).1.body) = some b ∧ b.phys ≠ x.val)
    ∧ (∃ (s : State) (n : Die) (w : Way) (x : Fin 34), (s.dev.get 0x3010 (n + 1) = 0 ∨ s.dev.laneState n w x ≠ 1 ∨ (w = .down ∧
      s.dev.answersTrain n = false)))
    ∧ (∃ (s : State) (n : Die) (w : Way) (x : Fin 34) (line : List Bool) (m : MarkerBody), 2 ≤ s.dev.get 0x3010 (n + 1) ∧
      let r := s.dev.laneRead n w x line; isData r.1.header = false ∧ blockKind r.1.header = 1 ∧ readMarker (natOf r.1.body) = some m)
    ∧ (∃ (s : State) (n : Die) (w : Way) (x : Fin 34) (line : List Bool), 2 ≤ s.dev.get 0x3010 (n + 1) ∧
      readMarker (natOf (s.dev.laneRead n w x line).1.body) = none)
    ∧ (∃ (s : State) (n : Die), s.dev.get 0x3010 (n + 1) < 2)
    ∧ (∃ (m : MarkerBody) (crc : Nat), m.laneCrc ≠ crc)
    ∧ (∃ (s : State) (n : Die) (w : Way) (x : Fin 34), 2 ≤ s.dev.get 0x3010 (n + 1) ∧ (s.dev.laneState n w x = 2 ∨ s.dev.laneState n w x = 3))
    ∧ (∃ (s : State) (n : Die), s.dev.get 0x3010 (n + 1) < 2)
    ∧ (∃ (s : State) (n : Die), s.dev.get 0x3010 (n + 1) = 3 ∧ s.dev.get 0x3000 1 = 1)
    ∧ (∃ (s : State) (n : Die), (s.dev.get 0x3010 (n + 1) ≠ 3 ∨ s.dev.get 0x3000 1 ≠ 1)) :=
  ⟨⟨(-8, 28, -12), by decide +kernel⟩,
   ⟨st (clocked (dev [(0x3010, 1+1, 1), (0x3030 + wayIndex .down, 2, setOctet 35 0 33 1)])), 1, .down, 33,
     (laneEncode {} (kindHeader 3 0 false) (bytesOf 32 (trainFixed { phys := 33 } * 2 ^ 200))).1, { phys := 33 }, ⟨by decide +kernel,
     by decide +kernel, by decide +kernel, by decide +kernel, by decide +kernel, by decide +kernel⟩⟩,
   ⟨st (clocked (dev [(0x3010, 1+1, 3), (0x3030 + wayIndex .down, 2, setOctet 35 0 33 1)])), 1, .down, 33,
     (laneEncode {} (kindHeader 3 0 false) (bytesOf 32 (trainFixed { phys := 33 } * 2 ^ 200))).1, { phys := 33 }, ⟨by decide +kernel,
     by decide +kernel, by decide +kernel, by decide +kernel, by decide +kernel⟩⟩,
   ⟨st (clocked (dev [(0x3010, 1+1, 1), (0x3030 + wayIndex .down, 2, setOctet 35 0 33 1)])), 1, .down, 33, [], by decide +kernel⟩,
   ⟨st (clocked (dev [(0x3010, 1+1, 1), (0x3030 + wayIndex .down, 2, setOctet 35 0 33 1)])), 1, .down, 33,
     (laneEncode {} (kindHeader 3 0 false) (bytesOf 32 (trainFixed { phys := 0 } * 2 ^ 200))).1, {}, by decide +kernel⟩,
   ⟨st (dev [(0x3010, 1+1, 1), (0x3030 + wayIndex .down, 2, setOctet 35 0 33 1)]), 1, .down, 33, by decide +kernel⟩,
   ⟨st (dev [(0x3010, 1+1, 2)]), 1, .up, 33, (laneEncode {} (kindHeader 1 0 false) (bytesOf 32 (markerBits {}))).1, {}, ⟨by decide +kernel,
     by decide +kernel, by decide +kernel⟩⟩,
   ⟨st (dev [(0x3010, 1+1, 2)]), 1, .up, 33, [], by decide +kernel⟩,
   ⟨st live, 1, by decide +kernel⟩,
   ⟨{}, 1, by decide +kernel⟩,
   ⟨st (dev [(0x3010, 1+1, 2), (0x3030 + wayIndex .up, 2, setOctet 35 0 33 2)]), 1, .up, 33, by decide +kernel⟩,
   ⟨st live, 1, by decide +kernel⟩,
   ⟨st (dev [(0x3010, 1+1, 3), (0x3000, 1, 1)]), 1, by decide +kernel⟩,
   ⟨st live, 1, by decide +kernel⟩⟩
theorem test_met_TwillTraffic :
    (∃ (s : State) (n : Die) (w : Way) (x : Fin 34) (line : List Bool), s.dev.get 0x3010 (n + 1) = 3 ∧ s.dev.activeLane n w x = true ∧
      let r := s.dev.laneRead n w x line; isData r.1.header = false ∧ 10 ≤ blockKind r.1.header)
    ∧ (∃ (s : State) (n : Die) (w : Way) (x : Fin 34) (line : List Bool) (l : Nat), s.dev.get 0x3010 (n + 1) = 3 ∧
      (s.dev.activeLane n w x = true ∨ (s.dev.delivering n w x).isSome = true) ∧ let r := s.dev.laneRead n w x line;
      let e := r.2.headerSeen n w x true; (isData r.1.header = true ∨ blockKind r.1.header = 0 ∨ 4 ≤ blockKind r.1.header) ∧
      (isData r.1.header = true ∨ blockKind r.1.header < 10) ∧ x.val ∉ (e.twillDir n w).retired ∧
      (e.logicalOf n w x).or (e.delivering n w x) = some l)
    ∧ (∃ (s : State) (n : Die) (w : Way) (x : Fin 34), (s.dev.get 0x3010 (n + 1) ≠ 3 ∨ s.dev.activeLane n w x = false ∧
      x.val ∉ (s.dev.twillDir n w).retired ∧ s.dev.delivering n w x = none))
    ∧ (∃ (d : Dev) (n : Die) (w : Way) (h : Nat), d.lateHeader n w h = true)
    ∧ (∃ (h : Nat) (body : List Byte), (isData h && h.testBit 6 && (body.getD 1 0).toNat.testBit 7) = false)
    ∧ (∃ (d : Dev) (n : Die) (w : Way) (h : Nat), d.lateHeader n w h = false ∧ isData h = true)
    ∧ (∃ (d : Dev) (n : Die) (w : Way) (h : Nat), d.lateHeader n w h = false ∧ isData h = false)
    ∧ (∃ (d : Dev) (n : Die) (w : Way) (k : Fin 16) (q : Fin 32) (r : RxFrame), (d.twillDir n w).frames.get k = some (q, r))
    ∧ (∃ (d : Dev) (n : Die) (w : Way) (k : Fin 16), (d.twillDir n w).frames.get k = none)
    ∧ (∃ (m : TwillMsg), intact m = true)
    ∧ (∃ (s : State) (n : Die) (m : TwillMsg), s.dev.get 0x3010 (n + 1) = 3 ∧ intact m = false)
    ∧ (∃ (s : State) (n : Die) (m : TwillMsg), s.dev.get 0x3010 (n + 1) = 3 ∧ intact m = false ∧ s.dev.dieState n = 1)
    ∧ (∃ (s : State) (n : Die) (m : TwillMsg), s.dev.get 0x3010 (n + 1) = 3 ∧ intact m = false ∧ s.dev.dieState n ≠ 1)
    ∧ (∃ (s : State) (n : Die) (t : TimeMsg), s.dev.get 0x3010 (n + 1) = 3 ∧ t.crcOk = false)
    ∧ (∃ (s : State) (n : Die), s.dev.get 0x3010 (n + 1) ≠ 3)
    ∧ (∃ (s : State) (n : Die) (ev : FaultEvent) (b : Block), s.dev.get 0x3010 (n + 1) = 3 ∧ block? ev.source = some b ∧ reportsOn n b = true ∧
      canReport b ev.kind = true)
    ∧ (∃ (s : State) (n : Die) (bit : Nat), s.dev.get 0x3010 (n + 1) = 3 ∧ bit < 10)
    ∧ (∃ (s : State) (n : Die), s.dev.get 0x3010 (n + 1) = 3)
    ∧ (∃ (s : State) (n : Die), s.dev.get 0x3010 (n + 1) = 3)
    ∧ (∃ (s : State) (n : Die) (m : TimeMsg), s.dev.get 0x3010 (n + 1) = 3 ∧ m.crcOk = true ∧ m.offset.natAbs ≤ 16)
    ∧ (∃ (s : State) (n : Die) (m : TimeMsg), s.dev.get 0x3010 (n + 1) = 3 ∧ m.crcOk = true ∧ 16 < m.offset.natAbs) :=
  ⟨⟨st (dev [(0x3010, 1+1, 3), (0x3030 + wayIndex .down, 2, setOctet 35 0 0 2)]), 1, .down, 0, (laneEncode {} 0x60 (List.replicate 32 0)).1,
    ⟨by decide +kernel, by decide +kernel, by decide +kernel, by decide +kernel⟩⟩,
   ⟨st (dev [(0x3010, 1+1, 3), (0x3030 + wayIndex .down, 2, setOctet 35 0 0 2)]), 1, .down, 0, (laneEncode {} 0x80 (List.replicate 32 0)).1, 0,
     ⟨by decide +kernel, by decide +kernel, by decide +kernel, by decide +kernel⟩⟩,
   ⟨st live, 1, .up, 0, by decide +kernel⟩,
   ⟨live, 1, .down, 1, by decide +kernel⟩,
   ⟨0, [], by decide +kernel⟩,
   ⟨live, 1, .down, 0x80, by decide +kernel⟩,
   ⟨live, 1, .down, 0, by decide +kernel⟩,
   ⟨live.onDir 1 .down (fun t => { t with frames := Vector.replicate 16 (some (0, { bytes := [] })) }), 1, .down, 0, 0, { bytes := [] },
     by decide +kernel⟩,
   ⟨live, 1, .up, 0, by decide +kernel⟩,
   ⟨{}, by decide +kernel⟩,
   ⟨st (dev [(0x3010, 1+1, 3)]), 1, { crc := 1 }, by decide +kernel⟩,
   ⟨st (dev [(0x3010, 1+1, 3), (0x1010, 2, 1)]), 1, { crc := 1 }, by decide +kernel⟩,
   ⟨st (dev [(0x3010, 1+1, 3)]), 1, { crc := 1 }, by decide +kernel⟩,
   ⟨st (dev [(0x3010, 1+1, 3)]), 1, { crcOk := false }, by decide +kernel⟩,
   ⟨st live, 1, by decide +kernel⟩,
   ⟨st (dev [(0x3010, 1+1, 3)]), 1, { source := 0x3A1, kind := 1 }, .core 1, by decide +kernel⟩,
   ⟨st (dev [(0x3010, 1+1, 3)]), 1, 9, by decide +kernel⟩,
   ⟨st (dev [(0x3010, 1+1, 3)]), 1, by decide +kernel⟩,
   ⟨st (dev [(0x3010, 1+1, 3)]), 1, by decide +kernel⟩,
   ⟨st (dev [(0x3010, 1+1, 3)]), 1, { offset := -16 }, by decide +kernel⟩,
   ⟨st (dev [(0x3010, 1+1, 3)]), 1, { offset := -17 }, by decide +kernel⟩⟩
theorem test_met_TwillLanesAndTests :
    (∃ (s : State) (n : Die) (w : Way) (l : Fin 32), s.dev.get 0x3010 (n + 1) = 3 ∧ s.dev.laneMap n w l ≠ 0xFF ∧
      ((s.dev.twillDir n w).narrow = false ∨ l ≠ 0))
    ∧ (∃ (s : State) (n : Die) (w : Way), s.dev.get 0x3010 (n + 1) = 3 ∧ s.dev.laneMap n w 0 ≠ 0xFF ∧ (s.dev.twillDir n w).narrow = true)
    ∧ (∃ (s : State) (n : Die) (w : Way) (l : Fin 32), (s.dev.get 0x3010 (n + 1) ≠ 3 ∨ s.dev.laneMap n w l = 0xFF))
    ∧ (∃ (s : State) (n : Die) (w : Way), s.dev.get 0x3010 (n + 1) = 3 ∧ (s.dev.twillDir n w).narrow = false)
    ∧ (∃ (s : State) (n : Die) (w : Way), (s.dev.get 0x3010 (n + 1) ≠ 3 ∨ (s.dev.twillDir n w).narrow = true))
    ∧ (∃ (s : State) (n : Die) (w : Way), s.dev.mayNarrow n w = true)
    ∧ (∃ (s : State) (n : Die) (w : Way), s.dev.mayNarrow n w = false)
    ∧ (∃ (s : State) (n : Die) (w : Way), (s.dev.twillDir n w).narrow = true)
    ∧ (∃ (s : State) (n : Die) (w : Way), (s.dev.twillDir n w).narrow = false)
    ∧ (∃ (s : State) (n : Die) (w : Way) (x : Fin 34), s.dev.get 0x3010 (n + 1) = 3 ∧ s.dev.laneState n w x = 4 ∧
      s.dev.faultState (laneSrc n w x) ≠ 4)
    ∧ (∃ (s : State) (n : Die) (w : Way) (x : Lane),
      (s.dev.get 0x3010 (n + 1) ≠ 3 ∨ s.dev.laneState n w x ≠ 4 ∨ s.dev.faultState (laneSrc n w x) = 4))
    ∧ (∃ (s : State) (n : Die) (w : Way) (x : Fin 34), s.dev.get 0x3010 (n + 1) = 3 ∧ s.dev.laneState n w x = 3 ∧ s.dev.delivering n w x = none)
    ∧ (∃ (s : State) (n : Die) (w : Way) (x : Fin 34), s.dev.get 0x3010 (n + 1) = 3 ∧ s.dev.laneState n w x = 2 ∧ s.dev.delivering n w x = none)
    ∧ (∃ (s : State) (n : Die) (w : Way) (x : Fin 34), s.dev.get 0x3010 (n + 1) = 3 ∧ (s.dev.delivering n w x).isSome = true)
    ∧ (∃ (s : State) (n : Die) (w : Way) (x : Lane), (s.dev.get 0x3010 (n + 1) ≠ 3 ∨ (s.dev.laneState n w x ≠ 2 ∧ s.dev.laneState n w x ≠ 3 ∧
      s.dev.delivering n w x = none)))
    ∧ (∃ (s : State) (n : Die) (w : Way) (x : Fin 34), s.dev.get 0x3010 (n + 1) = 3 ∧ s.dev.laneState n w x = 4 ∧ s.dev.flag 0x3000 4 = false ∧
      x.val ∉ (s.dev.twillDir n w).waiting)
    ∧ (∃ (s : State), s.dev.flag 0x3000 4 = true)
    ∧ (∃ (s : State) (n : Die) (w : Way) (x : Lane), (s.dev.get 0x3010 (n + 1) ≠ 3 ∨ s.dev.laneState n w x ≠ 4))
    ∧ (∃ (s : State) (r : Req), Writable s r 0x3000 4 0)
    ∧ (∃ (s : State) (r : Req), Writable s r 0x3000 4 1)
    ∧ (∃ (s : State) (n : Die) (w : Way) (x : Fin 34), s.dev.get 0x3010 (n + 1) = 3 ∧ s.dev.laneState n w x = 1)
    ∧ (∃ (s : State) (n : Die) (w : Way) (x : Fin 34) (k : Nat), s.dev.get 0x3010 (n + 1) = 3 ∧ s.dev.laneState n w x = 1 ∧
      (assocGet (s.dev.twillDir n w).failures x).getD 0 = k)
    ∧ (∃ (s : State) (n : Die) (w : Way) (x : Lane), (s.dev.get 0x3010 (n + 1) ≠ 3 ∨ s.dev.laneState n w x ≠ 1))
    ∧ (∃ (s : State) (n : Die), s.dev.laneState n .up 34 ≠ 4)
    ∧ (∃ (s : State) (n : Die), s.dev.laneState n .up 34 = 4)
    ∧ (∃ (s : State) (r : Req) (n : Die) (t : TwillTest), Ready s r 0x3400 (n + 1) 0 ∧ (s.dev.dies.get n).test = none ∧ s.dev.dieHeld n = false ∧
      s.dev.activating = false ∧ (s.vault.lifecycle ≠ 3 ∨ s.dev.hall.serviceUntil.isSome = true) ∧ testBad t = false ∧
      (t.inject = 0 ∨ s.dev.stagingFull = false))
    ∧ (∃ (s : State) (r : Req) (n : Die), Ready s r 0x3400 (n + 1) 0 ∧
      ((s.dev.dies.get n).test.isSome = true ∨ s.dev.dieHeld n = true ∨ s.dev.activating = true))
    ∧ (∃ (s : State) (r : Req) (n : Die) (t : TwillTest), Ready s r 0x3400 (n + 1) 0 ∧ (s.dev.dies.get n).test = none ∧ s.dev.dieHeld n = false ∧
      s.dev.activating = false ∧ s.vault.lifecycle = 3 ∧ s.dev.hall.serviceUntil = none ∧ (t.inject = 0 ∨ s.dev.stagingFull = false))
    ∧ (∃ (s : State) (r : Req) (n : Die) (t : TwillTest), Ready s r 0x3400 (n + 1) 0 ∧ (s.dev.dies.get n).test = none ∧ s.dev.dieHeld n = false ∧
      s.dev.activating = false ∧ (s.vault.lifecycle ≠ 3 ∨ s.dev.hall.serviceUntil.isSome = true) ∧ testBad t = true ∧
      (t.inject = 0 ∨ s.dev.stagingFull = false))
    ∧ (∃ (s : State) (r : Req) (n : Die), Ready s r 0x3401 (n + 1) 1)
    ∧ (∃ (s : State) (n : Die) (t : TwillTest), (s.dev.dies.get n).test = some t)
    ∧ (∃ (s : State) (n : Die), (s.dev.dies.get n).test = none) :=
  ⟨⟨st (dev [(0x3010, 1+1, 3), (0x3038 + wayIndex .up, 2, 0)]), 1, .up, 31, by decide +kernel⟩,
   ⟨st ((dev [(0x3010, 1+1, 3), (0x3038 + wayIndex .up, 2, 0)]).onDir 1 .up (fun t => { t with narrow := true })), 1, .up, by decide +kernel⟩,
   ⟨st live, 1, .up, 0, by decide +kernel⟩,
   ⟨st (dev [(0x3010, 1+1, 3)]), 1, .up, by decide +kernel⟩,
   ⟨st live, 1, .up, by decide +kernel⟩,
   ⟨st (dev [(0x3010, 1+1, 3), (0x3000, 2, 1), (0x3000, 3, 0)]), 1, .up, by decide +kernel⟩,
   ⟨st live, 1, .up, by decide +kernel⟩,
   ⟨st ((dev [(0x3010, 1+1, 3)]).onDir 1 .up (fun t => { t with narrow := true })), 1, .up, by decide +kernel⟩,
   ⟨st live, 1, .up, by decide +kernel⟩,
   ⟨st (dev [(0x3010, 1+1, 3), (0x3030 + wayIndex .up, 2, setOctet 35 0 33 4)]), 1, .up, 33, by decide +kernel⟩,
   ⟨st live, 1, .up, 34, by decide +kernel⟩,
   ⟨st (dev [(0x3010, 1+1, 3), (0x3030 + wayIndex .up, 2, setOctet 35 0 33 3)]), 1, .up, 33, by decide +kernel⟩,
   ⟨st (dev [(0x3010, 1+1, 3), (0x3030 + wayIndex .down, 2, setOctet 35 0 0 2)]), 1, .down, 0, by decide +kernel⟩,
   ⟨st ((dev [(0x3010, 1+1, 3)]).onDir 1 .down (fun t => { t with parked := [{ leaves := 0, logical := 0, delivers := true }] })), 1, .down, 0,
     by decide +kernel⟩,
   ⟨st (dev [(0x3010, 1+1, 3)]), 1, .up, 34, by decide +kernel⟩,
   ⟨st (dev [(0x3010, 1+1, 3), (0x3030 + wayIndex .up, 2, setOctet 35 0 33 4), (0x3000, 4, 0)]), 1, .up, 33, by decide +kernel⟩,
   ⟨st (dev [(0x3000, 4, 1)]), by decide +kernel⟩,
   ⟨st live, 1, .up, 34, by decide +kernel⟩,
   ⟨st live, own, Writable.of_checks (by decide +kernel)⟩,
   ⟨st live, own, Writable.of_checks (by decide +kernel)⟩,
   ⟨st (dev [(0x3010, 1+1, 3), (0x3030 + wayIndex .up, 2, setOctet 35 0 33 1)]), 1, .up, 33, by decide +kernel⟩,
   ⟨st ((dev [(0x3010, 1+1, 3), (0x3030 + wayIndex .up, 2, setOctet 35 0 33 1)]).onDir 1 .up (fun t => { t with failures := [(33, 15)] })), 1, .up,
     33, 15, by decide +kernel⟩,
   ⟨st live, 1, .up, 34, by decide +kernel⟩,
   ⟨st live, 1, by decide +kernel⟩,
   ⟨st (dev [(0x3030 + wayIndex .up, 2, setOctet 35 0 34 4)]), 1, by decide +kernel⟩,
   ⟨st live, own, 1, { mode := 0, dir := 0, pattern := 0, lanes := 0, inject := 0, duration := 60000 }, ⟨Ready.of_checks (by decide +kernel),
     by decide +kernel⟩⟩,
   ⟨st (live.onDie 1 (fun s => { s with test := some { mode := 0, dir := 0, pattern := 0, lanes := 0, inject := 0, duration := 1 } })), own, 1,
     ⟨Ready.of_checks (by decide +kernel), by decide +kernel⟩⟩,
   ⟨st live { lifecycle := 3 }, own, 1, { mode := 0, dir := 0, pattern := 0, lanes := 0, inject := 0, duration := 1 },
     ⟨Ready.of_checks (by decide +kernel), by decide +kernel⟩⟩,
   ⟨st (clocked (dev [(0x3010, 1+1, 3)])), own, 1, { mode := 2, dir := 0, pattern := 0, lanes := 1, inject := 0, duration := 1 },
     ⟨Ready.of_checks (by decide +kernel), by decide +kernel⟩⟩,
   ⟨st live, own, 7, Ready.of_checks (by decide +kernel)⟩,
   ⟨st (live.onDie 1 (fun s => { s with test := some { mode := 0, dir := 0, pattern := 0, lanes := 0, inject := 0, duration := 1 } })), 1,
     { mode := 0, dir := 0, pattern := 0, lanes := 0, inject := 0, duration := 1 }, by decide +kernel⟩,
   ⟨st live, 1, by decide +kernel⟩⟩
theorem test_met_TimeAndPulses :
    (∃ (s : State) (r : Req) (sec ns frac : Nat), Ready s r 0x6000 2 (sec * 2 ^ 48 + ns * 2 ^ 16 + frac * 256) ∧ sec < 2 ^ 48 ∧ ns < 1000000000 ∧
      frac < 16)
    ∧ (∃ (s : State) (r : Req) (sec ns frac : Nat), Ready s r 0x6000 2 (sec * 2 ^ 48 + ns * 2 ^ 16 + frac * 256) ∧ sec < 2 ^ 48 ∧ 1000000000 ≤ ns ∧
      ns < 2 ^ 32 ∧ frac < 16)
    ∧ (∃ (s : State) (r : Req) (v : Nat), Ready s r 0x6000 3 v ∧ (signed 64 v).natAbs ≤ 1000 * 16000000000 ∧
      0 ≤ adjusted s.dev.adjustInstant (s.dev.time.adjust ++ [.step (signed 64 v)]))
    ∧ (∃ (s : State) (r : Req) (v : Nat), Ready s r 0x6000 3 v ∧ 1000 * 16000000000 < (signed 64 v).natAbs)
    ∧ (∃ (s : State), s.dev.time.adjust ≠ [])
    ∧ (∃ (s : State), s.dev.time.adjust = [])
    ∧ (∃ (s : State) (r : Req) (v : Nat), Writable s r 0x6000 4 v ∧ beyond 32 500000000 v = false ∧
      (s.dev.get 0x6010 1 ≠ 2 ∨ s.dev.pps.suspended = true))
    ∧ (∃ (s : State) (r : Req) (v : Nat), Writable s r 0x6000 4 v ∧ beyond 32 500000000 v = false ∧ s.dev.get 0x6010 1 = 2 ∧
      s.dev.pps.suspended = false)
    ∧ (∃ (s : State) (r : Req) (v : Nat), Writable s r 0x6000 4 v ∧ beyond 32 500000000 v = true)
    ∧ (∃ (s : State), s.dev.get 0x6010 1 = 0)
    ∧ (∃ (s : State) (time : Nat), s.dev.get 0x6010 1 ≠ 0 ∧ 16000 < (ppsOffset ((time : Int) - signed 32 (s.dev.get 0x6010 2))).natAbs)
    ∧ (∃ (s : State) (time : Nat), s.dev.get 0x6010 1 ≠ 0 ∧ (ppsOffset ((time : Int) - signed 32 (s.dev.get 0x6010 2))).natAbs ≤ 160)
    ∧ (∃ (s : State) (time : Nat), s.dev.get 0x6010 1 ≠ 0 ∧ 160 < (ppsOffset ((time : Int) - signed 32 (s.dev.get 0x6010 2))).natAbs ∧
      (ppsOffset ((time : Int) - signed 32 (s.dev.get 0x6010 2))).natAbs ≤ 16000)
    ∧ (∃ (s : State) (time : Nat), s.dev.get 0x6010 1 = 2 ∧ s.dev.pps.suspended = false ∧
      (ppsOffset ((time : Int) - signed 32 (s.dev.get 0x6010 2))).natAbs ≤ 16000)
    ∧ (∃ (s : State), s.dev.get 0x6010 1 = 2 ∧ s.dev.pps.suspended = false ∧ s.dev.pps.holdover = false ∧ s.dev.pps.missing = 2)
    ∧ (∃ (s : State), s.dev.get 0x6010 1 ≠ 0 ∧ (s.dev.get 0x6010 1 ≠ 2 ∨ s.dev.pps.suspended = true ∨ s.dev.pps.holdover = true) ∧
      s.dev.pps.missing = 2)
    ∧ (∃ (s : State), s.dev.get 0x6010 1 = 2 ∧ s.dev.pps.suspended = false ∧ s.dev.pps.holdover = false ∧ 3 ≤ s.dev.pps.missing)
    ∧ (∃ (s : State), s.dev.get 0x6010 1 ≠ 0 ∧ s.dev.pps.missing ≠ 2 ∧
      (s.dev.get 0x6010 1 ≠ 2 ∨ s.dev.pps.suspended = true ∨ s.dev.pps.holdover = true ∨ s.dev.pps.missing < 2))
    ∧ (∃ (s : State), s.dev.get 0x6014 1 = 1 ∧ s.dev.pinsLive = true ∧ s.dev.options.pinEnable.testBit 1 = true ∧ s.dev.time.ppsOutHigh = false)
    ∧ (∃ (s : State),
      (s.dev.flag 0x6014 1 = false ∨ s.dev.pinsLive = false ∨ s.dev.options.pinEnable.testBit 1 = false ∨ s.dev.time.ppsOutHigh = true))
    ∧ (∃ (s : State), s.dev.time.ppsOutHigh = true)
    ∧ (∃ (s : State), s.dev.time.ppsOutHigh = false) :=
  ⟨⟨st live, own, 2 ^ 48 - 1, 999999999, 15, ⟨Ready.of_checks (by decide +kernel), by decide +kernel⟩⟩,
   ⟨st live, own, 0, 1000000000, 15, ⟨Ready.of_checks (by decide +kernel), by decide +kernel⟩⟩,
   ⟨st live, own, 1000 * 16000000000, ⟨Ready.of_checks (by decide +kernel), by decide +kernel⟩⟩,
   ⟨st live, own, 1000 * 16000000000 + 1, ⟨Ready.of_checks (by decide +kernel), by decide +kernel⟩⟩,
   ⟨st { live with time := { adjust := [.set 5] } }, by decide +kernel⟩,
   ⟨st live, by decide +kernel⟩,
   ⟨st live, own, 500000000, ⟨Writable.of_checks (by decide +kernel), by decide +kernel⟩⟩,
   ⟨st (dev [(0x6010, 1, 2)]), own, 500000000, ⟨Writable.of_checks (by decide +kernel), by decide +kernel⟩⟩,
   ⟨st live, own, 500000001, ⟨Writable.of_checks (by decide +kernel), by decide +kernel⟩⟩,
   ⟨st (dev [(0x6010, 1, 0)]), by decide +kernel⟩,
   ⟨st (dev [(0x6010, 1, 1)]), 16001, by decide +kernel⟩,
   ⟨st (dev [(0x6010, 1, 1)]), 160, by decide +kernel⟩,
   ⟨st (dev [(0x6010, 1, 1)]), 161, by decide +kernel⟩,
   ⟨st (dev [(0x6010, 1, 2)]), 160, by decide +kernel⟩,
   ⟨st { (dev [(0x6010, 1, 2)]) with pps := { missing := 2 } }, by decide +kernel⟩,
   ⟨st { (dev [(0x6010, 1, 1)]) with pps := { missing := 2 } }, by decide +kernel⟩,
   ⟨st { (dev [(0x6010, 1, 2)]) with pps := { missing := 9 } }, by decide +kernel⟩,
   ⟨st { (dev [(0x6010, 1, 1)]) with pps := { missing := 3 } }, by decide +kernel⟩,
   ⟨st { (dev [(0x6014, 1, 1)]) with options := { pinEnable := 2 } }, by decide +kernel⟩,
   ⟨st live, by decide +kernel⟩,
   ⟨st { live with time := { ppsOutHigh := true } }, by decide +kernel⟩,
   ⟨st live, by decide +kernel⟩⟩
theorem test_met_DiagnosisAndSampler :
    (∃ (s : State) (r : Req) (p : Port), Ready s r (0x5C80 + p) 1 1 ∧ (s.dev.port p).diag = none ∧ s.dev.linkUp p = true)
    ∧ (∃ (s : State) (r : Req) (p : Port), Ready s r (0x5C80 + p) 1 1 ∧ (s.dev.port p).diag = none ∧ s.dev.linkUp p = false)
    ∧ (∃ (s : State) (r : Req) (p : Port), Ready s r (0x5C80 + p) 1 2 ∧ (s.dev.port p).diag = none ∧ (s.dev.linkState p < 3 ∨ 8 < s.dev.linkState p))
    ∧ (∃ (s : State) (r : Req) (p : Port), Ready s r (0x5C80 + p) 1 2 ∧ (s.dev.port p).diag = none ∧ 3 ≤ s.dev.linkState p ∧ s.dev.linkState p ≤ 8)
    ∧ (∃ (s : State) (r : Req) (p : Port), Ready s r (0x5C80 + p) 1 1 ∧ Ready s r (0x5C80 + p) 1 2 ∧ (s.dev.port p).diag.isSome = true)
    ∧ (∃ (s : State) (p : Port), s.dev.get (0x5C00 + p) 2 ≠ 0 ∧ (s.dev.port p).diag = none ∧ s.dev.linkUp p = true ∧ s.dev.linkState p ≠ 5)
    ∧ (∃ (s : State) (p : Port), (s.dev.get (0x5C00 + p) 2 = 0 ∨ (s.dev.port p).diag.isSome = true ∨ s.dev.linkUp p = false ∨ s.dev.linkState p = 5))
    ∧ (∃ (s : State) (p : Port) (k : Pair) (r : DiagRun), (s.dev.port p).diag = some r ∧ r.outOfService = true ∧ r.repeats.get k < 3)
    ∧ (∃ (s : State) (p : Port) (k : Pair), (∀ r, (s.dev.port p).diag = some r → r.outOfService = false ∨ 3 ≤ r.repeats.get k))
    ∧ (∃ (s : State) (r : Req) (p : Port), Ready s r (0x5C80 + p) 2 1)
    ∧ (∃ (s : State) (p : Port) (r : DiagRun), (s.dev.port p).diag = some r ∧ (r.outOfService = true ∨ (r.echo.isSome = true ∧
      s.dev.calBusy p = false)))
    ∧ (∃ (s : State) (p : Port) (r : DiagRun), (s.dev.port p).diag = some r ∧ r.outOfService = false ∧ (r.echo = none ∨ s.dev.calBusy p = true))
    ∧ (∃ (d : Dev) (p : Port), d.calBusy p = false ∧ d.linkState p ≠ 5 ∧ (d.port p).diag.any (·.waits) = true)
    ∧ (∃ (d : Dev) (p : Port), (d.calBusy p = true ∨ d.linkState p = 5 ∨ (d.port p).diag.any (·.waits) = false))
    ∧ (∃ (s : State) (p : Port), (s.dev.port p).diag = none)
    ∧ (∃ (s : State) (r : Req) (n : Die) (arm : Nat), Ready s r (0x5F10 + n) 1 arm ∧ s.dev.get 0x1010 (n + 1) ≠ 4 ∧ s.dev.armTested arm = false ∧
      s.dev.samplerState n ≠ 1 ∧ s.dev.samplerState n ≠ 2 ∧ armBad n arm = false)
    ∧ (∃ (s : State) (r : Req) (n : Die) (arm : Nat), Ready s r (0x5F10 + n) 1 arm ∧ (s.dev.samplerState n = 1 ∨ s.dev.samplerState n = 2))
    ∧ (∃ (s : State) (n : Die), s.dev.samplerWaits n = true)
    ∧ (∃ (s : State) (n : Die), s.dev.samplerWaits n = false)
    ∧ (∃ (s : State) (n : Die), s.dev.samplerState n ≠ 1)
    ∧ (∃ (s : State) (n : Die), s.dev.samplerState n = 1 ∧ armByte (s.dev.sampler n).arm 10 * 256 + armByte (s.dev.sampler n).arm 11 ≠ 0)
    ∧ (∃ (s : State) (n : Die), armByte (s.dev.sampler n).arm 10 = 0 ∧ armByte (s.dev.sampler n).arm 11 = 0)
    ∧ (∃ (s : State) (n : Die), s.dev.samplerState n = 2)
    ∧ (∃ (s : State) (n : Die), s.dev.samplerState n ≠ 2)
    ∧ (∃ (s : State) (r : Req) (n : Die), Ready s r (0x5F10 + n) 2 1 ∧ (s.dev.samplerState n = 1 ∨ s.dev.samplerState n = 2))
    ∧ (∃ (s : State) (r : Req) (n : Die), Ready s r (0x5F10 + n) 2 1 ∧ s.dev.samplerState n ≠ 1 ∧ s.dev.samplerState n ≠ 2)
    ∧ (∃ (s : State) (r : Req) (n : Die) (sel : Nat), Ready s r (0x5F10 + n) 8 sel ∧ s.dev.samplerState n = 3 ∧
      selPair sel ∈ (armPairs (s.dev.sampler n).arm).map Fin.val ∧ selOffset sel < armSamples (s.dev.sampler n).arm)
    ∧ (∃ (s : State) (r : Req) (n : Die) (sel : Nat), Ready s r (0x5F10 + n) 8 sel ∧ s.dev.samplerState n ≠ 3)
    ∧ (∃ (s : State) (r : Req) (n : Die), s.dev.hears r.route = true ∧ s.dev.busyIndex (0x5F10 + n) = false ∧
      (s.dev.modeRefuses (0x5F10 + n) = false ∨ s.dev.safe = true)) :=
  ⟨⟨st (dev [(0x4080 + 17, 4, 8), (0x4080 + 17, 6, 4)]), own, 17, ⟨Ready.of_checks (by decide +kernel), by decide +kernel⟩⟩,
   ⟨st live, own, 17, ⟨Ready.of_checks (by decide +kernel), by decide +kernel⟩⟩,
   ⟨st (dev [(0x4080 + 17, 4, 0), (0x4080 + 17, 6, 9)]), own, 17, ⟨Ready.of_checks (by decide +kernel), by decide +kernel⟩⟩,
   ⟨st (dev [(0x4080 + 17, 4, 8), (0x4080 + 17, 6, 4)]), own, 17, ⟨Ready.of_checks (by decide +kernel), by decide +kernel⟩⟩,
   ⟨st (live.onPort 17 (fun s => { s with diag := some { outOfService := true } })), own, 17, ⟨Ready.of_checks (by decide +kernel),
     Ready.of_checks (by decide +kernel), by decide +kernel⟩⟩,
   ⟨st (dev [(0x4080 + 17, 4, 8), (0x4080 + 17, 6, 4), (0x5C00 + 17, 2, 1)]), 17, by decide +kernel⟩,
   ⟨st live, 17, by decide +kernel⟩,
   ⟨st (live.onPort 17 (fun s => { s with diag := some { outOfService := true } })), 17, 3, { outOfService := true }, by decide +kernel⟩,
   ⟨st live, 17, 0, fun _ h => nomatch h⟩,
   ⟨st live, own, 17, Ready.of_checks (by decide +kernel)⟩,
   ⟨st (live.onPort 17 (fun s => { s with diag := some { outOfService := true } })), 17, { outOfService := true }, by decide +kernel⟩,
   ⟨st ((dev [(0x4080 + 17, 4, 8), (0x4080 + 17, 6, 5)]).onPort 17 (fun s => { s with diag := some { waits := true } })), 17, { waits := true },
     by decide +kernel⟩,
   ⟨(dev [(0x4080 + 17, 6, 4)]).onPort 17 (fun s => { s with diag := some { waits := true } }), 17, by decide +kernel⟩,
   ⟨(dev [(0x4080 + 17, 6, 5)]).onPort 17 (fun s => { s with diag := some { waits := true } }), 17, by decide +kernel⟩,
   ⟨st live, 17, by decide +kernel⟩,
   ⟨st live, own, 1, (17 * 256 ^ 15 + 1 * 256 ^ 14 + 1 * 256 ^ 12 + 17 * 256 ^ 11 + 1 * 256 ^ 9), ⟨Ready.of_checks (by decide +kernel),
     by decide +kernel⟩⟩,
   ⟨st ((dev [(0x5F10 + 1, 3,
     1)]).onSampler 1 (fun s => { s with arm := (17 * 256 ^ 15 + 1 * 256 ^ 14 + 1 * 256 ^ 12 + 17 * 256 ^ 11 + 1 * 256 ^ 9) })), own, 1,
     (17 * 256 ^ 15 + 1 * 256 ^ 14 + 1 * 256 ^ 12 + 17 * 256 ^ 11 + 1 * 256 ^ 9), ⟨Ready.of_checks (by decide +kernel), by decide +kernel⟩⟩,
   ⟨st ((dev [(0x5F10 + 1, 3,
     1)]).onSampler 1 (fun s => { s with arm := 17 * 256 ^ 15 + 1 * 256 ^ 14 + 2 * 256 ^ 12 + 17 * 256 ^ 11 + 1 * 256 ^ 9 })), 1, by decide +kernel⟩,
   ⟨st live, 1, by decide +kernel⟩,
   ⟨st live, 1, by decide +kernel⟩,
   ⟨st ((dev [(0x5F10 + 1, 3,
     1)]).onSampler 1 (fun s => { s with arm := (17 * 256 ^ 15 + 1 * 256 ^ 14 + 1 * 256 ^ 12 + 17 * 256 ^ 11 + 1 * 256 ^ 9) + 1 * 256 ^ 4 })), 1,
     by decide +kernel⟩,
   ⟨st live, 1, by decide +kernel⟩,
   ⟨st ((dev [(0x5F10 + 1, 3,
     2)]).onSampler 1 (fun s => { s with arm := (17 * 256 ^ 15 + 1 * 256 ^ 14 + 1 * 256 ^ 12 + 17 * 256 ^ 11 + 1 * 256 ^ 9) })), 1,
     by decide +kernel⟩,
   ⟨st live, 1, by decide +kernel⟩,
   ⟨st ((dev [(0x5F10 + 1, 3,
     2)]).onSampler 1 (fun s => { s with arm := (17 * 256 ^ 15 + 1 * 256 ^ 14 + 1 * 256 ^ 12 + 17 * 256 ^ 11 + 1 * 256 ^ 9) })), own, 1,
     ⟨Ready.of_checks (by decide +kernel), by decide +kernel⟩⟩,
   ⟨st live, own, 1, ⟨Ready.of_checks (by decide +kernel), by decide +kernel⟩⟩,
   ⟨st ((dev [(0x5F10 + 1, 3,
     3)]).onSampler 1 (fun s => { s with arm := (17 * 256 ^ 15 + 1 * 256 ^ 14 + 1 * 256 ^ 12 + 17 * 256 ^ 11 + 1 * 256 ^ 9) })), own, 1, 2097151,
     ⟨Ready.of_checks (by decide +kernel), by decide +kernel⟩⟩,
   ⟨st live, own, 1, 0, ⟨Ready.of_checks (by decide +kernel), by decide +kernel⟩⟩,
   ⟨st live, own, 1, by decide +kernel⟩⟩
theorem test_met_TelemetryChains :
    (∃ (s : State) (p : Port) (k : Pair), (s.dev.tlmOn p = false ∨ s.dev.tlmCount / s.dev.get 0x5F00 9 ≤ ((s.dev.port p).tlm.get k).next))
    ∧ (∃ (s : State) (p : Port) (k : Pair), s.dev.tlmOn p = true ∧ ((s.dev.port p).tlm.get k).next < s.dev.tlmCount / s.dev.get 0x5F00 9)
    ∧ (∃ (d : Dev), (d.tlm.lastAt = none ∨ ∃ t, d.tlm.lastAt = some t ∧ t + 100 ≤ d.uptime))
    ∧ (∃ (d : Dev) (edge : Bool), d.tlm.lastAt = some d.uptime ∧ (if edge then d.tlm.lastEdge else d.tlm.lastWrite) = false)
    ∧ (∃ (d : Dev) (edge : Bool) (t : Nat), d.tlm.lastAt = some t ∧ t ≤ d.uptime ∧ d.uptime < t + 100 ∧ (t = d.uptime →
      (if edge then d.tlm.lastEdge else d.tlm.lastWrite) = true))
    ∧ (∃ (d : Dev), (∀ n, d.samplerState n ≠ 1))
    ∧ (∃ (s : State) (r : Req), Ready s r 0x5F00 5 1)
    ∧ (∃ (s : State) (t0 : Nat), s.dev.tlm.syncAt = some t0)
    ∧ (∃ (s : State), s.dev.tlm.syncAt = none)
    ∧ (∃ (s : State) (r : Req), Ready s r 0x5F00 7 1)
    ∧ (∃ (d : Dev) (k : Nat), d.tlm.latchAt = some k ∧ k < d.tlmCount)
    ∧ (∃ (d : Dev), (∀ k ∈ d.tlm.latchAt, d.tlmCount ≤ k)) :=
  ⟨⟨st (dev [(0x5F00, 1, 0), (0x5F00, 2, 0)]), 17, 0, by decide +kernel⟩,
   ⟨st { (dev [(0x5F00, 2, 2 ^ 63)]) with time := { live.time with count := 10 ^ 15 } }, 127, 3, by decide +kernel⟩,
   ⟨{ live with tlm := { lastAt := some 5 }, uptime := 105 }, by decide +kernel⟩,
   ⟨{ live with tlm := { lastAt := some 5, lastWrite := true }, uptime := 5 }, true, by decide +kernel⟩,
   ⟨{ live with tlm := { lastAt := some 5 }, uptime := 104 }, true, 5, by decide +kernel⟩,
   ⟨live, by decide +kernel⟩,
   ⟨st live, own, Ready.of_checks (by decide +kernel)⟩,
   ⟨st { live with tlm := { syncAt := some 7 } }, 7, by decide +kernel⟩,
   ⟨st live, by decide +kernel⟩,
   ⟨st live, own, Ready.of_checks (by decide +kernel)⟩,
   ⟨{ live with tlm := { latchAt := some 0 } }, 0, by decide +kernel⟩,
   ⟨live, fun _ h => nomatch h⟩⟩
theorem test_met_CalibrationRuns :
    (∃ (s : State) (r : Req) (p : Port) (v : Nat) (m : CalMeas), Ready s r (0x5800 + p) 1 v ∧ (s.dev.port p).cal = none ∧ s.dev.calRuns p < 4 ∧
      s.dev.get (0x5800 + p) 6 ≠ 1 ∧ field v 8 5 ≠ 0 ∧ field v 0 4 ≠ 0 ∧ s.dev.calCheck p (field v 8 5) (field v 0 4) m = 0)
    ∧ (∃ (s : State) (r : Req) (p : Port) (v : Nat) (m : CalMeas), Ready s r (0x5800 + p) 1 v ∧ (s.dev.port p).cal = none ∧ s.dev.calRuns p < 4 ∧
      s.dev.get (0x5800 + p) 6 ≠ 1 ∧ s.dev.calCheck p (field v 8 5) (field v 0 4) m ≠ 0)
    ∧ (∃ (s : State) (r : Req) (p : Port) (v : Nat), Ready s r (0x5800 + p) 1 v ∧ ((s.dev.port p).cal.isSome = true ∨ 4 ≤ s.dev.calRuns p))
    ∧ (∃ (s : State) (p : Port) (m : CalMeas) (c : CalRun), (s.dev.port p).cal = some c ∧ c.storing = false ∧
      s.dev.calCheck p c.classes c.pairMask m ≠ 0)
    ∧ (∃ (s : State) (p : Port) (m : CalMeas) (c : CalRun), (s.dev.port p).cal = some c ∧ c.storing = false ∧
      s.dev.calCheck p c.classes c.pairMask m = 0)
    ∧ (∃ (s : State) (p : Port), (∀ c ∈ (s.dev.port p).cal, c.storing = true))
    ∧ (∃ (s : State) (p : Port) (c : CalRun), (s.dev.port p).cal = some c ∧ c.storing = false)
    ∧ (∃ (s : State) (p : Port) (c : CalRun), (s.dev.port p).cal = some c ∧ c.storing = true)
    ∧ (∃ (s : State) (p : Port), (∀ c ∈ (s.dev.port p).cal, c.storing = false))
    ∧ (∃ (s : State) (r : Req) (p : Port), Ready s r (0x5800 + p) 2 1)
    ∧ (∃ (s : State) (r : Req) (p : Port) (v : Nat), Writable s r (0x5800 + p) 6 v ∧ s.dev.slotChanges p v = false ∧
      (v ≠ 1 ∨ ((s.dev.port p).cal = none ∧ (s.dev.slotFor p 1).isSome = true)))
    ∧ (∃ (s : State) (r : Req) (p : Port) (v : Nat), Writable s r (0x5800 + p) 6 v ∧ s.dev.slotChanges p v = true ∧ s.dev.stagingFull = false ∧
      (v ≠ 1 ∨ ((s.dev.port p).cal = none ∧ (s.dev.slotFor p 1).isSome = true)))
    ∧ (∃ (s : State) (r : Req) (p : Port), Writable s r (0x5800 + p) 6 1 ∧ (s.dev.port p).cal.isSome = true)
    ∧ (∃ (s : State) (p : Port), (s.dev.port p).calAsked ≠ 0)
    ∧ (∃ (s : State) (p : Port), (s.dev.port p).calAsked = 0)
    ∧ (∃ (d : Dev) (p : Port), (d.get (0x5800 + p) 3 = 0 ∨ d.get (0x5800 + p) 6 = 1 ∨ (d.port p).cal.isSome = true ∨ (d.port p).tested = true))
    ∧ (∃ (d : Dev) (p : Port), d.get (0x5800 + p) 3 ≠ 0 ∧ d.get (0x5800 + p) 6 ≠ 1 ∧ (d.port p).cal = none ∧ (d.port p).tested = false ∧
      (4 ≤ d.calRuns p ∨ ∃ k : Fin 16, k.val < localOf p ∧ (d.port (portAt (dieOf p) k)).calAsked = 1))
    ∧ (∃ (d : Dev) (p : Port), d.get (0x5800 + p) 3 ≠ 0 ∧ d.get (0x5800 + p) 6 ≠ 1 ∧ (d.port p).cal = none ∧ (d.port p).tested = false ∧
      d.calRuns p < 4 ∧ (∀ k : Fin 16, k.val < localOf p → (d.port (portAt (dieOf p) k)).calAsked ≠ 1))
    ∧ (∃ (s : State) (r : Req) (v : Nat), Ready s r 0x5A00 1 v ∧ temperBad v = false ∧ s.dev.temperInvalid v = false)
    ∧ (∃ (s : State) (r : Req) (v : Nat), Ready s r 0x5A00 1 v ∧ s.dev.temperInvalid v = true) :=
  ⟨⟨st (dev [(0x4080 + 17, 4, 8), (0x4080 + 17, 6, 4), (0x4300 + 17, 1, 0x100), (0x4300 + 17, 2, 0x100), (0x4300 + 17, 3, 0x100), (0x4300 + 17, 4,
    0x100)]), own, 17, 0x10F, {}, ⟨Ready.of_checks (by decide +kernel), by decide +kernel⟩⟩,
   ⟨st live, own, 17, 0x10F, {}, ⟨Ready.of_checks (by decide +kernel), by decide +kernel⟩⟩,
   ⟨st ((dev [(0x5880 + 17, 1, 1)]).onPort 17 (fun s => { s with cal := some {} })), own, 17, 0x10F, ⟨Ready.of_checks (by decide +kernel),
     by decide +kernel⟩⟩,
   ⟨st ((dev []).onPort 17 (fun s => { s with cal := some { classes := 1 } })), 17, {}, { classes := 1 }, by decide +kernel⟩,
   ⟨st { (dev [(0x4080 + 17, 4, 8), (0x4080 + 17, 6, 4), (0x4300 + 17, 1, 0x100), (0x4300 + 17, 2, 0x100), (0x4300 + 17, 3, 0x100), (0x4300 + 17, 4, 0x100)]).onPort 17 (fun s => { s with cal := some { classes := 1 } }) with uptime := 2000 },
     17, {}, { classes := 1 }, by decide +kernel⟩,
   ⟨st ((dev []).onPort 17 (fun s => { s with cal := some { storing := true } })), 17, by decide +kernel⟩,
   ⟨st ((dev []).onPort 17 (fun s => { s with cal := some {} })), 17, {}, by decide +kernel⟩,
   ⟨st ((dev []).onPort 17 (fun s => { s with cal := some { storing := true } })), 17, { storing := true }, by decide +kernel⟩,
   ⟨st ((dev []).onPort 17 (fun s => { s with cal := some {} })), 17, by decide +kernel⟩,
   ⟨st live, own, 17, Ready.of_checks (by decide +kernel)⟩,
   ⟨st live, own, 17, 0, ⟨Writable.of_checks (by decide +kernel), by decide +kernel⟩⟩,
   ⟨st (live.onPort 17 (fun s => { s with slots := Vector.replicate 2 { cond := 0 } })), own, 17, 1, ⟨Writable.of_checks (by decide +kernel),
     by decide +kernel⟩⟩,
   ⟨st ((dev [(0x5880 + 17, 1, 1)]).onPort 17 (fun s => { s with cal := some {} })), own, 17, ⟨Writable.of_checks (by decide +kernel),
     by decide +kernel⟩⟩,
   ⟨st (live.onPort 17 (fun s => { s with calAsked := 2 })), 17, by decide +kernel⟩,
   ⟨st live, 17, by decide +kernel⟩,
   ⟨dev [(0x5800 + 17, 3, 0)], 17, by decide +kernel⟩,
   ⟨(dev [(0x5800 + 17, 3, 1), (0x5800 + 17, 5, 1)]).onPort 16 (fun s => { s with calAsked := 1 }), 17, by decide +kernel⟩,
   ⟨dev [(0x5800 + 17, 3, 1), (0x5800 + 17, 5, 1)], 17, by decide +kernel⟩,
   ⟨st live, own, 127 * 256 ^ 3 + 3 * 256 ^ 2 + 8 * 256, ⟨Ready.of_checks (by decide +kernel), by decide +kernel⟩⟩,
   ⟨st live, own, 127 * 256 ^ 3 + 3 * 256 ^ 2, ⟨Ready.of_checks (by decide +kernel), by decide +kernel⟩⟩⟩
theorem test_met_FaultLife :
    (∃ (ev : FaultEvent) (b : Block), block? ev.source = some b ∧ canReport b ev.kind = true)
    ∧ (∃ (ev : FaultEvent), (∀ b, block? ev.source = some b → canReport b ev.kind = false))
    ∧ (∃ (s : State) (src : Nat), s.dev.faultState src = 3)
    ∧ (∃ (s : State) (src : Nat), s.dev.faultState src ≠ 3)
    ∧ (∃ (s : State) (src : Nat), s.dev.faultState src = 1 ∧ src < 969)
    ∧ (∃ (s : State) (src : Nat), s.dev.faultState src ≠ 1)
    ∧ (∃ (s : State) (r : Req) (src : Nat), Ready s r (0x1C00 + src) 9 1 ∧ (block? src).isSome = true)
    ∧ (∃ (s : State) (r : Req) (src : Nat), s.dev.hears r.route = true ∧ s.dev.lostRequest (0x1C00 + src) = false ∧ block? src = none)
    ∧ (∃ (s : State) (r : Req), Ready s r 0x1FE0 3 1)
    ∧ (∃ (d : Dev) (ev : FaultEvent) (c : Nat), d.maskedBy ev = some c)
    ∧ (∃ (d : Dev) (ev : FaultEvent), d.maskedBy ev = none ∧ baseSeverity ev.kind = 4 ∧ d.faultState ev.source ≠ 4)
    ∧ (∃ (d : Dev) (ev : FaultEvent), d.maskedBy ev = none ∧ baseSeverity ev.kind = 3 ∧ (d.faultState ev.source = 0 ∨ d.faultState ev.source = 1))
    ∧ (∃ (d : Dev) (b : Block) (ev : FaultEvent), ev.source < 969 ∧ d.maskedBy ev = none ∧ baseSeverity ev.kind < 3 ∧ escalates b ev.kind = true ∧
      d.faultState ev.source = 0 ∧ (recent d.uptime (d.escalation b).2.1 ((d.faultSt ev.source).window ++ [d.uptime])).length < (d.escalation b).1)
    ∧ (∃ (d : Dev) (b : Block) (ev : FaultEvent), d.maskedBy ev = none ∧ baseSeverity ev.kind < 3 ∧ escalates b ev.kind = true ∧
      d.faultState ev.source = 0 ∧ (d.escalation b).1 ≤ (recent d.uptime (d.escalation b).2.1 ((d.faultSt ev.source).window ++ [d.uptime])).length)
    ∧ (∃ (d : Dev) (b : Block) (ev : FaultEvent), d.maskedBy ev = none ∧ baseSeverity ev.kind < 3 ∧ escalates b ev.kind = false)
    ∧ (∃ (s : State) (ev : FaultEvent) (b : Block) (v : Verdict) (e : Dev), block? ev.source = some b ∧ canReport b ev.kind = true ∧
      (s.dev.eventUp b ev).judge b ev = (v, e))
    ∧ (∃ (src : Nat) (n : Die) (w : Way) (l : Fin 34), block? src = some (.lane n w l))
    ∧ (∃ (src : Nat), (∀ n w l, block? src ≠ some (.lane n w l))) :=
  ⟨⟨{ source := 0, kind := 14 }, .port 0, by decide +kernel⟩,
   ⟨{ source := 0, kind := 18 }, every_block (f := fun b => canReport b 18) (by decide +kernel)⟩,
   ⟨st (live.setFault 968 3), 968, by decide +kernel⟩,
   ⟨st live, 968, by decide +kernel⟩,
   ⟨st (live.setFault 968 1), 968, by decide +kernel⟩,
   ⟨st live, 968, by decide +kernel⟩,
   ⟨st live, own, 968, ⟨Ready.of_checks (by decide +kernel), by decide +kernel⟩⟩,
   ⟨st live, own, 969, by decide +kernel⟩,
   ⟨st live, own, Ready.of_checks (by decide +kernel)⟩,
   ⟨(live.setFault 0x3A0 4), { source := 0, kind := 1 }, 0x3A0, by decide +kernel⟩,
   ⟨live, { source := 0x3A0, kind := 18 }, by decide +kernel⟩,
   ⟨live, { source := 0x3A8, kind := 10 }, by decide +kernel⟩,
   ⟨dev [(0x1FF0, 1, 3 * 2 ^ 24 + 1000 * 2 ^ 8)], .port 0, { source := 0, kind := 2 }, by decide +kernel⟩,
   ⟨dev [(0x1FF0, 1, 1 * 2 ^ 24 + 1000 * 2 ^ 8)], .port 0, { source := 0, kind := 2 }, by decide +kernel⟩,
   ⟨live, .port 0, { source := 0, kind := 1 }, by decide +kernel⟩,
   ⟨st live, { source := 0, kind := 14 }, .port 0, .plain,
     (((st live).dev.eventUp (.port 0) { source := 0, kind := 14 }).judge (.port 0) { source := 0, kind := 14 }).2, ⟨by decide +kernel,
     by decide +kernel, judged (by decide +kernel)⟩⟩,
   ⟨laneSrc 1 .up 33, 1, .up, 33, by decide +kernel⟩,
   ⟨0xFFFF, fun n w l h => by rw [show block? 0xFFFF = none from by decide +kernel] at h; exact nomatch h⟩⟩
theorem test_met_SupervisionAndPins :
    (∃ (s : State), s.dev.controllerRuns = true)
    ∧ (∃ (s : State), s.dev.controllerRuns = false)
    ∧ (∃ (s : State), s.dev.mgmt.serving = true ∧ s.dev.mgmt.romServes = false ∧ s.dev.safe = false)
    ∧ (∃ (s : State), (s.dev.mgmt.serving = false ∨ s.dev.mgmt.romServes = true ∨ s.dev.safe = true))
    ∧ (∃ (s : State) (r : Req) (src kind count spacing : Nat) (b : Block), Ready s r 0x1FF8 1 0 ∧ s.dev.injectAuth r s.vault.lifecycle = false ∧
      src < 65536 ∧ kind < 256 ∧ count < 256 ∧ spacing < 65536 ∧ block? src = some b ∧ s.dev.programHolds b = false ∧ s.dev.injection = none ∧
      s.dev.stagingFull = false ∧ s.vault.lifecycle ≠ 5 ∧ (s.vault.lifecycle ≠ 3 ∨ s.dev.hall.serviceUntil.isSome = true) ∧ hasChecker b kind = true ∧
      0 < count)
    ∧ (∃ (s : State) (r : Req), Ready s r 0x1FF8 1 0 ∧ s.dev.injectAuth r s.vault.lifecycle = true)
    ∧ (∃ (s : State) (r : Req) (src : Nat), Ready s r 0x1FF8 1 0 ∧ s.dev.injectAuth r s.vault.lifecycle = false ∧ src < 65536 ∧ ((∃ b,
      block? src = some b ∧ s.dev.programHolds b = true) ∨ s.dev.injection.isSome = true ∨ s.dev.stagingFull = true))
    ∧ (∃ (s : State) (r : Req) (src : Nat), Ready s r 0x1FF8 1 0 ∧ s.dev.injectAuth r s.vault.lifecycle = false ∧ src < 65536 ∧ (∀ b,
      block? src = some b → s.dev.programHolds b = false) ∧ s.dev.injection = none ∧ s.dev.stagingFull = false ∧
      (s.vault.lifecycle = 5 ∨ s.vault.lifecycle = 3 ∧ s.dev.hall.serviceUntil = none))
    ∧ (∃ (s : State) (r : Req) (src kind : Nat), Ready s r 0x1FF8 1 0 ∧ s.dev.injectAuth r s.vault.lifecycle = false ∧ src < 65536 ∧ kind < 256 ∧
      (∀ b, block? src = some b → s.dev.programHolds b = false) ∧ s.dev.injection = none ∧ s.dev.stagingFull = false ∧ s.vault.lifecycle ≠ 5 ∧
      (s.vault.lifecycle ≠ 3 ∨ s.dev.hall.serviceUntil.isSome = true) ∧ (∀ b, block? src = some b → hasChecker b kind = false))
    ∧ (∃ (s : State) (i : Injection), s.dev.injection = some i ∧ (∀ t, i.last = some t → t + i.spacing ≤ s.dev.uptime) ∧ i.left ≤ 1)
    ∧ (∃ (s : State) (i : Injection), s.dev.injection = some i ∧ (∀ t, i.last = some t → t + i.spacing ≤ s.dev.uptime) ∧ 1 < i.left)
    ∧ (∃ (s : State) (t : Nat) (i : Injection), s.dev.injection = some i ∧ i.last = some t ∧ s.dev.uptime < t + i.spacing)
    ∧ (∃ (s : State), s.dev.injection = none)
    ∧ (∃ (s : State) (r : Req), Ready s r 0x1FF8 3 1 ∧ s.dev.injectAuth r s.vault.lifecycle = false ∧ s.vault.lifecycle ≠ 5)
    ∧ (∃ (s : State), s.dev.pinsLive = true ∧ s.dev.options.pinEnable.testBit 0 = true)
    ∧ (∃ (s : State), (s.dev.pinsLive = false ∨ s.dev.options.pinEnable.testBit 0 = false))
    ∧ (∃ (s : State), s.vault.lifecycle ≠ 1 ∧ s.vault.lifecycle ≠ 4)
    ∧ (∃ (s : State), (s.vault.lifecycle = 1 ∨ s.vault.lifecycle = 4)) :=
  ⟨⟨st live, by decide +kernel⟩,
   ⟨State.reset, by decide +kernel⟩,
   ⟨st live, by decide +kernel⟩,
   ⟨State.reset, by decide +kernel⟩,
   ⟨st live, own, 0, 1, 255, 65535, .port 0, ⟨Ready.of_checks (by decide +kernel), by decide +kernel⟩⟩,
   ⟨st live, aud, ⟨Ready.of_checks (by decide +kernel), by decide +kernel⟩⟩,
   ⟨st { live with injection := some { source := 0, kind := 1, left := 1, spacing := 0 } }, own, 0, ⟨Ready.of_checks (by decide +kernel),
     by decide +kernel, by decide +kernel, .inr (.inl (by decide +kernel))⟩⟩,
   ⟨st live { lifecycle := 5 }, own, 0, ⟨Ready.of_checks (by decide +kernel), by decide +kernel, by decide +kernel, every_block (by decide +kernel),
     by decide +kernel⟩⟩,
   ⟨st live, own, 0, 18, ⟨Ready.of_checks (by decide +kernel), by decide +kernel, by decide +kernel, by decide +kernel,
     every_block (by decide +kernel), by decide +kernel, by decide +kernel, by decide +kernel, by decide +kernel, every_block (by decide +kernel)⟩⟩,
   ⟨st { live with injection := some { source := 0, kind := 1, left := 1, spacing := 0 } }, { source := 0, kind := 1, left := 1, spacing := 0 }, ⟨rfl,
     (fun _ h => nomatch (h : none = some _)), by decide +kernel⟩⟩,
   ⟨st { live with injection := some { source := 0, kind := 1, left := 2, spacing := 0 } }, { source := 0, kind := 1, left := 2, spacing := 0 }, ⟨rfl,
     (fun _ h => nomatch (h : none = some _)), by decide +kernel⟩⟩,
   ⟨st { live with injection := some { source := 0, kind := 1, left := 2, spacing := 5, last := some 0 } }, 0,
     { source := 0, kind := 1, left := 2, spacing := 5, last := some 0 }, by decide +kernel⟩,
   ⟨st live, by decide +kernel⟩,
   ⟨st live, own, ⟨Ready.of_checks (by decide +kernel), by decide +kernel⟩⟩,
   ⟨st { live with options := { pinEnable := 1 } }, by decide +kernel⟩,
   ⟨State.reset, by decide +kernel⟩,
   ⟨st live, by decide +kernel⟩,
   ⟨st live { lifecycle := 4 }, by decide +kernel⟩⟩
theorem test_met_AssayPrograms :
    (∃ (s : State) (r : Req) (program target : Nat), Ready s r 0x6800 2 0 ∧ s.dev.assayAuth r s.vault.lifecycle = false ∧
      s.dev.targetHeld program target = false ∧ s.dev.activating = false ∧ s.dev.runForbidden s.vault.lifecycle program target = false ∧
      runBad program target = false)
    ∧ (∃ (s : State) (r : Req), Ready s r 0x6800 2 0 ∧ s.dev.assayAuth r s.vault.lifecycle = true)
    ∧ (∃ (s : State) (r : Req) (program target : Nat), Ready s r 0x6800 2 0 ∧ s.dev.assayAuth r s.vault.lifecycle = false ∧ program < 256 ∧
      target < 256 ∧ (s.dev.targetHeld program target = true ∨ s.dev.activating = true))
    ∧ (∃ (s : State) (r : Req) (program target : Nat), Ready s r 0x6800 2 0 ∧ s.dev.assayAuth r s.vault.lifecycle = false ∧ program < 256 ∧
      target < 256 ∧ s.dev.targetHeld program target = false ∧ s.dev.activating = false ∧ s.dev.runForbidden s.vault.lifecycle program target = true)
    ∧ (∃ (s : State) (r : Req) (program target : Nat), Ready s r 0x6800 2 0 ∧ s.dev.assayAuth r s.vault.lifecycle = false ∧ program < 256 ∧
      target < 256 ∧ s.dev.targetHeld program target = false ∧ s.dev.activating = false ∧
      s.dev.runForbidden s.vault.lifecycle program target = false ∧ runBad program target = true)
    ∧ (∃ (s : State) (n : DieId) (program target : Nat), (s.dev.engineOf n).program = some (program, target))
    ∧ (∃ (s : State) (n : DieId), (s.dev.engineOf n).program = none)
    ∧ (∃ (s : State) (r : Req) (n : DieId), Ready s r 0x6800 3 n ∧ s.dev.assayAuth r s.vault.lifecycle = false)
    ∧ (∃ (s : State) (r : Req), Ready s r 0x6800 3 0xFF ∧ s.dev.assayAuth r s.vault.lifecycle = false)
    ∧ (∃ (s : State) (r : Req), Ready s r 0x6800 1 1 ∧ s.dev.assayAuth r s.vault.lifecycle = false ∧ (∀ n : DieId,
      (s.dev.assay.get n).program = none) ∧ s.dev.activating = false ∧ s.vault.lifecycle ≠ 5 ∧ s.dev.get 0x6800 5 ≠ 2)
    ∧ (∃ (s : State) (r : Req), Ready s r 0x6800 1 1 ∧ s.dev.assayAuth r s.vault.lifecycle = false ∧ ((∃ n : DieId,
      (s.dev.assay.get n).program.isSome = true) ∨ s.dev.activating = true)) :=
  ⟨⟨st live, own, 3, 127, ⟨Ready.of_checks (by decide +kernel), by decide +kernel⟩⟩,
   ⟨st live, aud, ⟨Ready.of_checks (by decide +kernel), by decide +kernel⟩⟩,
   ⟨st (live.onAssay 3 (fun e => { e with program := some (4, 3) })), own, 4, 3, ⟨Ready.of_checks (by decide +kernel), by decide +kernel⟩⟩,
   ⟨st live, own, 4, 3, ⟨Ready.of_checks (by decide +kernel), by decide +kernel⟩⟩,
   ⟨st live, own, 2, 0, ⟨Ready.of_checks (by decide +kernel), by decide +kernel⟩⟩,
   ⟨st (live.onAssay 3 (fun e => { e with program := some (4, 3) })), 3, 4, 3, by decide +kernel⟩,
   ⟨st live, 3, by decide +kernel⟩,
   ⟨st live, own, 8, ⟨Ready.of_checks (by decide +kernel), by decide +kernel⟩⟩,
   ⟨st live, own, ⟨Ready.of_checks (by decide +kernel), by decide +kernel⟩⟩,
   ⟨st live, own, ⟨Ready.of_checks (by decide +kernel), by decide +kernel⟩⟩,
   ⟨st (live.onAssay 3 (fun e => { e with program := some (4, 3) })), own, ⟨Ready.of_checks (by decide +kernel), by decide +kernel⟩⟩⟩


end Sys2Proof.Tests
end

namespace Sys2Proof.Machine

/-! ## Changes that keep to one port (O11) -/

/-- A change of the device alone that keeps to one port: `OnlyPort` with the one-way store and the queue left out. -/
def LocalTo (p : Port) (d e : Dev) : Prop := OnlyPort p { dev := d } { dev := e }

/-- A command that is an event of the device stays within a port when its change of the device does. -/
theorem gives_onlyPort_of_event {c : Instr} {s : State} {p : Port} {f : Dev → Dev} (hc : exec c s = s.event f)
    (h : LocalTo p s.dev (f s.dev)) : Gives c s (OnlyPort p s) :=
  ⟨s.onDev f, hc, { h with vault := rfl, pending := rfl }⟩

/-- The blocks of indexes that hold one object for each port (R5) start at multiples of 128. -/
theorem portOf?_base_add {b : Nat} (hb : portOf? b = some 0) (p : Port) : portOf? (b + p) = some p := by
  have hp := p.isLt
  simp only [portOf?, Option.ite_none_right_eq_some, Option.some.injEq, Fin.ext_iff] at hb ⊢
  obtain ⟨hr, h0⟩ := hb
  have h0 : b % 128 = 0 := h0
  constructor <;> omega

/-! The lemmas of `LocalTo` are named after the operation whose result they speak of: after a device that differs from `d` within the port only,
so does the device after the operation. A chain of them follows the chain of operations in a definition, and `ite` its choices. -/

namespace LocalTo

variable {p : Port} {d e : Dev}

theorem refl (p : Port) (d : Dev) : LocalTo p d d where
  vault := rfl
  pending := rfl
  ports _ _ := rfl
  objects _ _ _ _ := rfl
  dies _ _ := rfl
  link := ⟨_, fun _ _ => rfl, rfl⟩
  clocks := rfl
  pace := rfl
  time := rfl
  pps := rfl
  mgmt := rfl
  hall := rfl
  faults := rfl
  assay := rfl
  samplers := rfl
  life := ⟨rfl, rfl, rfl, rfl⟩

theorem put {b i v : Nat} (h : LocalTo p d e) (hb : portOf? b = some 0 := by decide) (hi : i < 256 := by decide) :
    LocalTo p d (e.put (b + p) i v) :=
  { h with objects := fun idx sub hs hidx =>
      have hne : b + p ≠ idx := fun he => hidx (he ▸ portOf?_base_add hb p)
      (e.get_put_other _ _ _ _ _ (key_ne_index hne hi hs)).trans (h.objects idx sub hs hidx) }

theorem count {b i n : Nat} (h : LocalTo p d e) (hb : portOf? b = some 0 := by decide) (hi : i < 256 := by decide) :
    LocalTo p d (e.count (b + p) i n) := h.put hb hi

theorem inc {b i : Nat} (h : LocalTo p d e) (hb : portOf? b = some 0 := by decide) (hi : i < 256 := by decide) :
    LocalTo p d (e.inc (b + p) i) := h.put hb hi

theorem event {b bit : Nat} (h : LocalTo p d e) (hb : portOf? b = some 0 := by decide) : LocalTo p d (e.event (b + p) bit) :=
  (h.put hb).put hb

/-- Also every update of one part of the port's record (`onLink`, `onHost`, ...), each of which is an `onPort`. -/
theorem onPort {g : PortSt → PortSt} (h : LocalTo p d e) : LocalTo p d (e.onPort p g) :=
  { h with ports := fun q hq => (e.port_onPort_other p q g (Ne.symm hq)).trans (h.ports q hq) }

/-- A choice between two changes that keep to the port. -/
theorem ite {c : Prop} {hc : Decidable c} {e₁ e₂ : Dev} (h₁ : LocalTo p d e₁) (h₂ : LocalTo p d e₂) : LocalTo p d (if c then e₁ else e₂) := by
  split
  · exact h₁
  · exact h₂

theorem emit {o : Out} (h : LocalTo p d e) : LocalTo p d (e.emit o) := { h with }

theorem newDraw (h : LocalTo p d e) : LocalTo p d e.newDraw := { h with }

theorem activity (h : LocalTo p d e) : LocalTo p d (e.activity p) := by
  unfold Dev.activity
  split
  · exact ite h { h with }
  · exact { h with }

/-- The frame that arrives for the port over its line die's link may change. -/
theorem onArrival {a : Arrival} {g : RxFrame → RxFrame} (h : LocalTo p d e) : LocalTo p d (e.onArrival p a g) := by
  cases a with
  | line => exact h.onPort
  | twill =>
    obtain ⟨v, hv, he⟩ := h.link
    have he : e.dies.get (dieOf p) = { d.dies.get (dieOf p) with up := { (d.dies.get (dieOf p)).up with frames := v } } := he
    exact { h with
      dies := fun n hn => (upd_other _ _ _ _ (Ne.symm hn)).trans (h.dies n hn)
      link := ⟨upd v (placeOf p) (fun o => o.map (fun x => (x.1, g x.2))),
        fun k hk => (upd_other _ _ _ _ (Ne.symm hk)).trans (hv k hk), (upd_same _ _ _).trans (by rw [he])⟩ }

theorem forAll {n : Nat} {g : Fin n → Dev → Dev} (h : LocalTo p d e) (hg : ∀ i e, LocalTo p d e → LocalTo p d (g i e)) :
    LocalTo p d (Machine.forAll n g e) :=
  foldl_keeps (LocalTo p d) _ _ (fun e i he => hg i e he) h

/-! ## Frames at the host lane -/

theorem countDiscard {q : Fin 32} {cause n : Nat} (h : LocalTo p d e) (hc : cause < 256 := by decide) :
    LocalTo p d (e.countDiscard p q cause n) :=
  ite h ((h.count (hi := hc)).count (hi := by omega))

theorem countLeft {q : Fin 32} {bytes : Nat} (h : LocalTo p d e) : LocalTo p d (e.countLeft p q bytes) :=
  ((h.inc (hi := by omega)).count (hi := by omega)).activity

theorem sendToSwitch {fr : EthFrame} (h : LocalTo p d e) : LocalTo p d (e.sendToSwitch p fr) :=
  (h.inc.count).emit

theorem flowCheck {dir : Dir} (h : LocalTo p d e) : LocalTo p d (e.flowCheck p dir) :=
  ite h h.onPort

theorem cutOne {a : Arrival} {fault : Bool} (h : LocalTo p d e) : LocalTo p d (e.cutOne p a fault) := by
  unfold Dev.cutOne
  split
  · exact ite (flowCheck (ite h.sendToSwitch.onArrival.countDiscard h.sendToSwitch.onArrival.countLeft)) h
  · exact h

theorem cutArrival (h : LocalTo p d e) : LocalTo p d (e.cutArrival p) := h.cutOne.cutOne

theorem putBack {cause : Nat} {t : TxFrame} (h : LocalTo p d e) (hc : cause < 256 := by decide) : LocalTo p d (e.putBack p cause t) := by
  unfold Dev.putBack
  split
  · exact ite h (ite (h.countDiscard hc) h.onPort)
  · exact h

theorem abortStream (h : LocalTo p d e) : LocalTo p d (e.abortStream p) :=
  List.foldrRecOn _ _ h.onPort (fun _ h _ _ => h.putBack)

theorem laneDown (h : LocalTo p d e) : LocalTo p d (e.laneDown p) :=
  ite h.abortStream.cutArrival.put.event.inc.onPort h

theorem faultSequence (fault : HostFault) (h : LocalTo p d e) : LocalTo p d (e.faultSequence p fault) := by
  refine ite h ?_
  cases fault with
  | localFault => exact h.onPort.abortStream.cutArrival.event
  | remoteFault => exact h.onPort.cutArrival.event
  | none => exact h.onPort

/-! ## Sealing keys -/

theorem keySwitch (h : LocalTo p d e) : LocalTo p d (e.keySwitch p) := by
  unfold Dev.keySwitch
  split
  · exact h
  · exact h.onPort

theorem oldKeyErase (h : LocalTo p d e) : LocalTo p d (e.oldKeyErase p) := by
  unfold Dev.oldKeyErase
  split
  · exact h
  · exact h.keySwitch.onPort

/-! ## The selvage channel -/

theorem queueService {m : SelvageMsg} (h : LocalTo p d e) : LocalTo p d (e.queueService p m) :=
  ite h.onPort (ite h.onPort h.inc)

theorem gotMessage (h : LocalTo p d e) : LocalTo p d (e.gotMessage p) := h.inc

theorem queryEnd (h : LocalTo p d e) : LocalTo p d (e.queryEnd p) := ite h.put h

theorem rxQuery {item : Nat} (h : LocalTo p d e) : LocalTo p d (e.rxQuery p item) :=
  ite h.gotMessage.queueService h.gotMessage.queueService

/-- A reply is counted as one that nothing asked for, or as a message whose data are stored for its item. -/
theorem rxReply {item result : Nat} {data : List Byte} (h : LocalTo p d e) : LocalTo p d (e.rxReply p item result data) :=
  ite h.inc (ite h.gotMessage (ite (h.gotMessage.put (hi := by split <;> decide)).put h.gotMessage.put))

theorem rxRelockReport {held : Nat} (h : LocalTo p d e) : LocalTo p d (e.rxRelockReport p held) :=
  h.gotMessage.event.inc.put.put.put

theorem rxTelemetry {margins : List Int} (h : LocalTo p d e) : LocalTo p d (e.rxTelemetry p margins) :=
  (h.gotMessage.forAll (fun _ _ h => h.put (hi := by omega))).onPort

theorem telemetryTick (h : LocalTo p d e) : LocalTo p d (e.telemetryTick p) :=
  (ite h.queueService h).onPort

theorem msgStart (h : LocalTo p d e) : LocalTo p d (e.msgStart p) := by
  refine ite h ?_
  split
  · exact h.onPort
  · exact h.onPort
  · exact h

/-! ## Adaptation and checkpoints -/

theorem moveOn {refresh : Bool} (h : LocalTo p d e) : LocalTo p d (e.moveOn p refresh) :=
  h.newDraw.onPort.forAll (fun _ _ h => h.forAll (fun _ _ h => ite h.onPort (ite h.onPort h)))

theorem checkpoint (h : LocalTo p d e) : LocalTo p d (e.checkpoint p) :=
  ite h (ite h.onPort h.moveOn.onPort.moveOn)

theorem checkpointDone (h : LocalTo p d e) : LocalTo p d (e.checkpointDone p) := by
  unfold Dev.checkpointDone
  split
  · exact h
  · exact ite h.onPort.inc.checkpoint h.onPort.inc

/-! ## Trims and telemetry -/

theorem calState (h : LocalTo p d e) : LocalTo p d (e.calState p) := h.put

theorem diagStale (h : LocalTo p d e) : LocalTo p d (e.diagStale p) := ite h.put h

theorem diagLatch (h : LocalTo p d e) : LocalTo p d (e.diagLatch p) :=
  ite h h.newDraw.onPort

theorem trimStart {pair : Pair} {target : List Int} (h : LocalTo p d e) : LocalTo p d (e.trimStart p pair target) :=
  ite h.onPort.diagStale h.onPort

theorem trimNext {pair : Pair} {waiting : Option (List Int)} {suspended : Bool} (h : LocalTo p d e) :
    LocalTo p d (e.trimNext p pair waiting suspended) := by
  unfold Dev.trimNext
  split
  · exact h.trimStart.onPort
  · exact ite h.trimStart h

theorem trimEnd {pair : Pair} (h : LocalTo p d e) : LocalTo p d (e.trimEnd p pair) := by
  unfold Dev.trimEnd
  dsimp only
  split
  · exact h
  · exact h.onPort.onPort.trimNext.calState.diagLatch

theorem tlmFlags {pair : Pair} {v : Nat} (h : LocalTo p d e) : LocalTo p d (e.tlmFlags p pair v) := h.put

theorem tlmPut {pair : Pair} {peak rms env : Nat} (h : LocalTo p d e) : LocalTo p d (e.tlmPut p pair peak rms env) :=
  ((h.put (hi := by omega)).put (hi := by omega)).put (hi := by omega)

theorem tlmBlock {pair : Pair} {symbols : List Nat} (h : LocalTo p d e) : LocalTo p d (e.tlmBlock p pair symbols) :=
  have stored : LocalTo p d _ := h.onPort.onPort.put
  ite h (ite stored.tlmPut.tlmFlags (ite stored.tlmFlags (ite stored.tlmFlags stored.tlmPut.tlmFlags)))

end LocalTo

/-- Settles O11: each command of `portLocal?` is an event of the device, and its change of the device keeps to its port. -/
theorem portCommandsStayLocal : Obligations.PortCommandsStayLocal := by
  intro c p s hc
  have start := LocalTo.refl p s.dev
  match c, hc with
  | .hlLockLost _, rfl => exact gives_onlyPort_of_event rfl start.laneDown
  | .hlFaultSequenceRx _ fault, rfl => exact gives_onlyPort_of_event rfl (start.faultSequence fault)
  | .hlHiBer _, rfl => exact gives_onlyPort_of_event rfl (.ite start start.event)
  | .pauseExpiry _ _ _, rfl => exact gives_onlyPort_of_event rfl start.onPort
  | .oldKeyErase _, rfl => exact gives_onlyPort_of_event rfl start.oldKeyErase
  | .partnerQueryTimeout _, rfl => exact gives_onlyPort_of_event rfl start.queryEnd
  | .partnerQueryRx _ _, rfl => exact gives_onlyPort_of_event rfl (.ite start.rxQuery start)
  | .partnerReply _ _ _ _, rfl => exact gives_onlyPort_of_event rfl (.ite start.rxReply start)
  | .selvageMsgTxStart _, rfl => exact gives_onlyPort_of_event rfl start.msgStart
  | .trimRampEnd _ _, rfl => exact gives_onlyPort_of_event rfl start.trimEnd
  | .tlmBlockEnd _ _ _, rfl => exact gives_onlyPort_of_event rfl start.tlmBlock
  | .deepRequest _, rfl => exact gives_onlyPort_of_event rfl (.ite start.put start)
  | .presencePulse _, rfl => exact gives_onlyPort_of_event rfl (.ite start.emit start)
  | .presencePulseRx _, rfl => exact gives_onlyPort_of_event rfl (.ite start.emit start)
  | .hushNote _ _ _, rfl => exact gives_onlyPort_of_event rfl (.ite start.gotMessage start)
  | .relockReport _ _ _, rfl => exact gives_onlyPort_of_event rfl (.ite start.rxRelockReport start)
  | .telemetry _ _ _ _, rfl => exact gives_onlyPort_of_event rfl (.ite start.rxTelemetry start)
  | .selvageTelemetryTimer _, rfl => exact gives_onlyPort_of_event rfl start.telemetryTick
  | .ckptTimer _, rfl => exact gives_onlyPort_of_event rfl start.checkpoint
  | .checkpointDone _, rfl => exact gives_onlyPort_of_event rfl start.checkpointDone
  | .adaptHoldExpiry _, rfl => exact gives_onlyPort_of_event rfl (.ite start.onPort.moveOn start)

end Sys2Proof.Machine

namespace Sys2Proof.Machine

/-! ## Commands that are events of the device -/

/-- A command that is an event of the device does what its change of the device comes to in the present state. -/
theorem does_of_event {c : Instr} {s : State} {g f : Dev → Dev} (hc : exec c s = s.event g) (h : g s.dev = f s.dev) : Does c s f :=
  hc.trans (congrArg (fun d : Dev => (.next { s with dev := d } : Host.Outcome State Fault Refusal)) h)

/-- What holds of the state after the change that a command does, the command gives. -/
theorem Does.gives {c : Instr} {s : State} {f : Dev → Dev} {P : State → Prop} (h : Does c s f) (hP : P (s.onDev f)) : Gives c s P :=
  ⟨_, h, hP⟩

/-! ## Voltage loops and pace faults (O22) -/

theorem Dev.avsDone_good {d : Dev} {dom : Domain} (hc : d.mayCommand dom = true) :
    d.avsDone dom true = d.onLoop dom (fun l => { l with avsFails := 0 }) := by
  simp [Dev.avsDone, hc]

theorem Dev.avsDone_failed_again {d : Dev} {dom : Domain} (hc : d.mayCommand dom = true) (hf : (d.loop dom).avsFails < 2) :
    d.avsDone dom false = d.onLoop dom (fun l => { l with avsFails := l.avsFails + 1 }) := by
  simp [Dev.avsDone, hc, hf]

/-- The third failure in a row (R467). -/
theorem Dev.avsDone_failed_out {d : Dev} {dom : Domain} (hc : d.mayCommand dom = true) (hf : 2 ≤ (d.loop dom).avsFails) :
    d.avsDone dom false = ((d.onLoop dom (fun l => { l with avsFails := 0 })).event (paceEvents dom) 25).powerCondition dom 0 := by
  have hn : ¬ (d.loop dom).avsFails + 1 < 3 := by omega
  simp only [Dev.avsDone, hc, hn, Bool.not_true, Bool.false_eq_true, if_false]

/-- A port's source number is its own (R397). -/
theorem block?_port (p : Port) : block? p.val = some (.port p) := dif_pos p.isLt

theorem block?_srcHostLane (p : Port) : block? (srcHostLane p) = some (.hostLane p) := by
  have hp := p.isLt
  have h1 : ¬ srcHostLane p < 0x80 := by unfold srcHostLane; omega
  have h2 : ¬ srcHostLane p < 0x100 := by unfold srcHostLane; omega
  have h3 : srcHostLane p < 0x180 := by unfold srcHostLane; omega
  rw [block?, dif_neg h1, dif_neg h2, dif_pos h3]
  simp [srcHostLane]

/-- An overflow or underrun of a port's buffer (R27), which stands in its line die. -/
theorem Dev.paceFault_port (d : Dev) (p : Port) (hostEnd : Bool) (dir : Dir) :
    d.paceFault p hostEnd dir = (((d.bufferLost dir (.port p)).samplerSees p 6).event 0x1208 (16 + dieOf p)).report
      { source := p.val, kind := 6, detail := match dir with | .egress => 0 | .ingress => 1 } := by
  unfold Dev.paceFault
  rw [block?_port]
  rfl

/-- One of a host lane's buffer, which stands in the host die. -/
theorem Dev.paceFault_hostLane (d : Dev) (p : Port) (hostEnd : Bool) (dir : Dir) :
    d.paceFault (srcHostLane p) hostEnd dir = ((d.bufferLost dir (.hostLane p)).event 0x1209 16).report
      { source := srcHostLane p, kind := 6, detail := match dir with | .egress => 0 | .ingress => 1 } := by
  unfold Dev.paceFault
  rw [block?_srcHostLane]
  rfl

/-- One of a twill lane's buffer, which stands in the die of its end. -/
theorem Dev.paceFault_lane {src : Nat} {n : Die} {w : Way} {l : Fin 34} (hb : block? src = some (.lane n w l)) (d : Dev) (hostEnd : Bool) (dir : Dir) :
    d.paceFault src hostEnd dir =
      ((d.bufferLost dir (.lane n w l)).event (if hostEnd = true then 0x1209 else 0x1208) (if hostEnd = true then 16 else 16 + n.val)).report
        { source := src, kind := 6, detail := match dir with | .egress => 0 | .ingress => 1 } := by
  unfold Dev.paceFault
  rw [hb]
  cases hostEnd <;> rfl

/-- A source number without a block, or whose block has no pace monitor, has no pace faults. -/
theorem Dev.paceFault_unmonitored {src : Nat} (h : ∀ b, block? src = some b → hasChecker b 6 = false) (d : Dev) (hostEnd : Bool) (dir : Dir) :
    d.paceFault src hostEnd dir = d := by
  unfold Dev.paceFault
  cases hb : block? src with
  | none => rfl
  | some b => simp [h b hb]

/-- Settles O22: each command is an event of the device; the AVS count splits at its third failure, and a pace fault splits by the block of its source
number. -/
theorem voltageLoops : Obligations.VoltageLoops := by
  refine ⟨?evaluation, ?good, ?failedAgain, ?failedOut, ?recover, ?port, ?hostLane, ?lane, ?unmonitored⟩
  case evaluation => exact fun _ _ => rfl
  case good => exact fun _ _ hc => does_of_event rfl (Dev.avsDone_good hc)
  case failedAgain => exact fun _ _ hc hf => does_of_event rfl (Dev.avsDone_failed_again hc hf)
  case failedOut => exact fun _ _ hc hf => does_of_event rfl (Dev.avsDone_failed_out hc hf)
  case recover => exact fun _ _ hg => does_of_event rfl (if_pos hg)
  case port => exact fun _ _ _ _ => does_of_event rfl (Dev.paceFault_port ..)
  case hostLane => exact fun _ _ _ _ => does_of_event rfl (Dev.paceFault_hostLane ..)
  case lane => exact fun _ _ _ _ _ _ _ hb => does_of_event rfl (Dev.paceFault_lane hb ..)
  case unmonitored => exact fun _ _ _ _ h => does_of_event rfl (Dev.paceFault_unmonitored h _ _ _)

/-! ## The state of a twill link (R287) under changes of its lanes -/

@[simp] theorem Dev.setTwill_twillState (d : Dev) (n : Die) (st : Nat) : (d.setTwill n st).twillState n = st := Dev.get_put_same ..

/-- Any other object than TWILL_STATE leaves the states of the links alone. -/
theorem Dev.put_twillState {i sub : Nat} (hi : i ≠ 0x3010) (hs : sub < 256) (d : Dev) (v : Nat) (n : Die) :
    (d.put i sub v).twillState n = d.twillState n :=
  d.get_put_other _ _ _ _ _ (key_ne_index hi hs (by omega))

theorem wayIndex_lt_two (w : Way) : wayIndex w < 2 := by cases w <;> decide

@[simp] theorem Dev.setLane_twillState (d : Dev) (m n : Die) (w : Way) (l st : Nat) : (d.setLane m w l st).twillState n = d.twillState n :=
  Dev.put_twillState (by have := wayIndex_lt_two w; omega) (by omega) d _ n

@[simp] theorem Dev.setMap_twillState (d : Dev) (m n : Die) (w : Way) (l phys : Nat) : (d.setMap m w l phys).twillState n = d.twillState n :=
  Dev.put_twillState (by have := wayIndex_lt_two w; omega) (by omega) d _ n

@[simp] theorem Dev.onDir_twillState (d : Dev) (m n : Die) (w : Way) (f : TwillDir → TwillDir) : (d.onDir m w f).twillState n = d.twillState n := rfl

/-- Steps that each leave a link's state alone leave it alone together. -/
theorem Dev.foldl_twillState {β : Type} {f : Dev → β → Dev} {n : Die} (h : ∀ d b, (f d b).twillState n = d.twillState n) (l : List β) (d : Dev) :
    (l.foldl f d).twillState n = d.twillState n :=
  foldl_keeps (fun e => e.twillState n = d.twillState n) f l (fun e b he => (h e b).trans he) rfl

@[simp] theorem Dev.allLanes_twillState (d : Dev) (m n : Die) (w : Way) (st : Nat) : (d.allLanes m w st).twillState n = d.twillState n :=
  (Dev.setLane_twillState ..).trans (Dev.foldl_twillState (fun _ _ => Dev.setLane_twillState ..) _ d)

@[simp] theorem Dev.alignDir_twillState (d : Dev) (m n : Die) (w : Way) (trained : Nat → Bool) :
    (d.alignDir m w trained).twillState n = d.twillState n := by
  rw [Dev.alignDir, Dev.onDir_twillState, Dev.foldl_twillState (fun _ _ => Dev.setLane_twillState ..),
    Dev.foldl_twillState (fun _ _ => Dev.setMap_twillState ..)]

/-! ## How a twill link comes up and goes down (O50) -/

/-- An attempt leads to TRAINING. -/
@[simp] theorem Dev.attempt_twillState (d : Dev) (n : Die) : (d.attempt n).twillState n = 1 := by
  simp [Dev.attempt]

/-- Two places that hold a lane pair each make two lane pairs. -/
theorem two_le_length_filter_range {m : Nat} {p : Nat → Bool} {a b : Fin m} (hne : a ≠ b) (ha : p a = true) (hb : p b = true) :
    2 ≤ ((List.range m).filter p).length := by
  have hnd : [a.val, b.val].Nodup := by simpa [Fin.val_inj] using hne
  have hsub : [a.val, b.val] ⊆ (List.range m).filter p := by simp [ha, hb]
  exact (hnd.subperm hsub).length_le

/-- The window ends in ALIGNING when the line die answers and two lane pairs have trained. -/
theorem Dev.windowEnd_aligns {d : Dev} {n : Die} {down up : Nat} (ht : d.twillState n = 1) (ha : d.answersTrain n = true) {a b : Fin 34} (hne : a ≠ b)
    (hda : down.testBit a = true) (hdb : down.testBit b = true) (hua : up.testBit a = true) (hub : up.testBit b = true) :
    (d.windowEnd n down up).twillState n = 2 := by
  have two : 2 ≤ ((List.range 34).filter (fun l => (down.testBit l || l ∈ (d.twillDir n .down).ready)
      && (up.testBit l || l ∈ (d.twillDir n .up).ready))).length :=
    two_le_length_filter_range hne (by simp [hda, hua]) (by simp [hdb, hub])
  simp only [Dev.windowEnd, ht, ha, two, ne_eq, not_true_eq_false, if_false, decide_true, Bool.and_true, if_true,
    Dev.alignDir_twillState, Dev.setTwill_twillState]

theorem Dev.windowEnd_unanswered {d : Dev} {n : Die} (ht : d.twillState n = 1) (ha : d.answersTrain n = false) (down up : Nat) :
    d.windowEnd n down up = d.attemptFails n := by
  simp [Dev.windowEnd, ht, ha]

theorem Dev.windowEnd_elsewhere {d : Dev} {n : Die} (ht : d.twillState n ≠ 1) (down up : Nat) : d.windowEnd n down up = d := if_pos ht

theorem Dev.linkFail_up {d : Dev} {n : Die} (ht : d.twillState n = 3) : d.linkFail n = (d.report { source := srcLink n, kind := 10 }).linkLost n :=
  if_neg (not_not.mpr ht)

/-- A die may run when its link is UP, it is STARTING or RESETTING, and it accepts its microcode (R11, R31). -/
theorem Dev.mayRun_iff (d : Dev) (n : Die) :
    d.mayRun n = true ↔ d.twillState n = 3 ∧ (d.dieState n = 1 ∨ d.dieState n = 3) ∧ (d.dies.get n).imageBad = false := by
  simp [Dev.mayRun, and_assoc]

theorem Dev.dieLoaded_runs {d : Dev} {n : Die} (h : d.mayRun n = true) : d.dieLoaded n = (d.dieRuns n).inbandWake := if_pos h

/-- A die that refuses its microcode starts again when its reset ends. -/
theorem Dev.dieLoaded_restarts {d : Dev} {n : Die} (ht : d.twillState n = 3) (hd : d.dieState n = 3) (hi : (d.dies.get n).imageBad = true) :
    d.dieLoaded n = d.setDie n 1 := by
  have hr : ¬ d.mayRun n = true := by simp [Dev.mayRun_iff, hi]
  simp [Dev.dieLoaded, hr, ht, hd]

theorem Dev.dieLoaded_waits {d : Dev} {n : Die} (hr : ¬ d.mayRun n = true) (h : d.twillState n ≠ 3 ∨ d.dieState n ≠ 3) : d.dieLoaded n = d := by
  have hw : ¬ (d.twillState n = 3 && d.dieState n = 3) = true := by simpa [imp_iff_not_or] using h
  exact (if_neg hr).trans (if_neg hw)

/-- Settles O50: each command is an event of the device, whose cases are the states of the link and of the die. -/
theorem twillComesUp : Obligations.TwillComesUp := by
  refine ⟨?attempt, ?training, ?lineAttempt, ?noAttempt, ?aligning, ?unanswered, ?noWindow, ?timeout, ?aligned, ?notAligning, ?loss, ?heldLoss,
    ?notUp, ?runs, ?restarts, ?waits⟩
  case attempt => exact fun _ _ hm => does_of_event rfl (if_pos hm)
  case training =>
    intro s n hm
    have attempts : Does (.twillAttempt n) s (fun d => d.attempt n) := does_of_event rfl (if_pos hm)
    exact attempts.gives (Dev.attempt_twillState s.dev n)
  case lineAttempt =>
    intro s n hl
    have hm : ¬ s.dev.mayAttempt n = true := by simp_all [Dev.lineTries]
    exact does_of_event rfl ((if_neg hm).trans (if_pos hl))
  case noAttempt =>
    exact fun _ _ hm hl => does_of_event rfl ((if_neg (Bool.eq_false_iff.mp hm)).trans (if_neg (Bool.eq_false_iff.mp hl)))
  case aligning =>
    intro s n down up ht ha ⟨a, b, hne, hda, hdb, hua, hub⟩
    have ends : Does (.twillTrainWindowEnd n down up) s (fun d => d.windowEnd n down up) := rfl
    exact ends.gives (Dev.windowEnd_aligns ht ha hne hda hdb hua hub)
  case unanswered => exact fun _ _ _ _ ht ha => does_of_event rfl (Dev.windowEnd_unanswered ht ha _ _)
  case noWindow => exact fun _ _ _ _ ht => does_of_event rfl (Dev.windowEnd_elsewhere ht _ _)
  case timeout => exact fun _ _ ht => does_of_event rfl (if_pos ht)
  case aligned => exact fun _ _ ht => does_of_event rfl (if_pos ht)
  case notAligning => exact fun _ _ ht => ⟨does_of_event rfl (if_neg ht), does_of_event rfl (if_neg ht)⟩
  case loss =>
    exact fun _ _ ht hh => does_of_event rfl
      ((if_neg (not_not.mpr ht)).trans ((if_neg (Bool.eq_false_iff.mp hh)).trans (Dev.linkFail_up ht)))
  case heldLoss => exact fun _ _ ht hh => does_of_event rfl ((if_neg (not_not.mpr ht)).trans (if_pos hh))
  case notUp =>
    intro s n ht
    have hr : ¬ s.dev.mayRun n = true := fun h => ht ((s.dev.mayRun_iff n).mp h).1
    exact ⟨does_of_event rfl (if_pos ht), does_of_event rfl (Dev.dieLoaded_waits hr (.inl ht))⟩
  case runs => exact fun s n ht hd hi => does_of_event rfl (Dev.dieLoaded_runs ((s.dev.mayRun_iff n).mpr ⟨ht, hd, hi⟩))
  case restarts => exact fun _ _ ht hd hi => does_of_event rfl (Dev.dieLoaded_restarts ht hd hi)
  case waits =>
    intro s n h hd
    have hr : ¬ s.dev.mayRun n = true := by
      rw [Dev.mayRun_iff]
      rintro ⟨-, hs, hi⟩
      rcases h with h1 | hbad
      · exact hs.elim h1 hd
      · simp [hi] at hbad
    exact does_of_event rfl (Dev.dieLoaded_waits hr (.inr hd))

end Sys2Proof.Machine
namespace Sys2Proof.Machine

/-! ## The response code that wins (R36) -/

theorem Code.rank_injective : Function.Injective Code.rank := by
  intro a b h
  cases a <;> cases b <;> simp_all [Code.rank]

/-- Of two codes the first has the lower rank. -/
theorem Code.rank_first (a b : Code) : (Code.first a b).rank = min a.rank b.rank := by
  unfold Code.first
  split <;> omega

theorem Code.rank_le_ok (c : Code) : c.rank ≤ Code.ok.rank := by cases c <;> decide

/-- A condition that applies keeps every later code out. -/
theorem rank_firstCode_le {l : List (Bool × Code)} {c : Code} (h : (true, c) ∈ l) : (firstCode l).rank ≤ c.rank := by
  induction l with
  | nil => cases h
  | cons x l ih =>
    obtain ⟨b, a⟩ := x
    rcases List.mem_cons.mp h with he | hl
    · cases he
      simp [firstCode, Code.rank_first]
    · cases b
      · exact ih hl
      · simpa [firstCode, Code.rank_first] using Or.inr (ih hl)

/-- Conditions of which none that applies comes before a code give no code before it. -/
theorem le_rank_firstCode {l : List (Bool × Code)} {c : Code} (h : ∀ x ∈ l, x.1 = true → c.rank ≤ x.2.rank) : c.rank ≤ (firstCode l).rank := by
  induction l with
  | nil => exact c.rank_le_ok
  | cons x l ih =>
    obtain ⟨b, a⟩ := x
    obtain ⟨ha, hl⟩ := List.forall_mem_cons.mp h
    cases b
    · exact ih hl
    · simpa [firstCode, Code.rank_first] using ⟨ha rfl, ih hl⟩

/-- The code that applies and that no condition that applies comes before. -/
theorem firstCode_eq {l : List (Bool × Code)} {c : Code} (hc : (true, c) ∈ l) (h : ∀ x ∈ l, x.1 = true → c.rank ≤ x.2.rank) :
    firstCode l = c :=
  Code.rank_injective (Nat.le_antisymm (rank_firstCode_le hc) (le_rank_firstCode h))

/-! ## Requests that the session's role does not permit (O10) -/

/-- What the conditions of a gated write are made of: those that every write shares, and others that do not come before ERR_AUTH. -/
def GatedChecks (d : Dev) (r : Req) (idx : Nat) (checks : List (Bool × Code)) : Prop :=
  ∃ more, checks = d.gate r idx ++ more ∧ ∀ x ∈ more, Code.auth.rank ≤ x.2.rank

/-- A gated write is refused with ERR_AUTH when the session's role does not suffice, whatever else would refuse it. -/
theorem GatedChecks.firstCode_eq_auth {d : Dev} {r : Req} {idx : Nat} {checks : List (Bool × Code)} (h : GatedChecks d r idx checks)
    (hr : d.meets r (writeRole idx) = false) : firstCode checks = .auth := by
  obtain ⟨more, rfl, hmore⟩ := h
  refine firstCode_eq (by simp [Dev.gate, hr]) (fun x hx _ => ?_)
  rcases List.mem_append.mp hx with hg | hm
  · simp only [Dev.gate, List.mem_cons, List.not_mem_nil, or_false] at hg
    rcases hg with rfl | rfl | rfl <;> simp [Code.rank]
  · exact hmore x hm

/-- The conditions of a write to a command field (`Dev.command`). -/
theorem gatedChecks_command {d : Dev} {r : Req} {idx sub v : Nat} {more : List (Bool × Code)} (h : ∀ x ∈ more, Code.auth.rank ≤ x.2.rank) :
    GatedChecks d r idx (d.gate r idx ++ (misfits idx sub v, .type) :: more) :=
  ⟨_, rfl, List.forall_mem_cons.mpr ⟨by simp [Code.rank], h⟩⟩

/-- Those of a write to one that takes the value 1 only (`Dev.one`). -/
theorem gatedChecks_one {d : Dev} {r : Req} {idx sub v : Nat} {more : List (Bool × Code)} (h : ∀ x ∈ more, Code.auth.rank ≤ x.2.rank) :
    GatedChecks d r idx (d.gate r idx ++ (misfits idx sub v, .type) :: (more ++ [((v != 1), .range)])) :=
  gatedChecks_command (List.forall_mem_append.mpr ⟨h, by simp [Code.rank]⟩)

/-- Those of a write to an RW or RWL object (`Dev.plainWrite`). -/
theorem gatedChecks_plainWrite {d : Dev} {r : Req} {idx sub v : Nat} {more : List (Bool × Code)} (h : ∀ x ∈ more, Code.auth.rank ≤ x.2.rank) :
    GatedChecks d r idx (d.plainChecks r idx sub v ++ more) :=
  ⟨_, List.append_assoc .., List.forall_mem_append.mpr ⟨by simp [Code.rank], h⟩⟩

/-- A request whose write is gated is refused with ERR_AUTH, counted, and does nothing else (R65, R213). -/
theorem does_write_unauthorised (o : Vault → Dev → Op) {c : Instr} {s : State} {r : Req} {idx sub n : Nat} (hc : exec c s = s.write r idx sub o)
    (hh : s.dev.hears r.route = true) (hl : s.dev.lostRequest idx = false) (hw : writeRole idx = some n) (hr : s.dev.permits r n = false)
    (hg : GatedChecks s.dev r idx (o s.vault s.dev).checks) (hq : (o s.vault s.dev).refusal = fun _ d => d) :
    Does c s (fun d => (d.inc 0x1404 3).answer r .auth) := by
  have runs := Op.run_refused idx sub hh hl (hg.firstCode_eq_auth (by rw [hw]; exact hr)) (by decide)
  rw [hq] at runs
  exact hc.trans (congrArg (fun d : Dev => (.next { s with dev := d } : Host.Outcome State Fault Refusal)) runs)

theorem VOp.apply_refused {o : VOp} {c : Code} (h : firstCode o.checks = c) (hc : c ≠ .ok) (r : Req) (idx sub : Nat) (s : State) :
    o.apply r idx sub s = (c, s.onDev (fun d => o.always c (d.refused r idx sub c))) := by
  unfold VOp.apply
  rw [h]
  cases c with
  | ok => exact absurd rfl hc
  | _ => rfl

/-- So is one whose write may reach the one-way store. -/
theorem does_vaultWrite_unauthorised (o : VOp) {c : Instr} {s : State} {r : Req} {idx sub n : Nat}
    (hc : exec c s = s.vaultWrite r idx sub (s.dev.hears r.route) o) (hh : s.dev.hears r.route = true)
    (hw : writeRole idx = some n) (hr : s.dev.permits r n = false) (hg : GatedChecks s.dev r idx o.checks) (ha : o.always = fun _ d => d) :
    Does c s (fun d => (d.inc 0x1404 3).answer r .auth) := by
  rw [Does, hc, State.vaultWrite, VOp.apply_refused (hg.firstCode_eq_auth (by rw [hw]; exact hr)) (by decide), hh, ha]
  rfl

theorem writeRole_sealing (p : Port) : writeRole (0x4400 + p) = some 1 :=
  if_pos ⟨by omega, by omega⟩

/-- Settles O10: each request is a gated write, none of whose further conditions comes before ERR_AUTH in R36's order. -/
theorem unauthorisedRequests : Obligations.UnauthorisedRequests := by
  refine ⟨?owner, ?operator, ?viewer⟩
  case owner =>
    intro s r hh hr
    refine ⟨fun pub role => ?_, fun keyId => ?_, fun m => ?_, fun v => ?_⟩
    · exact does_vaultWrite_unauthorised (enrolOp s.vault s.dev r pub role) rfl hh rfl hr ⟨_, rfl, by simp [Code.rank, Dev.roomToLog]⟩ rfl
    · exact does_vaultWrite_unauthorised (revokeOp s.vault s.dev r keyId) rfl hh rfl hr ⟨_, rfl, by simp [Code.rank, Dev.roomToLog]⟩ rfl
    · exact does_write_unauthorised (fun _ d => d.serviceOp r m) rfl hh rfl rfl hr (gatedChecks_command (by simp [Code.rank, Dev.roomToLog])) rfl
    · exact does_write_unauthorised (fun _ d => d.lockOp r 0x6404 1 v) rfl hh rfl rfl hr ⟨_, rfl, by simp [Code.rank]⟩ rfl
  case operator =>
    intro s r hh hr
    refine ⟨fun slot length => ?_, fun offset count data => ?_, fun v => ⟨?_, ?_, ?_, ?_, ?_⟩, fun p v hl => ⟨?_, ?_, ?_, ?_⟩, fun p v hl => ?_,
      fun n t => ?_⟩
    · exact does_write_unauthorised (fun _ d => d.stageBeginOp r (slot % 256) (length % 2 ^ 32)) rfl hh rfl rfl hr
        (gatedChecks_command (by simp [Code.rank, Dev.roomToLog])) rfl
    · exact does_write_unauthorised (fun _ d => d.stageDataOp r (offset % 2 ^ 32) (count % 65536) data) rfl hh rfl rfl hr
        (gatedChecks_command (by simp [Code.rank])) rfl
    · exact does_write_unauthorised (fun _ d => d.stageVerifyOp r v) rfl hh rfl rfl hr (gatedChecks_one (by simp [Code.rank, Dev.roomToLog])) rfl
    · exact does_write_unauthorised (fun _ d => d.activateOp r v) rfl hh rfl rfl hr (gatedChecks_one (by simp [Code.rank, Dev.roomToLog])) rfl
    · exact does_vaultWrite_unauthorised (confirmOp s.dev r v) rfl hh rfl hr ⟨_, rfl, by simp [Code.rank, Dev.roomToLog]⟩ rfl
    · exact does_write_unauthorised (fun vault d => d.revertOp r vault v) rfl hh rfl rfl hr
        (gatedChecks_one (by simp [Code.rank, Dev.roomToLog])) rfl
    · exact does_write_unauthorised (fun vault d => d.recoveryExitOp r vault v) rfl hh rfl rfl hr (gatedChecks_command (by simp [Code.rank])) rfl
    · exact does_write_unauthorised (fun _ d => d.sealModeOp r p v) rfl hh hl (writeRole_sealing p) hr (gatedChecks_plainWrite (by simp)) rfl
    · exact does_write_unauthorised (fun _ d => d.rekeyOp r p v) rfl hh hl (writeRole_sealing p) hr (gatedChecks_one (by simp [Code.rank])) rfl
    · exact does_write_unauthorised (fun _ d => d.saSelectOp r p v) rfl hh hl (writeRole_sealing p) hr (gatedChecks_command (by simp [Code.rank])) rfl
    · exact does_write_unauthorised (fun _ d => d.saDeleteOp r p v) rfl hh hl (writeRole_sealing p) hr (gatedChecks_command (by simp)) rfl
    · exact does_write_unauthorised (fun _ d => d.saInstallOp r p v) rfl hh hl (writeRole_sealing p) hr (gatedChecks_command (by simp [Code.rank])) rfl
    · exact does_write_unauthorised (fun vault d => d.testStartOp r vault.lifecycle n t) rfl hh rfl rfl hr
        (gatedChecks_command (by simp [Code.rank])) rfl
  case viewer =>
    intro s r hh hr
    refine ⟨fun v => ⟨?_, ?_⟩, fun nonce => ?_⟩
    · exact does_write_unauthorised (fun _ d => d.touchSignOp r v) rfl hh rfl rfl hr (gatedChecks_one (by simp [Code.rank, Dev.roomToLog])) rfl
    · exact does_write_unauthorised (fun _ d => d.touchSelectOp r v) rfl hh rfl rfl hr (gatedChecks_command (by simp [Code.rank])) rfl
    · exact does_write_unauthorised (fun v d => attestOp v d r nonce) rfl hh rfl rfl hr (gatedChecks_command (by simp [Code.rank])) rfl

end Sys2Proof.Machine

namespace Sys2Proof.Machine

/-! ## Objects that exist -/

/-- An object of a class that neither a held twin nor an aliased bit has is a row of its index's table. -/
theorem field?_of_object? {idx sub : Nat} {ty : Ty} {cls : Cls} (h : object? idx sub = .inl (ty, cls)) (hro : cls ≠ .ro) (hrw : cls ≠ .rw) :
    wordBit? idx = none ∧ ∃ f, Catalog.field? idx sub = some f ∧ f.ty = ty ∧ f.cls = cls := by
  unfold object? at h
  cases hb : wordBit? idx with
  | some w => grind
  | none =>
    cases hf : Catalog.field? idx sub with
    | none => grind
    | some f => grind

theorem object?_of_field? {idx sub : Nat} {f : Field} (hb : wordBit? idx = none) (hf : Catalog.field? idx sub = some f) :
    object? idx sub = .inl (f.ty, f.cls) := by
  cases hr : Catalog.rec? idx with
  | none => simp [Catalog.field?, hr] at hf
  | some c => simp [object?, hb, hr, hf]

theorem sizeOf_of_field? {idx sub : Nat} {f : Field} (h : Catalog.field? idx sub = some f) : sizeOf idx sub = f.ty.size := by
  simp [sizeOf, h]

/-! ## Accesses that write an object's own device state -/

/-- An item whose write leaves the one-way store alone runs that write. -/
theorem State.writeAccess_dev {s : State} {r : Req} {w : WItem} {idx sub : Nat} {o : Op} (h : itemOp s r w = (idx, sub, .dev o)) :
    s.writeAccess r w = s.onDev (o.run r idx sub) := by
  unfold State.writeAccess Op.run State.writeItem
  rw [h]
  cases hh : s.dev.hears r.route <;> cases hl : s.dev.lostRequest idx <;>
    by_cases hc : (o.apply r idx sub s.dev).1 = .ok <;> simp [State.onDev, AnyOp.apply, AnyOp.later, hh, hl, hc]

/-- Conditions that do not apply do not change the code. -/
theorem firstCode_append_false {l : List (Bool × Code)} (h : ∀ x ∈ l, x.1 = false) (m : List (Bool × Code)) :
    firstCode (l ++ m) = firstCode m := by
  induction l with
  | nil => rfl
  | cons x l ih =>
    obtain ⟨b, c⟩ := x
    obtain ⟨hb, hl⟩ := List.forall_mem_cons.mp h
    cases hb
    exact ih hl

/-- Nor do they change what the write does. -/
theorem Op.run_under {more : List (Bool × Code)} (h : ∀ x ∈ more, x.1 = false) (o : Op) (r : Req) (idx sub : Nat) (d : Dev) :
    ({ o with checks := more ++ o.checks } : Op).run r idx sub d = o.run r idx sub d := by
  have same : ({ o with checks := more ++ o.checks } : Op).apply r idx sub d = o.apply r idx sub d := by
    unfold Op.apply
    rw [firstCode_append_false h]
  simp only [Op.run, same]

theorem Dev.meets_roleFirst {d : Dev} {r : Req} {idx : Nat} (h : d.meets r (writeRole idx) = true) (cls : Cls) :
    d.meets r (roleFirst idx cls) = true := by
  unfold roleFirst
  split
  · rfl
  · exact h

/-- A well-formed item for an object that aliases no bit, under a role that suffices, is the write of that object. -/
theorem State.writeAccess_object {s : State} {r : Req} {w : WItem} {ty : Ty} {cls : Cls} {o : Op} (hb : wordBit? w.index = none)
    (ho : object? w.index w.sub = .inl (ty, cls)) (ht : w.type = ty.code) (hl : w.length = ty.size) (hv : w.value < 256 ^ ty.size)
    (hr : s.dev.meets r (writeRole w.index) = true) (hw : writeOp s.vault s.dev r w.index w.sub w.value cls = .dev o) :
    s.writeAccess r w = s.onDev (o.run r w.index w.sub) := by
  have value : w.value % 256 ^ w.length = w.value := Nat.mod_eq_of_lt (hl ▸ hv)
  have item : itemOp s r w = (w.index, w.sub, (AnyOp.dev o).under
      [((w.type ≠ ty.code || w.length ≠ ty.size : Bool), .type), (!s.dev.meets r (roleFirst w.index cls), .auth)]) := by
    simp only [itemOp, ho, hb, value, hw]
    rfl
  rw [State.writeAccess_dev item]
  refine congrArg (fun d : Dev => { s with dev := d }) (Op.run_under ?_ o r w.index w.sub s.dev)
  simp [ht, hl, Dev.meets_roleFirst hr]

/-- None of the conditions that every write shares applies. -/
theorem Ready.gate_eq {s : State} {r : Req} {idx sub v : Nat} (h : Ready s r idx sub v) :
    s.dev.gate r idx = [(false, .auth), (false, .busy), (false, .state)] := by
  simp [Dev.gate, h.role, h.free, h.mode]

/-! ## Status objects (O13) -/

theorem Dev.event_stSeq (d : Dev) (idx bit : Nat) : (d.event idx bit).stSeq idx = (d.stSeq idx + 1) % 65536 := by
  have seq : (d.event idx bit).get idx 2 = (d.get idx 2 + 1) % 65536 := d.get_eventMask_seq idx _
  simp only [Dev.stSeq, seq, Dev.event_warmCount]
  omega

/-- In the catalogue, a status object's clear subindex comes with its sequence number, each a row of its own. -/
theorem status_rows : ∀ c ∈ Catalog.records, ∀ f, c.fields.find? (fun f => f.lo ≤ 3 && 3 ≤ f.hi) = some f → f.cls = .st →
    2 ≤ f.lo ∧ ∃ g ∈ c.fields.find? (fun f => f.lo ≤ 2 && 2 ≤ f.hi), g.cls = .st ∧ 2 ≤ g.lo := by
  decide +kernel

theorem status_fields {idx : Nat} {f : Field} (hf : Catalog.field? idx 3 = some f) (hc : f.cls = .st) :
    2 ≤ f.lo ∧ ∃ g, Catalog.field? idx 2 = some g ∧ g.cls = .st ∧ 2 ≤ g.lo := by
  unfold Catalog.field? at *
  cases hr : Catalog.rec? idx with
  | none => simp [hr] at hf
  | some c =>
    rw [hr] at hf
    exact status_rows c (List.mem_of_find?_eq_some hr) f hf hc

/-- A subindex of class ST from 2 on reads as the sequence number (R42). -/
theorem Dev.readValue_status {d : Dev} {v : Vault} {idx sub : Nat} {f : Field} (hb : wordBit? idx = none) (hf : Catalog.field? idx sub = some f)
    (hc : f.cls = .st) (hl : 2 ≤ f.lo) : d.readValue v idx sub = d.stSeq idx := by
  simp [Dev.readValue, hb, object?_of_field? hb hf, hf, hc, hl]

/-- ST_CLEAR of a status object is the write of its clear subindex. -/
theorem exec_stClear {s : State} {r : Req} {idx seq : Nat} (ho : object? idx 3 = .inl (.u16, .st)) (hr : Ready s r idx 3 seq) :
    exec (.stClear r idx seq) s = s.event ((s.dev.clearOp r idx seq).run r idx 3) := by
  obtain ⟨hb, g, hg, hty, -⟩ := field?_of_object? ho (by decide) (by decide)
  have fits : seq < 65536 := by simpa [misfits, sizeOf_of_field? hg, hty, Ty.size] using hr.fits
  exact congrArg Host.Outcome.next (State.writeAccess_object (w := { index := idx, sub := 3, type := Ty.u16.code, length := 2, value := seq })
    hb ho rfl rfl fits hr.role rfl)

/-- Settles O13: an event through the two stores it makes, a clear through the write of the clear subindex. -/
theorem statusObjects : Obligations.StatusObjects := by
  refine ⟨fun d idx bit => ⟨d.get_eventMask_bits idx _, d.event_stSeq idx bit⟩, ?clear, ?stale, ?reads⟩
  case clear =>
    intro s r idx ho hr
    have granted : firstCode (s.dev.clearOp r idx (s.dev.stSeq idx)).checks = .ok := by simp [Dev.clearOp, hr.gate_eq, hr.fits]
    exact does_of_event (exec_stClear ho hr) (Op.run_ok idx 3 hr.heard hr.delivered granted)
  case stale =>
    intro s r idx seq ho hr hne
    have refused : firstCode (s.dev.clearOp r idx seq).checks = .stale := by simp [Dev.clearOp, hr.gate_eq, hr.fits, hne, firstCode, Code.first_ok]
    exact does_of_event (exec_stClear ho hr) (Op.run_refused idx 3 hr.heard hr.delivered refused (by decide))
  case reads =>
    intro d v idx ho
    obtain ⟨hb, f, hf, -, hc⟩ := field?_of_object? ho (by decide) (by decide)
    obtain ⟨hl, g, hg, hgc, hgl⟩ := status_fields hf hc
    exact ⟨Dev.readValue_status hb hf hc hl, Dev.readValue_status hb hg hgc hgl⟩

end Sys2Proof.Machine

namespace Sys2Proof.Machine

/-! ## Locked writes (O14) -/

/-- A device whose SEAL_POLICY lock is set, with an open session of an operator, and whose SEAL_CLEAR_CLASSES of port 0 holds 256, a value that its one
byte does not hold and that no write stores. -/
def overfullClasses : State :=
  { dev := { objs := [(key 0x4400 2, 256), (key 0x6404 1, 1)]
             mgmt := { serving := true, sessions := Vector.replicate 4 { phase := 2, role := 1 } } } }

/-- Refutes O14: a write to an aliased bit of a locked word writes the word with one bit changed, and where the stored word does not fit its object that write
answers ERR_TYPE, which R36 puts before ERR_LOCKED. -/
theorem not_lockedWrites : ¬ Obligations.LockedWrites := by
  rintro ⟨-, aliasRefused, -, -⟩
  have refused := aliasRefused overfullClasses { session := 1 } 0 0 0 (by decide) (by decide) (by decide +kernel) (by decide +kernel)
    (by decide +kernel) (by decide +kernel)
  have answered : (overfullClasses.writeAccess { session := 1 }
      { index := 0x7100, sub := 1, type := Ty.bool.code, length := 1, value := 0 }).dev.out = [.answer { session := 1 } Code.type.value] := by
    decide +kernel
  have claimed := answered.symm.trans ((congrArg (fun t : State => t.dev.out) (Host.Outcome.next.inj refused)).trans (Dev.answer_out _ _ _))
  exact absurd (List.append_inj_right' (s₁ := []) claimed rfl) (by decide)

end Sys2Proof.Machine

namespace Sys2Proof.Machine

/-! ## Changes that keep to a unit's objects (O12) -/

/-- A change of the device that keeps to the objects of the indexes of which `own` holds, and leaves the parts that `rest` reads as they were. -/
structure Within (own : Nat → Prop) {α : Type} (rest : Dev → α) (d e : Dev) : Prop where
  objects : OnlyObjects own { dev := d } { dev := e }
  rest : rest e = rest d

/-- A command that is an event of the device keeps to a unit when its change of the device does. -/
theorem gives_within_of_event {c : Instr} {s : State} {f : Dev → Dev} {own : Nat → Prop} {α : Type} {rest : Dev → α} {P : State → Prop}
    (hc : exec c s = s.event f) (h : Within own rest s.dev (f s.dev)) (hP : ∀ e : Dev, rest e = rest s.dev → P { s with dev := e }) :
    Gives c s (fun t => OnlyObjects own s t ∧ P t) :=
  ⟨s.onDev f, hc, { h.objects with vault := rfl, pending := rfl }, hP _ h.rest⟩

/-! As for `LocalTo`, a lemma of `Within` is named after the operation whose result it speaks of. -/

namespace Within

variable {own : Nat → Prop} {α : Type} {rest : Dev → α} {d e : Dev}

theorem refl (own : Nat → Prop) (rest : Dev → α) (d : Dev) : Within own rest d d where
  objects :=
    { vault := rfl, pending := rfl, ports := rfl, objects := fun _ _ _ _ => rfl, clocks := rfl, pace := rfl, faults := rfl, assay := rfl
      life := ⟨rfl, rfl, rfl, rfl⟩ }
  rest := rfl

theorem put {i k v : Nat} (h : Within own rest d e) (hi : own i) (hk : k < 256 := by decide)
    (hr : ∀ (e : Dev) (i k v : Nat), rest (e.put i k v) = rest e := by intros; rfl) : Within own rest d (e.put i k v) where
  objects := { h.objects with objects := fun idx sub hs hidx =>
    have hne : i ≠ idx := fun he => hidx (he ▸ hi)
    (e.get_put_other _ _ _ _ _ (key_ne_index hne hk hs)).trans (h.objects.objects idx sub hs hidx) }
  rest := (hr e i k v).trans h.rest

theorem inc {i k : Nat} (h : Within own rest d e) (hi : own i) (hk : k < 256 := by decide)
    (hr : ∀ (e : Dev) (i k v : Nat), rest (e.put i k v) = rest e := by intros; rfl) : Within own rest d (e.inc i k) := h.put hi hk hr

theorem event {i b : Nat} (h : Within own rest d e) (hi : own i) (hr : ∀ (e : Dev) (i k v : Nat), rest (e.put i k v) = rest e := by intros; rfl) :
    Within own rest d (e.event i b) :=
  (h.put hi (hr := hr)).put hi (hr := hr)

/-- A change of parts that no object shows. -/
theorem unseen {e' : Dev} (h : Within own rest d e)
    (hs : e' = { e with time := e'.time, mgmt := e'.mgmt, hall := e'.hall, dies := e'.dies, samplers := e'.samplers, pps := e'.pps, draws := e'.draws
                        out := e'.out } := by rfl)
    (hr : rest e' = rest e := by rfl) : Within own rest d e' where
  objects :=
    { vault := rfl, pending := rfl
      ports := (congrArg Dev.ports hs).trans h.objects.ports
      objects := fun idx sub hsub hidx => (congrArg (fun x : Dev => x.get idx sub) hs).trans (h.objects.objects idx sub hsub hidx)
      clocks := (congrArg Dev.clocks hs).trans h.objects.clocks
      pace := (congrArg Dev.pace hs).trans h.objects.pace
      faults := (congrArg Dev.faults hs).trans h.objects.faults
      assay := (congrArg Dev.assay hs).trans h.objects.assay
      life := by rw [show (_ : Dev) = _ from hs]; exact h.objects.life }
  rest := hr.trans h.rest

theorem emit {o : Out} (h : Within own rest d e) (hr : ∀ e : Dev, rest (e.emit o) = rest e := by intro; rfl) : Within own rest d (e.emit o) := h.unseen rfl (hr e)

theorem newDraw (h : Within own rest d e) (hr : ∀ e : Dev, rest e.newDraw = rest e := by intro; rfl) : Within own rest d e.newDraw := h.unseen rfl (hr e)

theorem onMgmt {f : Mgmt → Mgmt} (h : Within own rest d e) (hr : ∀ e : Dev, rest (e.onMgmt f) = rest e := by intro; rfl) : Within own rest d (e.onMgmt f) :=
  h.unseen rfl (hr e)

theorem onHall {f : Hall → Hall} (h : Within own rest d e) (hr : ∀ e : Dev, rest (e.onHall f) = rest e := by intro; rfl) : Within own rest d (e.onHall f) :=
  h.unseen rfl (hr e)

theorem onDie {n : Die} {f : DieSt → DieSt} (h : Within own rest d e) (hr : ∀ e : Dev, rest (e.onDie n f) = rest e) : Within own rest d (e.onDie n f) :=
  h.unseen rfl (hr e)

theorem onSampler {n : Die} {f : SamplerSt → SamplerSt} (h : Within own rest d e) (hr : ∀ e : Dev, rest (e.onSampler n f) = rest e := by intro; rfl) :
    Within own rest d (e.onSampler n f) := h.unseen rfl (hr e)

theorem withPps {x : PpsSt} (h : Within own rest d e) (hr : ∀ e : Dev, rest { e with pps := x } = rest e := by intro; rfl) :
    Within own rest d { e with pps := x } := h.unseen rfl (hr e)

theorem withTime {x : TimeBase} (h : Within own rest d e) (hr : ∀ e : Dev, rest { e with time := x } = rest e := by intro; rfl) :
    Within own rest d { e with time := x } := h.unseen rfl (hr e)

theorem ite {c : Prop} {hc : Decidable c} {e₁ e₂ : Dev} (h₁ : Within own rest d e₁) (h₂ : Within own rest d e₂) :
    Within own rest d (if c then e₁ else e₂) := by
  split
  · exact h₁
  · exact h₂

end Within

/-! ### The time base (R320, R321) -/

def timeObject (i : Nat) : Prop := 0x6000 ≤ i ∧ i < 0x6400

/-- What the time base leaves alone beside the objects of others. -/
def timeRest (d : Dev) : Hall × Mgmt × Vector DieSt 8 := (d.hall, d.mgmt, d.dies)

theorem timeObject_0x6000 : timeObject 0x6000 := ⟨by decide, by decide⟩
theorem timeObject_0x6010 : timeObject 0x6010 := ⟨by decide, by decide⟩
theorem timeObject_0x6030 : timeObject 0x6030 := ⟨by decide, by decide⟩

namespace Within

section
variable {d e : Dev}

theorem ppsAccepted (h : Within timeObject timeRest d e) (off : Int) : Within timeObject timeRest d (e.ppsAccepted off) :=
  have told : Within timeObject timeRest d _ := ite (h.withPps.event timeObject_0x6030) h.withPps
  ite (told.withPps.newDraw.put timeObject_0x6000) told

theorem ppsEdge (h : Within timeObject timeRest d e) (time : Nat) : Within timeObject timeRest d (e.ppsEdge time) := by
  have stored (v w : Nat) : Within timeObject timeRest d ((e.put 0x6010 3 v).put 0x6010 4 w) := (h.put timeObject_0x6010).put timeObject_0x6010
  exact ite h (ite ((stored _ _).withPps.event timeObject_0x6030) ((stored _ _).ppsAccepted _))

theorem ppsMissing (h : Within timeObject timeRest d e) : Within timeObject timeRest d e.ppsMissing :=
  have told : Within timeObject timeRest d _ := ite (h.withPps.event timeObject_0x6030) h.withPps
  ite h (ite (told.withPps.event timeObject_0x6030) told)

theorem ppsRise (h : Within timeObject timeRest d e) : Within timeObject timeRest d e.ppsRise := ite h.withTime.emit h

theorem ppsFall (h : Within timeObject timeRest d e) : Within timeObject timeRest d e.ppsFall := ite h.withTime.emit h

end

end Within

/-! ### Hallmark (R218, R235, R238 to R240) -/

def hallObject (i : Nat) : Prop := 0x6400 ≤ i ∧ i < 0x6800

/-- What Hallmark leaves alone beside the objects of others. -/
def hallRest (d : Dev) : TimeBase × Mgmt × Vector DieSt 8 := (d.time, d.mgmt, d.dies)

theorem hallObject_0x6460 : hallObject 0x6460 := ⟨by decide, by decide⟩
theorem hallObject_0x6600 : hallObject 0x6600 := ⟨by decide, by decide⟩

namespace Within

section
variable {d e : Dev}

theorem touchEvent (h : Within hallObject hallRest d e) (type : Nat) (body : List Byte) : Within hallObject hallRest d (e.touchEvent type body) :=
  ite h (ite (h.onHall.inc hallObject_0x6600) h.onHall)

theorem gapEntry (h : Within hallObject hallRest d e) : Within hallObject hallRest d e.gapEntry :=
  ite h h.onHall.onHall

theorem flashCopy (h : Within hallObject hallRest d e) : Within hallObject hallRest d e.flashCopy := by
  unfold Dev.flashCopy
  split
  · exact h
  · exact h.onHall.gapEntry

theorem serviceClear (h : Within hallObject hallRest d e) : Within hallObject hallRest d e.serviceClear := ite (h.onHall.touchEvent _ _) h

theorem attestDone (h : Within hallObject hallRest d e) (v : Vault) : Within hallObject hallRest d (e.attestDone v) := by
  unfold Dev.attestDone
  split
  · exact h
  · exact ((h.put hallObject_0x6460).put hallObject_0x6460).onHall

end

end Within

/-! ### Samplers (R339, R341) -/

def samplerObject (n : Die) (i : Nat) : Prop := i = 0x5F10 + n ∨ i = 0x5F30 ∨ i = 0x5F38

/-- What the samplers leave alone beside the objects of others. -/
def samplerRest (d : Dev) : TimeBase × Mgmt × Hall × Vector DieSt 8 := (d.time, d.mgmt, d.hall, d.dies)

namespace Within

section
variable {n : Die} {d e : Dev}

theorem samplerTriggers (h : Within (samplerObject n) samplerRest d e) (position flag : Nat) :
    Within (samplerObject n) samplerRest d (e.samplerTriggers n position flag) :=
  ((h.put (.inl rfl)).event (.inr (.inl rfl))).onSampler.put (.inl rfl)

theorem samplerCommit (h : Within (samplerObject n) samplerRest d e) (samples : List (Pair × List Int)) :
    Within (samplerObject n) samplerRest d (e.samplerCommit n samples) :=
  have counted {e : Dev} {b : Nat} (h : Within (samplerObject n) samplerRest d e) :
      Within (samplerObject n) samplerRest d (((e.put (0x5F10 + n) 3 3).event 0x5F30 b).inc 0x5F38 7) :=
    ((h.put (.inl rfl)).event (.inr (.inl rfl))).inc (.inr (.inr rfl))
  have stored {e : Dev} {v i a : Nat} (h : Within (samplerObject n) samplerRest d e) :
      Within (samplerObject n) samplerRest d (((e.put (0x5F10 + n) 5 v).put (0x5F10 + n) 6 i).put (0x5F10 + n) 7 a) :=
    ((h.put (.inl rfl)).put (.inl rfl)).put (.inl rfl)
  ite h (stored (counted h.onSampler.newDraw.onSampler))

end

end Within

/-! ### Lanes of the twill links (R283, R289 to R292, R297) -/

def laneObject (i : Nat) : Prop := 0x3000 ≤ i ∧ i < 0x4000

/-- What the lanes of a die leave alone beside the objects of others: of the line dies, the others. -/
def laneRest (n : Die) (d : Dev) : TimeBase × Mgmt × Hall × ({ m : Die // m ≠ n } → DieSt) := (d.time, d.mgmt, d.hall, fun m => d.dies.get m)

theorem laneRest_onDie (n : Die) (f : DieSt → DieSt) (d : Dev) : laneRest n (d.onDie n f) = laneRest n d := by
  have others : (fun m : { m : Die // m ≠ n } => (d.onDie n f).dies.get m.1) = fun m : { m : Die // m ≠ n } => d.dies.get m.1 :=
    funext (fun m => upd_other _ _ _ _ m.2.symm)
  simp [laneRest, others]

theorem laneObject_way {i : Nat} (w : Way) (hi : 0x3000 ≤ i ∧ i < 0x3FFF := by decide) : laneObject (i + wayIndex w) := by
  have := wayIndex_lt_two w
  exact ⟨by omega, by omega⟩

theorem laneObject_die {i : Nat} (n : Die) (hi : 0x3000 ≤ i ∧ i < 0x3FF0 := by decide) : laneObject (i + n) := ⟨by omega, by omega⟩

namespace Within

section
variable {n : Die} {d e : Dev}

theorem onDir {w : Way} {f : TwillDir → TwillDir} (h : Within laneObject (laneRest n) d e) : Within laneObject (laneRest n) d (e.onDir n w f) :=
  h.onDie (laneRest_onDie n _)

theorem setLane {w : Way} {l st : Nat} (h : Within laneObject (laneRest n) d e) : Within laneObject (laneRest n) d (e.setLane n w l st) :=
  h.put (laneObject_way w) (by omega)

/-- Steps that each keep to the die's lanes keep to them together. -/
theorem foldl {β : Type} {f : Dev → β → Dev} (hf : ∀ (e : Dev) (b : β), Within laneObject (laneRest n) d e → Within laneObject (laneRest n) d (f e b))
    (l : List β) (h : Within laneObject (laneRest n) d e) : Within laneObject (laneRest n) d (l.foldl f e) :=
  foldl_keeps (Within laneObject (laneRest n) d) f l hf h

theorem laneSend {w : Way} {x : Fin 34} {header : Nat} {body : List Byte} (h : Within laneObject (laneRest n) d e) :
    Within laneObject (laneRest n) d (e.laneSend n w x header body) := h.onDir.emit

theorem laneMarker {w : Way} {x : Fin 34} {epoch : Bool} {m : MarkerBody} (h : Within laneObject (laneRest n) d e) :
    Within laneObject (laneRest n) d (e.laneMarker n w x epoch m) := h.onDir.emit

theorem fillSlot {w : Way} (h : Within laneObject (laneRest n) d e) : Within laneObject (laneRest n) d (e.fillSlot n w) :=
  foldl (fun _ _ h => ite h.onDir.emit h) _ h

theorem roundDone {w : Way} (h : Within laneObject (laneRest n) d e) : Within laneObject (laneRest n) d (e.roundDone n w) :=
  ite h (ite h.onDir h.fillSlot.onDir)

theorem idleSend {w : Way} {x : Nat} (h : Within laneObject (laneRest n) d e) : Within laneObject (laneRest n) d (e.idleSend n w x) := by
  unfold Dev.idleSend
  split
  · exact h.laneSend
  · exact h

theorem sparesIdle {w : Way} (h : Within laneObject (laneRest n) d e) : Within laneObject (laneRest n) d (e.sparesIdle n w) :=
  foldl (fun _ _ h => ite h.idleSend h) _ h

theorem turnPasses {w : Way} (h : Within laneObject (laneRest n) d e) : Within laneObject (laneRest n) d (e.turnPasses n w) :=
  ite h.onDir.sparesIdle.roundDone h.onDir

theorem idleTurn {w : Way} (h : Within laneObject (laneRest n) d e) : Within laneObject (laneRest n) d (e.idleTurn n w) := h.idleSend.turnPasses

theorem deal {w : Way} {header : Nat} {body : List Byte} (fuel : Nat) (h : Within laneObject (laneRest n) d e) :
    Within laneObject (laneRest n) d (Dev.deal n w header body fuel e) := by
  induction fuel generalizing e with
  | zero => exact h
  | succ fuel ih =>
    unfold Dev.deal
    dsimp only
    split
    · split
      · exact h.laneSend.roundDone
      · exact h
    · split
      · exact h.laneSend.turnPasses
      · exact ih h.idleTurn

theorem streamSend {w : Way} {header : Nat} {body : List Byte} (h : Within laneObject (laneRest n) d e) :
    Within laneObject (laneRest n) d (e.streamSend n w header body) := ite (h.deal 32) h

theorem laneControl {w : Way} {what lane : Nat} {more : List Nat} (h : Within laneObject (laneRest n) d e) :
    Within laneObject (laneRest n) d (e.laneControl n w what lane more) :=
  have sent : Within laneObject (laneRest n) d (e.shortMessage n w 4 (what :: lane :: more)) := foldl (fun _ _ h => h.streamSend) _ h
  sent.emit

theorem wakeLane {w : Way} {x : Fin 34} (h : Within laneObject (laneRest n) d e) : Within laneObject (laneRest n) d (e.wakeLane n w x) :=
  h.emit.onDir.laneMarker

theorem lanesReturn {w : Way} (h : Within laneObject (laneRest n) d e) : Within laneObject (laneRest n) d (e.lanesReturn n w) := by
  unfold Dev.lanesReturn
  refine (onDir (foldl (fun _ _ h => h.wakeLane) _ (foldl (fun _ _ h => ?_) _ h))).laneControl.onDir
  exact ite h.setLane h

theorem widen {w : Way} (h : Within laneObject (laneRest n) d e) : Within laneObject (laneRest n) d (e.widen n w) := ite h.lanesReturn h

theorem narrow {w : Way} (h : Within laneObject (laneRest n) d e) : Within laneObject (laneRest n) d (e.narrow n w) :=
  (foldl (fun _ _ h => h.setLane) _ h.laneControl.onDir).inc (laneObject_die n)

theorem retrainLane {w : Way} {l : Nat} (h : Within laneObject (laneRest n) d e) : Within laneObject (laneRest n) d (e.retrainLane n w l) :=
  ite h h.onDir.setLane.laneControl

theorem reinstateTimer {w : Way} {l : Nat} (h : Within laneObject (laneRest n) d e) : Within laneObject (laneRest n) d (e.reinstateTimer n w l) :=
  ite h (ite h.retrainLane h.onDir)

end

end Within

/-- The window keeps its own records: no object, and no session. -/
def windowRest (d : Dev) : TimeBase × Hall × Vector DieSt 8 × Vector Session 4 := (d.time, d.hall, d.dies, d.mgmt.sessions)

/-- Settles O12: each command is an event of the device whose change keeps to its unit. -/
theorem unitCommandsStayLocal : Obligations.UnitCommandsStayLocal := by
  refine ⟨?time, ?hallmark, ?lanes, ?samplers, ?window⟩
  case time =>
    intro s c hc
    have start := Within.refl timeObject timeRest s.dev
    have parts (e : Dev) (h : timeRest e = timeRest s.dev) :
        e.hall = s.dev.hall ∧ e.mgmt = s.dev.mgmt ∧ e.dies = s.dev.dies := by simpa [timeRest] using h
    rcases hc with ⟨time, rfl⟩ | rfl | rfl | rfl
    · exact gives_within_of_event rfl (start.ppsEdge time) parts
    · exact gives_within_of_event rfl start.ppsMissing parts
    · exact gives_within_of_event rfl start.ppsRise parts
    · exact gives_within_of_event rfl start.ppsFall parts
  case hallmark =>
    intro s c hc
    have start := Within.refl hallObject hallRest s.dev
    have parts (e : Dev) (h : hallRest e = hallRest s.dev) :
        e.time = s.dev.time ∧ e.mgmt = s.dev.mgmt ∧ e.dies = s.dev.dies := by simpa [hallRest] using h
    rcases hc with rfl | rfl | rfl | rfl
    · exact gives_within_of_event rfl start.flashCopy parts
    · exact gives_within_of_event rfl (.ite start start.onHall) parts
    · exact gives_within_of_event rfl start.serviceClear parts
    · exact gives_within_of_event rfl (.ite (start.attestDone s.vault) start) parts
  case lanes =>
    intro s n w c hc
    have start := Within.refl laneObject (laneRest n) s.dev
    have parts (e : Dev) (h : laneRest n e = laneRest n s.dev) : e.time = s.dev.time ∧ e.mgmt = s.dev.mgmt
        ∧ e.hall = s.dev.hall ∧ ∀ m : Die, m ≠ n → e.dies.get m = s.dev.dies.get m := by
      simpa [laneRest, funext_iff] using h
    rcases hc with rfl | rfl | rfl | rfl | ⟨lane, rfl⟩
    · exact gives_within_of_event rfl (.ite start (start.setLane.event (laneObject_die n))) parts
    · exact gives_within_of_event rfl start.setLane parts
    · exact gives_within_of_event rfl start.widen parts
    · exact gives_within_of_event rfl (.ite start.narrow start) parts
    · exact gives_within_of_event rfl start.reinstateTimer parts
  case samplers =>
    intro s n c hc
    have start := Within.refl (samplerObject n) samplerRest s.dev
    have parts (e : Dev) (h : samplerRest e = samplerRest s.dev) : e.time = s.dev.time ∧ e.mgmt = s.dev.mgmt
        ∧ e.hall = s.dev.hall ∧ e.dies = s.dev.dies := by simpa [samplerRest] using h
    rcases hc with ⟨pos, rfl | rfl⟩ | ⟨samples, a, b, x, rfl⟩
    · exact gives_within_of_event rfl (.ite (start.samplerTriggers pos 1) start) parts
    · exact gives_within_of_event rfl (.ite (start.samplerTriggers pos 0x20) start) parts
    · exact gives_within_of_event rfl (start.samplerCommit samples) parts
  case window =>
    intro s c hc
    have start := Within.refl (fun _ => False) windowRest s.dev
    have parts (e : Dev) (h : windowRest e = windowRest s.dev) : e.time = s.dev.time ∧ e.hall = s.dev.hall
        ∧ e.dies = s.dev.dies ∧ e.mgmt.sessions = s.dev.mgmt.sessions := by simpa [windowRest] using h
    rcases hc with ⟨prtad, mmd, addr, rfl⟩ | ⟨p, rfl⟩
    · exact gives_within_of_event rfl (.ite start.onMgmt start) parts
    · exact gives_within_of_event rfl start.onMgmt parts

end Sys2Proof.Machine

namespace Sys2Proof.Machine

/-! ## Granted writes of plain fields -/

theorem Writable.plainChecks_ok {s : State} {r : Req} {idx sub v : Nat} (h : Writable s r idx sub v) : firstCode (s.dev.plainChecks r idx sub v) = .ok := by
  simp [Dev.plainChecks, h.gate_eq, h.fits, h.unlocked, h.inRange]

/-- A plain field whose object asks nothing beyond its table, and from whose value nothing follows at once, is stored. -/
theorem Dev.plainOp_run {s : State} {r : Req} {idx sub v : Nat} (h : Writable s r idx sub v) (hc : s.dev.fieldChecks idx sub v = [])
    (ha : ∀ old d, Dev.fieldAfter idx sub old d = d) : (s.dev.plainOp r idx sub v).run r idx sub s.dev = (s.dev.stored idx sub v).answer r .ok := by
  have granted : firstCode (s.dev.plainOp r idx sub v).checks = .ok := by simp [Dev.plainOp, Dev.plainWrite, hc, h.plainChecks_ok]
  rw [Op.run_ok idx sub h.heard h.delivered granted]
  exact congrArg (fun d : Dev => d.answer r .ok) (ha _ _)

/-! ## Locks (R34, R53) -/

/-- A write to an open lock has its effect. -/
theorem Dev.lockOp_run {s : State} {r : Req} {idx sub v : Nat} (h : Ready s r idx sub v) (hopen : s.dev.flag idx sub = false)
    (hroom : v = 1 → s.dev.stagingFull = false) (hv : ¬ 1 < v) :
    (s.dev.lockOp r idx sub v).run r idx sub s.dev = ((s.dev.lockOp r idx sub v).effect s.dev).answer r .ok := by
  have room : (decide (v = 1) && s.dev.stagingFull) = false := by simpa using hroom
  have granted : firstCode (s.dev.lockOp r idx sub v).checks = .ok := by simp [Dev.lockOp, h.gate_eq, h.fits, hopen, room, hv]
  exact Op.run_ok idx sub h.heard h.delivered granted

/-! ## Windows of arbitration (R39, R385, R463) -/

theorem State.resetReach_of_accessReach {a : Access} (h : accessReach a = 0) (s : State) : s.resetReach a = 0 := by
  cases a with
  | write r w => simp [State.resetReach, h]
  | clear => rfl
  | read => rfl

theorem accessReach_write {w : WItem} (h : w.index ≠ 0x1804) (r : Req) : accessReach (.write r w) = 0 := if_neg (fun hw => h hw.1)

/-- Requests none of which asks for a reset are granted one after another. -/
theorem State.accesses_without_reset (wide : Nat) (warm : Bool) {l : List Access} (h : ∀ a ∈ l, accessReach a = 0) (s : State) :
    State.accesses wide warm s l = l.foldl (fun s a => s.access a) s := by
  induction l generalizing s with
  | nil => rfl
  | cons a l ih =>
    obtain ⟨ha, hl⟩ := List.forall_mem_cons.mp h
    simp only [State.accesses, State.resetReach_of_accessReach ha, if_true, List.foldl_cons]
    exact ih hl _

/-- A granted reset that is narrower than the widest of its window answers ERR_BUSY and does nothing (log entry 85). -/
theorem State.accesses_narrower_reset {wide : Nat} {warm : Bool} {s : State} {r : Req} {w : WItem} (l : List Access)
    (hr : 0 < s.resetReach (.write r w)) (hw : s.resetReach (.write r w) < wide) :
    State.accesses wide warm s (.write r w :: l) = State.accesses wide warm (s.onDev (fun d => d.answer r .busy)) l := by
  have asks : s.resetReach (.write r w) ≠ 0 := by omega
  simp only [State.accesses, asks, hw, if_false, if_true]
  rfl

theorem mem_of_mem_inOrder {l : List Access} {a : Access} (h : a ∈ inOrder l) : a ∈ l := by
  obtain ⟨k, -, hk⟩ := List.mem_flatMap.mp h
  exact List.mem_of_mem_filter hk

theorem routeRank_lt (r : Route) : routeRank r < 4 := by cases r <;> decide

/-- Two requests that came in the order of their routes keep it, and so do two of one route. -/
theorem inOrder_pair {a b : Access} (h : routeRank (accessRoute a) ≤ routeRank (accessRoute b)) : inOrder [a, b] = [a, b] := by
  have := routeRank_lt (accessRoute a)
  have := routeRank_lt (accessRoute b)
  generalize ha : routeRank (accessRoute a) = i at *
  generalize hb : routeRank (accessRoute b) = j at *
  interval_cases j <;> interval_cases i <;> simp [inOrder, List.range_succ, ha, hb]

/-- Two that did not change places. -/
theorem inOrder_pair_swap {a b : Access} (h : routeRank (accessRoute b) < routeRank (accessRoute a)) : inOrder [a, b] = [b, a] := by
  have := routeRank_lt (accessRoute a)
  generalize ha : routeRank (accessRoute a) = i at *
  generalize hb : routeRank (accessRoute b) = j at *
  interval_cases i <;> interval_cases j <;> simp [inOrder, List.range_succ, ha, hb]

/-- A window none of whose requests asks for a reset. -/
theorem gives_arbitrationGrant (s : State) {l : List Access} (h : ∀ a ∈ l, accessReach a = 0) :
    Gives (.arbitrationGrant l) s (fun t => t = (inOrder l).foldl (fun s a => s.access a) s) :=
  ⟨_, rfl, State.accesses_without_reset _ _ (fun _ ha => h _ (mem_of_mem_inOrder ha)) s⟩

/-! ## Bit aliases (R52) -/

/-- A write to an aliased bit of FAULT_INT_ENABLE is the write of the word. -/
theorem exec_bitAliasWrite_faultIntEnable {s : State} {r : Req} {bit v : Nat} (hb : bit < 32) (hv : v < 2) :
    exec (.bitAliasWrite r 0x7400 (bit + 1) v) s
      = s.event ((s.dev.plainOp r 0x1C00 4 (putBit (s.dev.get 0x1C00 4) bit (v = 1))).run r 0x1C00 4) := by
  have value : v % 256 ^ 1 = v := Nat.mod_eq_of_lt (by omega)
  have alias_ : object? 0x7400 (bit + 1) = .inl (.bool, .rw) := by
    have sub : bit + 1 ≤ 32 := hb
    simp [object?, wordBit?, sub]
  have item : itemOp s r { index := 0x7400, sub := bit + 1, type := Ty.bool.code, length := 1, value := v } = (0x1C00, 4,
      (AnyOp.dev (s.dev.plainOp r 0x1C00 4 (putBit (s.dev.get 0x1C00 4) bit (v = 1)))).under [(false, .type), (decide (1 < v), .range)]) := by
    simp only [itemOp, alias_, value]
    rfl
  have run := Op.run_under (more := [(false, .type), (decide (1 < v), .range)]) (by simp; omega)
    (s.dev.plainOp r 0x1C00 4 (putBit (s.dev.get 0x1C00 4) bit (v = 1))) r 0x1C00 4 s.dev
  exact congrArg Host.Outcome.next ((State.writeAccess_dev item).trans (congrArg (fun d : Dev => { s with dev := d }) run))

/-- Settles O23: a write through the run of its object's write, a window through the order of its routes. -/
theorem dictionaryWrites : Obligations.DictionaryWrites := by
  refine ⟨?granted, ?plain, ?locks, ?lockZero, ?aliasWrite, ?noAlias, ?emptyWindow, ?window, ?narrower, ?swapped, ?kept⟩
  case granted =>
    intro s r w idx sub o hi hh hl hc
    exact does_of_event (congrArg Host.Outcome.next (State.writeAccess_dev hi)) (Op.run_ok idx sub hh hl hc)
  case plain =>
    intro s r v h
    have fits : v < 65536 := by simpa [misfits, show sizeOf 0x1428 3 = 2 by decide +kernel] using h.fits
    have row : object? 0x1428 3 = .inl (.u16, .rw) := by decide +kernel
    have runs := State.writeAccess_object (s := s) (r := r) (w := { index := 0x1428, sub := 3, type := Ty.u16.code, length := 2, value := v })
      rfl row rfl rfl fits h.role rfl
    exact does_of_event (congrArg Host.Outcome.next runs) (Dev.plainOp_run h rfl (fun _ _ => rfl))
  case locks => exact fun s r lock h hopen hroom => does_of_event rfl (Dev.lockOp_run h hopen (fun _ => hroom) (by decide))
  case lockZero => exact fun s r lock h hopen => does_of_event rfl (Dev.lockOp_run h hopen (by simp) (by decide))
  case aliasWrite =>
    exact fun s r bit v hb hv h => does_of_event (exec_bitAliasWrite_faultIntEnable hb hv) (Dev.plainOp_run h rfl (fun _ _ => rfl))
  case noAlias =>
    intro s r index sub v hn hh hl
    have refused : exec (.bitAliasWrite r index sub v) s = s.event ((refusing .index).run r index sub) := if_pos (by rw [hn]; rfl)
    exact does_of_event refused (Op.run_refused index sub hh hl rfl (by decide))
  case emptyWindow => exact fun s => ⟨s, rfl, rfl⟩
  case window => exact fun s l h => gives_arbitrationGrant s h
  case narrower =>
    intro s r q w x hroute hr hw
    have widest : s.widest [.write r w, .write q x] = s.resetReach (.write q x) := by
      simp only [State.widest, List.foldl_cons, List.foldl_nil]
      omega
    refine ⟨_, rfl, ?_⟩
    rw [inOrder_pair (a := .write r w) (b := .write q x) hroute, widest]
    exact State.accesses_narrower_reset _ hr hw
  case swapped =>
    intro s r q w x hroute hw hx
    have grants := gives_arbitrationGrant s (l := [.write q x, .write r w]) (by simp [accessReach_write hw, accessReach_write hx])
    rwa [inOrder_pair_swap (a := .write q x) (b := .write r w) hroute] at grants
  case kept =>
    intro s r w x hw hx
    have grants := gives_arbitrationGrant s (l := [.write r w, .write r x]) (by simp [accessReach_write hw, accessReach_write hx])
    rwa [inOrder_pair (a := .write r w) (b := .write r x) (Nat.le_refl _)] at grants

end Sys2Proof.Machine

namespace Sys2Proof.Machine

/-! ## Request frames that the device takes (O24) -/

theorem Dev.frameIn_taken {d : Dev} {h : MHdr} {op n : Nat} {b : List Byte} (ht : (d.frameTaken h op n b).1 = true) (serve : Dev → Dev) :
    d.frameIn h op n b serve = serve (d.frameTaken h op n b).2 := if_pos ht

/-- Read items that the twill link does not lose, of a number that the request may have, and whose answers fit a response. -/
theorem Dev.serveReads_answered {v : Vault} {h : MHdr} {op low high : Nat} {items : List RItem} {d : Dev}
    (hl : ∀ i ∈ items, d.lostRequest i.index = false) (hlow : low ≤ items.length) (hhigh : items.length ≤ high)
    (hfit : d.responseLength v h items ≤ 1500) :
    d.serveReads v h op low high items
      = (Dev.readItems v (MHdr.req h) d items).2.respond h { op := op, items := (Dev.readItems v (MHdr.req h) d items).1 } := by
  have delivered : items.any (fun i => d.lostRequest i.index) = false := by simpa using hl
  have answered : (items.length < low || high < items.length || 1500 < d.responseLength v h items : Bool) = false := by simp; omega
  unfold Dev.serveReads
  rw [delivered, answered]
  rfl

/-- Write items that the twill link does not lose, of a number that the request may have. -/
theorem State.serveWrites_answered {h : MHdr} {op low high : Nat} {items : List WItem} {s : State}
    (hl : ∀ w ∈ items, s.dev.lostRequest w.index = false) (hlow : low ≤ items.length) (hhigh : items.length ≤ high) :
    s.serveWrites h op low high items = (State.writeItems (MHdr.req h) s items).2.2.onDev (fun d =>
      (State.writeItems (MHdr.req h) s items).2.1 (d.respond h { op := op, items := (State.writeItems (MHdr.req h) s items).1 })) := by
  have delivered : items.any (fun w => s.dev.lostRequest w.index) = false := by simpa using hl
  have answered : (items.length < low || high < items.length : Bool) = false := by simp; omega
  unfold State.serveWrites
  rw [delivered, answered]
  rfl

theorem State.writeFrame_taken {s : State} {h : MHdr} {op low high : Nat} {items : List WItem}
    (ht : (s.dev.frameTaken h op items.length (items.flatMap writeItemBytes)).1 = true) :
    s.writeFrame h op low high items
      = State.serveWrites h op low high items { s with dev := (s.dev.frameTaken h op items.length (items.flatMap writeItemBytes)).2 } :=
  if_pos ht

/-- Settles O24: a frame that is taken is served, and its items are served in order. -/
theorem requestsAnswered : Obligations.RequestsAnswered := by
  refine ⟨?read, ?readMulti, fun _ _ _ _ _ => rfl, ?write, ?writeMulti⟩
  case read =>
    intro s h i ht hl hfit
    have served := Dev.serveReads_answered (v := s.vault) (h := h) (op := 1) (low := 1) (high := 1) (items := [i]) (by simpa using hl) (Nat.le_refl _)
      (Nat.le_refl _) hfit
    exact does_of_event rfl ((Dev.frameIn_taken ht _).trans served)
  case readMulti =>
    intro s h items hlow hhigh ht hl hfit
    exact does_of_event rfl ((Dev.frameIn_taken ht _).trans (Dev.serveReads_answered hl hlow hhigh hfit))
  case write =>
    intro s h w ht hl
    have body : [w].flatMap writeItemBytes = writeItemBytes w := List.flatMap_singleton ..
    rw [← body] at ht hl ⊢
    exact ⟨_, rfl, (State.writeFrame_taken ht).trans (State.serveWrites_answered (by simpa using hl) (Nat.le_refl _) (Nat.le_refl _))⟩
  case writeMulti =>
    intro s h items hlow hhigh ht hl
    exact ⟨_, rfl, (State.writeFrame_taken ht).trans (State.serveWrites_answered hl hlow hhigh)⟩

end Sys2Proof.Machine

namespace Sys2Proof.Machine

/-! ## COMMIT and the configuration check (O26) -/

theorem Dev.commitAsk_taken {d : Dev} (hl : d.loaderOnly = false) (hs : d.stagingFull = false) {mode : Nat} (hm : mode ≤ 1) (h : MHdr) (value : Nat) :
    d.commitAsk h mode value = d.commitTake h mode value := by
  simp [Dev.commitAsk, hl, hs, hm]

theorem Dev.commitAsk_unknown {d : Dev} (hl : d.loaderOnly = false) (hs : d.stagingFull = false) {mode : Nat} (hm : 1 < mode) (h : MHdr) (value : Nat) :
    d.commitAsk h mode value = d.respondCode h 6 .range := by
  simp [Dev.commitAsk, hl, hs, hm]

/-- The oldest COMMIT that waits runs out of time. -/
theorem Dev.commitLate_cons {d : Dev} {j : CommitJob} {rest : List CommitJob} (h : d.mgmt.commits = j :: rest) :
    d.commitLate = ((d.onMgmt (fun m => { m with commits := rest })).giveBack 1).commitAnswer j .busy [] := by
  simp [Dev.commitLate, h]

/-- The COMMITs whose pass ends with the present one. -/
def Mgmt.mine (m : Mgmt) : List CommitJob := m.commits.filter (·.started)

/-- What a pass leaves: the COMMITs that began with it are over, those that wait have theirs next. -/
def Mgmt.passed (m : Mgmt) (result : Nat) : Mgmt :=
  { m with commits := (m.commits.filter (fun j => !j.started)).map (fun j => { j with started := true }), passDirty := false, lastPass := some result }

/-- A pass counts, unless it is a COMMIT's and a configuration write was granted in it (R50). -/
theorem Dev.passComplete_counts {d : Dev} (h : d.mgmt.mine = [] ∨ d.mgmt.passDirty = false) :
    d.passComplete = (d.mgmt.mine.foldl (Dev.commitEnd d.configCrc)
      ((d.onMgmt (·.passed d.configCrc)).put 0x1408 2 d.configCrc)).compare d.configCrc d.mgmt.lastPass := by
  refine if_neg ?_
  rcases h with h | h
  · simp [show d.mgmt.commits.filter (·.started) = [] from h]
  · simp [h]

theorem Dev.passComplete_again {d : Dev} (h : d.mgmt.mine ≠ []) (hd : d.mgmt.passDirty = true) :
    d.passComplete = d.onMgmt (fun m => { m with passDirty := false }) :=
  if_pos (by rw [hd, Bool.and_true]; exact decide_eq_true h)

theorem Dev.compare_verified {d : Dev} (h : d.get 0x1408 1 = 0) (result : Nat) (last : Option Nat) :
    d.compare result last = if result = d.get 0x1408 3 then d else d.drift := by
  simp only [Dev.compare, h]

theorem Dev.compare_drifted {d : Dev} (h : d.get 0x1408 1 = 2) (result : Nat) (last : Option Nat) :
    d.compare result last = if result = d.get 0x1408 3 then d.put 0x1408 1 0 else if last = some result then d else d.drift := by
  simp only [Dev.compare, h]

/-- Settles O26: frames through what serves them, a pass through whether it counts, its comparison through the state of the check. -/
theorem snapshotsAndConfiguration : Obligations.SnapshotsAndConfiguration := by
  refine ⟨?snapshot, ?capture, ?adopt, ?verify, ?unknownMode, ?late, ?lateWindow, ?openConfig, ?pass, ?passCommit, ?passAgain, ?sameVerified, ?drifts,
    ?driftEnds, ?driftAgain, ?driftsNew, ?checkOpen⟩
  case snapshot => exact fun s h ht hl => does_of_event rfl ((Dev.frameIn_taken ht _).trans (if_neg (by simp [hl])))
  case capture =>
    intro s j rest h
    refine does_of_event rfl ?_
    unfold Dev.snapshotTake
    rw [h]
    rfl
  case adopt => exact fun s h ht hl hs => does_of_event rfl ((Dev.frameIn_taken ht _).trans (Dev.commitAsk_taken hl hs (by decide) h 0))
  case verify => exact fun s h v ht hl hs => does_of_event rfl ((Dev.frameIn_taken ht _).trans (Dev.commitAsk_taken hl hs (Nat.le_refl 1) h _))
  case unknownMode => exact fun s h mode v hm ht hl hs => does_of_event rfl ((Dev.frameIn_taken ht _).trans (Dev.commitAsk_unknown hl hs hm h _))
  case late => exact fun s j rest h hr => does_of_event rfl ((Dev.commitLate_cons h).trans (if_neg hr))
  case lateWindow => exact fun s j rest h hr => does_of_event rfl ((Dev.commitLate_cons h).trans (if_pos hr))
  case openConfig => exact fun s h ht hl => does_of_event rfl ((Dev.frameIn_taken ht _).trans (if_neg (by simp [hl])))
  case pass =>
    intro s hr hc
    have none : s.dev.mgmt.mine = [] := by simp [Mgmt.mine, hc]
    have passed : s.dev.mgmt.passed s.dev.configCrc = { s.dev.mgmt with passDirty := false, lastPass := some s.dev.configCrc } := by
      simp [Mgmt.passed, hc]
    refine does_of_event rfl ((if_pos hr).trans (congrArg Dev.inbandWake ?_))
    rw [Dev.passComplete_counts (.inl none), none, Dev.onMgmt, passed]
    rfl
  case passCommit =>
    intro s j hr hc hj hd
    have one : s.dev.mgmt.mine = [j] := by simp [Mgmt.mine, hc, hj]
    have passed : s.dev.mgmt.passed s.dev.configCrc = { s.dev.mgmt with commits := [], passDirty := false, lastPass := some s.dev.configCrc } := by
      simp [Mgmt.passed, hc, hj]
    refine does_of_event rfl ((if_pos hr).trans (congrArg Dev.inbandWake ?_))
    rw [Dev.passComplete_counts (.inr hd), one, Dev.onMgmt, passed]
    rfl
  case passAgain =>
    intro s j rest hr hc hj hd
    have mine : s.dev.mgmt.mine ≠ [] := by simp [Mgmt.mine, hc, hj]
    exact does_of_event rfl ((if_pos hr).trans (congrArg Dev.inbandWake (Dev.passComplete_again mine hd)))
  case sameVerified => exact fun d last h => (Dev.compare_verified h _ last).trans (if_pos rfl)
  case drifts => exact fun d result last h hne => (Dev.compare_verified h result last).trans (if_neg hne)
  case driftEnds => exact fun d last h => (Dev.compare_drifted h _ last).trans (if_pos rfl)
  case driftAgain => exact fun d result h hne => (Dev.compare_drifted h result _).trans ((if_neg hne).trans (if_pos rfl))
  case driftsNew => exact fun d result last h hne hlast => (Dev.compare_drifted h result last).trans ((if_neg hne).trans (if_neg hlast))
  case checkOpen => exact fun d result last h => by simp only [Dev.compare, h]

end Sys2Proof.Machine

namespace Sys2Proof.Machine

/-! ## The life of a session (O27) -/

@[simp] theorem Dev.onSession_session (d : Dev) (n : Fin 4) (f : Session → Session) :
    (d.onSession n f).mgmt.sessions.get n = f (d.mgmt.sessions.get n) := upd_same _ _ _

@[simp] theorem Dev.sessionEnd_session (d : Dev) (n : Fin 4) : (d.sessionEnd n).mgmt.sessions.get n = {} := upd_same _ _ _

@[simp] theorem Dev.sessionEnd_objs (d : Dev) (n : Fin 4) : (d.sessionEnd n).objs = d.objs := rfl

theorem Hall.mem_askSign (h : Hall) (j : HallJob) : j ∈ (h.askSign j).signQueue := by
  unfold Hall.askSign
  split
  · assumption
  · simp

/-- What OPEN_1 puts down for the session that it opens. -/
def Dev.opened (d : Dev) (h : MHdr) (keyId xPub nonce : List Byte) (n : Fin 4) : Session :=
  { phase := 1, mac := h.mac, route := h.route, keyId := keyId, peerX := xPub, secret := d.draws, reqId := h.reqId
    transcript := exactly 8 keyId ++ exactly 56 xPub ++ exactly 16 nonce ++ open2Data n d.draws }

/-- OPEN_1 by a requester with no session in opening state, while a number is free and sessions can open. -/
theorem Dev.openFirst_opens {d : Dev} {h : MHdr} {n : Fin 4} (hs : h.session = 0) (ho : d.openingOf h = none)
    (hf : (allFin 4).find? (fun k => (d.mgmt.sessions.get k).phase = 0) = some n) (hc : d.hall.logClosed = false)
    (hr : d.get 0x6400 1 = 1 ∨ d.get 0x6400 1 = 2) (keyId xPub nonce : List Byte) :
    d.openFirst h keyId xPub nonce
      = (d.newDraw.newDraw.onSession n (fun _ => d.opened h keyId xPub nonce n)).onHall (fun q => q.askSign (.open2 n)) := by
  have may : ¬ (d.hall.logClosed || (d.get 0x6400 1 ≠ 1 && d.get 0x6400 1 ≠ 2)) = true := by
    rcases hr with hr | hr <;> simp [hc, hr]
  simp only [Dev.openFirst, hs, ho, hf, may, ne_eq, not_true_eq_false, if_false]
  rfl

theorem Dev.openThird_proves {d : Dev} {h : MHdr} {n : Fin 4} (hs : h.session = 0) (ho : d.openingOf h = some n) (sig : List Byte) :
    d.openThird h sig = (d.onSession n (fun s => { s with proving := true, reqId := h.reqId })).onHall
      (fun q => { q with verifyQueue := q.verifyQueue ++ [.open3 n sig] }) := by
  simp only [Dev.openThird, hs, ho, ne_eq, not_true_eq_false, if_false]

theorem Dev.closeSession_open {h : MHdr} {n : Fin 4} (hs : h.session = n + 1) (d : Dev) :
    d.closeSession h = (d.respond h { op := 9, status := 0 }).sessionEnd n := by
  have hn := n.isLt
  have number : (⟨h.session - 1, by omega⟩ : Fin 4) = n := Fin.ext (by simp [hs])
  exact (dif_pos ⟨by omega, by omega⟩).trans (congrArg _ number)

/-- Settles O27: each command is an event of the device, a frame's through what serves it. -/
theorem sessionLife : Obligations.SessionLife := by
  refine ⟨?opens, ?proves, ?closes, ?otherStep, ?noData, ?openTimeout, ?idleTimeout, ?notify⟩
  case opens =>
    intro s h keyId xPub nonce d1 n ht hs ho hf hc hr
    have served : Does (.open1 h keyId xPub nonce) s (fun _ => d1.openFirst h keyId xPub nonce) :=
      does_of_event rfl (by rw [Dev.frameIn_taken (by rw [ht]), ht])
    refine served.gives ?_
    simp only [State.onDev_dev, Dev.openFirst_opens hs ho hf hc hr, Dev.onHall_mgmt, Dev.onSession_session]
    exact ⟨rfl, rfl, rfl, rfl, Hall.mem_askSign _ _⟩
  case proves =>
    intro s h sig d1 n ht hs ho
    have served : Does (.open3 h sig) s (fun _ => d1.openThird h sig) := does_of_event rfl (by rw [Dev.frameIn_taken (by rw [ht]), ht])
    refine served.gives ?_
    simp only [State.onDev_dev, Dev.openThird_proves hs ho, Dev.onHall_mgmt, Dev.onSession_session, true_and]
    exact List.mem_append_right _ (List.mem_singleton_self _)
  case closes =>
    intro s h n hs ht
    have served : Does (.close { hdr := h, step := 4 }) s
        (fun d => ((d.frameTaken h 9 0 (bytesOf 1 4 ++ bytesOf 3 0)).2.respond h { op := 9, status := 0 }).sessionEnd n) :=
      does_of_event rfl ((if_neg (by simp)).trans ((Dev.frameIn_taken ht _).trans ((if_pos rfl).trans (Dev.closeSession_open hs _))))
    exact served.gives ⟨rfl, Dev.sessionEnd_session _ n⟩
  case otherStep =>
    intro s h step h1 h3 h4 ht
    exact does_of_event rfl ((if_neg (by simp [h1, h3])).trans ((Dev.frameIn_taken ht _).trans (if_neg h4)))
  case noData =>
    intro s h step hstep hh hd
    exact does_of_event rfl ((if_pos (by simpa using hstep)).trans (if_neg (by simp [hh, hd])))
  case openTimeout =>
    intro s n hp hq
    have ends : Does (.sessionOpenTimeout n) s (fun d => d.sessionEnd n) := does_of_event rfl (if_pos (by simp [hp, hq]))
    exact ends.gives ⟨Dev.sessionEnd_session _ n, rfl⟩
  case idleTimeout =>
    intro s n hp
    have ends : Does (.sessionIdleTimeout n) s (fun d => (d.sessionEnd n).event 0x1400 5) := does_of_event rfl (if_pos hp)
    exact ends.gives ⟨Dev.sessionEnd_session _ n, Dev.get_eventMask_bits _ _ _⟩
  case notify =>
    intro s idx hn h1 h2 hs
    have sends : s.dev.notifyEnd idx
        = ((s.dev.notifySend idx).onMgmt (fun m => { m with notify := assocSet m.notify idx false })).inbandWake := by
      simp [Dev.notifyEnd, hn, h1, h2, hs]
    exact does_of_event rfl sends

end Sys2Proof.Machine

namespace Sys2Proof.Machine

/-! ## The pewter window: what counting an access leaves alone -/

/-- Every access of the window counts at 0x1404:08, which no other index shows. -/
theorem Dev.get_windowCounted {i : Nat} (hi : 0x1404 ≠ i) {k : Nat} (hk : k < 256) (d : Dev) : (d.inc 0x1404 8).get i k = d.get i k :=
  d.get_inc_other _ _ _ _ (key_ne_index hi (by decide) hk)

/-- A port's control objects are held by a test of the port or by a block reset, by nothing of a line die. -/
theorem Dev.busyIndex_port (d : Dev) (p : Port) :
    d.busyIndex (0x4000 + p) = ((d.port p).tested || d.blockReset.any (fun s => resetHolds s (0x4000 + p))) := by
  have hp := p.isLt
  have noDie : objDie? (0x4000 + p) = none := by
    unfold objDie?
    rw [if_neg (by omega), if_neg (by omega), if_neg (by omega)]
  simp [Dev.busyIndex, portOf?_base_add (b := 0x4000) (by decide) p, noDie]

theorem Dev.busyIndex_windowCounted (d : Dev) (p : Port) : (d.inc 0x1404 8).busyIndex (0x4000 + p) = d.busyIndex (0x4000 + p) := by
  rw [Dev.busyIndex_port, Dev.busyIndex_port]
  rfl

theorem Dev.windowBusy_windowCounted (d : Dev) (p : Port) (mmd : Nat) : (d.inc 0x1404 8).windowBusy p mmd = d.windowBusy p mmd := by
  simp [Dev.windowBusy, Dev.busyIndex_windowCounted]

/-! ## Writes through the window (O28) -/

theorem Dev.windowWrite_undriven {d : Dev} {mmd : Nat} (h : d.windowDriven mmd = false) (f : Dev → Dev) : d.windowWrite mmd f = d := by
  simp [Dev.windowWrite, h]

theorem Dev.windowWrite_readOnly {d : Dev} {mmd : Nat} (h : d.windowDriven mmd = true) (hm : d.get 0x1440 1 = 1) (f : Dev → Dev) :
    d.windowWrite mmd f = (d.inc 0x1404 8).event 0x1400 6 := by
  simp [Dev.windowWrite, h, Dev.get_windowCounted, hm]

theorem Dev.windowWrite_open {d : Dev} {mmd : Nat} (h : d.windowDriven mmd = true) (hm : d.get 0x1440 1 ≠ 1) (f : Dev → Dev) :
    d.windowWrite mmd f = f (d.inc 0x1404 8) := by
  simp [Dev.windowWrite, h, Dev.get_windowCounted, hm]

/-- The high word of PORT_CONTROL waits in the port's latch (R71). -/
theorem Dev.regWrite_controlHigh {d : Dev} {p : Port} (hb : d.windowBusy p 30 = false) (hs : d.safe = false) (v : Nat) :
    d.regWrite p 30 1 v = d.onMgmt (fun m => { m with writeLatch := latchSet m.writeLatch p 0 v }) := by
  simp [Dev.regWrite, hb, hs, wideReg?, Dev.wideWrite]

/-- Settles O28: each command is an event of the device, whose cases are those of `Dev.windowWrite`. -/
theorem windowWrites : Obligations.WindowWrites := by
  refine ⟨?address, ?undriven, ?readOnly, ?writes, fun _ _ _ => rfl, fun _ _ v hb hs => Dev.regWrite_controlHigh hb hs v⟩
  case address => exact fun _ _ _ _ hd => does_of_event rfl (if_pos hd)
  case undriven =>
    exact fun _ _ _ _ hd => ⟨does_of_event rfl (if_neg (by simp [hd])), does_of_event rfl (Dev.windowWrite_undriven hd _)⟩
  case readOnly => exact fun _ _ _ _ hd hm => does_of_event rfl (Dev.windowWrite_readOnly hd hm _)
  case writes => exact fun _ _ _ _ hd hm => does_of_event rfl (Dev.windowWrite_open hd hm _)

end Sys2Proof.Machine

namespace Sys2Proof.Machine

/-! ## Reads through the window (O29) -/

theorem Dev.windowRead_undriven {d : Dev} {prtad mmd : Fin 32} (h : d.windowDriven mmd = false) (addr : Nat) :
    d.windowRead prtad mmd addr = (none, d) := by
  simp [Dev.windowRead, h]

/-- An access of an MMD, once counted, is held back by nothing where the port's control objects are not. -/
theorem Dev.windowBusy_free {d : Dev} {p : Port} (hb : d.busyIndex (0x4000 + p) = false) (mmd : Nat) : (d.inc 0x1404 8).windowBusy p mmd = false := by
  rw [Dev.windowBusy_windowCounted, Dev.windowBusy, hb, Bool.and_false]

/-- A soft reset that the port was not idled for answers each read of the port's MMDs with ones (log entry 86). -/
theorem Dev.windowRead_unidled {d : Dev} {prtad mmd : Fin 32} (h : d.windowDriven mmd = true) (hm : mmd ≠ 31)
    (hb : d.busyIndex (0x4000 + d.windowPort prtad) = false) (hs : d.softUnidled (d.windowPort prtad) = true) (addr : Nat) :
    d.windowRead prtad mmd addr = (some 0xFFFF, d.inc 0x1404 8) := by
  unfold Dev.windowRead
  rw [if_neg (by simp [h])]
  exact (if_neg (ne_true_of_eq_false (Dev.windowBusy_free hb mmd))).trans (if_pos (Bool.and_eq_true_iff.mpr ⟨decide_eq_true hm, hs⟩))

/-- The page register belongs to no port: nothing holds it back. -/
theorem Dev.windowRead_page {d : Dev} {prtad : Fin 32} {addr : Nat} (h : d.windowDriven 31 = true) (ha : addr % 4096 = 0) :
    d.windowRead prtad 31 addr = (some d.mgmt.page, d.inc 0x1404 8) := by
  simp [Dev.windowRead, Dev.windowBusy, Dev.narrowRead, windowReg, h, ha]

/-- The low word of the port's status, which the count of the access does not change. -/
theorem Dev.wideRead_status (d : Dev) (p : Port) :
    (d.inc 0x1404 8).wideRead p 0x100 0x100 = (d.get (0x4080 + p) 1 % 65536,
      ((d.inc 0x1404 8).onMgmt (fun m => { m with readLatch := latchSet m.readLatch p 0x100 (d.get (0x4080 + p) 1 / 65536) })).put (0x4080 + p) 1 0) := by
  have hv : (d.inc 0x1404 8).get (0x4080 + p) 1 = d.get (0x4080 + p) 1 := Dev.get_windowCounted (by omega) (by decide) d
  simp [Dev.wideRead, Dev.wideValue, Dev.statusRead, hv]

theorem Dev.windowRead_status {d : Dev} {prtad : Fin 32} (h : d.windowDriven 30 = true)
    (hb : d.busyIndex (0x4000 + d.windowPort prtad) = false) (hs : d.softUnidled (d.windowPort prtad) = false) :
    d.windowRead prtad 30 0x100 = (some (d.get (0x4080 + d.windowPort prtad) 1 % 65536),
      ((d.inc 0x1404 8).onMgmt (fun m => { m with
        readLatch := latchSet m.readLatch (d.windowPort prtad) 0x100 (d.get (0x4080 + d.windowPort prtad) 1 / 65536) })).put
          (0x4080 + d.windowPort prtad) 1 0) := by
  have hp : (d.inc 0x1404 8).windowPort prtad = d.windowPort prtad := rfl
  have hs' : (d.inc 0x1404 8).softUnidled (d.windowPort prtad) = false := hs
  simp [Dev.windowRead, Dev.windowBusy_free hb, windowReg, wideReg?, h, hp, hs', Dev.wideRead_status]

/-- The high word is what the read of the low word left in the port's latch. -/
theorem Dev.wideRead_latched {d : Dev} {p : Port} {low reg h : Nat} (hl : latchOf d.mgmt.readLatch p = some (low, h)) (hr : reg ≠ low) :
    d.wideRead p low reg = (h, d) := by
  simp [Dev.wideRead, hl, hr]

/-! ## Commands through the window (O29) -/

theorem Dev.regWrite_idle {d : Dev} {p : Port} (hs : d.safe = false) (hb : d.windowBusy p 30 = false) (v : Nat) :
    d.regWrite p 30 0x10 v = d.idleAsk p (v.testBit 0) := by
  simp [Dev.regWrite, hs, hb, wideReg?]

theorem Dev.regWrite_softReset {d : Dev} {p : Port} (hs : d.safe = false) (hb : d.windowBusy p 1 = false) :
    d.regWrite p 1 0 0x8000 = d.softResetPort p := by
  have bit15 : Nat.testBit 0x8000 15 = true := by decide
  simp [Dev.regWrite, Dev.heldWrite, hs, hb, bit15]

theorem Dev.linkState_windowCounted (d : Dev) (p : Port) : (d.inc 0x1404 8).linkState p = d.linkState p :=
  Dev.get_windowCounted (by omega) (by decide) d

theorem Dev.native_windowCounted (d : Dev) (p : Port) : (d.inc 0x1404 8).native p = d.native p := by
  have hm : (d.inc 0x1404 8).mode p = d.mode p := Dev.get_windowCounted (by omega) (by decide) d
  simp [Dev.native, hm]

/-- A standard link or attempt: what a soft reset ends, a native link or no link being none of it (R73). -/
def Dev.softResetEnds (d : Dev) (p : Port) : Bool := !d.native p && 3 ≤ d.linkState p && d.linkState p ≤ 8

theorem Dev.softResetEnds_windowCounted (d : Dev) (p : Port) : (d.inc 0x1404 8).softResetEnds p = d.softResetEnds p := by
  simp [Dev.softResetEnds, Dev.native_windowCounted, Dev.linkState_windowCounted]

/-- How a soft reset stands for its port, and which held registers it forgets. -/
def Dev.softResetStands (d : Dev) (p : Port) : Dev :=
  d.onMgmt (fun m => { m with
    softReset := if m.softReset.any (fun e => e.1 = p.val) then m.softReset else m.softReset ++ [(p.val, m.idleAsked.contains p.val && d.flightless p)]
    windowRegs := m.windowRegs.filter (fun e => e.1.1 ≠ p.val || e.1.2 = (1, 7)) })

theorem Dev.softResetPort_eq (d : Dev) (p : Port) :
    d.softResetPort p = if d.softResetEnds p then
      ((((d.softResetStands p).endFlight p 1).calUnsuitable p 6).cutLink p lossEnd).negotiate p else d.softResetStands p := rfl

/-- What a soft reset of an open window does: an access changes nothing that says whether it ends something. -/
theorem softReset_open {d : Dev} {prtad : Fin 32} (hd : d.windowDriven 1 = true) (hw : d.get 0x1440 1 ≠ 1) (hs : d.safe = false)
    (hb : d.busyIndex (0x4000 + d.windowPort prtad) = false) :
    d.windowWrite 1 (fun d => d.regWrite (d.windowPort prtad) 1 0 0x8000) =
      if d.softResetEnds (d.windowPort prtad) then
        (((((d.inc 0x1404 8).softResetStands (d.windowPort prtad)).endFlight (d.windowPort prtad) 1).calUnsuitable (d.windowPort prtad) 6).cutLink
          (d.windowPort prtad) lossEnd).negotiate (d.windowPort prtad)
      else (d.inc 0x1404 8).softResetStands (d.windowPort prtad) := by
  rw [← Dev.softResetEnds_windowCounted, ← Dev.softResetPort_eq]
  exact (Dev.windowWrite_open hd hw _).trans (Dev.regWrite_softReset hs (Dev.windowBusy_free hb 1))

/-- What asking a port to idle, or letting it go, does through an open window. -/
theorem portIdleRequest_does {s : State} {prtad : Fin 32} (hd : s.dev.windowDriven 30 = true) (hw : s.dev.get 0x1440 1 ≠ 1) (hs : s.dev.safe = false)
    (hb : s.dev.busyIndex (0x4000 + s.dev.windowPort prtad) = false) (on : Bool) :
    Does (.portIdleRequest prtad on) s (fun d => (d.inc 0x1404 8).idleAsk (d.windowPort prtad) on) := by
  have asked : Nat.testBit (if on then 1 else 0) 0 = on := by cases on <;> decide
  have write := Dev.regWrite_idle (d := s.dev.inc 0x1404 8) hs (Dev.windowBusy_free hb 30) (if on then 1 else 0)
  rw [asked] at write
  exact does_of_event rfl ((Dev.windowWrite_open hd hw _).trans write)

/-- What a write of CONFIG_GATE does through an open window. -/
theorem configGate_open {d : Dev} (hd : d.windowDriven 30 = true) (hw : d.get 0x1440 1 ≠ 1) (hs : d.safe = false) (v : Nat) :
    d.windowWrite 30 (fun d => if d.safe then d else d.configGate v) = (d.inc 0x1404 8).configGate v :=
  (Dev.windowWrite_open hd hw _).trans (if_neg (ne_true_of_eq_false hs))

/-- Settles O29: a read is what `Dev.windowRead` reads, a command what its register's write does in an open window. -/
theorem windowReadsAndCommands : Obligations.WindowReadsAndCommands := by
  refine ⟨?undriven, ?driven, ?page, ?status, fun _ _ _ hl => Dev.wideRead_latched hl (by decide), ?gateOpen, ?gateCommit, ?idle, ?unidle, ?stands, ?ends,
    ?unidled, fun _ _ => rfl⟩
  case undriven =>
    intro s prtad mmd hd
    have read := Dev.windowRead_undriven (prtad := prtad) hd (s.dev.mdioAt prtad mmd)
    constructor
    · exact does_of_event rfl (by rw [read])
    · exact does_of_event rfl (by simp [read, hd])
  case driven => exact fun _ _ _ hd => ⟨rfl, does_of_event rfl (by simp [hd])⟩
  case page => exact fun _ _ hd ha => does_of_event rfl (by simp only [Dev.windowRead_page hd ha])
  case status => exact fun _ _ hd ha hb hs => does_of_event rfl (by rw [ha, Dev.windowRead_status hd hb hs])
  case gateOpen => exact fun _ hd hw hs => does_of_event rfl (configGate_open hd hw hs 1)
  case gateCommit =>
    intro s hd hw hs hf
    have room : (s.dev.inc 0x1404 8).stagingFull = false := hf
    exact does_of_event rfl ((configGate_open hd hw hs 2).trans (by simp [Dev.configGate, room]))
  case idle => exact fun _ _ hd hw hs hb => portIdleRequest_does hd hw hs hb true
  case unidle => exact fun _ _ hd hw hs hb => portIdleRequest_does hd hw hs hb false
  case stands =>
    intro s prtad hd hw hs hb hl
    have keeps : s.dev.softResetEnds (s.dev.windowPort prtad) = false := by
      rcases hl with hn | hl | hl
      · simp [Dev.softResetEnds, hn]
      · simp [Dev.softResetEnds, Nat.not_le.mpr hl]
      · simp [Dev.softResetEnds, Nat.not_le.mpr hl]
    exact does_of_event rfl ((softReset_open hd hw hs hb).trans (if_neg (ne_true_of_eq_false keeps)))
  case ends =>
    intro s prtad hd hw hs hb hn hlo hhi
    have ends : s.dev.softResetEnds (s.dev.windowPort prtad) = true := by simp [Dev.softResetEnds, hn, hlo, hhi]
    exact does_of_event rfl ((softReset_open hd hw hs hb).trans (if_pos ends))
  case unidled =>
    intro s prtad mmd hd hm hb hs
    exact does_of_event rfl (by rw [Dev.windowRead_unidled hd hm hb hs])

end Sys2Proof.Machine

namespace Sys2Proof.Machine

/-! ## Software writes as whole commands -/

/-- A write that nothing refuses answers OK, with its effect. -/
theorem answers_of_write (o : Vault → Dev → Op) {c : Instr} {s : State} {r : Req} {idx sub v : Nat} {f : Dev → Dev} (hc : exec c s = s.write r idx sub o)
    (h : Ready s r idx sub v) (granted : firstCode (o s.vault s.dev).checks = .ok) (he : (o s.vault s.dev).effect s.dev = f s.dev)
    (hl : (o s.vault s.dev).later = id) : Answers c s r f :=
  hc.trans ((State.write_ok idx sub h.heard h.delivered granted).trans (by simp only [State.onDev, he, hl, id]))

/-- A write that is refused for the state of what it asks for does nothing but answer. -/
theorem does_write_state (o : Vault → Dev → Op) {c : Instr} {s : State} {r : Req} {idx sub v : Nat} (hc : exec c s = s.write r idx sub o)
    (h : Ready s r idx sub v) (refused : firstCode (o s.vault s.dev).checks = .state) (hr : (o s.vault s.dev).refusal = fun _ d => d) :
    Does c s (fun d => d.answer r .state) := by
  have runs := Op.run_refused idx sub h.heard h.delivered refused (by decide)
  rw [hr] at runs
  exact hc.trans (congrArg (fun d : Dev => (.next { s with dev := d } : Host.Outcome State Fault Refusal)) runs)

/-- A write to a command field is refused by its own conditions alone where nothing that every write shares refuses it. -/
theorem Ready.command_code {s : State} {r : Req} {idx sub v : Nat} (h : Ready s r idx sub v) (more : List (Bool × Code)) (effect : Dev → Dev) :
    firstCode (s.dev.command r idx sub v more effect).checks = firstCode more := by
  simp [Dev.command, h.gate_eq, h.fits]

/-- So is a write to an RW or RWL object. -/
theorem Writable.plainWrite_code {s : State} {r : Req} {idx sub v : Nat} (h : Writable s r idx sub v) (more : List (Bool × Code)) (after : Dev → Dev) :
    firstCode (s.dev.plainWrite r idx sub v more after).checks = firstCode more := by
  simp [Dev.plainWrite, Dev.plainChecks, h.gate_eq, h.fits, h.unlocked, h.inRange]

/-- A write to an RW or RWL object that nothing refuses stores its value, and has what follows from it. -/
theorem answers_of_plainWrite {more : Dev → List (Bool × Code)} {after : Dev → Dev → Dev} {c : Instr} {s : State} {r : Req} {idx sub v : Nat}
    {f : Dev → Dev} (hc : exec c s = s.write r idx sub (fun _ d => d.plainWrite r idx sub v (more d) (after d))) (h : Writable s r idx sub v)
    (hm : firstCode (more s.dev) = .ok) (he : after s.dev (s.dev.stored idx sub v) = f s.dev) : Answers c s r f :=
  answers_of_write _ hc h.toReady ((h.plainWrite_code _ _).trans hm) he rfl

/-! ## One bit of a word -/

/-- A number as what lies above one of its bits, the bit, and what lies below it. -/
theorem eq_around_bit (n i : Nat) : n = 2 ^ i * (2 * (n / 2 ^ i / 2)) + 2 ^ i * (n.testBit i).toNat + n % 2 ^ i := by
  have half : n / 2 ^ i = 2 * (n / 2 ^ i / 2) + (n.testBit i).toNat := by
    rw [Nat.toNat_testBit]
    omega
  rw [← Nat.mul_add, ← half, Nat.div_add_mod]

theorem putBit_eq (n i : Nat) (b : Bool) : putBit n i b = 2 ^ i * (2 * (n / 2 ^ i / 2) + b.toNat) + n % 2 ^ i := by
  have around := eq_around_bit n i
  rw [Nat.mul_add, putBit]
  generalize 2 ^ i * (2 * (n / 2 ^ i / 2)) = above at *
  generalize n % 2 ^ i = below at *
  cases hn : n.testBit i <;> cases b <;> simp only [hn, Bool.toNat_true, Bool.toNat_false, if_true, Bool.false_eq_true, if_false] at around ⊢ <;> omega

theorem testBit_putBit (n i j : Nat) (b : Bool) : (putBit n i b).testBit j = if j = i then b else n.testBit j := by
  have below : n % 2 ^ i < 2 ^ i := Nat.mod_lt _ (by positivity)
  rw [putBit_eq, Nat.testBit_two_pow_mul_add _ below]
  rcases Nat.lt_trichotomy j i with hj | rfl | hj
  · simp [hj, hj.ne]
  · cases b <;> simp
  · obtain ⟨k, rfl⟩ := Nat.exists_eq_add_of_lt hj
    have above : (2 * (n / 2 ^ i / 2) + b.toNat) / 2 = n / 2 ^ i / 2 := by
      have := b.toNat_lt
      omega
    rw [if_neg (by omega), if_neg (by omega), show i + k + 1 - i = k + 1 by omega, Nat.testBit_succ, above, ← Nat.testBit_succ, Nat.testBit_div_two_pow]
    congr 1
    omega

/-! ## Ports come and go (O30) -/

/-- A fold that changes something at one element alone, which the list holds once. -/
theorem foldl_single {α β : Type} {f : α → β → α} {k : β} (h : ∀ a b, b ≠ k → f a b = a) {l : List β} (hd : l.Nodup) (hk : k ∈ l) (a : α) :
    l.foldl f a = f a k := by
  have others {m : List β} (hm : k ∉ m) (a : α) : m.foldl f a = a := by
    induction m with
    | nil => rfl
    | cons b m ih =>
      obtain ⟨hb, hm⟩ := List.ne_and_not_mem_of_not_mem_cons hm
      rw [List.foldl_cons, h a b (Ne.symm hb), ih hm]
  induction l generalizing a with
  | nil => cases hk
  | cons b l ih =>
    obtain ⟨hb, hl⟩ := List.nodup_cons.mp hd
    rcases List.mem_cons.mp hk with rfl | hk
    · exact others hb _
    · rw [List.foldl_cons, h a b (fun e => hb (e ▸ hk)), ih hl hk]

theorem forAll_single {α : Type} {n : Nat} {f : Fin n → α → α} {k : Fin n} (h : ∀ i a, i ≠ k → f i a = a) (a : α) : forAll n f a = f k a :=
  foldl_single (fun a i hi => h i a hi) (List.nodup_finRange n) (List.mem_finRange k) a

/-- Changing one port's bit of PORT_ENABLE_MAP takes that port, and no other, out of DISABLED or there. -/
theorem Dev.enableChanges_putBit (d : Dev) (p : Port) (old : Nat) (b : Bool) :
    d.enableChanges (1 + p.val / 64) old (putBit old (p.val % 64) b)
      = if b then (if old.testBit (p.val % 64) then d else d.portOn p) else if old.testBit (p.val % 64) then d.disable p else d := by
  have hp := p.isLt
  have port : (⟨(1 + p.val / 64 - 1) % 2 * 64 + p.val % 64, by omega⟩ : Port) = p := Fin.ext (by simp only; omega)
  unfold Dev.enableChanges
  rw [forAll_single (k := ⟨p.val % 64, by omega⟩)]
  · simp only [testBit_putBit, port, if_true]
  · intro k e hk
    have other : k.val ≠ p.val % 64 := fun he => hk (Fin.ext he)
    simp only [testBit_putBit, other, if_false]
    split <;> rfl

/-- A write of a port's bit that nothing refuses. -/
theorem answers_enableOp {c : Instr} {s : State} {r : Req} {p : Port} {b : Bool} {f : Dev → Dev}
    (hc : exec c s = s.write r 0x1030 (1 + p.val / 64) (fun _ d => d.enableOp r (1 + p.val / 64) (d.enableWord p b)))
    (h : Writable s r 0x1030 (1 + p.val / 64) (s.dev.enableWord p b)) (hlog : s.dev.hall.logClosed = false ∨ s.dev.enableWord p b = 0)
    (hoff : s.dev.get 0x6800 5 ≠ 2) (he : (s.dev.stored 0x1030 (1 + p.val / 64) (s.dev.enableWord p b)).enableChanges (1 + p.val / 64)
      (s.dev.get 0x1030 (1 + p.val / 64)) (s.dev.enableWord p b) = f s.dev) : Answers c s r f := by
  have may : ((s.dev.hall.logClosed && s.dev.enableWord p b ≠ 0) || s.dev.get 0x6800 5 = 2 : Bool) = false := by
    rcases hlog with hl | hw
    · simp [hl, hoff]
    · simp [hw, hoff]
  have granted : firstCode (s.dev.enableOp r (1 + p.val / 64) (s.dev.enableWord p b)).checks = .ok := by
    rw [Dev.enableOp, h.plainWrite_code, may]
    rfl
  exact answers_of_write _ hc h.toReady granted he rfl

/-- Settles O30: each command is a granted write with what follows from it, whose cases are those of the port's bit, or an event of the device. -/
theorem portsComeAndGo : Obligations.PortsComeAndGo := by
  refine ⟨?advertise, ?rate, ?sameRate, ?enable, ?enabled, ?disable, ?disabled, ?restart, ?noRestart, ?backoff, ?noBackoff⟩
  case advertise => exact fun s r p v h => answers_of_plainWrite rfl h rfl rfl
  case rate => exact fun s r p v h hne => answers_of_plainWrite rfl h rfl (if_neg hne)
  case sameRate => exact fun s r p h => answers_of_plainWrite rfl h rfl (if_pos rfl)
  case enable => exact fun s r p h hl hs hb => answers_enableOp rfl h (.inl hl) hs (by simp [Dev.enableWord, Dev.enableChanges_putBit, hb])
  case enabled => exact fun s r p h hl hs hb => answers_enableOp rfl h (.inl hl) hs (by simp [Dev.enableWord, Dev.enableChanges_putBit, hb])
  case disable => exact fun s r p h hs hl hb => answers_enableOp rfl h hl hs (by simp [Dev.enableWord, Dev.enableChanges_putBit, hb])
  case disabled => exact fun s r p h hs hl hb => answers_enableOp rfl h hl hs (by simp [Dev.enableWord, Dev.enableChanges_putBit, hb])
  case restart =>
    intro s r p h h0 h10
    exact answers_of_write (fun _ d => d.negRestartOp r p 1) rfl h ((h.command_code _ _).trans (by simp [h0, h10])) rfl rfl
  case noRestart =>
    intro s r p h hl
    have held : (s.dev.linkState p = 0 || s.dev.linkState p = 10 : Bool) = true := by simpa using hl
    exact does_write_state (fun _ d => d.negRestartOp r p 1) rfl h ((h.command_code _ _).trans (by rw [held]; rfl)) rfl
  case backoff => exact fun _ _ hl => does_of_event rfl (if_pos hl)
  case noBackoff => exact fun _ _ hl => does_of_event rfl (if_neg hl)

end Sys2Proof.Machine

namespace Sys2Proof.Machine

/-! ## What the exchange of pages leaves alone -/

/-- The partner's offer is reported at the port's own objects of negotiation, by subindexes 4 and 5. -/
theorem Dev.get_partnerSeen (d : Dev) (p : Port) (modes : Nat) (native : Option (Nat × Nat)) {i k : Nat} (h4 : key (0x4100 + p) 4 ≠ key i k)
    (h5 : key (0x4100 + p) 5 ≠ key i k) : (d.partnerSeen p modes native).get i k = d.get i k := by
  cases native with
  | none => exact (Dev.get_put_other _ _ _ _ _ _ h5).trans (Dev.get_put_other _ _ _ _ _ _ h4)
  | some offer => exact (Dev.get_put_other _ _ _ _ _ _ h5).trans (Dev.get_put_other _ _ _ _ _ _ h4)

/-- What a negotiation of a port decides by beside the partner's pages: what the port offers, and how it is configured. -/
structure SameTerms (p : Port) (d e : Dev) : Prop where
  advertise : e.effAdvertise p = d.effAdvertise p
  role : e.get (0x4100 + p) 1 = d.get (0x4100 + p) 1
  sealing : e.get (0x4400 + p) 1 = d.get (0x4400 + p) 1
  group : e.groupOf p = d.groupOf p
  retrain : e.flag (0x4180 + p) 0x16 = d.flag (0x4180 + p) 0x16

namespace SameTerms

variable {p : Port} {d e : Dev}

theorem trans {c : Dev} (h : SameTerms p c d) (k : SameTerms p d e) : SameTerms p c e :=
  ⟨k.advertise.trans h.advertise, k.role.trans h.role, k.sealing.trans h.sealing, k.group.trans h.group, k.retrain.trans h.retrain⟩

/-- What stores nothing but results of negotiation leaves its terms alone. -/
theorem of_get (h : ∀ i k, k < 256 → i ≠ 0x4100 + p.val ∨ k = 1 → e.get i k = d.get i k) : SameTerms p d e where
  advertise := by
    have hp := p.isLt
    rw [Dev.effAdvertise, h _ _ (by decide) (.inl (by omega)), h _ _ (by decide) (.inl (by omega)), Dev.effAdvertise]
  role := h _ _ (by decide) (.inr rfl)
  sealing := h _ _ (by decide) (.inl (by omega))
  group := h _ _ (by decide) (.inl (by omega))
  retrain := by rw [Dev.flag, h _ _ (by decide) (.inl (by omega)), Dev.flag]

theorem ownRank (h : SameTerms p d e) : e.ownRank p = d.ownRank p := by
  simp only [Dev.ownRank, h.role, h.group]

theorem sealOffer (h : SameTerms p d e) : e.sealOffer p = d.sealOffer p := by
  simp only [Dev.sealOffer, h.sealing]

theorem commonNative (h : SameTerms p d e) (page : Nat) : e.commonNative p page = d.commonNative p page := by
  rw [Dev.commonNative, Dev.sealRequire, h.sealOffer, h.sealing, h.advertise]
  rfl

end SameTerms

theorem key_negotiation_ne {p : Port} {i k n : Nat} (hn : n < 256) (h1 : n ≠ 1) (hk : k < 256) (h : i ≠ 0x4100 + p.val ∨ k = 1) :
    key (0x4100 + p) n ≠ key i k := by
  rcases h with h | rfl
  · exact key_ne_index h.symm hn hk
  · exact key_ne_sub h1 hn hk

theorem sameTerms_partnerSeen (d : Dev) (p : Port) (modes : Nat) (native : Option (Nat × Nat)) : SameTerms p d (d.partnerSeen p modes native) :=
  .of_get (fun _ _ hk h => d.get_partnerSeen p modes native (key_negotiation_ne (by decide) (by decide) hk h)
    (key_negotiation_ne (by decide) (by decide) hk h))

theorem sameTerms_pagesExchanged (d : Dev) (p : Port) (modes : Nat) (tagged : List (Vector Nat 4)) (theirs : Nat) :
    SameTerms p d (d.pagesExchanged p modes tagged theirs) :=
  SameTerms.trans (d := d.newDraw.emit _) ⟨rfl, rfl, rfl, rfl, rfl⟩ (sameTerms_partnerSeen _ p _ _)

/-! ## What negotiation resolves to (O31) -/

theorem negotiates_iff (d : Dev) (p : Port) :
    (d.linkState p = 2 && !d.forced p && d.enabled p && d.lineServes p && !(d.port p).diag.any (·.outOfService) : Bool) = true ↔ Negotiates d p := by
  simp only [Bool.and_eq_true, Bool.not_eq_true', decide_eq_true_eq]
  constructor
  · rintro ⟨⟨⟨⟨state, forced⟩, enabled⟩, serves⟩, free⟩
    exact ⟨state, forced, enabled, serves, free⟩
  · rintro ⟨state, forced, enabled, serves, free⟩
    exact ⟨⟨⟨⟨state, forced⟩, enabled⟩, serves⟩, free⟩

theorem Dev.negotiated_idle {d : Dev} {p : Port} (h : ¬ Negotiates d p) (partner : NegPartner) : d.negotiated p partner = d :=
  if_pos (by rw [Bool.not_eq_true', ← Bool.not_eq_true, negotiates_iff]; exact h)

/-- A port that negotiates is none of those that are left alone. -/
theorem Negotiates.goes {d : Dev} {p : Port} (h : Negotiates d p) :
    ¬ (!(d.linkState p = 2 && !d.forced p && d.enabled p && d.lineServes p && !(d.port p).diag.any (·.outOfService)) : Bool) = true := by
  rw [Bool.not_eq_true', (negotiates_iff d p).mpr h]
  decide

section
variable {d : Dev} {p : Port} {modes theirs : Nat} {tagged : List (Vector Nat 4)} {eee retrain : Bool} {cm : Option Bool}

theorem Dev.negotiated_parallel (h : Negotiates d p) :
    d.negotiated p .parallel = if (d.effAdvertise p).testBit 0 then (d.partnerSeen p 1 none).selectMode p 1 4 3 false false 0
      else (d.partnerSeen p 1 none).negFail p 2 7 14 := by
  unfold Dev.negotiated
  rw [if_neg h.goes]
  simp only [(sameTerms_partnerSeen d p 1 none).advertise]

/-- Of exchanged pages the highest common mode decides: none ends the negotiation, a standard one is selected by its clause. -/
theorem Dev.negotiated_standard (h : Negotiates d p) (hm : d.commonMode p modes tagged ≤ 7) :
    d.negotiated p (.pages modes tagged theirs eee retrain cm) =
      if d.commonMode p modes tagged = 0 then (d.pagesExchanged p modes tagged theirs).negFail p 2 7 14
      else (d.pagesExchanged p modes tagged theirs).negStandard p (d.commonMode p modes tagged) (quietAble (nativeSet tagged) eee) cm retrain := by
  have terms := sameTerms_pagesExchanged d p modes tagged theirs
  have standard : ¬ 8 ≤ d.commonMode p modes tagged := by omega
  unfold Dev.pagesExchanged at terms ⊢
  unfold Dev.commonMode at standard ⊢
  unfold Dev.negotiated
  rw [if_neg h.goes]
  cases hn : nativeSet tagged with
  | none =>
    simp only [hn, Nat.or_zero] at terms standard ⊢
    simp only [terms.advertise]
  | some offer =>
    simp only [hn] at terms standard ⊢
    simp only [terms.advertise, terms.commonNative, standard, if_false]

/-- A native one is selected by rank and seed. -/
theorem Dev.negotiated_native {page seed : Nat} (h : Negotiates d p) (hn : nativeSet tagged = some (page, seed)) (hm : 8 ≤ d.commonMode p modes tagged) :
    d.negotiated p (.pages modes tagged theirs eee retrain cm) =
      (d.pagesExchanged p modes tagged theirs).negNative p (d.commonMode p modes tagged) page seed (Config.drawBelow d.draws 512)
        (quietAble (some (page, seed)) eee) retrain := by
  have terms := sameTerms_pagesExchanged d p modes tagged theirs
  have found : d.commonMode p modes tagged ≠ 0 := by omega
  unfold Dev.pagesExchanged at terms ⊢
  unfold Dev.commonMode at found hm ⊢
  unfold Dev.negotiated
  rw [if_neg h.goes]
  simp only [hn] at terms found hm ⊢
  simp only [terms.advertise, terms.commonNative, found, hm, if_false, if_true]

end

theorem resolveRole_eq_some {own partner ownSeed seed : Nat} (h : own ≠ partner ∨ ownSeed ≠ seed) :
    resolveRole own partner ownSeed seed = some (decide (own > partner ∨ (own = partner ∧ ownSeed > seed))) := by
  rcases Nat.lt_trichotomy own partner with lower | rfl | higher
  · simp [resolveRole, lower, Nat.lt_asymm lower, lower.ne]
  · rcases Nat.lt_or_gt_of_ne (h.resolve_left (not_not.mpr rfl)) with lower | higher
    · simp [resolveRole, lower, Nat.lt_asymm lower]
    · simp [resolveRole, higher]
  · simp [resolveRole, higher]

theorem resolveRole_tie (rank seed : Nat) : resolveRole rank rank seed seed = none := by
  simp [resolveRole]

section
variable {d e : Dev} {p : Port} {mode page seed ownSeed able : Nat} {retrain : Bool}

/-- The terms of a native mode's roles, the ranks of both ends being reported. -/
theorem sameTerms_ranksPut (h : SameTerms p d e) (ranks : Nat) : SameTerms p d (e.put (0x4100 + p) 6 ranks) :=
  h.trans (.of_get (fun _ _ hk hi => Dev.get_put_other _ _ _ _ _ _ (key_negotiation_ne (by decide) (by decide) hk hi)))

/-- Both ends insist on master. -/
theorem Dev.negNative_masters (h : SameTerms p d e) (ho : d.ownRank p = 3) (hp : field page 6 2 = 3) :
    e.negNative p mode page seed ownSeed able retrain = (e.put (0x4100 + p) 6 15).negFail p 3 8 4 := by
  simp [Dev.negNative, h.ownRank, ho, hp]

/-- Rank, then SEED, tells the ends apart. -/
theorem Dev.negNative_resolved (h : SameTerms p d e) (hm : ¬ (d.ownRank p = 3 ∧ field page 6 2 = 3)) (hr : d.ownRank p ≠ field page 6 2 ∨ ownSeed ≠ seed) :
    e.negNative p mode page seed ownSeed able retrain
      = (e.put (0x4100 + p) 6 (d.ownRank p * 4 + field page 6 2)).selectMode p mode 1
        (if d.ownRank p > field page 6 2 ∨ (d.ownRank p = field page 6 2 ∧ ownSeed > seed) then 1 else 2) (d.sealOffer p && page.testBit 5) retrain able := by
  have apart : ¬ (d.ownRank p = 3 && field page 6 2 = 3 : Bool) = true := by simpa using hm
  simp only [Dev.negNative, h.ownRank, apart, resolveRole_eq_some hr, (sameTerms_ranksPut h _).sealOffer, decide_eq_true_eq, Bool.false_eq_true, if_false]

/-- Equal ranks and equal seeds: the negotiation starts over. -/
theorem Dev.negNative_tie (h : SameTerms p d e) (hm : d.ownRank p ≠ 3) (hr : d.ownRank p = field page 6 2) :
    e.negNative p mode page seed seed able retrain = e.put (0x4100 + p) 6 (d.ownRank p * 4 + field page 6 2) := by
  simp [Dev.negNative, h.ownRank, ← hr, hm, resolveRole_tie]

end

/-- Settles O31: a negotiation by whether the port negotiates, by the highest common mode, and by the roles that its clause or its ranks and seeds give. -/
theorem negotiationResolves : Obligations.NegotiationResolves := by
  refine ⟨?idle, ?parallel, ?notOffered, ?noMode, ?lowest, ?standard, ?masters, ?resolved, ?tie⟩
  case idle => exact fun _ _ partner hn => does_of_event rfl (Dev.negotiated_idle hn partner)
  case parallel => exact fun _ _ hn ho => does_of_event rfl ((Dev.negotiated_parallel hn).trans (if_pos ho))
  case notOffered => exact fun _ _ hn ho => does_of_event rfl ((Dev.negotiated_parallel hn).trans (if_neg (ne_true_of_eq_false ho)))
  case noMode => exact fun _ _ _ _ _ _ _ _ hn hm => does_of_event rfl ((Dev.negotiated_standard hn (by omega)).trans (if_pos hm))
  case lowest =>
    intro s p modes theirs tagged eee retrain cm hn hm
    refine does_of_event rfl ((Dev.negotiated_standard hn (by omega)).trans ((if_neg (by omega)).trans ?_))
    exact if_pos hm
  case standard =>
    intro s p modes theirs tagged eee retrain hn hlow hhigh
    have terms := sameTerms_pagesExchanged s.dev p modes tagged theirs
    have notLowest : s.dev.commonMode p modes tagged ≠ 1 := by omega
    have selects (cm : Option Bool) := (Dev.negotiated_standard (theirs := theirs) (eee := eee) (retrain := retrain) (cm := cm) hn hhigh).trans
      (if_neg (by omega))
    refine ⟨does_of_event rfl ((selects none).trans (if_neg notLowest)), fun master => does_of_event rfl ((selects (some master)).trans ?_)⟩
    exact (if_neg notLowest).trans (by simp only [terms.role, terms.retrain])
  case masters =>
    intro s p modes theirs page seed tagged eee retrain cm hn hs hm ho hp
    exact does_of_event rfl ((Dev.negotiated_native hn hs hm).trans (Dev.negNative_masters (sameTerms_pagesExchanged ..) ho hp))
  case resolved =>
    intro s p modes theirs page seed tagged eee retrain cm hn hs hm hmasters hr
    exact does_of_event rfl ((Dev.negotiated_native hn hs hm).trans (Dev.negNative_resolved (sameTerms_pagesExchanged ..) hmasters hr))
  case tie =>
    intro s p modes theirs page seed tagged eee retrain cm hn hs hm ho hr hd
    refine does_of_event rfl ((Dev.negotiated_native hn hs hm).trans ?_)
    rw [hd]
    exact Dev.negNative_tie (sameTerms_pagesExchanged ..) ho hr

end Sys2Proof.Machine

namespace Sys2Proof.Machine

/-! ## Training (O32) -/

theorem Dev.stageExit_of_stage {d : Dev} {p : Port} (h : d.stage p = 5) : d.stageExit p = false := by
  simp only [Dev.stageExit, h]

/-- A timer that ends fails the stage under its number. -/
theorem Dev.stageTimeout_fails {d : Dev} {p : Port} (hx : d.stageExit p = false) (h5 : d.stage p ≠ 5) :
    d.stageTimeout p = d.attemptFailed p (d.stage p) :=
  (if_neg (ne_true_of_eq_false hx)).trans (if_neg h5)

/-- In stage 5 it is sealing that fails, or has failed. -/
theorem Dev.stageTimeout_sealing {d : Dev} {p : Port} (h5 : d.stage p = 5) :
    d.stageTimeout p = if (d.port p).crypt.failing.isSome then d.sealFailEnd p else d.sealFail p 5 5 :=
  (if_neg (ne_true_of_eq_false (Dev.stageExit_of_stage h5))).trans (if_pos h5)

/-- An exit condition that holds takes precedence (R175). -/
theorem Dev.stageTimeout_exits {d : Dev} {p : Port} (hl : d.linkState p = 3) (hn : d.native p = true) (hx : d.stageExit p = true) :
    d.stageTimeout p = d.enterStage p (d.nextStage p) :=
  (if_pos hx).trans (if_pos (by simp [hl, hn, hx]))

/-- In training the timer of the stage is what ends. -/
theorem does_trainStageTimeout {s : State} {p : Port} {f : Dev → Dev} (hl : s.dev.linkState p = 3) (hs : s.dev.stage p ≠ 0)
    (h : s.dev.stageTimeout p = f s.dev) : Does (.trainStageTimeout p) s f :=
  does_of_event rfl ((if_pos (by simp [hl, Nat.one_le_iff_ne_zero, hs])).trans h)

/-- A new timeout of a stage leaves what its timer runs by alone. -/
theorem Dev.timeoutNow_stored (d : Dev) (p : Port) (stage : Fin 6) (w v : Nat) :
    (d.stored (0x4180 + p) (2 + stage) w).timeoutNow p (stage + 1) v =
      if d.linkState p = 3 ∧ d.stage p = stage + 1 ∧ (d.port p).train.since + v * 1000 ≤ d.uptime then
        (d.stored (0x4180 + p) (2 + stage) w).stageTimeout p else d.stored (0x4180 + p) (2 + stage) w := by
  have hs := stage.isLt
  have link : (d.stored (0x4180 + p) (2 + stage) w).linkState p = d.linkState p :=
    Dev.get_put_other _ _ _ _ _ _ (key_ne_index (by omega) (by omega) (by decide))
  have present : (d.stored (0x4180 + p) (2 + stage) w).stage p = d.stage p :=
    Dev.get_put_other _ _ _ _ _ _ (key_ne_sub (by omega) (by omega) (by decide))
  have since : (((d.stored (0x4180 + p) (2 + stage) w).port p).train.since + v * 1000 ≤ (d.stored (0x4180 + p) (2 + stage) w).uptime)
      = ((d.port p).train.since + v * 1000 ≤ d.uptime) := rfl
  simp only [Dev.timeoutNow, link, present, since, Bool.and_eq_true, decide_eq_true_eq, and_assoc]

/-- What a header does in training, outside stage 0 (R172, R177). -/
theorem Dev.trainingRx_training {d : Dev} {p : Port} (hn : d.native p = true) (hl : d.linkState p = 3) (hs : d.stage p ≠ 0) (h : Nat) :
    d.trainingRx p h = if headerValid h then d.trainHeaderRx p h
      else d.onTrain p (fun t => { t with validRun := 0, lockedRun := 0, stage6Run := if 4 ≤ t.stage6Run then t.stage6Run else 0 }) :=
  (if_neg (by simp [hn])).trans ((if_pos hl).trans (if_neg hs))

/-- Outside training a valid header is part of a burst in RELOCK, QUIET and DEEP_QUIET, and nothing elsewhere. -/
theorem Dev.trainingRx_burst {d : Dev} {p : Port} (hn : d.native p = true) (hl : d.linkState p ≠ 3) (h : Nat) :
    d.trainingRx p h = if headerValid h && 5 ≤ d.linkState p && d.linkState p ≤ 7 then (d.masterBurst p h).burstRx p h else d :=
  (if_neg (by simp [hn])).trans (if_neg hl)

/-- Settles O32: each command is an event of the device or a granted write, whose cases are the states of the link and the stages of its training. -/
theorem trainingRuns : Obligations.TrainingRuns := by
  refine ⟨?forced, ?standard, ?fails, ?sealFails, ?sealEnds, ?exits, ?stored, ?outlasted, ?valid, ?invalid, ?burst, ?elsewhere⟩
  case forced => exact fun s p hl hf hs hd => does_of_event rfl (if_pos (by simp [hl, hf, hs, hd]))
  case standard =>
    intro s p hl hn
    have trains : (s.dev.linkState p = 3 && !s.dev.native p : Bool) = true := by simp [hl, hn]
    exact ⟨does_of_event rfl (if_pos trains), does_of_event rfl (if_pos trains)⟩
  case fails => exact fun s p hl hs hx h5 => does_trainStageTimeout hl hs (Dev.stageTimeout_fails hx h5)
  case sealFails =>
    exact fun s p hl h5 hf => does_trainStageTimeout hl (by omega) ((Dev.stageTimeout_sealing h5).trans (if_neg (by simp [hf])))
  case sealEnds =>
    exact fun s p hl h5 hf => does_trainStageTimeout hl (by omega) ((Dev.stageTimeout_sealing h5).trans (if_pos (Option.isSome_iff_ne_none.mpr hf)))
  case exits => exact fun s p hl hn hs hx => does_trainStageTimeout hl hs (Dev.stageTimeout_exits hl hn hx)
  case stored =>
    intro s r p stage v h hwhen
    have runs : ¬ (s.dev.linkState p = 3 ∧ s.dev.stage p = stage + 1 ∧ (s.dev.port p).train.since + v * 1000 ≤ s.dev.uptime) := by
      rintro ⟨hl, hs, ht⟩
      omega
    exact answers_of_plainWrite rfl h rfl ((Dev.timeoutNow_stored ..).trans (if_neg runs))
  case outlasted =>
    exact fun s r p stage v h hl hs ht => answers_of_plainWrite rfl h rfl ((Dev.timeoutNow_stored ..).trans (if_pos ⟨hl, hs, ht⟩))
  case valid => exact fun s p h hn hl hs hv => does_of_event rfl ((Dev.trainingRx_training hn hl hs h).trans (if_pos hv))
  case invalid => exact fun s p h hn hl hs hv => does_of_event rfl ((Dev.trainingRx_training hn hl hs h).trans (if_neg (ne_true_of_eq_false hv)))
  case burst =>
    exact fun s p h hn hlow hhigh hv => does_of_event rfl ((Dev.trainingRx_burst hn (by omega) h).trans (if_pos (by simp [hv, hlow, hhigh])))
  case elsewhere =>
    intro s p h hwhere
    refine does_of_event rfl ?_
    rcases hwhere with hn | ⟨hl, hs⟩ | ⟨hl, hout⟩
    · exact if_pos (by simp [hn])
    · simp [Dev.trainingRx, hl, hs]
    · cases hn : s.dev.native p with
      | false => exact if_pos (by simp [hn])
      | true =>
        refine (Dev.trainingRx_burst hn hl h).trans (if_neg ?_)
        rcases hout with hv | hlow | hhigh
        · simp [hv]
        · simp [Nat.not_le.mpr hlow]
        · simp [Nat.not_le.mpr hhigh]

end Sys2Proof.Machine

namespace Sys2Proof.Machine

/-! ## Native frames sent (O34) -/

/-- At a frame boundary what is sent comes first; then a sealing failure whose message has left ends the link, and a checkpoint that is due is taken. -/
theorem does_nativeFrameTx {s : State} {p : Port} {f : Dev → Dev} (h : s.dev.nativeTx p = f s.dev) :
    Does (.nativeFrameTx p) s (fun d => ((f d).rejectGone p).checkpointIfDue p) :=
  does_of_event rfl (by rw [h])

/-- What a link sends outside training: a data frame, one more frame of a burst, or nothing. -/
theorem Dev.nativeTx_link {d : Dev} {p : Port} (hn : d.native p = true) (hl : d.linkState p ≠ 3) :
    d.nativeTx p = if d.txRuns p then (d.txAwake p).sendData p else if d.bursting p && !d.burstWaits p then Dev.sendBurst p 0 1 d else d :=
  (if_neg (by simp [hn])).trans (if_neg hl)

/-- What a training end that is not silent sends: a data frame after its first one, its first one, or a training frame. -/
theorem Dev.nativeTx_training {d : Dev} {p : Port} (hn : d.native p = true) (hl : d.linkState p = 3) (hs : d.stage p ≠ 0)
    (ht : d.trainSilent p = false) :
    d.nativeTx p = if (d.port p).train.dataSent then d.sendData p
      else if d.dataNext p then
        (((d.onNative p (fun n => { n with txNumber := 0 })).sendData p).onTrain p (fun t => { t with dataSent := true })).dataCheck p
      else d.sendTraining p :=
  (if_neg (by simp [hn])).trans ((if_pos hl).trans (if_neg (by simp [hs, ht])))

/-- A silent training end sends nothing, and neither does a port without a native link. -/
theorem Dev.nativeTx_silent {d : Dev} {p : Port} (h : d.native p = false ∨ (d.linkState p = 3 ∧ d.trainSilent p = true)) : d.nativeTx p = d := by
  cases hn : d.native p with
  | false => exact if_pos (by simp [hn])
  | true =>
    obtain ⟨hl, ht⟩ := h.resolve_left (by simp [hn])
    exact (if_neg (by simp [hn])).trans ((if_pos hl).trans (if_pos (by simp [ht])))

/-- The first data frame belongs to stage 6. -/
theorem Dev.stage_of_dataNext {d : Dev} {p : Port} (h : d.dataNext p = true) : d.stage p = 6 := by
  simp only [Dev.dataNext, Bool.and_eq_true, decide_eq_true_eq] at h
  obtain ⟨⟨stage, -⟩, -⟩ := h
  exact stage

/-! ## Native frames received (O34) -/

/-- A frame received by a running receiver, or after the first with QUIET, is counted; then it is taken as the last of its stream, lost, or taken in. -/
theorem Dev.nativeRx_counted {d : Dev} {p : Port} (h : d.rxRuns p = true ∨ d.rxTail p = true) (f : NativeRx) :
    d.nativeRx p f = ((if d.rxTail p then (d.rxCounted p f).rxLast p (d.rxBad p f) (d.rxOverhead p f).number
      else if d.rxBad p f then (d.rxCounted p f).rxLost p f.mdiTime
      else (d.rxCounted p f).rxGood p f (d.rxOverhead p f) ((d.rxInfo p f).drop (overheadBits (d.mode p)))).wakeIfPending p).inbandWake :=
  if_neg (by rcases h with h | h <;> simp [h])

/-- Settles O34: a frame sent by what the state of the link lets go, a frame received by what becomes of it once counted. -/
theorem nativeFrames : Obligations.NativeFrames := by
  refine ⟨?data, ?laterData, ?firstData, ?training, ?burst, ?silent, ?lost, ?good, ?tail, ?outside⟩
  case data => exact fun s p hn hl ht => does_nativeFrameTx (f := fun d => (d.txAwake p).sendData p) ((Dev.nativeTx_link hn hl).trans (if_pos ht))
  case laterData =>
    exact fun s p hn hl hs ht hd => does_nativeFrameTx (f := fun d => d.sendData p) ((Dev.nativeTx_training hn hl hs ht).trans (if_pos hd))
  case firstData =>
    intro s p hn hl ht hnext hd
    have hs : s.dev.stage p ≠ 0 := by simp [Dev.stage_of_dataNext hnext]
    exact does_nativeFrameTx ((Dev.nativeTx_training hn hl hs ht).trans ((if_neg (ne_true_of_eq_false hd)).trans (if_pos hnext)))
  case training =>
    exact fun s p hn hl hs ht hnext hd => does_nativeFrameTx (f := fun d => d.sendTraining p)
      ((Dev.nativeTx_training hn hl hs ht).trans ((if_neg (ne_true_of_eq_false hd)).trans (if_neg (ne_true_of_eq_false hnext))))
  case burst =>
    exact fun s p hn hl ht hb hw => does_nativeFrameTx
      ((Dev.nativeTx_link hn hl).trans ((if_neg (ne_true_of_eq_false ht)).trans (if_pos (by simp [hb, hw]))))
  case silent => exact fun s p h => does_nativeFrameTx (f := id) (Dev.nativeTx_silent h)
  case lost =>
    exact fun s p f hr ht hb => does_of_event rfl (by simp only [Dev.nativeRx_counted (.inl hr), ht, hb, if_true, Bool.false_eq_true, if_false])
  case good => exact fun s p f hr ht hb => does_of_event rfl (by simp only [Dev.nativeRx_counted (.inl hr), ht, hb, Bool.false_eq_true, if_false])
  case tail => exact fun s p f ht => does_of_event rfl (by simp only [Dev.nativeRx_counted (.inr ht), ht, if_true])
  case outside => exact fun s p f hr ht => does_of_event rfl (if_pos (by simp [hr, ht]))

end Sys2Proof.Machine

namespace Sys2Proof.Machine

/-! ## Messages that arrive (O38) -/

/-- A message received intact is counted at 0x4300:1B, which no other object shows. -/
theorem Dev.get_gotMessage {i k : Nat} {p : Port} (hi : 0x4300 + p.val ≠ i) (hk : k < 256) (d : Dev) : (d.gotMessage p).get i k = d.get i k :=
  d.get_inc_other _ _ _ _ (key_ne_index hi (by decide) hk)

theorem Dev.stage_gotMessage (d : Dev) (p : Port) : (d.gotMessage p).stage p = d.stage p := Dev.get_gotMessage (by omega) (by decide) d

theorem Dev.linkState_gotMessage (d : Dev) (p : Port) : (d.gotMessage p).linkState p = d.linkState p :=
  Dev.get_gotMessage (by omega) (by decide) d

theorem Dev.queryStatus_gotMessage (d : Dev) (p : Port) : (d.gotMessage p).get (0x4100 + p) 0x21 = d.get (0x4100 + p) 0x21 :=
  Dev.get_gotMessage (by omega) (by decide) d

theorem Dev.answersQueries_gotMessage (d : Dev) (p : Port) : (d.gotMessage p).flag (0x4000 + p) 6 = d.flag (0x4000 + p) 6 := by
  rw [Dev.flag, Dev.get_gotMessage (by omega) (by decide), Dev.flag]

/-- Good taps of a pair are asked of it, and acknowledged. -/
theorem Dev.rxPrecoder_good {pair : Pair} {taps : List Int} (h : goodTaps pair taps = true) (d : Dev) (p : Port) :
    d.rxPrecoder p pair taps = ((d.gotMessage p).queueSeq p (.precoderAck pair 0)).onTrain p (fun t => { t with
      asked := upd t.asked pair (fun _ => some taps) }) := by
  have same : (⟨pair.val % 4, Nat.mod_lt _ (by decide)⟩ : Pair) = pair := Fin.ext (Nat.mod_eq_of_lt pair.isLt)
  exact (if_pos h).trans (by rw [same])

/-- In stage 4 of training an acknowledgement of a pair's taps counts. -/
theorem Dev.rxPrecoderAck_stage4 {d : Dev} {p : Port} (hl : d.linkState p = 3) (hs : d.stage p = 4) (pair : Pair) (result : Nat) :
    d.rxPrecoderAck p pair result = if result = 0 then
        ((d.gotMessage p).onTrain p (fun t => { t with acksGot := upd t.acksGot pair (fun _ => true) })).stageAdvance p
      else if result = 1 then (d.gotMessage p).attemptFailed p 11 else d.gotMessage p := by
  have same : (⟨pair.val % 4, Nat.mod_lt _ (by decide)⟩ : Pair) = pair := Fin.ext (Nat.mod_eq_of_lt pair.isLt)
  have counts : ¬ ((d.gotMessage p).linkState p ≠ 3 || (d.gotMessage p).stage p ≠ 4 || 4 ≤ pair.val : Bool) = true := by
    simp [Dev.linkState_gotMessage, Dev.stage_gotMessage, hl, hs]
  exact (if_neg counts).trans (by rw [same])

/-- The margins of a TELEMETRY are stored, one for each pair. -/
theorem Dev.get_rxTelemetry (d : Dev) (p : Port) (margins : List Int) (k : Pair) :
    (d.rxTelemetry p margins).get (0x4300 + p) (0x20 + k) = unsigned 16 (margins.getD k 0) := by
  refine foldl_establishes (fun e : Dev => e.get (0x4300 + p) (0x20 + k) = unsigned 16 (margins.getD k 0)) _ _ k (List.mem_finRange k)
    (fun e => Dev.get_put_same ..) (fun e j he => ?_) _
  by_cases hj : j = k
  · exact hj ▸ Dev.get_put_same ..
  · have other : 0x20 + j.val ≠ 0x20 + k.val := fun h => hj (Fin.ext (by omega))
    exact (Dev.get_put_other _ _ _ _ _ _ (key_ne_sub other (by omega) (by omega))).trans he

theorem Dev.heardAt_rxTelemetry (d : Dev) (p : Port) (margins : List Int) : ((d.rxTelemetry p margins).port p).selvage.heardAt = some d.uptime := by
  have time : (forAll 4 (fun k d => d.put (0x4300 + p) (0x20 + k.val) (unsigned 16 (margins.getD k.val 0))) (d.gotMessage p)).uptime = d.uptime :=
    forAll_keeps 4 _ Dev.uptime (fun _ _ => rfl) _
  rw [Dev.rxTelemetry, Dev.onSelvage, Dev.port_onPort_same, time]

/-- A query that the port answers, by its own setting and the item, and one that it refuses. -/
theorem Dev.rxQuery_eq (d : Dev) (p : Port) (item : Nat) :
    d.rxQuery p item = if d.flag (0x4000 + p) 6 && (item = 1 || item = 2) then
        (d.gotMessage p).queueService p (.partnerReply item 0 ((d.gotMessage p).replyData item))
      else (d.gotMessage p).queueService p (.partnerReply item 1 []) := by
  rw [Dev.rxQuery, Dev.answersQueries_gotMessage]

/-- A reply of its item's length ends the query that waits for it. -/
theorem Dev.rxReply_awaited {d : Dev} {p : Port} (hq : d.get (0x4100 + p) 0x21 = 1) {item result : Nat} {data : List Byte}
    (hd : data.length = if result ≠ 0 then 0 else if item = 1 then 25 else 16) :
    d.rxReply p item result data = if result = 0 then
        ((d.gotMessage p).put (0x4100 + p) (if item = 1 then 0x22 else 0x23) (natOf data)).put (0x4100 + p) 0x21 2
      else (d.gotMessage p).put (0x4100 + p) 0x21 3 :=
  (if_neg (not_not.mpr hd)).trans (if_neg (by simp [Dev.queryStatus_gotMessage, hq]))

/-! ## Messages that are sent (O38) -/

theorem Dev.msgStart_waits {d : Dev} {p : Port} (h : (d.port p).selvage.sending.isSome = true ∨ d.selvageRuns p = false) : d.msgStart p = d :=
  if_pos (by rcases h with h | h <;> simp [h])

/-- None being in transmission, a message of the sequencer begins. -/
theorem Dev.msgStart_sequencer {d : Dev} {p : Port} {m : SelvageMsg} {rest : List SelvageMsg} (hr : d.selvageRuns p = true)
    (hs : (d.port p).selvage.sending = none) (hq : (d.port p).selvage.sequencer = m :: rest) :
    d.msgStart p = d.onSelvage p (fun s => { s with
      sequencer := rest, sending := some m, bits := (if s.bits.isEmpty then flagBits else s.bits) ++ m.stream }) := by
  simp only [Dev.msgStart, hr, hs, hq, Option.isSome_none, Bool.not_true, Bool.or_self, Bool.false_eq_true, if_false]

/-- One of the service begins where none of the sequencer waits. -/
theorem Dev.msgStart_service {d : Dev} {p : Port} {m : SelvageMsg} {rest : List SelvageMsg} (hr : d.selvageRuns p = true)
    (hs : (d.port p).selvage.sending = none) (hq : (d.port p).selvage.sequencer = []) (hv : (d.port p).selvage.service = m :: rest) :
    d.msgStart p = d.onSelvage p (fun s => { s with
      service := rest, sending := some m, bits := (if s.bits.isEmpty then flagBits else s.bits) ++ m.stream }) := by
  simp only [Dev.msgStart, hr, hs, hq, hv, Option.isSome_none, Bool.not_true, Bool.or_self, Bool.false_eq_true, if_false]

/-- What arrives on a stream that runs. -/
theorem does_of_running {c : Instr} {s : State} {p : Port} {g f : Dev → Dev} (hc : exec c s = s.event (fun d => if d.selvageRuns p then g d else d))
    (hr : s.dev.selvageRuns p = true) (h : g s.dev = f s.dev) : Does c s f :=
  does_of_event hc ((if_pos hr).trans h)

/-- Nothing arrives elsewhere. -/
theorem does_of_silent {c : Instr} {s : State} {p : Port} {g : Dev → Dev} (hc : exec c s = s.event (fun d => if d.selvageRuns p then g d else d))
    (hr : s.dev.selvageRuns p = false) : Does c s id :=
  does_of_event hc (if_neg (ne_true_of_eq_false hr))

/-- Settles O38: a message that arrives by whether its stream runs and by what it says, one that is sent by the queues. -/
theorem selvageMessages : Obligations.SelvageMessages := by
  refine ⟨?relockReport, ?hushNote, ?precoder, ?badTaps, ?silent, ?acknowledged, ?telemetry, ?asks, ?answers, ?refuses, ?identity, ?application, ?refused,
    ?malformed, ?late, ?notAsked, ?tick, ?silentTick, ?sending, ?sequencer, ?service⟩
  case relockReport => exact fun s p cause held hr => does_of_running rfl hr rfl
  case hushNote => exact fun s p level dur hr => does_of_running rfl hr rfl
  case precoder => exact fun s p pair taps hr hg => does_of_running rfl hr (Dev.rxPrecoder_good hg s.dev p)
  case badTaps => exact fun s p pair taps hr hg => does_of_running rfl hr (if_neg (ne_true_of_eq_false hg))
  case silent =>
    intro s p hr
    exact ⟨fun _ _ => does_of_silent rfl hr, fun _ _ => does_of_silent rfl hr, fun _ _ => does_of_silent rfl hr, fun _ _ => does_of_silent rfl hr,
      fun _ _ _ => does_of_silent rfl hr, fun _ => does_of_silent rfl hr, fun _ _ _ => does_of_silent rfl hr,
      does_of_event rfl (Dev.msgStart_waits (.inr hr))⟩
  case acknowledged =>
    intro s p pair hr hl hs
    exact ⟨does_of_running rfl hr (Dev.rxPrecoderAck_stage4 hl hs pair 0), does_of_running rfl hr (Dev.rxPrecoderAck_stage4 hl hs pair 1)⟩
  case telemetry =>
    intro s p m c u hr
    have hears : Does (.telemetry p m c u) s (fun d => d.rxTelemetry p m.toList) := does_of_running rfl hr rfl
    have margin (k : Pair) : m.toList.getD k 0 = m.get k := by
      rw [List.getD_eq_getElem _ _ (by simp), Vector.getElem_toList]
      rfl
    exact hears.gives ⟨fun k => margin k ▸ Dev.get_rxTelemetry .., Dev.heardAt_rxTelemetry ..⟩
  case asks =>
    intro s r p v h hd hq hv
    exact answers_of_write (fun _ d => d.queryOp r p v) rfl h ((h.command_code _ _).trans (by rcases hv with rfl | rfl <;> simp [hd, hq])) rfl rfl
  case answers => exact fun s p item hr hf hi => does_of_running rfl hr ((Dev.rxQuery_eq ..).trans (if_pos (by simpa [hf] using hi)))
  case refuses =>
    intro s p item hr hn
    refine does_of_running rfl hr ((Dev.rxQuery_eq ..).trans (if_neg ?_))
    rcases hn with hf | ⟨h1, h2⟩
    · simp [hf]
    · simp [h1, h2]
  case identity => exact fun s p data hr hq hd => does_of_running rfl hr (Dev.rxReply_awaited hq (item := 1) (result := 0) hd)
  case application => exact fun s p data hr hq hd => does_of_running rfl hr (Dev.rxReply_awaited hq (item := 2) (result := 0) hd)
  case refused =>
    exact fun s p item result hr hq hn => does_of_running rfl hr ((Dev.rxReply_awaited hq (by simp [hn])).trans (if_neg hn))
  case malformed => exact fun s p item result data hr hd => does_of_running rfl hr (if_pos hd)
  case late => exact fun s p hq => does_of_event rfl (if_pos hq)
  case notAsked => exact fun s p hq => does_of_event rfl (if_neg hq)
  case tick => exact fun s p hd hi => does_of_event rfl (by simp [Dev.telemetryTick, hd, hi])
  case silentTick =>
    intro s p h
    refine does_of_event rfl ?_
    rcases h with hd | hi
    · simp [Dev.telemetryTick, hd]
    · simp [Dev.telemetryTick, hi]
  case sending => exact fun s p h => does_of_event rfl (Dev.msgStart_waits (.inl h))
  case sequencer => exact fun s p m rest hr hs hq => does_of_event rfl (Dev.msgStart_sequencer hr hs hq)
  case service => exact fun s p m rest hr hs hq hv => does_of_event rfl (Dev.msgStart_service hr hs hq hv)

end Sys2Proof.Machine

namespace Sys2Proof.Machine

/-! ## Writes that are refused without a further effect -/

/-- A condition that applies, with conditions that its code comes before or is equal to. -/
theorem firstCode_head {c : Code} {l : List (Bool × Code)} (h : ∀ x ∈ l, c.rank ≤ x.2.rank) : firstCode ((true, c) :: l) = c :=
  firstCode_eq (List.mem_cons_self ..) (List.forall_mem_cons.mpr ⟨fun _ => Nat.le_refl _, fun x hx _ => h x hx⟩)

/-- A write that is refused under a code that nothing counts or records does nothing but answer. -/
theorem does_write_refused (o : Vault → Dev → Op) {c : Instr} {s : State} {r : Req} {idx sub v : Nat} {code : Code} (hc : exec c s = s.write r idx sub o)
    (h : Ready s r idx sub v) (refused : firstCode (o s.vault s.dev).checks = code) (hr : (o s.vault s.dev).refusal = fun _ d => d)
    (hne : code ≠ .ok := by decide) (quiet : s.dev.refused r idx sub code = s.dev := by rfl) : Does c s (fun d => d.answer r code) := by
  have runs := Op.run_refused idx sub h.heard h.delivered refused hne
  rw [hr, quiet] at runs
  exact hc.trans (congrArg (fun d : Dev => (.next { s with dev := d } : Host.Outcome State Fault Refusal)) runs)

/-! ## Bundle groups (O33) -/

/-- The member that goes first among those that wait. -/
def Dev.hushesFirst (d : Dev) (p : Port) : Prop :=
  ∀ q ∈ d.neighbours p, d.bundleState q ≠ 3 ∧ (d.bundleState q = 2 →
    (d.port p).signal.hushOrder < (d.port q).signal.hushOrder ∨ ((d.port p).signal.hushOrder = (d.port q).signal.hushOrder ∧ p < q))

theorem Dev.hushes_iff (d : Dev) (p : Port) :
    (d.bundleState p = 2 && !d.hushTaken p
      && (d.neighbours p).all (fun q => d.bundleState q ≠ 2
        || (d.port p).signal.hushOrder < (d.port q).signal.hushOrder
        || ((d.port p).signal.hushOrder = (d.port q).signal.hushOrder && p < q)) : Bool) = true ↔ d.bundleState p = 2 ∧ d.hushesFirst p := by
  simp only [Dev.hushTaken, Dev.hushesFirst, Bool.and_eq_true, Bool.or_eq_true, decide_eq_true_eq, Bool.not_eq_true', List.any_eq_false,
    List.all_eq_true, forall₂_and, and_assoc, or_assoc, ne_eq, imp_iff_not_or (b := _ ∨ _)]

/-- Nobody else hushes, and a waiting member before which no other comes does. -/
theorem Dev.hushNext_first {d : Dev} {p : Port} (h2 : d.bundleState p = 2) (h : d.hushesFirst p) : d.hushNext p = d.hushStart p :=
  if_pos ((d.hushes_iff p).mpr ⟨h2, h⟩)

theorem Dev.hushNext_not_first {d : Dev} {p : Port} (h : ¬ (d.bundleState p = 2 ∧ d.hushesFirst p)) : d.hushNext p = d :=
  if_neg (mt (d.hushes_iff p).mp h)

section
variable {s : State} {r : Req} {p : Port} {v : Nat}

/-- A number that is a group with room, the port's own, or none is granted. -/
theorem Writable.groupOp_granted (h : Writable s r (0x4380 + p) 1 v) (hv : v < 4 ∨ v = 0xFF)
    (hm : v < 4 → s.dev.groupOf p ≠ v → (s.dev.members (dieOf p) v).length < 8) : firstCode (s.dev.groupOp r p v).checks = .ok := by
  refine (firstCode_append _ _).mpr ⟨h.plainChecks_ok, firstCode_ok ?_⟩
  have number : (3 < v && v ≠ 0xFF : Bool) = false := by
    rcases hv with hv | hv <;> simp [hv]
    omega
  have room : (v < 4 && s.dev.groupOf p ≠ v && 8 ≤ (s.dev.members (dieOf p) v).length : Bool) = false := by
    simpa using hm
  simp only [List.forall_mem_cons, number, room]
  simp

/-- A granted write of another group: the port leaves the one it is in, and joins the new one. -/
theorem answers_groupWrite {f : Dev → Dev} (h : Writable s r (0x4380 + p) 1 v) (hv : v < 4 ∨ v = 0xFF)
    (hm : v < 4 → s.dev.groupOf p ≠ v → (s.dev.members (dieOf p) v).length < 8)
    (he : (s.dev.groupOp r p v).effect s.dev = f s.dev) : Answers (.bundleGroupWrite r p v) s r f :=
  answers_of_write (fun _ d => d.groupOp r p v) rfl h.toReady (h.groupOp_granted hv hm) he rfl

/-- A number that is no group, or a group without room. -/
theorem Ready.groupOp_refused (h : Ready s r (0x4380 + p) 1 v) (hl : s.dev.locked (0x4380 + p) 1 = false)
    (hv : (3 < v ∧ v ≠ 0xFF) ∨ (v < 4 ∧ s.dev.groupOf p ≠ v ∧ 8 ≤ (s.dev.members (dieOf p) v).length)) :
    firstCode (s.dev.groupOp r p v).checks = .range := by
  have shared : (s.dev.groupOp r p v).checks = [(false, .auth), (false, .busy), (false, .state), (false, .type), (false, .locked)] ++
      [(outOfRange (0x4380 + p) 1 v, .range), ((3 < v && v ≠ 0xFF : Bool), .range),
        ((v < 4 && s.dev.groupOf p ≠ v && 8 ≤ (s.dev.members (dieOf p) v).length : Bool), .range)] := by
    simp [Dev.groupOp, Dev.plainChecks, h.gate_eq, h.fits, hl]
  rw [shared, firstCode_append_false (by simp)]
  refine firstCode_eq ?_ (by simp)
  rcases hv with ⟨hn, hf⟩ | ⟨hn, hg, hm⟩
  · simp [hn, hf]
  · simp [hn, hg, hm]

end

/-- Settles O33: a hush start by whether its port goes first, a write of a group by what the port leaves and joins. -/
theorem bundleMembers : Obligations.BundleMembers := by
  refine ⟨?first, ?notFirst, ?ends, ?noHush, ?joins, ?moves, ?stays, ?leaves, ?refused⟩
  case first => exact fun s p h2 h => does_of_event rfl (Dev.hushNext_first h2 h)
  case notFirst =>
    intro s p h
    refine does_of_event rfl (Dev.hushNext_not_first ?_)
    rintro ⟨h2, first⟩
    obtain ⟨q, hq, hbefore⟩ := h.resolve_left (not_not.mpr h2)
    obtain ⟨quiet, before⟩ := first q hq
    rcases hbefore with h3 | ⟨hq2, hbefore⟩
    · exact quiet h3
    · have before := before hq2
      rw [Fin.lt_def] at before hbefore
      omega
  case ends => exact fun s p h3 => does_of_event rfl (if_pos h3)
  case noHush => exact fun s p h3 => does_of_event rfl (if_neg h3)
  case joins =>
    intro s r p v h hv hg hm
    have new : v ≠ s.dev.groupOf p := by omega
    have none : ¬ s.dev.groupOf p < 4 := by omega
    exact answers_groupWrite h (.inl hv) (fun _ _ => hm) (by simp only [Dev.groupOp, new, none, hv, if_true, if_false])
  case moves =>
    intro s r p v h hv hg hne hm
    exact answers_groupWrite h (.inl hv) (fun _ _ => hm) (by simp only [Dev.groupOp, hne.symm, hg, hv, if_true, if_false])
  case stays =>
    intro s r p v h hv
    refine answers_groupWrite h (by omega) (fun hlow hne => absurd hv (by omega)) ?_
    rcases hv with ⟨-, same⟩ | ⟨rfl, hg⟩
    · exact if_pos same
    · have none : ¬ s.dev.groupOf p < 4 := by omega
      have notGroup : ¬ 0xFF < 4 := by decide
      simp only [Dev.groupOp, none, notGroup, if_false, ite_self]
  case leaves =>
    intro s r p h hg
    have new : 0xFF ≠ s.dev.groupOf p := by omega
    have notGroup : ¬ 0xFF < 4 := by decide
    exact answers_groupWrite h (.inr rfl) (fun hlow => absurd hlow notGroup) (by simp only [Dev.groupOp, new, hg, notGroup, if_true, if_false])
  case refused => exact fun s r p v h hl hv => does_write_refused (fun _ d => d.groupOp r p v) rfl h (h.groupOp_refused hl hv) rfl

end Sys2Proof.Machine

namespace Sys2Proof.Machine

/-! ## A frame refused under no cause (O36) -/

/-- What a command gives holds of the state after the change that the command does. -/
theorem Does.of_gives {c : Instr} {s : State} {f : Dev → Dev} {P : State → Prop} (h : Does c s f) (hg : Gives c s P) : P (s.onDev f) := by
  obtain ⟨t, gives, holds⟩ := hg
  exact Host.Outcome.next.inj (gives.symm.trans h) ▸ holds

/-- A standard link in DATA at port 0, which is enabled and offers a mode. The frame that arrives there has been refused under a number that is no cause of
R267 (the model itself refuses frames under 1 and 6 only): it has no place among the port's discard counters, and the object with its key is 0x6800:5. -/
def refusedUnderNoCause : State :=
  { dev := { objs := [(key 0x1030 1, 1), (key 0x4000 4, 1), (key 0x4080 4, 3), (key 0x4080 6, 4)]
             ports := Vector.ofFn (fun p => if p = 0 then { native := { rx := some { refused := some (0x4300 * 256 + 5) } } } else {}) } }

/-- The link's end discards the frame, and what is counted there disables the port. -/
theorem refusedUnderNoCause_lose : (refusedUnderNoCause.dev.lose 0).linkState 0 = 0 := by decide +kernel

/-- Refutes O36: a standard link that fails while it receives a frame counts it under the cause that the frame carries, and where that is no cause of R267 the
count can fall on an object by which the port negotiates. -/
theorem not_linksAreLost : ¬ Obligations.LinksAreLost := by
  rintro ⟨-, -, -, -, -, -, -, -, -, -, -, -, -, -, -, -, lossLeaves⟩
  have loses : Does (.standardLinkFail 0) refusedUnderNoCause (fun d => d.lose 0) := does_of_event rfl (if_pos (by decide +kernel))
  obtain ⟨negotiates, -⟩ := loses.of_gives (lossLeaves refusedUnderNoCause 0 (by decide +kernel) (by decide +kernel) (by decide +kernel)
    (by decide +kernel) (by decide +kernel))
  rw [State.onDev_dev, refusedUnderNoCause_lose] at negotiates
  exact absurd negotiates (by decide)

end Sys2Proof.Machine

namespace Sys2Proof.Machine

/-! ## Selections (O39) -/

theorem Selection.portIs_of_port {sel : Selection} {p : Port} (h : sel.port? = some p) (f : Port → Bool) : sel.portIs f = f p := by
  simp only [Selection.portIs, h]

/-- The engine of a selection in range has taps in the port's mode. -/
theorem Dev.selectionInRange_engine {d : Dev} {sel : Selection} (h : d.selectionInRange sel = true) :
    sel.portIs (fun p => tapsOn (d.refMode p) (sel.pair % 4) sel.engine = 0) = false := by
  simp only [Dev.selectionInRange, Bool.and_eq_true, decide_eq_true_eq] at h
  obtain ⟨⟨⟨⟨⟨-, pair⟩, -⟩, some⟩, -⟩, within⟩ := h
  rw [Nat.mod_eq_of_lt pair]
  unfold Selection.portIs at within ⊢
  split at within
  · simp only [decide_eq_true_eq, decide_eq_false_iff_not] at within ⊢
    omega
  · cases within

/-- No tap of a written selection belongs to a disturber's slot that is empty. -/
theorem Selection.alienTaps_there {d : Dev} {p : Port} {sel : Selection}
    (h : sel.engine = 9 → (List.range sel.count).all (fun i => (d.tapKey p 9 (sel.first + i)).isSome) = true) :
    (sel.engine = 9 && (List.range sel.count).any (fun i => (d.tapKey p 9 (sel.first + i)).isNone) : Bool) = false := by
  rw [Bool.and_eq_false_imp]
  intro he
  have there := List.all_eq_true.mp (h (of_decide_eq_true he))
  exact List.any_eq_false.mpr (fun i hi => by simpa [Option.isSome_iff_ne_none] using there i hi)

/-! ## Windows (O39) -/

/-- An entry of the touchmark log stores no object. -/
theorem Dev.get_touch (d : Dev) (type : Nat) (body : List Byte) (i k : Nat) : (d.touch type body).get i k = d.get i k := rfl

/-- What the window of a discarded request shows stands while another window shows the request that takes its place. -/
theorem Dev.coefState_windowShows {v w : Fin 16} (h : v ≠ w) (d : Dev) (a b : Nat) :
    (((d.windowShows (some v) a).put (0x5400 + w) 4 b).get (0x5400 + v) 4) = a := by
  have other : 0x5400 + w.val ≠ 0x5400 + v.val := fun e => h (Fin.ext (by omega))
  exact (Dev.get_put_other _ _ _ _ _ _ (key_ne_index other (by decide) (by decide))).trans (Dev.get_put_same ..)

section
variable (d : Dev) (p : Port) (w : Fin 16) (sel : Selection) (values : Nat)

/-- The engine of a selection, moved on to the present. -/
def Dev.selectedEngine : Engine := (d.moveOn p false).engine p ⟨sel.pair % 4, by omega⟩ ⟨sel.engine % 11, by omega⟩

variable {d p sel}

theorem Dev.coefRequest_starts (h : (d.selectedEngine p sel).ramp = none) : (d.coefRequest p w sel values).get (0x5400 + w) 4 = 3 := by
  unfold Dev.selectedEngine at h
  unfold Dev.coefRequest
  simp only [h, Dev.get_touch, Dev.get_put_same]

theorem Dev.coefRequest_waits (h : (d.selectedEngine p sel).ramp ≠ none) : (d.coefRequest p w sel values).get (0x5400 + w) 4 = 4 := by
  obtain ⟨r, hr⟩ := Option.ne_none_iff_exists'.mp h
  unfold Dev.selectedEngine at hr
  unfold Dev.coefRequest
  cases hw : ((d.moveOn p false).engine p ⟨sel.pair % 4, by omega⟩ ⟨sel.engine % 11, by omega⟩).waiting <;>
    simp only [hr, hw, Dev.get_touch, Dev.get_put_same]

theorem Dev.coefRequest_replaces {old : Ramp} {v : Fin 16} (h : (d.selectedEngine p sel).ramp ≠ none)
    (hw : (d.selectedEngine p sel).waiting = some old) (hv : old.window = some v) (hne : v ≠ w) :
    (d.coefRequest p w sel values).get (0x5400 + v) 4 = 6 := by
  obtain ⟨r, hr⟩ := Option.ne_none_iff_exists'.mp h
  unfold Dev.selectedEngine at hr hw
  unfold Dev.coefRequest
  simp only [hr, hw, hv, Dev.get_touch]
  exact Dev.coefState_windowShows hne ..

end

/-! ## The coefficient store (O39) -/

/-- A native link whose checkpoint may not be taken now. -/
theorem Dev.checkpoint_held {d : Dev} {p : Port} (hn : d.native p = true) (hlow : 4 ≤ d.linkState p) (hhigh : d.linkState p ≤ 7)
    (h : d.portHeld p = true ∨ (d.port p).signal.writing.isSome = true) :
    d.checkpoint p = d.onSignal p (fun s => { s with checkpointDue := true }) :=
  (if_neg (by simp [hn, Nat.not_lt.mpr hlow, Nat.not_lt.mpr hhigh])).trans (if_pos (by simpa using h))

/-- Settles O39: a write by the conditions that refuse it or by its effect, a request in a window by the ramps of its engine, an event by the state of what it
ends. -/
theorem coefficientsAndCheckpoints : Obligations.CoefficientsAndCheckpoints := by
  refine ⟨?hold, ?endHold, ?noLink, ?tooLong, ?noHold, ?holdEnds, ?capture, ?badCapture, ?write, ?shows, ?precoder, ?notCaptured, ?rampEnds, ?waitingStarts,
    ?noRamp, ?release, ?releaseNothing, ?ckptNow, ?ckptNoData, ?timer, ?waits, ?done, ?notWriting, ?ecc⟩
  case hold =>
    intro s r p ms h hl hlow hhigh
    refine answers_of_write (fun _ d => d.adaptHoldOp r p ms) rfl h ((h.command_code _ _).trans ?_) (if_neg (by omega)) rfl
    simp [hl, Nat.not_lt.mpr hhigh]
  case endHold =>
    intro s r p h hl
    exact answers_of_write (fun _ d => d.adaptHoldOp r p 0) rfl h ((h.command_code _ _).trans (by simp [hl])) rfl rfl
  case noLink =>
    intro s r p ms h hl
    refine does_write_refused (fun _ d => d.adaptHoldOp r p ms) rfl h ((h.command_code _ _).trans ?_) rfl
    rw [hl]
    exact firstCode_head (by simp [Code.rank])
  case tooLong =>
    intro s r p ms h hl hms
    exact does_write_refused (fun _ d => d.adaptHoldOp r p ms) rfl h ((h.command_code _ _).trans (by simp [hl, hms]; rfl)) rfl
  case noHold => exact fun s p hu => does_of_event rfl (if_neg (by simp [hu]))
  case holdEnds => exact fun s p hu => does_of_event rfl (if_pos hu)
  case capture =>
    intro s r w sel h ht hin
    refine answers_of_write (fun _ d => d.captureOp r w sel) rfl h ((h.command_code _ _).trans ?_) rfl rfl
    simp [ht, hin, Dev.selectionInRange_engine hin]
  case badCapture =>
    intro s r w sel h ht
    refine ⟨fun ⟨he, htaps⟩ => ?_, fun hn hout => ?_⟩
    · refine does_write_refused (fun _ d => d.captureOp r w sel) rfl h ((h.command_code _ _).trans ?_) rfl
      simp only [ht, he, htaps, decide_true, Bool.and_true, firstCode_cons_false]
      exact firstCode_head (by simp [Code.rank])
    · refine does_write_refused (fun _ d => d.captureOp r w sel) rfl h ((h.command_code _ _).trans ?_) rfl
      have there : (decide ((selectionOf sel).engine < 11) && (selectionOf sel).portIs (fun p => tapsOn (s.dev.refMode p) ((selectionOf sel).pair % 4)
          (selectionOf sel).engine = 0)) = false := by
        rw [← Bool.not_eq_true, Bool.and_eq_true, decide_eq_true_eq]
        exact hn
      rw [ht, there, hout]
      rfl
  case write =>
    intro s r w values p h hc hp hne halien ht hd hroom hfits
    refine answers_of_write (fun _ d => d.coefWriteOp r w values) rfl h ((h.command_code _ _).trans ?_)
      (by simp only [Dev.coefWriteOp, Dev.command, hp]) rfl
    simp [hc, hne, Selection.alienTaps_there halien, Selection.portIs_of_port hp, ht, Dev.roomToLog, hroom, hd, hfits]
  case shows =>
    intro d p w sel values
    exact ⟨d.coefRequest_starts w values, Dev.coefRequest_waits w values,
      fun old hr hw v hv hne => Dev.coefRequest_replaces w values hr hw (Option.mem_def.mp hv) hne⟩
  case precoder =>
    intro s r w values h hc he
    refine does_write_refused (fun _ d => d.coefWriteOp r w values) rfl h ((h.command_code _ _).trans ?_) rfl
    simp only [hc, he, decide_true, Bool.and_self]
    exact firstCode_head (by simp [Code.rank, Dev.roomToLog])
  case notCaptured =>
    intro s r w values h hroom hc
    refine does_write_refused (fun _ d => d.coefWriteOp r w values) rfl h ((h.command_code _ _).trans ?_) rfl
    simp only [hc, Dev.roomToLog, hroom, Bool.false_and, Bool.not_false, Bool.true_or, firstCode_cons_false]
    exact firstCode_head (by simp [Code.rank])
  case rampEnds => exact fun s p k e r hr hw => does_of_event rfl (by simp only [Dev.coefRampEnd, hr, hw])
  case waitingStarts => exact fun s p k e r q hr hw => does_of_event rfl (by simp only [Dev.coefRampEnd, hr, hw])
  case noRamp => exact fun s p k e hr => does_of_event rfl (by simp only [Dev.coefRampEnd, hr]; rfl)
  case release =>
    intro s r w p h hc hp ht
    refine answers_of_write (fun _ d => d.coefReleaseOp r w 1) rfl h ((h.command_code _ _).trans ?_) ?_ rfl
    · simp [Selection.portIs_of_port hp, ht]
    · simp only [Dev.coefReleaseOp, Dev.one, Dev.command, hc, hp, Bool.not_true, Bool.false_eq_true, if_false]
      rfl
  case releaseNothing =>
    intro s r w h hc
    refine answers_of_write (fun _ d => d.coefReleaseOp r w 1) rfl h ((h.command_code _ _).trans (by simp [hc])) ?_ rfl
    simp only [Dev.coefReleaseOp, Dev.one, Dev.command, hc, Bool.not_false, if_true]
    rfl
  case ckptNow =>
    intro s r p h hn hd
    exact answers_of_write (fun _ d => d.ckptNowOp r p 1) rfl h ((h.command_code _ _).trans (by simp [hn, hd])) rfl rfl
  case ckptNoData =>
    intro s r p h hwhere
    refine does_write_refused (fun _ d => d.ckptNowOp r p 1) rfl h ((h.command_code _ _).trans ?_) rfl
    have refused : (!(s.dev.native p && s.dev.carriesData p)) = true := by rcases hwhere with hn | hd <;> simp [*]
    rw [refused]
    rfl
  case timer => exact fun s p => does_of_event rfl rfl
  case waits => exact fun d p => Dev.checkpoint_held
  case done => exact fun s p k c hw => does_of_event rfl (by simp only [Dev.checkpointDone, hw])
  case notWriting => exact fun s p hw => does_of_event rfl (by simp only [Dev.checkpointDone, hw]; rfl)
  case ecc => exact fun s p slot a => ⟨does_of_event rfl rfl, does_of_event rfl rfl⟩

end Sys2Proof.Machine

namespace Sys2Proof.Machine

/-! ## A microsecond without a command (O2) -/

theorem step_idle {s : State} (h : s.pending = []) : step s = .next s.idle := by
  unfold step
  rw [h]

theorem Dev.idle_off {d : Dev} (h : d.life = .off) : d.idle = d := by
  simp [Dev.idle, h]

theorem Dev.idle_starting {d : Dev} (h : d.life = .starting) : d.idle = { d with uptime := d.uptime + 1 } := by
  simp [Dev.idle, h]

theorem Dev.idle_running {d : Dev} (h : d.life = .running) :
    d.idle = { d.looks.tlmLatches.inbandWake with
      uptime := d.looks.tlmLatches.inbandWake.uptime + 1
      time := d.looks.tlmLatches.inbandWake.time.tick (signed 32 (d.looks.tlmLatches.inbandWake.get 0x6000 4)) } := by
  simp [Dev.idle, h]

/-- No latch copies before its sample instant has passed (R351). -/
theorem Dev.tlmLatches_waits {d : Dev} (h : ∀ k, d.tlm.latchAt = some k → d.tlmCount ≤ k) : d.tlmLatches = d := by
  unfold Dev.tlmLatches
  split
  · next k hk => exact if_neg (Nat.not_lt.mpr (h k hk))
  · rfl

theorem Dev.wakeIfPending_idle {d : Dev} {p : Port} (h : d.linePending p = false) : d.wakeIfPending p = d :=
  if_neg (ne_true_of_eq_false h)

/-- No direction wakes where the management port has nothing to send (R201). -/
theorem Dev.inbandWake_idle {d : Dev} (h : ∀ p : Port, d.get 0x1424 1 = p.val → d.linePending p = false) : d.inbandWake = d := by
  unfold Dev.inbandWake
  split
  · exact Dev.wakeIfPending_idle (h _ rfl)
  · rfl

/-- Settles O2: an idle step by the life of the device. -/
theorem idleTick : Obligations.IdleTick := by
  refine ⟨?step, fun _ _ => rfl, fun _ => Dev.tlmLatches_waits, fun _ => Dev.inbandWake_idle⟩
  case step =>
    intro s hs
    have idles {d : Dev} (h : s.dev.idle = d) : step s = .next { s with dev := d } := by
      rw [step_idle hs, State.idle, State.onDev, h]
    exact ⟨fun h => idles (Dev.idle_off h), fun h => idles (Dev.idle_starting h), fun h => idles (Dev.idle_running h)⟩

end Sys2Proof.Machine

namespace Sys2Proof.Machine

/-! ## Warm relock (O35) -/

theorem Dev.nativeLink_iff (d : Dev) (p : Port) :
    d.nativeLink p = true ↔ d.native p = true ∧ (d.linkState p = 4 ∨ d.linkState p = 6 ∨ d.linkState p = 7) := by
  simp [Dev.nativeLink, or_assoc]

/-- A trigger of a native link that does not relock, and where none waits, waits for its start (R183). -/
theorem Dev.relockTrigger_waits {d : Dev} {p : Port} (hn : d.nativeLink p = true) (hr : (d.port p).link.relock = none)
    (hp : (d.port p).link.relockPending = none) (cause : Nat) :
    d.relockTrigger p cause = d.onLink p (fun l => { l with relockPending := some cause }) := by
  obtain ⟨native, state⟩ := (Dev.nativeLink_iff d p).mp hn
  have links : ¬ (!d.native p || d.linkState p < 4 || 7 < d.linkState p : Bool) = true := by
    simp only [native, Bool.not_true, Bool.false_or, Bool.or_eq_true, decide_eq_true_eq]
    omega
  simp only [Dev.relockTrigger, links, hr, hp, Bool.false_eq_true, Option.isNone_none, if_true, if_false]

/-- RELOCK_NOW is refused by whether a relock runs or waits, and by whether the link is a native one (R192). -/
theorem Ready.relockNow_code {s : State} {r : Req} {p : Port} (h : Ready s r (0x4180 + p) 0x10 1) :
    firstCode (s.dev.relockNowOp r p 1).checks = firstCode
      [(s.dev.native p && (s.dev.linkState p = 5 || (s.dev.port p).link.relockPending.isSome), .busy), (!s.dev.nativeLink p, .state), (false, .range)] :=
  h.command_code _ _

section
variable {d : Dev} {p : Port} {r : Relock} {tenths : Nat}

/-- A relock that runs has not been reacquired before its state is loaded, nor a second time; in quiet it is complete, and with HOLD it waits, sends RESUME, or
is complete with it. -/
theorem Dev.relockReacquired_running (h : (d.port p).link.relock = some r) :
    d.relockReacquired p tenths =
      if !r.reloaded || r.resumed then d
      else if r.silent then d.relockDone p r tenths
      else if !r.burst || ((d.port p).link.held && !r.heard) then d
      else if r.answered then (d.resumeSent p r tenths).relockDone p r tenths
      else d.resumeSent p r tenths := by
  unfold Dev.relockReacquired
  rw [h]
  rfl

theorem Dev.relockReacquired_idle (h : ∀ r ∈ (d.port p).link.relock, r.reloaded = false ∨ r.resumed = true) : d.relockReacquired p tenths = d := by
  cases hr : (d.port p).link.relock with
  | none => simp only [Dev.relockReacquired, hr]
  | some r => exact (Dev.relockReacquired_running hr).trans (if_pos (by rcases h r hr with h | h <;> simp [h]))

/-- A relock in quiet, once reacquired, is complete (R190). -/
theorem Dev.relockReacquired_silent (h : (d.port p).link.relock = some r) (hl : r.reloaded = true) (hr : r.resumed = false) (hs : r.silent = true) :
    d.relockReacquired p tenths = d.relockDone p r tenths :=
  (Dev.relockReacquired_running h).trans ((if_neg (by simp [hl, hr])).trans (if_pos hs))

/-- A relock with HOLD is not reacquired before its burst, nor on another burst than the partner's where both ends relock (R188). -/
theorem Dev.relockReacquired_waits (h : (d.port p).link.relock = some r) (hs : r.silent = false)
    (hw : r.burst = false ∨ ((d.port p).link.held = true ∧ r.heard = false)) : d.relockReacquired p tenths = d := by
  have waits : (!r.burst || ((d.port p).link.held && !r.heard) : Bool) = true := by simpa using hw
  simp only [Dev.relockReacquired_running h, hs, waits, Bool.false_eq_true, if_true, if_false, ite_self]

/-- A relock with HOLD, once reacquired, sends RESUME, and is complete where the partner's has come (R185). -/
theorem Dev.relockReacquired_resumes (h : (d.port p).link.relock = some r) (hl : r.reloaded = true) (hb : r.burst = true) (hr : r.resumed = false)
    (hs : r.silent = false) (hw : (d.port p).link.held = false ∨ r.heard = true) :
    d.relockReacquired p tenths = if r.answered then (d.resumeSent p r tenths).relockDone p r tenths else d.resumeSent p r tenths := by
  have goes : (!r.burst || ((d.port p).link.held && !r.heard) : Bool) = false := by rcases hw with h | h <;> simp [hb, h]
  simp only [Dev.relockReacquired_running h, hl, hr, hs, goes, Bool.not_true, Bool.or_self, Bool.false_eq_true, if_false]

end

/-- Settles O35: a request by the conditions that refuse it, an event by the state of the relock or the hold that it is about. -/
theorem warmRelock : Obligations.WarmRelock := by
  refine ⟨?asked, ?busy, ?noLink, ?starts, ?noStart, ?silent, ?resumes, ?waits, ?notRelocking, ?fails, ?noLimit, ?expires, ?notHeld⟩
  case asked =>
    intro s r p h hn hr hp
    obtain ⟨native, state⟩ := (Dev.nativeLink_iff s.dev p).mp hn
    have noRelock : s.dev.linkState p ≠ 5 := by omega
    exact answers_of_write (fun _ d => d.relockNowOp r p 1) rfl h (h.relockNow_code.trans (by simp [hn, hp, noRelock]))
      (Dev.relockTrigger_waits hn hr hp 5) rfl
  case busy =>
    intro s r p h hn hwhen
    refine does_write_refused (fun _ d => d.relockNowOp r p 1) rfl h (h.relockNow_code.trans ?_) rfl
    have busy : (s.dev.native p && (s.dev.linkState p = 5 || (s.dev.port p).link.relockPending.isSome) : Bool) = true := by simpa [hn] using hwhen
    rw [busy]
    exact firstCode_head (by simp [Code.rank])
  case noLink =>
    intro s r p h hn hstate hpending
    refine does_write_refused (fun _ d => d.relockNowOp r p 1) rfl h (h.relockNow_code.trans ?_) rfl
    have notBusy : (s.dev.native p && (s.dev.linkState p = 5 || (s.dev.port p).link.relockPending.isSome) : Bool) = false := by
      cases hnat : s.dev.native p
      · rfl
      · simpa [hnat] using And.intro hstate hpending
    rw [notBusy, firstCode_cons_false, hn]
    exact firstCode_head (by simp [Code.rank])
  case starts => exact fun s p c hn hr hp => does_of_event rfl (by simp only [hp, hn, hr, Option.isNone_none, Bool.and_self, if_true])
  case noStart =>
    intro s p hwhen
    refine does_of_event rfl ?_
    cases hp : (s.dev.port p).link.relockPending with
    | none => rfl
    | some c =>
      refine if_neg ?_
      rcases hwhen with none | hn | hr
      · cases hp.symm.trans none
      · simp [hn]
      · simp [hr]
  case silent => exact fun s p r tenths h hl hr hs => does_of_event rfl (Dev.relockReacquired_silent h hl hr hs)
  case resumes =>
    intro s p r tenths h hl hb hr hs hw
    have resumes := Dev.relockReacquired_resumes (tenths := tenths) h hl hb hr hs hw
    exact ⟨fun ha => does_of_event rfl (resumes.trans (if_neg (ne_true_of_eq_false ha))), fun ha => does_of_event rfl (resumes.trans (if_pos ha))⟩
  case waits => exact fun s p r tenths h hs hw => does_of_event rfl (Dev.relockReacquired_waits h hs hw)
  case notRelocking => exact fun s p tenths h => does_of_event rfl (Dev.relockReacquired_idle h)
  case fails => exact fun s p r h hs ha => does_of_event rfl (if_pos (by simp [h, hs, ha]))
  case noLimit =>
    intro s p h
    refine does_of_event rfl (if_neg ?_)
    rw [Bool.not_eq_true, Option.any_eq_false]
    intro r hr
    rcases h r hr with h | h <;> simp [h]
  case expires => exact fun s p h => does_of_event rfl (if_pos h)
  case notHeld => exact fun s p h => does_of_event rfl (if_neg (ne_true_of_eq_false h))

end Sys2Proof.Machine

namespace Sys2Proof.Machine

/-! ## Quiet, deep quiet and low-power idle (O37) -/

section
variable {d : Dev} {p : Port}

theorem Dev.enterQuiet_native (h : d.native p = true) :
    d.enterQuiet p =
      let e := ((Dev.flagFrames p 2 4 d).onNative p (fun n => { n with txBits := [] })).streamStops p
      ((((e.setTxQuiet p 2).event (0x4080 + p) 11).inc (0x4280 + p) 0xA).onLink p
        (fun l => { l with quietSince := some e.uptime, deepSent := false })).quietLink p := by
  simp only [Dev.enterQuiet, h, if_true]

theorem Dev.enterQuiet_standard (h : d.native p = false) :
    d.enterQuiet p = ((((d.setTxQuiet p 2).event (0x4080 + p) 11).inc (0x4280 + p) 0xA).onLink p
      (fun l => { l with quietSince := some d.uptime, deepSent := false })).quietLink p := by
  simp only [Dev.enterQuiet, h, Bool.false_eq_true, if_false]

/-- A refresh is sent in QUIET, and received there and in a relock (R200). -/
theorem Dev.refresh_elsewhere {sent : Bool} (h : d.native p = false ∨ (d.linkState p ≠ 6 ∧ (d.linkState p ≠ 5 ∨ sent = true))) :
    d.refresh p sent = d := by
  refine if_pos ?_
  rcases h with hn | ⟨h6, h5⟩
  · simp [hn]
  · rcases h5 with h5 | hs
    · simp [h6, h5]
    · simp [h6, hs]

theorem Dev.refresh_sent (hn : d.native p = true) (hl : d.linkState p = 6) :
    d.refresh p true = if d.txQuiet p = 2 || d.txQuiet p = 3 then
        ((((Dev.sendBurst p (if d.txQuiet p = 3 then 3 else 0) 8 d).moveOn p true).othersLearn p).onLink p
          (fun l => { l with deepSent := l.deepSent || d.txQuiet p = 3 })).deepCheck p
      else d :=
  (if_neg (by simp [hn, hl])).trans (if_pos rfl)

/-- A refresh that is received is one of a direction that is quiet, or that seemed to wake. -/
theorem Dev.refresh_received (hn : d.native p = true) (hl : d.linkState p = 5 ∨ d.linkState p = 6) :
    d.refresh p false = if d.rxQuiet p = 2 || d.rxQuiet p = 3 then ((d.tlmRefreshed p).moveOn p true).deepCheck p
      else if d.rxQuiet p = 5 then (((d.setRxQuiet p 2).tlmRefreshed p).moveOn p true).deepCheck p
      else d :=
  (if_neg (by rcases hl with hl | hl <;> simp [hn, hl])).trans (if_neg Bool.false_ne_true)

/-- A wake tone wakes a native link in deep quiet: an end that has not sent its own answers, and both send their burst (R205). -/
theorem Dev.wakeTone_deep (hl : d.linkState p = 7) (hn : d.native p = true) :
    d.wakeTone p =
      let e := if d.txQuiet p = 5 then d else ((d.quietLeave p).setTxQuiet p 5).emit (.wakeTone p)
      Dev.sendBurst p 0 (burstFrames (e.mode p) 600) (((((e.rxWaking p).widen (dieOf p) .up).widen (dieOf p) .down).trimsLoad p).moveOn p true) :=
  if_neg (by simp [hl, hn])

theorem Dev.lpi_standard (hn : d.native p = false) (hl : d.linkState p = 4 ∨ d.linkState p = 6) (enter : Bool) :
    d.lpi p enter = if enter then (((d.calUnsuitable p 1).setRxQuiet p 2).event (0x4080 + p) 11).quietLink p
      else ((d.widen (dieOf p) .up).setRxQuiet p 0).quietLink p :=
  if_neg (by rcases hl with hl | hl <;> simp [hn, hl])

end

/-- Settles O37: each command is an event of the device, whose cases are the states of the link and of its directions. -/
theorem quietLife : Obligations.QuietLife := by
  refine ⟨?entersNative, ?entersStandard, ?stays, ?sends, ?receives, ?unwakes, ?noRefresh, ?deepAsked, ?deepNotAsked, ?toneAnswer, ?toneFirst, ?notDeep,
    ?master, ?slave, ?missing, ?wakeFails, ?standard, ?lpi, ?nativeLpi⟩
  case entersNative => exact fun s p hq hn => does_of_event rfl ((if_pos hq).trans (Dev.enterQuiet_native hn))
  case entersStandard => exact fun s p hq hn => does_of_event rfl ((if_pos hq).trans (Dev.enterQuiet_standard hn))
  case stays => exact fun s p hq => does_of_event rfl (if_neg (ne_true_of_eq_false hq))
  case sends => exact fun s p hn hl ht => does_of_event rfl ((Dev.refresh_sent hn hl).trans (if_pos (by simpa using ht)))
  case receives => exact fun s p hn hl hr => does_of_event rfl ((Dev.refresh_received hn hl).trans (if_pos (by simpa using hr)))
  case unwakes =>
    intro s p hn hl hr
    exact does_of_event rfl ((Dev.refresh_received hn hl).trans ((if_neg (by simp [hr])).trans (if_pos hr)))
  case noRefresh => exact fun s p sent h => does_of_event rfl (Dev.refresh_elsewhere h)
  case deepAsked => exact fun s p hn hl ht hm hc => does_of_event rfl (if_pos (by simp [hn, hl, ht, hm, hc]))
  case deepNotAsked =>
    intro s p h
    refine does_of_event rfl (if_neg ?_)
    rcases h with h | h | h <;> simp [h]
  case toneAnswer =>
    intro s p hl hn ht
    exact does_of_event rfl ((Dev.wakeTone_deep hl hn).trans (by simp only [ht, if_true]))
  case toneFirst =>
    intro s p hl hn ht
    exact does_of_event rfl ((Dev.wakeTone_deep hl hn).trans (by simp only [ht, if_false]))
  case notDeep =>
    intro s p hl
    exact ⟨does_of_event rfl (if_pos (by simp [hl])), does_of_event rfl (if_neg (by simp [hl])), does_of_event rfl (if_neg (by simp [hl]))⟩
  case master => exact fun s p hl hm => ⟨does_of_event rfl (if_pos (by simp [hl, hm])), does_of_event rfl (if_neg (by simp [hm]))⟩
  case slave => exact fun s p hl hm => ⟨does_of_event rfl (if_neg (by simp [hm])), does_of_event rfl (if_pos (by simp [hl, hm]))⟩
  case missing => exact fun s p hn h => does_of_event rfl (if_pos (by simpa [hn, and_assoc] using h))
  case wakeFails =>
    intro s p hn hlow hhigh hq
    exact does_of_event rfl (if_pos (by simpa [hn, hlow, hhigh] using hq))
  case standard => exact fun s p hn => ⟨does_of_event rfl (if_neg (by simp [hn])), does_of_event rfl (if_neg (by simp [hn]))⟩
  case lpi =>
    intro s p hn hl
    exact ⟨does_of_event rfl ((Dev.lpi_standard hn hl true).trans (if_pos rfl)),
      does_of_event rfl ((Dev.lpi_standard hn hl false).trans (if_neg Bool.false_ne_true))⟩
  case nativeLpi => exact fun s p enter hn => does_of_event rfl (if_pos (by simp [hn]))

end Sys2Proof.Machine

namespace Sys2Proof.Machine

/-! ## The one-way store only moves forward, and stays legal (O5 to O7) -/

/-- What every step may do to the one-way store: advance it, and keep it legal. -/
def Vault.Evolves (v w : Vault) : Prop := v.Advances w ∧ (v.Legal → w.Legal)

theorem Vault.Evolves.refl (v : Vault) : v.Evolves v := ⟨.refl v, id⟩

theorem Vault.Evolves.of_eq {v w : Vault} (h : w = v) : v.Evolves w := h ▸ .refl v

theorem Vault.Evolves.trans {u v w : Vault} (h : u.Evolves v) (k : v.Evolves w) : u.Evolves w :=
  ⟨h.1.trans k.1, k.2 ∘ h.2⟩

/-! ### The four writes that reach it -/

theorem enrolOp_evolves (v : Vault) (d e : Dev) (r : Req) (pub : List Byte) (role : Nat) : v.Evolves ((enrolOp v d r pub role).effect v e).1 := by
  unfold enrolOp
  dsimp only
  split
  · exact .refl v
  · exact .refl v

theorem revokeOp_evolves (v : Vault) (d e : Dev) (r : Req) (keyId : List Byte) : v.Evolves ((revokeOp v d r keyId).effect v e).1 := by
  unfold revokeOp
  dsimp only
  split
  · exact .refl v
  · exact .refl v

/-- A confirmed trial takes each fuse to the greater of two levels, one of which it has. -/
theorem confirmOp_evolves (v : Vault) (d e : Dev) (r : Req) (x : Nat) : v.Evolves ((confirmOp d r x).effect v e).1 :=
  ⟨⟨Nat.le_refl _, fun i => by simp [confirmOp, Vector.get_ofFn]⟩, id⟩

/-- A life-cycle request is granted for a transition of R216 only. -/
theorem lifeOp_evolves {v : Vault} {d e : Dev} {r : Req} {dest : Nat} {gwynale owner : List Byte} {keys : List (List Byte)} {root : Option (List Byte)}
    (h : firstCode (lifeOp v d r dest gwynale owner keys root).checks = .ok) : v.Evolves ((lifeOp v d r dest gwynale owner keys root).effect v e).1 := by
  have allowed : (!lifeAllowed v.lifecycle dest) = false := firstCode_mem (c := .state) h (by simp [lifeOp]) (by decide)
  obtain ⟨advances, -, legal⟩ := lifeEffect_advances (keys := keys) (root := root)
    (d := ((e.tokensWait r v dest).born dest).touch 0x0030 (bytesOf 1 v.lifecycle ++ bytesOf 1 dest ++ e.keyIdOf r)) (by simpa using allowed)
  exact ⟨advances, legal⟩

/-! ### Writes of objects, whatever they name -/

theorem writeOp_evolves {v : Vault} {d : Dev} {r : Req} {idx sub x : Nat} {cls : Cls} {o : VOp} (ho : writeOp v d r idx sub x cls = .vault o)
    (h : firstCode o.checks = .ok) : v.Evolves (o.effect v d).1 := by
  unfold writeOp at ho
  split at ho
  · cases ho
  · cases ho
  · split at ho <;> cases ho
  · cases ho
  · split at ho
    · cases ho; exact lifeOp_evolves h
    · cases ho; exact enrolOp_evolves ..
    · cases ho; exact revokeOp_evolves ..
    · cases ho; exact confirmOp_evolves ..
    · split at ho <;> cases ho

/-- The write that an item names is one of `writeOp`, under further conditions. -/
theorem itemOp_evolves {s : State} {r : Req} {w : WItem} {o : VOp} (ho : (itemOp s r w).2.2 = .vault o) (h : firstCode o.checks = .ok) :
    s.vault.Evolves (o.effect s.vault s.dev).1 := by
  have under : ∀ {idx sub x : Nat} {cls : Cls} {more : List (Bool × Code)}, (writeOp s.vault s.dev r idx sub x cls).under more = .vault o →
      s.vault.Evolves (o.effect s.vault s.dev).1 := by
    intro idx sub x cls more hu
    obtain ⟨u, hu, hc, he⟩ := AnyOp.under_vault hu h
    rw [he]
    exact writeOp_evolves hu hc
  unfold itemOp at ho
  dsimp only at ho
  split at ho
  · cases ho
  · split at ho
    · split at ho
      · cases ho
      · exact under ho
    · exact under ho

theorem State.writeItem_evolves (s : State) (r : Req) (w : WItem) : s.vault.Evolves (s.writeItem r w).2.2.vault := by
  obtain ⟨-, same | ⟨o, ho, hc, he⟩⟩ := (itemOp s r w).2.2.apply_vault r (itemOp s r w).1 (itemOp s r w).2.1 s
  · exact .of_eq same
  · exact he.symm ▸ itemOp_evolves ho hc

theorem State.writeAccess_evolves (s : State) (r : Req) (w : WItem) : s.vault.Evolves (s.writeAccess r w).vault := by
  unfold State.writeAccess
  split
  · exact .refl _
  · split
    · exact .refl _
    · exact s.writeItem_evolves r w

theorem State.access_evolves (s : State) (a : Access) : s.vault.Evolves (s.access a).vault := by
  cases a with
  | write r w => exact s.writeAccess_evolves r w
  | clear r index seq => exact s.writeAccess_evolves r _
  | read r i => exact .refl _

theorem State.accesses_evolves (wide : Nat) (l : List Access) (warm : Bool) (s : State) : s.vault.Evolves (State.accesses wide warm s l).vault := by
  induction l generalizing warm s with
  | nil => exact .refl _
  | cons a l ih =>
    have dropped : (s.dropped a).vault = s.vault := by cases a <;> rfl
    have merged : (s.merged a).vault = s.vault := by cases a <;> rfl
    simp only [State.accesses]
    split
    · exact (s.access_evolves a).trans (ih _ _)
    · split
      · exact (Vault.Evolves.of_eq dropped).trans (ih _ _)
      · split
        · exact (Vault.Evolves.of_eq merged).trans (ih _ _)
        · exact (s.access_evolves a).trans (ih _ _)

theorem State.writeItems_evolves (r : Req) (l : List WItem) (s : State) : s.vault.Evolves (State.writeItems r s l).2.2.vault := by
  induction l generalizing s with
  | nil => exact .refl _
  | cons w l ih => exact (s.writeItem_evolves r w).trans (ih _)

theorem State.serveWrites_evolves (s : State) (h : MHdr) (op low high : Nat) (items : List WItem) :
    s.vault.Evolves (s.serveWrites h op low high items).vault := by
  unfold State.serveWrites
  split
  · exact .refl _
  · split
    · exact .refl _
    · simpa only [State.onDev_vault] using State.writeItems_evolves (MHdr.req h) items s

theorem State.writeFrame_evolves (s : State) (h : MHdr) (op low high : Nat) (items : List WItem) :
    s.vault.Evolves (s.writeFrame h op low high items).vault := by
  unfold State.writeFrame
  dsimp only
  split
  · exact State.serveWrites_evolves { s with dev := (s.dev.frameTaken h op items.length (items.flatMap writeItemBytes)).2 } h op low high items
  · exact .refl _

theorem State.vaultWrite_evolves {s t : State} {r : Req} {idx sub : Nat} {heard : Bool} {o : VOp} (h : s.vaultWrite r idx sub heard o = .next t)
    (ho : firstCode o.checks = .ok → s.vault.Evolves (o.effect s.vault s.dev).1) : s.vault.Evolves t.vault := by
  obtain ⟨u, hu, -, same | ⟨hc, he⟩⟩ := s.vaultWrite_next r idx sub heard o
  · cases hu.symm.trans h
    exact .of_eq same
  · cases hu.symm.trans h
    exact he.symm ▸ ho hc

/-! ### Commands and steps -/

/-- A command that is an event of the device, or a write that does not reach the one-way store, leaves it. -/
theorem evolves_of_onDev {c : Instr} {s t : State} {f : Dev → Dev} (hc : exec c s = .next (s.onDev f)) (h : exec c s = .next t) :
    s.vault.Evolves t.vault := by
  cases hc.symm.trans h
  exact .refl _

theorem tapInstruction_evolves {code : TapCode} {s t : State} (h : exec (.tapInstruction code) s = .next t) : s.vault.Evolves t.vault := by
  change execTapInstruction code s = .next t at h
  unfold execTapInstruction at h
  split at h
  · split at h <;> cases h
    exact .refl _
  · cases h; exact .refl _
  · cases h; exact .refl _

theorem bitAliasWrite_evolves {r : Req} {index sub v : Nat} {s t : State} (h : exec (.bitAliasWrite r index sub v) s = .next t) :
    s.vault.Evolves t.vault := by
  change execBitAliasWrite r index sub v s = .next t at h
  unfold execBitAliasWrite at h
  split at h
  · cases h; exact .refl _
  · cases h; exact s.writeAccess_evolves r _

/-- The commands of `storesInVault` come down to the writes above; every other command changes the device alone. -/
theorem exec_evolves {c : Instr} {s t : State} (h : exec c s = .next t) : s.vault.Evolves t.vault := by
  cases c
  case managerEnrol => exact State.vaultWrite_evolves h fun _ => enrolOp_evolves ..
  case managerRevoke => exact State.vaultWrite_evolves h fun _ => revokeOp_evolves ..
  case lifecycleToManufacture => exact State.vaultWrite_evolves h lifeOp_evolves
  case lifecycleToProvisioned => exact State.vaultWrite_evolves h lifeOp_evolves
  case lifecycleToDeployed => exact State.vaultWrite_evolves h lifeOp_evolves
  case lifecycleToReturned => exact State.vaultWrite_evolves h lifeOp_evolves
  case lifecycleToRetired => exact State.vaultWrite_evolves h lifeOp_evolves
  case fwConfirm => exact State.vaultWrite_evolves h fun _ => confirmOp_evolves ..
  case objectWrite r w => cases h; exact s.writeAccess_evolves r w
  case stClear r index seq => cases h; exact s.writeAccess_evolves r _
  case write => cases h; exact s.writeFrame_evolves ..
  case writeMulti => cases h; exact s.writeFrame_evolves ..
  case arbitrationGrant => cases h; exact State.accesses_evolves ..
  case bitAliasWrite => exact bitAliasWrite_evolves h
  case tapInstruction => exact tapInstruction_evolves h
  all_goals exact evolves_of_onDev rfl h

theorem step_evolves {s t : State} (h : step s = .next t) : s.vault.Evolves t.vault := by
  unfold step at h
  split at h
  next => cases h; exact .refl _
  next c rest _ => exact exec_evolves (s := { s with pending := rest }) h

/-- Settles O5: a step is a command or an idle microsecond, and none moves the one-way store back. -/
theorem vaultAdvances : Obligations.VaultAdvances := fun _ _ h => (step_evolves h).1

/-- Settles O6: a step is a command or an idle microsecond, and each keeps the one-way store legal. -/
theorem vaultStaysLegal : Obligations.VaultStaysLegal := fun _ _ legal h => (step_evolves h).2 legal

/-- Settles O7: the blank store of reset is in BLANK, without an identity key. -/
theorem vaultLegalAtReset : Obligations.VaultLegalAtReset := ⟨by decide, fun _ => rfl, fun _ => rfl⟩

end Sys2Proof.Machine

namespace Sys2Proof.Machine

/-! ## Sealing modes, rekeys and secure associations (O40) -/

/-- A write that is refused with ERR_AUTH is counted, and does nothing else but answer (R65). -/
theorem does_write_auth (o : Vault → Dev → Op) {c : Instr} {s : State} {r : Req} {idx sub v : Nat} (hc : exec c s = s.write r idx sub o)
    (h : Ready s r idx sub v) (refused : firstCode (o s.vault s.dev).checks = .auth) (hr : (o s.vault s.dev).refusal = fun _ d => d) :
    Does c s (fun d => (d.inc 0x1404 3).answer r .auth) := by
  have runs := Op.run_refused idx sub h.heard h.delivered refused (by decide)
  rw [hr] at runs
  exact does_of_event hc runs

theorem Ready.rekey_code {s : State} {r : Req} {p : Port} (h : Ready s r (0x4400 + p) 0xF 1) :
    firstCode (s.dev.rekeyOp r p 1).checks = firstCode [(s.dev.rekeying p, .busy), (!s.dev.sealedData p, .state), (false, .range)] :=
  h.command_code _ _

theorem Ready.saInstall_code {s : State} {r : Req} {p : Port} {v : SaInstall} (h : Ready s r (0x4400 + p) 0x10 0) (hm : s.dev.get (0x4400 + p) 1 = 3)
    (hl : s.dev.hall.logClosed = false) : firstCode (s.dev.saInstallOp r p v).checks = if (s.dev.unwrapped r v).isNone then .auth else .ok := by
  refine (h.command_code _ _).trans ?_
  cases s.dev.unwrapped r v <;> simp [hm, hl, firstCode, Code.first_ok]

theorem anOf_val (an : Fin 4) : anOf an = an := Fin.ext (Nat.mod_eq_of_lt an.isLt)

theorem Ready.saSelect_code {s : State} {r : Req} {p : Port} {an : Fin 4} (h : Ready s r (0x4400 + p) 0x11 an) :
    firstCode (s.dev.saSelectOp r p an).checks = if ((s.dev.port p).crypt.tx.get an).isSome then .ok else .state := by
  refine (h.command_code _ _).trans ?_
  have inRange : ¬ 3 < an.val := by omega
  cases htx : (s.dev.port p).crypt.tx.get an <;> simp [Dev.txHas, anOf_val, htx, inRange, firstCode, Code.first_ok]

section
variable {d : Dev} {p : Port}

theorem Dev.oldKeyErase_some {an : Fin 4} (h : (d.port p).crypt.oldAn = some an) :
    d.oldKeyErase p = (d.keySwitch p).onCrypt p (fun c => { c with rx := upd c.rx an (fun _ => none), oldAn := none }) := by
  unfold Dev.oldKeyErase
  rw [h]

theorem Dev.oldKeyErase_none (h : (d.port p).crypt.oldAn = none) : d.oldKeyErase p = d := by
  unfold Dev.oldKeyErase
  rw [h]

theorem Dev.rekeyRetry_idle (h : d.sealedUp p = false ∨ d.rekeySince p = none) : d.rekeyRetry p = d := by
  unfold Dev.rekeyRetry
  rcases h with h | h <;> simp [h]

/-- A rekey that waits to succeed: 60 s after its trigger its link ends; before, one whose exchange has failed is tried again (R228). -/
theorem Dev.rekeyRetry_waiting {t : Nat} (hu : d.sealedUp p = true) (ht : d.rekeySince p = some t) :
    d.rekeyRetry p = if t + 60000000 ≤ d.uptime then ((d.sealNote p 5).lose p).put (0x4400 + p) 0xA 4
      else if (d.port p).crypt.exchange.isSome then d else d.rekey p := by
  simp only [Dev.rekeyRetry, hu, ht, Bool.not_true, Bool.false_eq_true, if_false]

end

/-- Settles O40: each write is one of its object's, and each event a case of its definition. -/
theorem sealKeys : Obligations.SealKeys := by
  refine ⟨?mode, ?modeEnds, ?rekey, ?rekeyBusy, ?rekeyState, ?timerIdle, ?timer, ?erase, ?eraseNone, ?late, ?again, ?noRetry, ?install, ?select,
    ?selectNone, ?delete⟩
  case mode => exact fun s r p v h he => answers_of_plainWrite rfl h rfl (if_neg (ne_true_of_eq_false he))
  case modeEnds => exact fun s r p v h he => answers_of_plainWrite rfl h rfl (if_pos he)
  case rekey =>
    intro s r p h hd hr
    exact answers_of_write (fun _ d => d.rekeyOp r p 1) rfl h (h.rekey_code.trans (by simp [hd, hr])) rfl rfl
  case rekeyBusy =>
    intro s r p h hr
    exact does_write_refused (fun _ d => d.rekeyOp r p 1) rfl h (h.rekey_code.trans (hr ▸ firstCode_head (by simp [Code.rank]))) rfl
  case rekeyState =>
    intro s r p h hr hd
    exact does_write_refused (fun _ d => d.rekeyOp r p 1) rfl h (h.rekey_code.trans (by simp [hr, hd, firstCode, Code.first_ok])) rfl
  case timerIdle =>
    intro s p h
    refine does_of_event rfl (if_neg ?_)
    rcases h with h | h <;> simp [h]
  case timer => exact fun s p hu hr => does_of_event rfl (if_pos (by simp [hu, hr]))
  case erase => exact fun s p an h => does_of_event rfl (Dev.oldKeyErase_some h)
  case eraseNone => exact fun s p h => does_of_event rfl (Dev.oldKeyErase_none h)
  case late => exact fun s p t hu ht hlate => does_of_event rfl ((Dev.rekeyRetry_waiting hu ht).trans (if_pos hlate))
  case again =>
    intro s p t hu hx ht hearly
    have since : s.dev.rekeySince p = some t := by simp [Dev.rekeySince, ht]
    exact does_of_event rfl ((Dev.rekeyRetry_waiting hu since).trans ((if_neg (by omega)).trans (if_neg (by simp [hx]))))
  case noRetry => exact fun s p h => does_of_event rfl (Dev.rekeyRetry_idle h)
  case install =>
    intro s r p v h hm hl
    have code := h.saInstall_code (v := v) hm hl
    cases hu : s.dev.unwrapped r v with
    | none =>
      refine does_of_event (does_write_auth (fun _ d => d.saInstallOp r p v) rfl h (code.trans (by simp [hu])) rfl) ?_
      simp only [hu]
    | some sak =>
      refine does_of_event (answers_of_write (fun _ d => d.saInstallOp r p v) rfl h (code.trans (by simp [hu]))
        (f := fun d => d.saPut p v sak) (by simp only [Dev.saInstallOp, Dev.command, hu]) rfl) ?_
      simp only [hu]
  case select =>
    intro s r p an h htx
    exact answers_of_write (fun _ d => d.saSelectOp r p an) rfl h (h.saSelect_code.trans (if_pos htx))
      (by simp only [Dev.saSelectOp, Dev.command, anOf_val]) rfl
  case selectNone =>
    intro s r p an h htx
    exact does_write_refused (fun _ d => d.saSelectOp r p an) rfl h (h.saSelect_code.trans (by simp [htx])) rfl
  case delete => exact fun s r p v h => answers_of_write (fun _ d => d.saDeleteOp r p v) rfl h (h.command_code _ _) rfl rfl

end Sys2Proof.Machine

namespace Sys2Proof.Machine

/-! ## The messages of a sealing exchange (O41, O42) -/

theorem Dev.port_gotMessage (d : Dev) (p q : Port) : (d.gotMessage p).port q = d.port q := rfl

theorem Dev.sealedUp_gotMessage (d : Dev) (p : Port) : (d.gotMessage p).sealedUp p = d.sealedUp p := by
  have mode : (d.gotMessage p).mode p = d.mode p := Dev.get_gotMessage (by omega) (by decide) d
  simp only [Dev.sealedUp, Dev.native, Dev.linkUp, mode, Dev.linkState_gotMessage]
  rw [Dev.get_gotMessage (by omega) (by decide)]

theorem Dev.sealEpoch_gotMessage (d : Dev) (p : Port) : (d.gotMessage p).get (0x4400 + p) 0xD = d.get (0x4400 + p) 0xD :=
  Dev.get_gotMessage (by omega) (by decide) d

/-- A port whose native link is sealed does not train. -/
theorem Dev.linkState_of_sealedUp {d : Dev} {p : Port} (h : d.sealedUp p = true) : d.linkState p ≠ 3 := by
  simp only [Dev.sealedUp, Dev.linkUp, Bool.and_eq_true, decide_eq_true_eq] at h
  omega

section
variable {d : Dev} {p : Port}

theorem Dev.rxHello_exchange (hx : (d.port p).crypt.exchange.isSome = true) (h : SealHello) : d.rxHello p h = (d.gotMessage p).helloGot p h := if_pos hx

/-- A hello that no exchange waits for: what it does turns on a failed check, on the training to come, and on the link. -/
theorem Dev.rxHello_new (hx : (d.port p).crypt.exchange = none) (h : SealHello) :
    d.rxHello p h =
      if (d.port p).crypt.failing.isSome then d.gotMessage p
      else if d.linkState p = 3 && (d.port p).link.toSeal && d.stage p < 5 then (d.gotMessage p).onCrypt p (fun c => { c with early := some h })
      else if d.sealedUp p then ((d.gotMessage p).helloSend p 1 (d.get (0x4400 + p) 0xD + 1)).helloGot p h
      else d.gotMessage p := by
  have none : ¬ ((d.gotMessage p).port p).crypt.exchange.isSome = true := by rw [Dev.port_gotMessage, hx]; decide
  rw [Dev.rxHello, if_neg none, Dev.linkState_gotMessage, Dev.stage_gotMessage, Dev.sealedUp_gotMessage, Dev.sealEpoch_gotMessage]
  rfl

theorem Dev.rxProof_none (hx : (d.port p).crypt.exchange = none) (epoch : Nat) (sig : List Byte) : d.rxProof p epoch sig = d.gotMessage p := by
  simp only [Dev.rxProof, Dev.port_gotMessage, hx]

theorem Dev.rxProof_exchange {x : Exchange} (hx : (d.port p).crypt.exchange = some x) (epoch : Nat) (sig : List Byte) :
    d.rxProof p epoch sig =
      if epoch ≠ x.epoch then (d.gotMessage p).sealFail p 7 10
      else if !x.listed || x.peerProof.isSome then d.gotMessage p
      else (((d.gotMessage p).keySend p .up (sized 114 sig)).onExchange p (fun x => { x with peerProof := some sig })).onHall
        (fun h => { h with verifyQueue := h.verifyQueue ++ [.sealVerify p sig] }) := by
  simp only [Dev.rxProof, Dev.port_gotMessage, hx]

theorem Dev.rxFinish_none (hx : (d.port p).crypt.exchange = none) (epoch : Nat) (tag : List Byte) : d.rxFinish p epoch tag = d.gotMessage p := by
  simp only [Dev.rxFinish, Dev.port_gotMessage, hx]

theorem Dev.rxFinish_exchange {x : Exchange} (hx : (d.port p).crypt.exchange = some x) (epoch : Nat) (tag : List Byte) :
    d.rxFinish p epoch tag =
      if epoch ≠ x.epoch then (d.gotMessage p).sealFail p 7 10
      else if x.peerTag.isSome then d.gotMessage p
      else ((d.gotMessage p).onExchange p (fun x => { x with peerTag := some tag })).tagCheck p := by
  simp only [Dev.rxFinish, Dev.port_gotMessage, hx]

/-- A SEAL_REJECT where no check of this end has failed. -/
theorem Dev.rxReject_fresh (hf : (d.port p).crypt.failing = none) :
    d.rxReject p =
      if (d.port p).crypt.exchange.isSome || (d.linkState p = 3 && (d.port p).link.toSeal && 5 ≤ d.stage p) then (d.gotMessage p).sealFail p 4 10
      else if d.sealedUp p && (d.port p).crypt.oldAn.isSome then
        ((d.gotMessage p).sealNote p 4).onCrypt p (fun c => { c with retrySince := c.retrySince.or (some d.uptime) })
      else d.gotMessage p := by
  have fresh : ¬ ((d.gotMessage p).port p).crypt.failing.isSome = true := by rw [Dev.port_gotMessage, hf]; decide
  rw [Dev.rxReject, if_neg fresh, Dev.linkState_gotMessage, Dev.stage_gotMessage, Dev.sealedUp_gotMessage]
  rfl

end

/-- Settles O41: each message of a running stream is counted, and does what the state of the exchange says. -/
theorem sealExchange : Obligations.SealExchange := by
  refine ⟨?meets, ?failing, ?early, ?rekey, ?silent, ?proof, ?proofIdle, ?finishTwice, ?epoch, ?finish, ?noExchange⟩
  case meets => exact fun s p h hr hx => does_of_running rfl hr (Dev.rxHello_exchange hx h)
  case failing => exact fun s p h hr hx hf => does_of_running rfl hr ((Dev.rxHello_new hx h).trans (if_pos hf))
  case early =>
    intro s p h hr hx hf hl ht hs
    exact does_of_running rfl hr ((Dev.rxHello_new hx h).trans ((if_neg (by simp [hf])).trans (if_pos (by simp [hl, ht, hs]))))
  case rekey =>
    intro s p h hr hx hf hu
    exact does_of_running rfl hr ((Dev.rxHello_new hx h).trans
      ((if_neg (by simp [hf])).trans ((if_neg (by simp [Dev.linkState_of_sealedUp hu])).trans (if_pos hu))))
  case silent => exact fun s p hr => ⟨fun h => does_of_silent rfl hr, fun epoch b => ⟨does_of_silent rfl hr, does_of_silent rfl hr⟩⟩
  case proof =>
    intro s p epoch sig x hr hx he hl hp
    exact does_of_running rfl hr ((Dev.rxProof_exchange hx epoch sig).trans ((if_neg (not_not.mpr he)).trans (if_neg (by simp [hl, hp]))))
  case proofIdle =>
    intro s p epoch sig x hr hx he hp
    refine does_of_running rfl hr ((Dev.rxProof_exchange hx epoch sig).trans ((if_neg (not_not.mpr he)).trans (if_pos ?_)))
    simpa [Option.isSome_iff_ne_none] using hp
  case finishTwice =>
    intro s p epoch tag x hr hx he ht
    exact does_of_running rfl hr ((Dev.rxFinish_exchange hx epoch tag).trans
      ((if_neg (not_not.mpr he)).trans (if_pos (Option.isSome_iff_ne_none.mpr ht))))
  case epoch =>
    intro s p epoch b x hr hx he
    exact ⟨does_of_running rfl hr ((Dev.rxProof_exchange hx epoch b).trans (if_pos he)),
      does_of_running rfl hr ((Dev.rxFinish_exchange hx epoch b).trans (if_pos he))⟩
  case finish =>
    intro s p epoch tag x hr hx he ht
    exact does_of_running rfl hr ((Dev.rxFinish_exchange hx epoch tag).trans ((if_neg (not_not.mpr he)).trans (if_neg (by simp [ht]))))
  case noExchange =>
    exact fun s p epoch b hr hx => ⟨does_of_running rfl hr (Dev.rxProof_none hx epoch b), does_of_running rfl hr (Dev.rxFinish_none hx epoch b)⟩

/-- Settles O42: a SEAL_REJECT of a running stream is counted, and does what this end's exchange, or its failed check, says. -/
theorem sealRejected : Obligations.SealRejected := by
  refine ⟨?fails, ?failing, ?retries, ?idle, ?silent⟩
  case fails =>
    intro s p epoch reason hr hf hx
    exact does_of_running rfl hr ((Dev.rxReject_fresh hf).trans (if_pos (by simpa [and_assoc] using hx)))
  case failing => exact fun s p epoch reason hr hf => does_of_running rfl hr (if_pos hf)
  case retries =>
    intro s p epoch reason hr hf hx hu ho
    exact does_of_running rfl hr ((Dev.rxReject_fresh hf).trans
      ((if_neg (by simp [hx, Dev.linkState_of_sealedUp hu])).trans (if_pos (by simp [hu, ho]))))
  case idle =>
    intro s p epoch reason hr hf hx ht hu
    refine does_of_running rfl hr ((Dev.rxReject_fresh hf).trans ((if_neg ?_).trans (if_neg ?_)))
    · rcases ht with hl | ht | hs
      · simp [hx, hl]
      · simp [hx, ht]
      · simp [hx, Nat.not_le.mpr hs]
    · rcases hu with hu | ho
      · simp [hu]
      · simp [ho]
  case silent => exact fun s p epoch reason hr => does_of_silent rfl hr

end Sys2Proof.Machine

namespace Sys2Proof.Machine

/-! ## Writes that reach the one-way store, as whole commands -/

/-- A write to the one-way store that nothing refuses answers OK, with its effect. -/
theorem vaultAnswers_of_vaultWrite (o : VOp) {c : Instr} {s : State} {r : Req} {idx sub : Nat} {heard : Bool} {f : Vault → Dev → Vault × Dev}
    {later : Dev → Dev} (hc : exec c s = s.vaultWrite r idx sub heard o) (hh : heard = true) (granted : firstCode o.checks = .ok)
    (he : ((o.effect s.vault s.dev).1, o.always .ok (o.effect s.vault s.dev).2) = f s.vault s.dev) (hl : o.later = later) :
    VaultAnswers c s r f later := by
  rw [VaultAnswers, hc, State.vaultWrite, VOp.apply, granted, hh, ← he, ← hl]
  rfl

/-- One that is refused does what every refusal does, and what the write always does, and answers. -/
theorem does_vaultWrite_refused (o : VOp) {c : Instr} {s : State} {r : Req} {idx sub : Nat} {heard : Bool} {code : Code}
    (hc : exec c s = s.vaultWrite r idx sub heard o) (hh : heard = true) (refused : firstCode o.checks = code) (hne : code ≠ .ok := by decide) :
    Does c s (fun d => (o.always code (d.refused r idx sub code)).answer r code) := by
  rw [Does, hc, State.vaultWrite, VOp.apply_refused refused hne, hh]
  simp only [if_true, hne, if_false]
  rfl

/-! ## Manager keys, the service flag and attestation (O43) -/

section
variable {s : State} {r : Req}

/-- Nothing that every write shares refuses a request for the managers' keys. -/
theorem managers_gate (hp : s.dev.permits r 2 = true) (hb : s.dev.busyIndex 0x6424 = false) (hm : s.dev.modeRefuses 0x6424 = false) :
    s.dev.gate r 0x6424 = [(false, .auth), (false, .busy), (false, .state)] := by
  have role : s.dev.meets r (writeRole 0x6424) = true := hp
  simp [Dev.gate, role, hb, hm]

theorem revoke_code (hp : s.dev.permits r 2 = true) (hb : s.dev.busyIndex 0x6424 = false) (hm : s.dev.modeRefuses 0x6424 = false)
    (hf : s.dev.stagingFull = false) (keyId : List Byte) :
    firstCode (revokeOp s.vault s.dev r keyId).checks = if (s.vault.slotOf keyId).isNone then .range else .ok := by
  cases h : s.vault.slotOf keyId <;> simp [revokeOp, managers_gate hp hb hm, Dev.roomToLog, hf, h, firstCode, Code.first_ok]

theorem Ready.service_code {m : Nat} (h : Ready s r 0x6418 1 m) (hf : s.dev.stagingFull = false) :
    firstCode (s.dev.serviceOp r m).checks = if 480 < m then .range else .ok := by
  refine (h.command_code _ _).trans ?_
  by_cases hm : 480 < m <;> simp [Dev.roomToLog, hf, hm, firstCode, Code.first_ok]

theorem Ready.attest_code {nonce : List Byte} (h : Ready s r 0x6460 1 0) :
    firstCode (attestOp s.vault s.dev r nonce).checks =
      firstCode [(s.dev.get 0x6460 2 = 1, .busy), (!s.vault.identityKey || s.dev.get 0x6400 1 ≠ 1, .state)] :=
  h.command_code _ _

end

theorem Dev.attestDone_asked {d : Dev} {nonce : List Byte} (h : d.hall.attestNonce = some nonce) (v : Vault) :
    d.attestDone v = ((d.put 0x6460 3 (natOf (d.reportBytes v nonce
      ++ exactly 114 (Config.sign (ascii "DZ12800 ATTEST") (d.reportBytes v nonce))))).put 0x6460 2 2).onHall
        (fun h => { h with attestNonce := none, signQueue := without h.signQueue .attest }) := by
  simp only [Dev.attestDone, h]

/-- Settles O43: the managers' requests are writes of the one-way store, the others writes and events of the device. -/
theorem managersAndAttestation : Obligations.ManagersAndAttestation := by
  refine ⟨?enrol, ?enrolFull, ?revokeUnknown, ?revoke, ?service, ?serviceLong, ?expiryIdle, ?expiry, ?attest, ?attestBusy, ?attestState, ?doneIdle, ?done⟩
  case enrol =>
    intro s r pub role i hh hp hb hm hf hr hi
    refine vaultAnswers_of_vaultWrite (enrolOp s.vault s.dev r pub role) rfl hh ?_ (by simp only [enrolOp, hi]) rfl
    simp [enrolOp, managers_gate hp hb hm, hi, Dev.roomToLog, hf, Nat.not_lt.mpr hr]
  case enrolFull =>
    intro s r pub role hh hp hi
    have role2 : s.dev.meets r (writeRole 0x6424) = true := hp
    have busy : firstCode (enrolOp s.vault s.dev r pub role).checks = .busy :=
      firstCode_eq (by simp [enrolOp, hi]) (by simp [enrolOp, Dev.gate, role2, Dev.roomToLog, Code.rank])
    exact does_vaultWrite_refused (enrolOp s.vault s.dev r pub role) rfl hh busy
  case revokeUnknown =>
    intro s r keyId hh hp hb hm hf hi
    exact does_vaultWrite_refused (revokeOp s.vault s.dev r keyId) rfl hh ((revoke_code hp hb hm hf keyId).trans (by simp [hi]))
  case revoke =>
    intro s r keyId i m hh hp hb hm hf hi hmgr
    exact vaultAnswers_of_vaultWrite (revokeOp s.vault s.dev r keyId) rfl hh ((revoke_code hp hb hm hf keyId).trans (by simp [hi]))
      (by simp only [revokeOp, hi, hmgr]) (by simp only [revokeOp])
  case service =>
    intro s r m h hf hm
    exact answers_of_write (fun _ d => d.serviceOp r m) rfl h ((h.service_code hf).trans (if_neg (Nat.not_lt.mpr hm))) rfl rfl
  case serviceLong =>
    exact fun s r m h hf hm => does_write_refused (fun _ d => d.serviceOp r m) rfl h ((h.service_code hf).trans (if_pos hm)) rfl
  case expiryIdle => exact fun s h => does_of_event rfl (if_neg (by simp [h]))
  case expiry => exact fun s h => does_of_event rfl (if_pos h)
  case attest =>
    intro s r nonce h ha hk hr
    exact answers_of_write (fun v d => attestOp v d r nonce) rfl h (h.attest_code.trans (by simp [ha, hk, hr])) rfl rfl
  case attestBusy =>
    intro s r nonce h ha
    refine does_write_refused (fun v d => attestOp v d r nonce) rfl h (h.attest_code.trans ?_) rfl
    simpa [ha] using firstCode_head (c := .busy) (by simp [Code.rank])
  case attestState =>
    intro s r nonce h ha hwhen
    refine does_write_refused (fun v d => attestOp v d r nonce) rfl h (h.attest_code.trans ?_) rfl
    rcases hwhen with hk | hr
    · simp [ha, hk, firstCode, Code.first_ok]
    · simp [ha, hr, firstCode, Code.first_ok]
  case doneIdle => exact fun s h => does_of_event rfl (if_neg h)
  case done => exact fun s nonce hq hn => does_of_event rfl ((if_pos hq).trans (Dev.attestDone_asked hn s.vault))

/-! ## The life cycle (O44) -/

section
variable {s : State} {r : Req} {dest : Nat} {gwynale owner : List Byte} {keys : List (List Byte)} {root : Option (List Byte)}

/-- A life-cycle request that is heard, with its role and room for its record, is refused for its tokens, or for the transition itself. -/
theorem LifeReady.code (h : LifeReady s r dest) :
    firstCode (lifeOp s.vault s.dev r dest gwynale owner keys root).checks =
      firstCode [(lifeAllowed s.vault.lifecycle dest && !s.dev.lifeTokens s.vault dest gwynale owner, .auth),
        (!lifeAllowed s.vault.lifecycle dest, .state), (s.vault.lifecycle = 1 && dest = 2 && !s.vault.hasOwner, .state)] := by
  simp [lifeOp, h.role, h.free, h.still, h.mode, Dev.roomToLog, h.room, firstCode]

theorem Dev.tokensWait_of_ne {d : Dev} {v : Vault} (h : v.lifecycle ≠ 3 ∨ dest ≠ 4) : d.tokensWait r v dest = d := by
  refine if_neg ?_
  rcases h with h | h <;> simp [h]

theorem Dev.tokensWait_returned {d : Dev} {v : Vault} (h : v.lifecycle = 3) (hr : d.lifeRole r 3 4 = true) : d.tokensWait r v 4 = d.verifyAll v :=
  if_pos (by simp [h, hr])

/-- A transition of R216 with its tokens, and for PROVISIONED with an owner, is granted: its effect, then a new challenge and the result (R217). -/
theorem vaultAnswers_of_life {c : Instr} (hc : exec c s = s.vaultWrite r 0x6410 1 (lifeHeard s.vault s.dev r) (lifeOp s.vault s.dev r dest gwynale owner keys root))
    (h : LifeReady s r dest) (allowed : lifeAllowed s.vault.lifecycle dest = true) (tokens : s.dev.lifeTokens s.vault dest gwynale owner = true)
    (owned : s.vault.lifecycle = 1 → dest = 2 → s.vault.hasOwner = true) {f : Vault → Dev → Vault × Dev} {later : Dev → Dev}
    (he : (((lifeOp s.vault s.dev r dest gwynale owner keys root).effect s.vault s.dev).1,
      lifeClosed ((lifeOp s.vault s.dev r dest gwynale owner keys root).effect s.vault s.dev).2) = f s.vault s.dev)
    (hl : lifeSessions s.vault dest = later) : VaultAnswers c s r f later := by
  refine vaultAnswers_of_vaultWrite _ hc h.heard (h.code.trans ?_) he hl
  have noOwner : (s.vault.lifecycle = 1 && dest = 2 && !s.vault.hasOwner : Bool) = false := by
    by_cases h1 : s.vault.lifecycle = 1 <;> by_cases h2 : dest = 2 <;> simp [h1, h2]
    exact owned h1 h2
  rw [noOwner, allowed, tokens]
  rfl

/-- A request for no transition of R216, or for PROVISIONED without an owner, is refused for the state. -/
theorem lifeRefused_of_state {c : Instr} (hc : exec c s = s.vaultWrite r 0x6410 1 (lifeHeard s.vault s.dev r) (lifeOp s.vault s.dev r dest gwynale owner keys root))
    (h : LifeReady s r dest) (hd : s.vault.lifecycle ≠ 3 ∨ dest ≠ 4)
    (hs : lifeAllowed s.vault.lifecycle dest = false ∨ (s.vault.lifecycle = 1 ∧ dest = 2 ∧ s.vault.hasOwner = false)) : LifeRefused c s r := by
  have tokens : s.dev.lifeTokens s.vault dest gwynale owner = true := by
    refine if_neg ?_
    rcases hd with h | h <;> simp [h]
  have code : firstCode (lifeOp s.vault s.dev r dest gwynale owner keys root).checks = .state := by
    rw [h.code, tokens]
    rcases hs with hs | ⟨h1, rfl, ho⟩
    · simp only [hs, Bool.not_false, Bool.not_true, Bool.and_false, firstCode_cons_false]
      exact firstCode_head (by simp [Code.rank])
    · simp [h1, ho, lifeAllowed, firstCode, Code.first_ok]
  refine does_of_event (does_vaultWrite_refused _ hc h.heard code) ?_
  simp only [lifeOp, Dev.refused, reduceCtorEq, if_false, Dev.tokensWait_of_ne hd]

/-- A request for RETURNED whose tokens do not fit is counted and refused with ERR_AUTH, once what the verifying engine has before them is done (R212, R217). -/
theorem lifeRefused_of_tokens {c : Instr}
    (hc : exec c s = s.vaultWrite r 0x6410 1 (lifeHeard s.vault s.dev r) (lifeOp s.vault s.dev r 4 gwynale owner keys root)) (h : LifeReady s r 4)
    (h3 : s.vault.lifecycle = 3) (tokens : s.dev.lifeTokens s.vault 4 gwynale owner = false) :
    Does c s (fun d =>
      let e := (d.inc 0x1404 3).verifyAll s.vault
      ((e.newDraw.onHall (fun h => { h with challenge := e.draws })).put 0x6410 3 Code.auth.value).answer r .auth) := by
  have code : firstCode (lifeOp s.vault s.dev r 4 gwynale owner keys root).checks = .auth := by
    rw [h.code, tokens]
    simp [h3, lifeAllowed, firstCode, Code.first_ok]
  have role : (s.dev.inc 0x1404 3).lifeRole r 3 4 = true := h3 ▸ h.role
  refine does_of_event (does_vaultWrite_refused _ hc h.heard code) ?_
  simp only [lifeOp, Dev.refused, reduceCtorEq, if_false, Dev.tokensWait_returned h3 role]

end

/-- Settles O44: each transition through the write of LIFECYCLE_REQUEST, and what its effect comes to in the state that it leaves. -/
theorem lifeCycle : Obligations.LifeCycle := by
  refine ⟨?manufacture, ?provisioned, ?deployed, ?returned, ?returnedNoOwner, ?retired, ?retiredReturned, ?noManufacture, ?noProvisioned, ?noDeployed,
    ?noReturned, ?noRetired⟩
  case manufacture =>
    intro s r g o keys root h h0
    refine vaultAnswers_of_life rfl h (by simp [lifeAllowed, h0]) (by simp [Dev.lifeTokens]) (by omega) ?_ rfl
    simp only [lifeOp, Dev.tokensWait_of_ne (.inr (by decide : (1 : Nat) ≠ 4)), h0]
    rfl
  case provisioned =>
    intro s r g o h h1 ho
    refine vaultAnswers_of_life rfl h (by simp [lifeAllowed, h1]) (by simp [Dev.lifeTokens]) (fun _ _ => ho) ?_ rfl
    simp only [lifeOp, Dev.tokensWait_of_ne (.inr (by decide : (2 : Nat) ≠ 4)), h1]
    rfl
  case deployed =>
    intro s r g o h h2
    refine vaultAnswers_of_life rfl h (by simp [lifeAllowed, h2]) (by simp [Dev.lifeTokens]) (by omega) ?_ rfl
    simp only [lifeOp, Dev.tokensWait_of_ne (.inr (by decide : (3 : Nat) ≠ 4)), h2]
    rfl
  case returned =>
    intro s r g o key h h3 hk
    split
    next tokens =>
      refine vaultAnswers_of_life rfl h (by simp [lifeAllowed, h3]) (by simp [Dev.lifeTokens, h3, hk, tokens]) (by omega) ?_ rfl
      simp only [lifeOp, Dev.tokensWait_returned h3 (h3 ▸ h.role), h3]
      rfl
    next tokens =>
      refine lifeRefused_of_tokens rfl h h3 ?_
      simpa [Dev.lifeTokens, h3, hk] using tokens
  case returnedNoOwner => exact fun s r g o h h3 hk => lifeRefused_of_tokens rfl h h3 (by simp [Dev.lifeTokens, h3, hk])
  case retired =>
    intro s r g o h hfrom
    refine vaultAnswers_of_life rfl h (by rcases hfrom with h | h <;> simp [lifeAllowed, h]) (by simp [Dev.lifeTokens]) (by omega) ?_ rfl
    have owned : ¬ s.vault.lifecycle = 4 := by omega
    simp only [lifeOp, Dev.tokensWait_of_ne (.inr (by decide : (5 : Nat) ≠ 4)), lifeEffect, owned, if_false]
    rfl
  case retiredReturned =>
    intro s r g o h h4
    refine vaultAnswers_of_life rfl h (by simp [lifeAllowed, h4]) (by simp [Dev.lifeTokens]) (by omega) ?_ rfl
    simp only [lifeOp, Dev.tokensWait_of_ne (.inr (by decide : (5 : Nat) ≠ 4)), lifeEffect, h4, if_true]
    rfl
  case noManufacture => exact fun s r g o keys root h h0 => lifeRefused_of_state rfl h (.inr (by decide)) (.inl (by simp [lifeAllowed, h0]))
  case noProvisioned =>
    intro s r g o h hwhen
    by_cases h1 : s.vault.lifecycle = 1
    · exact lifeRefused_of_state rfl h (.inr (by decide)) (.inr ⟨h1, rfl, hwhen.resolve_left (not_not.mpr h1)⟩)
    · exact lifeRefused_of_state rfl h (.inr (by decide)) (.inl (by simp [lifeAllowed, h1]))
  case noDeployed => exact fun s r g o h h2 => lifeRefused_of_state rfl h (.inr (by decide)) (.inl (by simp [lifeAllowed, h2]))
  case noReturned => exact fun s r g o h h3 => lifeRefused_of_state rfl h (.inl h3) (.inl (by simp [lifeAllowed, h3]))
  case noRetired =>
    exact fun s r g o h h2 h3 h4 => lifeRefused_of_state rfl h (.inr (by decide)) (.inl (by simp [lifeAllowed, h2, h3, h4]))

end Sys2Proof.Machine

namespace Sys2Proof.Machine

/-! ## The touchmark log and Hallmark's engines (O45) -/

/-- What the signing engine does for a request that it takes from its queue (R212). -/
def Dev.signServes (d : Dev) (v : Vault) : HallJob → Dev
  | .open2 n => d.open2Signed n
  | .sealSign p => d.sealSigned p
  | .touch reserved => d.touchSigned reserved
  | .attest => d.attestDone v
  | _ => d

/-- What the verifying engine does for one. -/
def Dev.verifyServes (d : Dev) (v : Vault) : HallJob → Dev
  | .open3 n sig => d.open3Verified v n sig
  | .sealVerify p sig => d.sealVerified p sig
  | .image _ => d.imageVerified v
  | _ => d

section
variable {d : Dev}

theorem Dev.flashCopy_cons {e : TouchEntry} {rest : List TouchEntry} (h : d.hall.staging = e :: rest) :
    d.flashCopy = (d.onHall (fun h => { h with staging := rest, flash := (e :: h.flash).take 16384 })).gapEntry := by
  unfold Dev.flashCopy
  rw [h]
  rfl

theorem Dev.flashCopy_nil (h : d.hall.staging = []) : d.flashCopy = d := by
  unfold Dev.flashCopy
  rw [h]

theorem Dev.touchSigned_reserved (h : d.hall.nextSeq ≠ 0) :
    d.touchSigned true = (d.onHall (fun h => { h with reserved := h.reserved - 1 })).touch 0x0001 (bytesOf 8 (d.hall.nextSeq - 1)
      ++ exactly 114 (Config.sign (ascii "DZ12800 TOUCHMARK") (bytesOf 8 (d.hall.nextSeq - 1) ++ d.hall.headChain))) :=
  if_neg h

theorem Dev.touchSigned_unreserved (h : d.hall.nextSeq ≠ 0) :
    d.touchSigned false = d.touchEvent 0x0001 (bytesOf 8 (d.hall.nextSeq - 1)
      ++ exactly 114 (Config.sign (ascii "DZ12800 TOUCHMARK") (bytesOf 8 (d.hall.nextSeq - 1) ++ d.hall.headChain))) :=
  if_neg h

theorem Dev.signDone_nil (h : d.hall.signQueue = []) (v : Vault) : d.signDone v = d := by
  unfold Dev.signDone
  rw [h]

theorem Dev.signDone_cons {j : HallJob} {rest : List HallJob} (h : d.hall.signQueue = j :: rest) (v : Vault) :
    d.signDone v = (d.onHall (fun h => { h with signQueue := rest })).signServes v j := by
  unfold Dev.signDone
  rw [h]
  cases j <;> rfl

theorem Dev.verifyDone_nil (h : d.hall.verifyQueue = []) (v : Vault) : d.verifyDone v = d := by
  unfold Dev.verifyDone
  rw [h]

theorem Dev.verifyDone_cons {j : HallJob} {rest : List HallJob} (h : d.hall.verifyQueue = j :: rest) (v : Vault) :
    d.verifyDone v = (d.onHall (fun h => { h with verifyQueue := rest })).verifyServes v j := by
  unfold Dev.verifyDone
  rw [h]
  cases j <;> rfl

end

section
variable {s : State} {r : Req}

theorem Ready.touchSign_code (h : Ready s r 0x6600 6 1) : firstCode (s.dev.touchSignOp r 1).checks =
    firstCode [s.dev.roomToLog, (s.dev.hall.logClosed, .state), (false, .range)] :=
  h.command_code _ _

theorem Ready.touchSelect_code {seq : Nat} (h : Ready s r 0x6600 1 seq) : firstCode (s.dev.touchSelectOp r seq).checks =
    firstCode [(s.dev.hall.nextSeq ≤ seq || seq < s.dev.hall.oldest, .range)] :=
  h.command_code _ _

end

/-- Settles O45: copies, signatures and selections by their definitions, and each engine by the request at the front of its queue. -/
theorem touchmarkLog : Obligations.TouchmarkLog := by
  refine ⟨?copy, ?copyNone, ?gap, ?sign, ?timer, ?timerIdle, ?selectNone, ?select, ?signed, ?signedTimer, ?open2, ?sealSign, ?attest, ?signIdle,
    ?verifyIdle, ?open3, ?image, ?sealVerify⟩
  case copy => exact fun s e rest h => does_of_event rfl (Dev.flashCopy_cons h)
  case copyNone => exact fun s h => does_of_event rfl (Dev.flashCopy_nil h)
  case gap => exact fun d hg hf => if_neg (by simp [hg, hf])
  case sign =>
    intro s r h hf hc
    exact answers_of_write (fun _ d => d.touchSignOp r 1) rfl h (h.touchSign_code.trans (by simp [Dev.roomToLog, hf, hc])) rfl rfl
  case timer => exact fun s h => does_of_event rfl (if_neg h)
  case timerIdle => exact fun s h => does_of_event rfl (if_pos h)
  case selectNone =>
    intro s r seq h hseq
    have outside : (s.dev.hall.nextSeq ≤ seq || seq < s.dev.hall.oldest : Bool) = true := by simpa only [Bool.or_eq_true, decide_eq_true_eq] using hseq
    exact does_write_refused (fun _ d => d.touchSelectOp r seq) rfl h (h.touchSelect_code.trans (outside ▸ firstCode_cons_true .range rfl)) rfl
  case select =>
    intro s r seq h hnew hold
    exact answers_of_write (fun _ d => d.touchSelectOp r seq) rfl h
      (h.touchSelect_code.trans (by simp [firstCode, Nat.not_le.mpr hnew, Nat.not_lt.mpr hold])) rfl rfl
  case signed => exact fun s rest h hn => does_of_event rfl ((Dev.signDone_cons h _).trans (Dev.touchSigned_reserved hn))
  case signedTimer => exact fun s rest h hn => does_of_event rfl ((Dev.signDone_cons h _).trans (Dev.touchSigned_unreserved hn))
  case open2 => exact fun s n rest h => does_of_event rfl (Dev.signDone_cons h _)
  case sealSign => exact fun s p rest h => does_of_event rfl (Dev.signDone_cons h _)
  case attest => exact fun s rest h => does_of_event rfl (Dev.signDone_cons h _)
  case signIdle => exact fun s h => does_of_event rfl (Dev.signDone_nil h _)
  case verifyIdle => exact fun s h => does_of_event rfl (Dev.verifyDone_nil h _)
  case open3 => exact fun s n sig rest h => does_of_event rfl (Dev.verifyDone_cons h _)
  case image => exact fun s k rest h => does_of_event rfl (Dev.verifyDone_cons h _)
  case sealVerify => exact fun s p sig rest h => does_of_event rfl (Dev.verifyDone_cons h _)

end Sys2Proof.Machine

namespace Sys2Proof.Machine

/-! ## What a record of the touchmark log leaves alone -/

/-- Hallmark's part that firmware commands read and change: the slots, the active one, the one that a trial replaced, and the job of staging. -/
def Hall.firmware (h : Hall) : Vector ImageSet 2 × Fin 2 × Option (Fin 2) × FwJob := (h.slots, h.activeSlot, h.trialPrev, h.fw)

theorem Hall.firmware_askSign (h : Hall) (j : HallJob) : (h.askSign j).firmware = h.firmware := by
  unfold Hall.askSign
  split <;> rfl

theorem Hall.firmware_append (h : Hall) (time type : Nat) (body : List Byte) : (h.append time type body).firmware = h.firmware := by
  have asks (e : Hall) : (if 64 ≤ e.unsigned then e.askSign (.touch false) else e).firmware = e.firmware := by
    split
    · exact e.firmware_askSign _
    · rfl
  unfold Hall.append
  split
  · rfl
  · exact asks _

theorem Dev.firmware_touch (d : Dev) (type : Nat) (body : List Byte) : (d.touch type body).hall.firmware = d.hall.firmware :=
  d.hall.firmware_append _ _ _

theorem Dev.firmware_gapEntry (d : Dev) : d.gapEntry.hall.firmware = d.hall.firmware := by
  unfold Dev.gapEntry
  split
  · rfl
  · exact d.firmware_touch _ _

theorem Dev.firmware_giveBack (d : Dev) (n : Nat) : (d.giveBack n).hall.firmware = d.hall.firmware := Dev.firmware_gapEntry _

/-- Records stand in Hallmark's part alone: no object shows them. -/
theorem Dev.get_gapEntry (d : Dev) (i k : Nat) : d.gapEntry.get i k = d.get i k := by
  unfold Dev.gapEntry
  split <;> rfl

/-! ## Staging's state (R244) -/

theorem Dev.get_setStage (d : Dev) (st : Nat) : (d.setStage st).get 0x6440 5 = st := Dev.get_put_same _ _ _ _

theorem Dev.get_setStage_other {k : Nat} (hk : 5 ≠ k) (hlt : k < 256) (d : Dev) (st : Nat) : (d.setStage st).get 0x6440 k = d.get 0x6440 k :=
  Dev.get_put_other _ _ _ _ _ _ (key_ne_sub hk (by decide) hlt)

theorem Dev.showVersions_hall (d : Dev) : d.showVersions.hall = d.hall := d.put_hall _ _ _

theorem Dev.get_showVersions {k : Nat} (hk : 10 ≠ k) (hlt : k < 256) (d : Dev) : d.showVersions.get 0x6440 k = d.get 0x6440 k :=
  Dev.get_put_other _ _ _ _ _ _ (key_ne_sub hk (by decide) hlt)

theorem Dev.firmware_stageErase (d : Dev) (r : Req) (slot length : Nat) :
    (d.stageErase r slot length).hall.firmware = (upd d.hall.slots (slotOf slot) (fun _ => {}), d.hall.activeSlot, d.hall.trialPrev,
      { d.hall.fw with slot := slot, length := length, received := [], owner := r.session }) := by
  unfold Dev.stageErase
  dsimp only
  rw [Dev.showVersions_hall, Dev.put_hall]
  split
  · exact Dev.firmware_giveBack _ _
  · rfl

/-! ## Staging and verification (O46) -/

/-- A set that is rejected shows its reason, ends the ownership of staging, and leaves the slots. -/
theorem Dev.rejected_shows (d : Dev) (why : Nat) :
    let e := ((d.put 0x6440 6 why).setStage 4).gapEntry
    e.get 0x6440 5 = 4 ∧ e.get 0x6440 6 = why ∧ e.hall.fw.owner = 0 ∧ e.hall.slots = d.hall.slots := by
  have firmware := ((d.put 0x6440 6 why).setStage 4).firmware_gapEntry
  refine ⟨?_, ?_, congrArg (·.2.2.2.owner) firmware, congrArg (·.1) firmware⟩
  · rw [Dev.get_gapEntry, Dev.get_setStage]
  · rw [Dev.get_gapEntry, Dev.get_setStage_other (by decide) (by decide), Dev.get_put_same]

/-- A set that is good stands in its slot, and is VERIFIED. -/
theorem Dev.accepted_shows (d : Dev) (k : Fin 2) (set : ImageSet) (body : List Byte) :
    let e := ((d.onHall (fun h => { h with slots := upd h.slots k (fun _ => set) })).setStage 3).showVersions.touch 0x0020 body
    e.get 0x6440 5 = 3 ∧ e.hall.slots.get k = set := by
  refine ⟨?_, (congrArg (·.1.get k) (Dev.firmware_touch _ _ _)).trans (upd_same _ _ _)⟩
  rw [Dev.get_touch, Dev.get_showVersions (by decide) (by decide), Dev.get_setStage]

theorem Dev.imageVerified_rejects {d : Dev} {v : Vault} (h2 : d.stage6440 = 2) (hw : d.stageVerdict v ≠ 0) :
    (d.imageVerified v).get 0x6440 5 = 4 ∧ (d.imageVerified v).get 0x6440 6 = d.stageVerdict v ∧ (d.imageVerified v).hall.fw.owner = 0
      ∧ (d.imageVerified v).hall.slots = d.hall.slots := by
  rw [Dev.imageVerified, if_neg (not_not.mpr h2)]
  dsimp only
  rw [if_pos hw]
  exact Dev.rejected_shows _ _

theorem Dev.imageVerified_accepts {d : Dev} {v : Vault} (h2 : d.stage6440 = 2) (hw : d.stageVerdict v = 0) :
    (d.imageVerified v).get 0x6440 5 = 3 ∧ (d.imageVerified v).hall.slots.get (slotOf d.hall.fw.slot)
      = setOf (d.hall.fw.received ++ List.replicate (d.hall.fw.length - d.hall.fw.received.length) 0xFF) := by
  rw [Dev.imageVerified, if_neg (not_not.mpr h2)]
  dsimp only
  rw [if_neg (not_not.mpr hw)]
  exact Dev.accepted_shows _ _ _ _

section
variable {s : State} {r : Req}

theorem Ready.stageBegin_code {slot length : Nat} (h : Ready s r 0x6440 2 0) (hown : s.dev.stagedByOther r = false) (hf : s.dev.stagingFull = false)
    (hs : slot ≤ 1) (hl : length ≤ 12 * 1024 * 1024) (ha : slot ≠ s.dev.hall.activeSlot.val ∨ s.dev.mgmt.recovery = true)
    (ht : s.dev.hall.trialPrev = none) (h5 : s.dev.get 0x6440 5 ≠ 5) (h6 : s.dev.get 0x6440 5 ≠ 6) (hc : s.dev.hall.logClosed = false) :
    firstCode (s.dev.stageBeginOp r slot length).checks = .ok := by
  refine (h.command_code _ _).trans (firstCode_ok ?_)
  have active : (slot = s.dev.hall.activeSlot.val && !s.dev.mgmt.recovery : Bool) = false := by rcases ha with h | h <;> simp [h]
  have fits : ¬ slotBytes < length := Nat.not_lt.mpr hl
  simp [hown, Dev.roomToLog, hf, hc, active, ht, Dev.stage6440, h5, h6, fits, Nat.not_lt.mpr hs]

theorem Ready.stageData_code {offset count : Nat} {data : List Byte} (h : Ready s r 0x6440 3 0) (hown : s.dev.stagedByOther r = false)
    (h1 : s.dev.get 0x6440 5 = 1) (hc : s.dev.hall.logClosed = false) (hlow : 1 ≤ count) (hhigh : count ≤ 1016)
    (hl : offset + count ≤ s.dev.hall.fw.length) : firstCode (s.dev.stageDataOp r offset count data).checks = .ok := by
  refine (h.command_code _ _).trans (firstCode_ok ?_)
  have some : count ≠ 0 := by omega
  simp [hown, Dev.stage6440, h1, hc, some, Nat.not_lt.mpr hhigh, Nat.not_lt.mpr hl]

theorem Ready.stageVerify_code (h : Ready s r 0x6440 4 1) (hown : s.dev.stagedByOther r = false) (hf : s.dev.stagingFull = false)
    (h1 : s.dev.get 0x6440 5 = 1) (hc : s.dev.hall.logClosed = false) : firstCode (s.dev.stageVerifyOp r 1).checks = .ok := by
  refine (h.command_code _ _).trans (firstCode_ok ?_)
  simp [hown, Dev.roomToLog, hf, Dev.stage6440, h1, hc]

end

/-- Settles O46: the writes by their conditions, and a verification by its verdict. -/
theorem firmwareStaging : Obligations.FirmwareStaging := by
  refine ⟨?begins, ?erases, ?data, ?verify, ?doneIdle, ?done⟩
  case begins =>
    intro s r slot length h hown hf hs hl ha ht h5 h6 hc
    have slotFits : slot % 256 = slot := Nat.mod_eq_of_lt (by omega)
    have lengthFits : length % 2 ^ 32 = length := Nat.mod_eq_of_lt (by omega)
    exact answers_of_write (fun _ d => d.stageBeginOp r slot length)
      (congrArg₂ (fun slot length => s.write r 0x6440 2 (fun _ d => d.stageBeginOp r slot length)) slotFits lengthFits)
      h (h.stageBegin_code hown hf hs hl ha ht h5 h6 hc) rfl rfl
  case erases =>
    intro d r slot length
    have firmware := d.firmware_stageErase r slot length
    refine ⟨(congrArg (·.1.get (slotOf slot)) firmware).trans (upd_same _ _ _), congrArg (·.2.2.2.received) firmware,
      congrArg (·.2.2.2.owner) firmware, ?_⟩
    exact (Dev.get_showVersions (by decide) (by decide) _).trans (Dev.get_put_same _ _ _ _)
  case data =>
    intro s r offset count data h hown h1 hc hlow hhigh hl hw
    have offsetFits : offset % 2 ^ 32 = offset := Nat.mod_eq_of_lt (by omega)
    have countFits : count % 65536 = count := Nat.mod_eq_of_lt (by omega)
    exact answers_of_write (fun _ d => d.stageDataOp r offset count data)
      (congrArg₂ (fun offset count => s.write r 0x6440 3 (fun _ d => d.stageDataOp r offset count data)) offsetFits countFits)
      h (h.stageData_code hown h1 hc hlow hhigh hl) rfl rfl
  case verify =>
    exact fun s r h hown hf h1 hc => answers_of_write (fun _ d => d.stageVerifyOp r 1) rfl h (h.stageVerify_code hown hf h1 hc) rfl rfl
  case doneIdle =>
    intro s hq
    refine does_of_event rfl (if_neg (fun hany => ?_))
    obtain ⟨j, hj, himage⟩ := (Option.any_eq_true _ _).mp hany
    cases j with
    | image k => exact hq k hj
    | _ => cases himage
  case done =>
    intro s k rest hq h2
    have verified : exec .fwVerifyDone s
        = .next (s.onDev (fun d => (d.onHall (fun h => { h with verifyQueue := rest })).imageVerified s.vault)) :=
      does_of_event rfl ((if_pos (by simp [hq, HallJob.isImage])).trans (Dev.verifyDone_cons hq s.vault))
    refine ⟨_, verified, rfl, ?_⟩
    split
    next hw => exact Dev.imageVerified_accepts (d := s.dev.onHall (fun h => { h with verifyQueue := rest })) h2 hw
    next hw => exact Dev.imageVerified_rejects (d := s.dev.onHall (fun h => { h with verifyQueue := rest })) h2 hw

end Sys2Proof.Machine

namespace Sys2Proof.Machine

/-! ## Activation, trial, confirmation and reversion (O47) -/

/-- A write that nothing refuses has its effect, answers OK, and then has what follows its answer. -/
theorem does_of_write (o : Vault → Dev → Op) {c : Instr} {s : State} {r : Req} {idx sub v : Nat} {f : Dev → Dev} (hc : exec c s = s.write r idx sub o)
    (h : Ready s r idx sub v) (granted : firstCode (o s.vault s.dev).checks = .ok)
    (he : (o s.vault s.dev).later (((o s.vault s.dev).effect s.dev).answer r .ok) = f s.dev) : Does c s f :=
  does_of_event (hc.trans (State.write_ok idx sub h.heard h.delivered granted)) he

theorem Dev.answer_hall (d : Dev) (r : Req) (c : Code) : (d.answer r c).hall = d.hall := by
  unfold Dev.answer
  split <;> rfl

/-- Neither the record of a request nor its answer changes what the slots and staging hold. -/
theorem Dev.firmware_touch_answer (d : Dev) (type : Nat) (body : List Byte) (r : Req) (c : Code) :
    ((d.touch type body).answer r c).hall.firmware = d.hall.firmware :=
  (congrArg Hall.firmware (Dev.answer_hall _ r c)).trans (d.firmware_touch type body)

section
variable {s : State} {r : Req}

theorem Ready.activate_code (h : Ready s r 0x6440 7 1) : firstCode (s.dev.activateOp r 1).checks =
    firstCode [((List.range 9).any (fun i => s.dev.get 0x1010 (i + 1) = 4), .busy), s.dev.roomToLog,
      (s.dev.hall.logClosed || (s.dev.stage6440 != 3), .state), (false, .range)] :=
  h.command_code _ id

theorem Ready.revert_code (h : Ready s r 0x6440 9 1) : firstCode (s.dev.revertOp r s.vault 1).checks =
    firstCode [s.dev.roomToLog, (s.dev.hall.logClosed || s.dev.stage6440 ≠ 6 || !slotRuns s.vault (s.dev.hall.slots.get s.dev.replaced), .state),
      (false, .range)] :=
  h.command_code _ id

theorem Ready.confirm_code (h : Ready s r 0x6440 8 1) (hf : s.dev.stagingFull = false) (hc : s.dev.hall.logClosed = false)
    (h6 : s.dev.get 0x6440 5 = 6) : firstCode (confirmOp s.dev r 1).checks = .ok := by
  simp [confirmOp, h.gate_eq, h.fits, Dev.roomToLog, hf, hc, Dev.stage6440, h6]

end

section
variable {d : Dev} {v : Vault}

/-! ### The restarted controller -/

theorem Dev.startLoops_hall (d : Dev) (volts : Nat × Nat) : (d.startLoops volts).hall = d.hall :=
  (Dev.put_hall _ _ _ _).trans (Dev.put_hall _ _ _ _)

theorem Dev.startLoops_mgmt (d : Dev) (volts : Nat × Nat) : (d.startLoops volts).mgmt = d.mgmt :=
  (Dev.put_mgmt _ _ _ _).trans (Dev.put_mgmt _ _ _ _)

theorem Dev.get_startLoops {i k : Nat} (hi : 0x120D ≠ i) (hk : k < 256) (d : Dev) (volts : Nat × Nat) : (d.startLoops volts).get i k = d.get i k :=
  (Dev.get_put_other _ _ _ _ _ _ (key_ne_index hi (by decide) hk)).trans (Dev.get_put_other _ _ _ _ _ _ (key_ne_index hi (by decide) hk))

theorem Dev.controllerRestarted_idle
    (h : d.get 0x6440 5 ≠ 5 ∨ d.mgmt.serving = true ∨ slotRuns v (d.hall.slots.get (slotOf d.hall.fw.target)) = false) :
    d.controllerRestarted v = d := by
  refine if_pos ?_
  rcases h with h | h | h <;> simp [Dev.stage6440, h]

/-- While line dies are left to reset, the restarted controller serves from the new slot, and the activation goes on. -/
theorem Dev.controllerRestarted_serves (h5 : d.get 0x6440 5 = 5) (hs : d.mgmt.serving = false) (hd : d.hall.fw.diesLeft ≠ [])
    (hr : slotRuns v (d.hall.slots.get (slotOf d.hall.fw.target)) = true) :
    (d.controllerRestarted v).mgmt.serving = true ∧ (d.controllerRestarted v).hall.activeSlot = slotOf d.hall.fw.target
      ∧ (d.controllerRestarted v).get 0x6440 1 = slotOf d.hall.fw.target ∧ (d.controllerRestarted v).get 0x6440 5 = 5 := by
  rw [Dev.controllerRestarted, if_neg (by simp [Dev.stage6440, h5, hs, hr])]
  dsimp only
  rw [if_neg (by simpa only [Dev.put_hall, Dev.startLoops_hall, Dev.onMgmt_hall, Dev.onHall_hall'] using hd)]
  refine ⟨?_, ?_, Dev.get_put_same _ _ _ _, ?_⟩
  · rw [Dev.put_mgmt, Dev.startLoops_mgmt]
    rfl
  · rw [Dev.put_hall, Dev.startLoops_hall, Dev.onMgmt_hall, Dev.put_hall]
    rfl
  · rw [Dev.get_put_other _ _ _ _ _ _ (by decide), Dev.get_startLoops (by decide) (by decide), Dev.onMgmt_get, Dev.get_put_other _ _ _ _ _ _ (by decide),
      Dev.onHall_get, h5]

/-! ### The line dies, one by one -/

theorem Dev.dieNext_idle (h : d.get 0x6440 5 ≠ 5 ∨ d.mgmt.serving = false ∨ ∃ m : Die, d.dieState m = 3) : d.dieNext v = d := by
  refine if_pos ?_
  rcases h with h | h | ⟨m, h⟩
  · simp [Dev.stage6440, h]
  · simp [h]
  · have starts : (allFin 8).any (fun n => d.dieState n = 3) = true := List.any_eq_true.mpr ⟨m, List.mem_finRange m, by simpa using h⟩
    simp [starts]

/-- With no die starting, the next one that can be reached is reset; after the last the rolling reset ends. -/
theorem Dev.dieNext_goes (h5 : d.get 0x6440 5 = 5) (hs : d.mgmt.serving = true) (hd : ∀ m : Die, d.dieState m ≠ 3) :
    (d.hall.fw.diesLeft.find? (fun n => d.dieReachable n) = none → d.dieNext v = d.rollingEnd v)
    ∧ ∀ n, d.hall.fw.diesLeft.find? (fun n => d.dieReachable n) = some n →
      d.dieNext v = (d.onFw (fun f => { f with diesLeft := f.diesLeft.dropWhile (fun m => m ≠ n) })).dieReset n 3 := by
  have goes : ¬ (d.stage6440 ≠ 5 || !d.mgmt.serving || (allFin 8).any (fun n => d.dieState n = 3) : Bool) = true := by
    simp [Dev.stage6440, h5, hs, hd]
  rw [Dev.dieNext, if_neg goes]
  exact ⟨fun h => by rw [h], fun n h => by rw [h]⟩

theorem Dev.trialTimeout_idle (h : d.get 0x6440 5 ≠ 5 ∨ d.mgmt.serving = true ∨ d.hall.fw.reverting ≠ none) : d.trialTimeout = d := by
  refine if_pos ?_
  rcases h with h | h | h
  · simp [Dev.stage6440, h]
  · simp [h]
  · simp [Option.isSome_iff_ne_none.mpr h]

end

/-- Settles O47: the writes by their conditions and by what follows their answers, the events by the state of the activation. -/
theorem firmwareTrial : Obligations.FirmwareTrial := by
  refine ⟨?activateBusy, ?activate, ?restarts, ?restartIdle, ?dieIdle, ?dieReset, ?ends, ?confirm, ?revertState, ?revert, ?timeoutIdle, ?timeout⟩
  case activateBusy =>
    rintro s r h ⟨i, hi, htest⟩
    have tests : (List.range 9).any (fun i => s.dev.get 0x1010 (i + 1) = 4) = true :=
      List.any_eq_true.mpr ⟨i, List.mem_range.mpr hi, by simpa using htest⟩
    refine does_write_refused (fun _ d => d.activateOp r 1) rfl h (h.activate_code.trans ?_) rfl
    rw [tests]
    exact firstCode_head (by simp [Code.rank, Dev.roomToLog])
  case activate =>
    intro s r h htest hf h3 hc
    have granted : firstCode (s.dev.activateOp r 1).checks = .ok := by
      refine h.activate_code.trans (firstCode_ok ?_)
      simpa [Dev.roomToLog, hf, hc, Dev.stage6440, h3] using htest
    refine does_of_write (fun _ d => d.activateOp r 1) rfl h granted ?_
    have slot := congrArg (·.2.2.2.slot) (s.dev.firmware_touch_answer 0x0021 (bytesOf 1 (slotOf s.dev.hall.fw.slot).val
      ++ bytesOf 4 (s.dev.hall.slots.get (slotOf s.dev.hall.fw.slot)).setVersion ++ bytesOf 1 (s.dev.diesMask (slotOf s.dev.hall.fw.slot))) r .ok)
    exact congrArg (fun k => Dev.rollingStart _ (slotOf k) none) slot
  case restarts =>
    intro s h5 hs hd hr
    obtain ⟨serving, active, shown, stage⟩ := Dev.controllerRestarted_serves h5 hs hd hr
    exact ⟨_, rfl, serving, active, shown, stage, rfl⟩
  case restartIdle => exact fun s h => does_of_event rfl (Dev.controllerRestarted_idle h)
  case dieIdle => exact fun s h => does_of_event rfl (Dev.dieNext_idle h)
  case dieReset => exact fun s n h5 hs hd hn => does_of_event rfl ((Dev.dieNext_goes h5 hs hd).2 n hn)
  case ends => exact fun s h5 hs hd hn => does_of_event rfl ((Dev.dieNext_goes h5 hs hd).1 hn)
  case confirm =>
    intro s r h hf hc h6
    have answers : VaultAnswers (.fwConfirm r 1) s r (confirmOp s.dev r 1).effect id :=
      vaultAnswers_of_vaultWrite (confirmOp s.dev r 1) rfl h.heard (h.confirm_code hf hc h6) rfl rfl
    refine ⟨_, answers, rfl, ?_, congrArg (·.2.2.1) (Dev.firmware_touch_answer _ _ _ r .ok)⟩
    exact (Dev.answer_get _ _ _ _ _ (by decide)).trans ((Dev.get_touch _ _ _ _ _).trans (Dev.get_setStage _ _))
  case revertState =>
    intro s r h hf hr
    refine does_write_refused (fun v d => d.revertOp r v 1) rfl h (h.revert_code.trans ?_) rfl
    simp [Dev.roomToLog, hf, hr, firstCode, Code.first_ok]
  case revert =>
    intro s r h hf hc h6 hr
    have granted : firstCode (s.dev.revertOp r s.vault 1).checks = .ok := by
      refine h.revert_code.trans (firstCode_ok ?_)
      simp [Dev.roomToLog, hf, hc, Dev.stage6440, h6, hr]
    refine does_of_write (fun v d => d.revertOp r v 1) rfl h granted ?_
    have replaced := congrArg (fun f => f.2.2.1.getD (1 - f.2.1))
      (s.dev.firmware_touch_answer 0x0023 (bytesOf 1 s.dev.replaced.val ++ bytesOf 1 1) r .ok)
    exact congrArg (fun k => Dev.rollingStart _ k (some 1)) replaced
  case timeoutIdle => exact fun s h => does_of_event rfl (Dev.trialTimeout_idle h)
  case timeout => exact fun s h5 hs hr => does_of_event rfl (if_neg (by simp [Dev.stage6440, h5, hs, hr]))

end Sys2Proof.Machine

namespace Sys2Proof.Machine

/-! ## START (O18) -/

/-- What a start decides by and what it shows beside the objects: whether the device runs, its management state, and what eMRAM keeps of starts. -/
def Dev.running (d : Dev) : Life × Mgmt × StartNv := (d.life, d.mgmt, d.nv)

theorem Dev.running_put (d : Dev) (i k v : Nat) : (d.put i k v).running = d.running := rfl

theorem Dev.running_touchEvent (d : Dev) (type : Nat) (body : List Byte) : (d.touchEvent type body).running = d.running := by
  unfold Dev.touchEvent
  split
  · rfl
  · split <;> rfl

theorem Dev.get_touchEvent {i k : Nat} (h : key 0x6600 7 ≠ key i k) (d : Dev) (type : Nat) (body : List Byte) :
    (d.touchEvent type body).get i k = d.get i k := by
  unfold Dev.touchEvent
  split
  · rfl
  · split
    · exact Dev.get_inc_other _ _ _ _ _ h
    · rfl

/-- What no store of a version, of the active slot or of FW_SLOT_VERSIONS changes, showing the slots keeps. -/
theorem Dev.showSlots_keeps {α : Type} {g : Dev → α} (hv : ∀ (d : Dev) (i : Fin 4) (v : Nat), g (d.put 0x1020 (i.val + 1) v) = g d)
    (hs : ∀ (d : Dev) (v : Nat), g (d.put 0x6440 1 v) = g d) (hw : ∀ (d : Dev) (v : Nat), g (d.put 0x6440 0xA v) = g d) (d : Dev) :
    g d.showSlots = g d :=
  (hw _ _).trans ((hs _ _).trans (foldl_keeps (fun x => g x = g d) _ _ (fun x i hx => (hv x i _).trans hx) rfl))

theorem Dev.running_showSlots (d : Dev) : d.showSlots.running = d.running :=
  Dev.showSlots_keeps (fun d _ v => d.running_put _ _ v) (fun d v => d.running_put _ _ v) (fun d v => d.running_put _ _ v) d

theorem Dev.hall_showSlots (d : Dev) : d.showSlots.hall = d.hall :=
  Dev.showSlots_keeps (fun d _ v => d.put_hall _ _ v) (fun d v => d.put_hall _ _ v) (fun d v => d.put_hall _ _ v) d

theorem Dev.get_showSlots {i k : Nat} (hv : 0x1020 ≠ i) (hs : 0x6440 ≠ i) (hk : k < 256) (d : Dev) : d.showSlots.get i k = d.get i k :=
  Dev.showSlots_keeps (g := fun d => d.get i k) (fun d _ v => d.get_put_other _ _ v _ _ (key_ne_index hv (by omega) hk))
    (fun d v => d.get_put_other _ _ v _ _ (key_ne_index hs (by decide) hk)) (fun d v => d.get_put_other _ _ v _ _ (key_ne_index hs (by decide) hk)) d

section
variable {d : Dev} {v : Vault} {env : StartEnv}

theorem Dev.loadOptions_nv (d : Dev) (env : StartEnv) : (d.loadOptions env).nv = d.nv := by
  simp only [Dev.loadOptions, Dev.onMgmt_nv, Dev.put_nv, Dev.onHall_nv]

theorem Dev.loadOptions_life (d : Dev) (env : StartEnv) : (d.loadOptions env).life = d.life := by
  simp only [Dev.loadOptions, Dev.onMgmt_life, Dev.put_life, Dev.onHall_life]

theorem Dev.loadOptions_serving (d : Dev) (env : StartEnv) : (d.loadOptions env).mgmt.serving = d.mgmt.serving := by
  simp only [Dev.loadOptions, Dev.onMgmt_mgmt', Dev.put_mgmt, Dev.onHall_mgmt]

theorem Dev.loadOptions_trialPrev (d : Dev) (env : StartEnv) : (d.loadOptions env).hall.trialPrev = d.hall.trialPrev := by
  simp only [Dev.loadOptions, Dev.onMgmt_hall, Dev.put_hall, Dev.onHall_hall']

theorem Dev.get_loadOptions_straps (d : Dev) (env : StartEnv) : (d.loadOptions env).get 0x1800 8 = env.straps &&& 0x177 := by
  have later {i k : Nat} (h : key i k ≠ key 0x1800 8) (e : Dev) (x : Nat) : (e.put i k x).get 0x1800 8 = e.get 0x1800 8 := e.get_put_other _ _ _ _ _ h
  simp only [Dev.loadOptions, Dev.onMgmt_get]
  rw [later (by decide), later (by decide), later (by decide), later (by decide), later (by decide), Dev.get_put_same]

/-- A start by life cycle and by the starts that have failed in a row (R217, R390, R393). -/
theorem Dev.start_loads (hl : d.life = .starting) (h0 : d.nv.lastStep = 0) :
    d.start v env =
      let e := Dev.loadOptions { d with pins := { d.pins with resetLow := false } } env
      if v.lifecycle = 0 then e
      else
        let e := (e.put 0x1800 6 d.nv.fails).put 0x1800 0xB d.nv.failStep
        if 3 ≤ d.nv.fails || d.nv.toRecovery then e.recoveryEnter
        else
          let e := e.startRun v env
          if e.life = .running then e.warmDeferred v e.warmEnv else e := by
  rw [Dev.start, if_neg (by simp [hl, h0])]
  simp only [Dev.put_nv, Dev.loadOptions_nv]

/-- The device is in recovery mode: the loader serves, and the objects show it and whether a set is in trial (R244, R246, R393). -/
structure Dev.InRecovery (d : Dev) (trial : Bool) : Prop where
  life : d.life = .running
  recovery : d.mgmt.recovery = true
  serving : d.mgmt.serving = true
  startState : d.get 0x1800 1 = 6
  hallmarkState : d.get 0x6400 1 = 2
  stageState : d.get 0x6440 5 = if trial then 6 else 0
  entered : d.nv.toRecovery = false

theorem Dev.recoveryEnter_inRecovery (d : Dev) : d.recoveryEnter.InRecovery d.hall.trialPrev.isSome := by
  have running : d.recoveryEnter.running = (.running, { d.mgmt with serving := true, recovery := true }, { d.nv with toRecovery := false }) :=
    (Dev.running_touchEvent _ _ _).trans ((Dev.running_put _ _ _ _).trans (Dev.running_showSlots _))
  refine ⟨congrArg (·.1) running, congrArg (·.2.1.recovery) running, congrArg (·.2.1.serving) running, ?_, ?_, ?_,
    congrArg (·.2.2.toRecovery) running⟩
  all_goals rw [Dev.recoveryEnter, Dev.get_touchEvent (by decide), Dev.showTrial]
  · rw [Dev.get_put_other _ _ _ _ _ _ (by decide), Dev.get_showSlots (by decide) (by decide) (by decide), Dev.onMgmt_get,
      Dev.get_put_other _ _ _ _ _ _ (by decide), Dev.get_put_same]
  · rw [Dev.get_put_other _ _ _ _ _ _ (by decide), Dev.get_showSlots (by decide) (by decide) (by decide), Dev.onMgmt_get, Dev.get_put_same]
  · rw [Dev.get_put_same, Dev.hall_showSlots, Dev.onMgmt_hall, Dev.put_hall, Dev.put_hall]

theorem Dev.start_recovers (hl : d.life = .starting) (h0 : d.nv.lastStep = 0) (hv : v.lifecycle ≠ 0) (hr : 3 ≤ d.nv.fails ∨ d.nv.toRecovery = true) :
    (d.start v env).InRecovery d.hall.trialPrev.isSome := by
  have trial : (Dev.loadOptions { d with pins := { d.pins with resetLow := false } } env).hall.trialPrev = d.hall.trialPrev := Dev.loadOptions_trialPrev _ env
  rw [Dev.start_loads hl h0]
  dsimp only
  rw [if_neg hv, if_pos (by simpa using hr), ← trial]
  exact Dev.recoveryEnter_inRecovery _

end

/-- Settles O18: a start by the life cycle and the count of failed starts, each of its outcomes by what it shows. -/
theorem startCompletes : Obligations.StartCompletes := by
  refine ⟨?runs, ?recovers, ?blank⟩
  case runs =>
    intro s env hl h0 hv hf hr
    exact does_of_event rfl ((Dev.start_loads hl h0).trans ((if_neg hv).trans (if_neg (by simp [hf, hr]))))
  case recovers =>
    intro s env hl h0 hv hr
    have recovers : (s.dev.start s.vault env).InRecovery s.dev.hall.trialPrev.isSome := Dev.start_recovers hl h0 hv hr
    exact ⟨_, rfl, recovers.life, recovers.recovery, recovers.serving, recovers.startState, recovers.hallmarkState, recovers.stageState, recovers.entered⟩
  case blank =>
    intro s env hl h0 hv
    have loads : Does (.start env) s (fun d => Dev.loadOptions { d with pins := { d.pins with resetLow := false } } env) :=
      does_of_event rfl ((Dev.start_loads hl h0).trans (if_pos hv))
    exact loads.gives ⟨(Dev.loadOptions_life _ env).trans hl, Dev.loadOptions_serving _ env, Dev.get_loadOptions_straps _ env⟩

end Sys2Proof.Machine

namespace Sys2Proof.Machine

/-! ## Host lanes, and how frames are admitted (O48) -/

section
variable {d : Dev} {p : Port} {f : EthFrame}

/-- A lane comes UP from ACQUIRING and from RELOCKING (R250). -/
theorem Dev.laneUp_locks (h : d.get (0x2100 + p) 1 = 1 ∨ d.get (0x2100 + p) 1 = 3) :
    d.laneUp p = (((d.put (0x2100 + p) 1 2).event (0x2080 + p) 0).reactionEnd (srcHostLane p)).inbandWake :=
  if_pos (by rcases h with h | h <;> simp [Dev.hlState, h])

theorem Dev.laneUp_elsewhere (h1 : d.get (0x2100 + p) 1 ≠ 1) (h3 : d.get (0x2100 + p) 1 ≠ 3) : d.laneUp p = d :=
  if_neg (by simp [Dev.hlState, h1, h3])

/-- No fault sequence begins or ends off an UP lane, nor where the switch sends what it sent before (R251). -/
theorem Dev.faultSequence_unchanged {fault : HostFault} (h : d.get (0x2100 + p) 1 ≠ 2 ∨ (d.port p).host.switchSends = fault) :
    d.faultSequence p fault = d :=
  if_pos (by rcases h with h | h <;> simp [Dev.hlState, h])

/-- What the switch sends on an UP lane changes (R251). -/
theorem Dev.faultSequence_taken {fault : HostFault} (hup : d.get (0x2100 + p) 1 = 2) (hs : (d.port p).host.switchSends ≠ fault) :
    ¬ (d.hlState p ≠ 2 || (d.port p).host.switchSends = fault : Bool) = true := by
  simp [Dev.hlState, hup, hs]

theorem Dev.fecSeen_correctable (hr : d.get (0x2000 + p) 1 ≤ 2) (corrected : Nat) : d.fecSeen p corrected 0 = d.count (0x2180 + p) 7 corrected :=
  if_neg (Nat.not_lt.mpr hr)

/-! ### Frames from the switch -/

theorem Dev.egressArrival_flow {fc : FcFrame} (hf : flowFrame? f = some fc) (d : Dev) (p : Port) :
    d.egressArrival p f = (d.countFromSwitch p f).fcFromSwitch p fc (!badEnd f) := by
  simp only [Dev.egressArrival, hf]

/-- A frame that is no flow control is taken by the device itself, or goes to the queue of its class and path. -/
theorem Dev.egressArrival_frame (hf : flowFrame? f = none) (d : Dev) (p : Port) :
    d.egressArrival p f =
      let e := d.countFromSwitch p f
      if e.takesInband p f then e
      else (e.enqueue p .egress (queueOf .egress (e.sealsFrames p && !e.goesClear p f (e.classOf p f)) (e.classOf p f)) f).wakeIfPending p := by
  simp only [Dev.egressArrival, hf]

/-! ### Admission (R255 to R257, R267) -/

section
variable {dir : Dir} {tested : Bool}

/-- A discarded frame counts in its port, under the cause, and in its queue. -/
theorem Dev.enqueue_refused {c : Nat} (h : d.refuses p dir f tested = some c) (q : Fin 32) :
    d.enqueue p dir q f tested = (d.count (0x2500 + p) c 1).count (0x2480 + p) (q + 1) 1 := by
  simp only [Dev.enqueue, h]
  exact if_neg Nat.one_ne_zero

theorem Dev.enqueue_admitted (h : d.refuses p dir f tested = none) (hl : f.bytes.length ≤ d.get (0x2000 + p) 4) (q : Fin 32) :
    d.enqueue p dir q f tested = (d.onQueue p q (fun l => l ++ [f])).flowCheck p dir := by
  simp only [Dev.enqueue, h, if_neg (Nat.not_lt.mpr hl)]

theorem Dev.refuses_linkDown (h : d.linkUp p = false) : d.refuses p .egress f tested = some 3 :=
  if_pos (by simp [h])

theorem Dev.refuses_egress_full (hu : d.linkUp p = true) (hr : d.hasRoom p .egress = false) : d.refuses p .egress f false = some 5 :=
  (if_neg (by simp [hu])).trans (if_pos (by simp [hr]))

theorem Dev.refuses_ingress_full (hr : d.hasRoom p .ingress = false) : d.refuses p .ingress f false = some 6 :=
  (if_neg (by simp)).trans (if_pos (by simp [hr]))

/-- A frame for which there was room waits whole in its queue unless it is too long, too short or errored, in this order. -/
theorem Dev.refuses_whole (hu : d.linkUp p = true) (hw : d.cutThrough p dir f = false) :
    d.refuses p dir f true =
      if d.get (0x2000 + p) 4 < f.bytes.length then some 7 else if f.bytes.length < 64 then some 8 else if badEnd f then some 9 else none := by
  simp [Dev.refuses, hu, hw]

end

end

/-- Settles O48: each command is an event of the device by the state of its lane or link, and a frame is admitted by the causes in their order. -/
theorem hostLanesAndArrival : Obligations.HostLanesAndArrival := by
  refine ⟨?locks, ?lockedElsewhere, ?lost, ?notUp, ?localFault, ?remoteFault, ?faultEnds, ?sameFault, ?hiBer, ?laneOff, ?fromSwitch, ?fromSwitchNotUp,
    ?corrected, ?flow, ?inband, ?queued, ?fromLine, ?fromLineDown, ?refused, ?admitted, ?linkDown, ?egressFull, ?ingressFull, ?whole⟩
  case locks => exact fun s p h => does_of_event rfl (Dev.laneUp_locks h)
  case lockedElsewhere => exact fun s p h1 h3 => does_of_event rfl (Dev.laneUp_elsewhere h1 h3)
  case lost => exact fun s p h => does_of_event rfl (if_pos h)
  case notUp => exact fun s p h => ⟨does_of_event rfl (if_neg h), fun f => does_of_event rfl (Dev.faultSequence_unchanged (.inl h))⟩
  case localFault => exact fun s p hup hs => does_of_event rfl (if_neg (Dev.faultSequence_taken hup hs))
  case remoteFault => exact fun s p hup hs => does_of_event rfl (if_neg (Dev.faultSequence_taken hup hs))
  case faultEnds => exact fun s p hup hs => does_of_event rfl (if_neg (Dev.faultSequence_taken hup hs))
  case sameFault => exact fun s p f hs => does_of_event rfl (Dev.faultSequence_unchanged (.inr hs))
  case hiBer => exact fun s p h => does_of_event rfl (if_neg h)
  case laneOff => exact fun s p h => does_of_event rfl (if_pos h)
  case fromSwitch => exact fun s p f corrected bad h => does_of_event rfl (if_pos h)
  case fromSwitchNotUp => exact fun s p f corrected bad h => does_of_event rfl (if_neg h)
  case corrected => exact fun d p corrected hr => Dev.fecSeen_correctable hr corrected
  case flow => exact fun d p f fc hf => Dev.egressArrival_flow hf d p
  case inband => exact fun d p f hf hi => (Dev.egressArrival_frame hf d p).trans (if_pos hi)
  case queued => exact fun d p f hf hi => (Dev.egressArrival_frame hf d p).trans (if_neg (ne_true_of_eq_false hi))
  case fromLine => exact fun s p f h => does_of_event rfl (if_pos h)
  case fromLineDown => exact fun s p f h => does_of_event rfl (if_neg (ne_true_of_eq_false h))
  case refused => exact fun d p dir q f tested c h => Dev.enqueue_refused h q
  case admitted => exact fun d p dir q f tested h hl => Dev.enqueue_admitted h hl q
  case linkDown => exact fun d p f tested h => Dev.refuses_linkDown h
  case egressFull => exact fun d p f hu hr => Dev.refuses_egress_full hu hr
  case ingressFull => exact fun d p f hr => Dev.refuses_ingress_full hr
  case whole =>
    intro d p dir f hu hw
    rw [Dev.refuses_whole hu hw]
    refine ⟨fun long => if_pos long, fun fits short => ?_, fun fits min bad => ?_, fun fits min good => ?_⟩
    · rw [if_neg (Nat.not_lt.mpr fits), if_pos short]
    · rw [if_neg (Nat.not_lt.mpr fits), if_neg (Nat.not_lt.mpr min), if_pos bad]
    · rw [if_neg (Nat.not_lt.mpr fits), if_neg (Nat.not_lt.mpr min), if_neg (ne_true_of_eq_false good)]

end Sys2Proof.Machine

namespace Sys2Proof.Machine

/-! ## The mode of a port, which nothing that a frame to the line causes changes -/

/-- A store changes a port's mode at its own object only. -/
theorem Dev.mode_put {i k v : Nat} (h : i < 0x4080 ∨ 0x4100 ≤ i ∨ k ≠ 4) (hk : k < 256 := by decide) (d : Dev) (q : Port) :
    (d.put i k v).mode q = d.mode q := by
  refine Dev.get_put_other _ _ _ _ _ _ ?_
  have hq := q.isLt
  unfold key
  omega

theorem Dev.mode_event {i : Nat} (h : i < 0x4080 ∨ 0x4100 ≤ i) (d : Dev) (b : Nat) (q : Port) : (d.event i b).mode q = d.mode q :=
  (Dev.mode_put (h.imp_right .inl) (by decide) _ q).trans (Dev.mode_put (h.imp_right .inl) (by decide) d q)

/-- A change that keeps to objects of others leaves the modes alone. -/
theorem Within.mode {own : Nat → Prop} {α : Type} {rest : Dev → α} {d e : Dev} (h : Within own rest d e) {q : Port} (hq : ¬ own (0x4080 + q)) :
    e.mode q = d.mode q :=
  h.objects.objects _ _ (by decide) hq

section
variable (d : Dev) (p q : Port)

@[simp] theorem Dev.mode_onLink (f : LinkSt → LinkSt) : (d.onLink p f).mode q = d.mode q := rfl
@[simp] theorem Dev.mode_onNative (f : Native → Native) : (d.onNative p f).mode q = d.mode q := rfl
@[simp] theorem Dev.mode_onSignal (f : Signal → Signal) : (d.onSignal p f).mode q = d.mode q := rfl
@[simp] theorem Dev.mode_emit (o : Out) : (d.emit o).mode q = d.mode q := rfl
@[simp] theorem Dev.mode_setTxQuiet (v : Nat) : (d.setTxQuiet p v).mode q = d.mode q := Dev.mode_put (by omega) (by decide) d q

@[simp] theorem Dev.mode_widen (n : Die) (w : Way) : (d.widen n w).mode q = d.mode q :=
  (Within.widen (.refl laneObject (laneRest n) d)).mode (fun h => by have := h.2; omega)

@[simp] theorem Dev.mode_samplerSees (code : Nat) : (d.samplerSees p code).mode q = d.mode q := by
  unfold Dev.samplerSees
  dsimp only
  split
  · exact (Within.samplerTriggers (.refl (samplerObject (dieOf p)) samplerRest d) _ _).mode (fun h => by rcases h with h | h | h <;> omega)
  · rfl

@[simp] theorem Dev.mode_quietLeave : (d.quietLeave p).mode q = d.mode q := by
  unfold Dev.quietLeave
  split
  · rfl
  · exact Dev.mode_put (by omega) (by decide) d q

/-! ### Recovered clocks and link states -/

@[simp] theorem Dev.mode_rclkShow (n : Fin 2) (v : Option (Nat × Nat)) : (d.rclkShow n v).mode q = d.mode q := by
  unfold Dev.rclkShow
  split <;> rfl

@[simp] theorem Dev.mode_rclkSquelch (n : Fin 2) : (d.rclkSquelch n).mode q = d.mode q := by
  unfold Dev.rclkSquelch
  dsimp only
  split
  · exact d.mode_rclkShow q n none
  · exact (Dev.mode_event (by decide) _ _ q).trans (d.mode_rclkShow q n none)

@[simp] theorem Dev.mode_rclkLook : d.rclkLook.mode q = d.mode q := by
  refine forAll_keeps 2 _ (fun e : Dev => e.mode q) (fun n e => ?_) d
  split
  · exact Dev.mode_rclkShow _ q n _
  · exact e.mode_rclkSquelch q n

@[simp] theorem Dev.mode_setLinkState (st : Nat) : (d.setLinkState p st).mode q = d.mode q :=
  (Dev.mode_rclkLook _ q).trans (Dev.mode_put (.inr (.inr (by decide))) (by decide) d q)

/-! ### Engines and checkpoints -/

@[simp] theorem Dev.mode_moveOn (refresh : Bool) : (d.moveOn p refresh).mode q = d.mode q := by
  refine forAll_keeps 4 _ (fun e : Dev => e.mode q) (fun k e => forAll_keeps 11 _ (fun e : Dev => e.mode q) (fun i e => ?_) e) _
  split
  · rfl
  · split <;> rfl

@[simp] theorem Dev.mode_othersLearn : (d.othersLearn p).mode q = d.mode q := by
  refine foldl_keeps (fun e : Dev => e.mode q = d.mode q) _ _ (fun e r he => (forAll_keeps 4 _ (fun e : Dev => e.mode q) (fun k e => ?_) e).trans he) rfl
  split <;> rfl

@[simp] theorem Dev.mode_checkpointIfDue : (d.checkpointIfDue p).mode q = d.mode q := by
  unfold Dev.checkpointIfDue Dev.checkpoint
  dsimp only
  split_ifs <;> simp

/-! ### Quiet, and a wake for what is pending -/

@[simp] theorem Dev.mode_quietLink : (d.quietLink p).mode q = d.mode q := by
  unfold Dev.quietLink Dev.quietOver
  split_ifs <;> simp

@[simp] theorem Dev.mode_sendBurst (flag n : Nat) : (Dev.sendBurst p flag n d).mode q = d.mode q := by
  induction n generalizing d with
  | zero => rfl
  | succ n ih => exact ih _

@[simp] theorem Dev.mode_wake : (d.wake p).mode q = d.mode q := by
  unfold Dev.wake
  dsimp only
  split_ifs <;> simp

@[simp] theorem Dev.mode_wakeIfPending : (d.wakeIfPending p).mode q = d.mode q := by
  unfold Dev.wakeIfPending
  split <;> simp

@[simp] theorem Dev.mode_flowCheck (dir : Dir) : (d.flowCheck p dir).mode q = d.mode q := by
  unfold Dev.flowCheck
  dsimp only
  split <;> rfl

/-! ### A frame that leaves on the line -/

@[simp] theorem Dev.mode_activity : (d.activity p).mode q = d.mode q := by
  unfold Dev.activity
  split
  · split <;> rfl
  · rfl

@[simp] theorem Dev.mode_countLeft (k : Fin 32) (bytes : Nat) : (d.countLeft p k bytes).mode q = d.mode q := by
  have counted : (d.inc (0x2380 + p) (k.val + 1)).mode q = d.mode q := Dev.mode_put (by omega) (by omega) d q
  exact (Dev.mode_activity _ p q).trans ((Dev.mode_put (by omega) (by omega) _ q).trans counted)

@[simp] theorem Dev.mode_frameGone (t : TxFrame) : (d.frameGone p t).mode q = d.mode q := by
  unfold Dev.frameGone
  dsimp only
  split
  · split <;> simp
  · split
    · split
      · rfl
      · exact Dev.mode_put (by omega) (by decide) _ q
    · rfl

@[simp] theorem Dev.mode_frameLeft (t : TxFrame) : (d.frameLeft p t).mode q = d.mode q := by
  simp [Dev.frameLeft, Dev.afterSend]

/-! ## Schedulers (O49) -/

theorem Dev.native_standardLeft : (d.standardLeft p).native p = d.native p := by
  unfold Dev.standardLeft
  split
  · split
    · rfl
    · simp [Dev.native]
  · rfl

end

section
variable {d : Dev} {p : Port}

/-- No frame leaves a native line by its being asked again, nor where none is in transmission (log entry 39). -/
theorem Dev.standardLeft_idle (h : d.native p = true ∨ (d.port p).native.tx = none) : d.standardLeft p = d := by
  unfold Dev.standardLeft
  split
  · next t ht => exact if_pos (h.resolve_right (by simp [ht]))
  · rfl

theorem Dev.standardLeft_frame {t : TxFrame} (hn : d.native p = false) (ht : (d.port p).native.tx = some t) :
    d.standardLeft p = (d.onNative p (fun n => { n with tx := none })).frameLeft p t := by
  simp only [Dev.standardLeft, ht, hn, Bool.false_eq_true, if_false]

/-! ### Towards the switch -/

theorem Dev.pickIngress_closed (h : d.hlSignal p ≠ 4 ∨ (d.arrivals p).any (fun r => r.begun && !r.cut) = true) : d.pickIngress p = d :=
  if_pos (by rcases h with h | h <;> simp [h])

section
variable (hs : d.hlSignal p = 4) (ha : (d.arrivals p).any (fun r => r.begun && !r.cut) = false)
include hs ha

/-- A lane that sends frames, with none on its way, takes one. -/
theorem Dev.switchTakes : ¬ (d.hlSignal p ≠ 4 || (d.arrivals p).any (fun r => r.begun && !r.cut) : Bool) = true := by
  simp [hs, ha]

theorem Dev.pickIngress_flow {fc : FcFrame} (hf : (d.flow p .egress).pending = some fc) :
    d.pickIngress p =
      let b := flowBytes (d.get (0x2200 + p) 0xD) fc
      ((((d.onFlow p .egress (fun f => { f with pending := none })).inc (0x2180 + p) 0xB).inc (0x2180 + p) 3).count (0x2180 + p) 4 b.length).emit
        (.fcToSwitch p fc b) := by
  rw [Dev.pickIngress, if_neg (Dev.switchTakes hs ha), hf]

variable (hf : (d.flow p .egress).pending = none)
include hf

theorem Dev.pickIngress_frame {f : EthFrame} {q : Fin 32} {e : Dev} (ht : d.takeFrame p .ingress = some (f, q, e)) :
    d.pickIngress p = ((e.sendToSwitch p { f with errored := badEnd f }).countLeft p q f.bytes.length).afterSend p .ingress := by
  rw [Dev.pickIngress, if_neg (Dev.switchTakes hs ha), hf]
  simp only [ht]

theorem Dev.pickIngress_arriving (ht : d.takeFrame p .ingress = none) : d.pickIngress p = d.startArriving p := by
  rw [Dev.pickIngress, if_neg (Dev.switchTakes hs ha), hf]
  simp only [ht]

end

/-! ### Towards the line -/

theorem Dev.pickEgress_closed (h : (d.standardLeft p).lineTakes p = false) : d.pickEgress p = d.standardLeft p :=
  if_pos (by simp [h])

/-- On a standard line a flow-control frame that waits goes first (R263). -/
theorem Dev.pickEgress_flow {fc : FcFrame} (hl : (d.standardLeft p).lineTakes p = true) (hn : d.native p = false)
    (hf : ((d.standardLeft p).flow p .ingress).pending = some fc) :
    d.pickEgress p = ((d.standardLeft p).onFlow p .ingress (fun f => { f with pending := none })).sendDown p
      { bytes := flowBytes ((d.standardLeft p).get (0x2200 + p) 0xD) fc } 32 := by
  simp [Dev.pickEgress, hl, Dev.native_standardLeft, hn, Dev.flowWaits, hf]

section
variable (hl : (d.standardLeft p).lineTakes p = true) (hf : d.native p = true ∨ ((d.standardLeft p).flow p .ingress).pending = none)

include hf in
/-- The scheduler has no flow-control frame to send: a native line takes it by itself, in NATIVE_FRAME_TX, or none waits. -/
theorem Dev.noFlowWaits : (if (d.standardLeft p).native p then none else (d.standardLeft p).flowWaits p) = none := by
  rcases hf with hn | hf
  · simp [Dev.native_standardLeft, hn]
  · simp [Dev.flowWaits, hf]

include hl hf

/-- A picked frame is sent, unless the down direction is short of lanes for it (R300). -/
theorem Dev.pickEgress_frame {f : EthFrame} {q : Fin 32} {e : Dev} (ht : (d.standardLeft p).takeFrame p .egress = some (f, q, e)) :
    d.pickEgress p = if (d.standardLeft p).crowdedOut (dieOf p) .down then (d.standardLeft p).newDraw
      else (e.lookedAt (dieOf p) .down).sendDown p f q.val := by
  simp [Dev.pickEgress, hl, Dev.noFlowWaits hf, ht]

theorem Dev.pickEgress_nothing (ht : (d.standardLeft p).takeFrame p .egress = none) : d.pickEgress p = d.standardLeft p := by
  simp [Dev.pickEgress, hl, Dev.noFlowWaits hf, ht]

end

/-- Only the queues 8 to 15 hold frames that are sealed. -/
theorem Dev.sendDown_clear {q : Nat} (hq : q < 8 ∨ 16 ≤ q) (d : Dev) (p : Port) (f : EthFrame) :
    d.sendDown p f q =
      (d.crossFrame (dieOf p) .down (Fin.ofNat 16 (localOf p)) q f.bytes (badEnd f) (d.pickClass p .egress).isSome).toLine p f q false f.bytes :=
  if_neg (by simp; omega)

/-! ## Flow control (O49) -/

/-- What a received flow-control frame changes in the scheduler that honours it: a PAUSE every class, a PFC frame its priorities (R264). -/
theorem Dev.obey_honoured {bit : Nat} (h : (d.get (0x2200 + p) 0xC).testBit bit = true) (dir : Dir) :
    (∀ quanta, d.obey p dir bit (.pause quanta) = d.onFlow p dir (fun f => { f with pausedAll := quanta ≠ 0 }))
    ∧ ∀ v, d.obey p dir bit (.pfc v) = d.onFlow p dir (fun f => { f with pausedPrios := pausedAfter v f.pausedPrios }) :=
  ⟨fun _ => if_pos h, fun _ => if_pos h⟩

theorem Dev.obey_ignored {bit : Nat} (h : (d.get (0x2200 + p) 0xC).testBit bit = false) (dir : Dir) (fc : FcFrame) : d.obey p dir bit fc = d :=
  if_neg (ne_true_of_eq_false h)

/-- What the counts of a frame from the switch leave alone of FC_HONOUR. -/
theorem Dev.honour_switchCounted (d : Dev) (p : Port) :
    (((d.inc (0x2180 + p) 1).count (0x2180 + p) 2 64).inc (0x2180 + p) 0xA).get (0x2200 + p) 0xC = d.get (0x2200 + p) 0xC := by
  have other (e : Dev) {k n : Nat} (hk : k < 256) : (e.count (0x2180 + p) k n).get (0x2200 + p) 0xC = e.get (0x2200 + p) 0xC :=
    e.get_count_other _ _ _ _ _ (key_ne_index (by omega) hk (by decide))
  exact (other _ (by decide)).trans ((other _ (by decide)).trans (other _ (by decide)))

theorem Dev.honour_lineCounted (d : Dev) (p : Port) : (d.inc (0x2500 + p) 0xB).get (0x2200 + p) 0xC = d.get (0x2200 + p) 0xC :=
  d.get_inc_other _ _ _ _ (key_ne_index (by omega) (by decide) (by decide))

theorem upd_congr {α : Type} {n : Nat} {v : Vector α n} {i : Fin n} {f g : α → α} (h : f (v.get i) = g (v.get i)) : upd v i f = upd v i g :=
  congrArg (v.set i.val · i.isLt) h

/-- A change of a flow-control state is what it comes to in the present one. -/
theorem Dev.onFlow_congr {dir : Dir} {f g : Flow → Flow} (h : f (d.flow p dir) = g (d.flow p dir)) : d.onFlow p dir f = d.onFlow p dir g := by
  refine congrArg (fun v => { d with ports := v }) (upd_congr ?_)
  cases dir with
  | egress => exact congrArg (fun x => { d.port p with host := { (d.port p).host with egFlow := x } }) h
  | ingress => exact congrArg (fun x => { d.port p with host := { (d.port p).host with inFlow := x } }) h

theorem Dev.pauseExpiry_all {dir : Dir} (h : (d.flow p dir).pausedAll = true) (c : Fin 8) :
    d.pauseExpiry p dir c = d.onFlow p dir (fun f => { f with pausedAll := false }) :=
  Dev.onFlow_congr (if_pos h)

theorem Dev.pauseExpiry_class {dir : Dir} (h : (d.flow p dir).pausedAll = false) (c : Fin 8) :
    d.pauseExpiry p dir c = d.onFlow p dir (fun f => { f with pausedPrios := d.release p c f.pausedPrios }) :=
  Dev.onFlow_congr (if_neg (ne_true_of_eq_false h))

end

/-- A flow-control frame from the switch, on a lane that is UP. -/
theorem does_fcFrameFromSwitch {s : State} {p : Port} {fc : FcFrame} {f : Dev → Dev} (hup : s.dev.get (0x2100 + p) 1 = 2)
    (h : (((s.dev.inc (0x2180 + p) 1).count (0x2180 + p) 2 64).inc (0x2180 + p) 0xA).obey p .ingress 0 fc = f s.dev) :
    Does (.fcFrameFromSwitch p fc) s f :=
  does_of_event rfl ((if_pos hup).trans h)

/-- One from the line, on a link that is up. -/
theorem does_fcFrameFromLine {s : State} {p : Port} {fc : FcFrame} {f : Dev → Dev} (hup : s.dev.linkUp p = true)
    (h : (s.dev.inc (0x2500 + p) 0xB).obey p .egress 1 fc = f s.dev) : Does (.fcFrameFromLine p fc) s f :=
  does_of_event rfl ((if_pos hup).trans h)

/-- Settles O49: a pick by what waits in its order, a flow-control frame by whether it is honoured, an expiry by what was paused. -/
theorem schedulersAndFlowControl : Obligations.SchedulersAndFlowControl := by
  refine ⟨?switchFlow, ?switchFrame, ?switchArriving, ?switchClosed, ?lineClosed, ?lineFlow, ?lineFrame, ?lineNothing, ?stays, ?left, ?clear, ?pauseSwitch,
    ?pfcSwitch, ?ignoredSwitch, ?laneDown, ?pauseLine, ?pfcLine, ?ignoredLine, ?linkDown, ?expiryAll, ?expiryClass, ?resend, ?noResend⟩
  case switchFlow => exact fun s p fc hs ha hf => does_of_event rfl (Dev.pickIngress_flow hs ha hf)
  case switchFrame => exact fun s p f q d hs ha hf ht => does_of_event rfl (Dev.pickIngress_frame hs ha hf ht)
  case switchArriving => exact fun s p hs ha hf ht => does_of_event rfl (Dev.pickIngress_arriving hs ha hf ht)
  case switchClosed => exact fun s p h => does_of_event rfl (Dev.pickIngress_closed h)
  case lineClosed => exact fun s p h => does_of_event rfl (Dev.pickEgress_closed h)
  case lineFlow => exact fun s p fc hl hn hf => does_of_event rfl (Dev.pickEgress_flow hl hn hf)
  case lineFrame =>
    intro s p f q d hl hf ht
    have sends := Dev.pickEgress_frame hl hf ht
    exact ⟨fun hc => does_of_event rfl (sends.trans (if_neg (ne_true_of_eq_false hc))), fun hc => does_of_event rfl (sends.trans (if_pos hc))⟩
  case lineNothing => exact fun s p hl hf ht => does_of_event rfl (Dev.pickEgress_nothing hl hf ht)
  case stays => exact fun d p h => Dev.standardLeft_idle h
  case left => exact fun d p t hn ht => Dev.standardLeft_frame hn ht
  case clear => exact fun d p f q hq => Dev.sendDown_clear hq d p f
  case pauseSwitch =>
    exact fun s p quanta hup hh => does_fcFrameFromSwitch hup ((Dev.obey_honoured (by rwa [Dev.honour_switchCounted]) .ingress).1 quanta)
  case pfcSwitch => exact fun s p v hup hh => does_fcFrameFromSwitch hup ((Dev.obey_honoured (by rwa [Dev.honour_switchCounted]) .ingress).2 v)
  case ignoredSwitch => exact fun s p fc hup hh => does_fcFrameFromSwitch hup (Dev.obey_ignored (by rwa [Dev.honour_switchCounted]) .ingress fc)
  case laneDown => exact fun s p fc h => does_of_event rfl (if_neg h)
  case pauseLine => exact fun s p quanta hup hh => does_fcFrameFromLine hup ((Dev.obey_honoured (by rwa [Dev.honour_lineCounted]) .egress).1 quanta)
  case pfcLine => exact fun s p v hup hh => does_fcFrameFromLine hup ((Dev.obey_honoured (by rwa [Dev.honour_lineCounted]) .egress).2 v)
  case ignoredLine => exact fun s p fc hup hh => does_fcFrameFromLine hup (Dev.obey_ignored (by rwa [Dev.honour_lineCounted]) .egress fc)
  case linkDown => exact fun s p fc h => does_of_event rfl (if_neg (ne_true_of_eq_false h))
  case expiryAll => exact fun s p dir c h => does_of_event rfl (Dev.pauseExpiry_all h c)
  case expiryClass => exact fun s p dir c h => does_of_event rfl (Dev.pauseExpiry_class h c)
  case resend => exact fun s p dir h => does_of_event rfl (if_neg h)
  case noResend => exact fun s p dir h => does_of_event rfl (if_pos h)

end Sys2Proof.Machine

namespace Sys2Proof.Machine

/-! ## Messages over a twill link (O15, O52) -/

/-- The check of an EVENT and of a TIMESTAMP message fits. -/
def eventFits : EventMsg → Bool
  | .fault ok _ => ok
  | .clock ok _ => ok
def timestampFits : TimestampMsg → Bool
  | .stamp ok .. => ok
  | .phase ok .. => ok

section
variable {d : Dev} {n : Die}

theorem Dev.message_intact (hu : d.twillState n = 3) (f : Dev → Dev) : d.message n true f = f d := if_neg (not_not.mpr hu)

/-- A message that fails its check is discarded and counted (R273). -/
theorem Dev.message_bad (hu : d.twillState n = 3) (f : Dev → Dev) : d.message n false f = d.inc (0x3080 + n) 6 := if_neg (not_not.mpr hu)

theorem Dev.message_elsewhere (hu : d.twillState n ≠ 3) (ok : Bool) (f : Dev → Dev) : d.message n ok f = d := if_pos hu

theorem Dev.message_id (d : Dev) (n : Die) : d.message n true id = d := ite_self d

theorem Dev.managementEnd_intact (d : Dev) (n : Die) (w : Way) : d.managementEnd n w true = d := d.message_id n

theorem Dev.managementEnd_elsewhere (hu : d.twillState n ≠ 3) (w : Way) (ok : Bool) : d.managementEnd n w ok = d := by
  simp [Dev.managementEnd, hu, Dev.message_elsewhere hu]

theorem Dev.managementEnd_up (hu : d.twillState n = 3) : d.managementEnd n .up false = d.inc (0x3080 + n) 6 := Dev.message_bad hu id

/-- What a loading die takes is its microcode, which it then refuses (R31). -/
theorem Dev.managementEnd_loading (hu : d.twillState n = 3) (hd : d.dieState n = 1) :
    d.managementEnd n .down false = (d.inc (0x3080 + n) 6).onDie n (fun s => { s with imageBad := true }) := by
  simp [Dev.managementEnd, hu, hd, Dev.message_bad hu]

/-- What any other die takes is a request, which gets no response (R38). -/
theorem Dev.managementEnd_request (hu : d.twillState n = 3) (hd : d.dieState n ≠ 1) :
    d.managementEnd n .down false = (d.inc (0x3080 + n) 6).onDie n (fun s => { s with requestLost := true }) := by
  simp [Dev.managementEnd, hu, hd, Dev.message_bad hu]

theorem Dev.eventMessage_bad (hu : d.twillState n = 3) {e : EventMsg} (he : eventFits e = false) : d.eventMessage n e = d.inc (0x3080 + n) 6 := by
  cases e <;> cases he <;> exact if_neg (not_not.mpr hu)

theorem Dev.eventMessage_elsewhere (hu : d.twillState n ≠ 3) (e : EventMsg) : d.eventMessage n e = d := by
  cases e <;> exact if_pos hu

theorem Dev.timestampMessage_bad (hu : d.twillState n = 3) {m : TimestampMsg} (hm : timestampFits m = false) :
    d.timestampMessage n m = d.inc (0x3080 + n) 6 := by
  cases m <;> cases hm <;> exact if_neg (not_not.mpr hu)

theorem Dev.timestampMessage_elsewhere (hu : d.twillState n ≠ 3) (m : TimestampMsg) : d.timestampMessage n m = d := by
  cases m <;> exact if_pos hu

theorem Dev.timeMessage_bad (hu : d.twillState n = 3) {m : TimeMsg} (hm : m.crcOk = false) : d.timeMessage n m = d.inc (0x3080 + n) 6 := by
  rw [Dev.timeMessage, hm]
  exact Dev.message_bad hu _

end

/-! ## Messages whose check fails (O15) -/

/-- What a discarded message leaves alone beside the objects: what was sent, and the management state. -/
def discardRest (d : Dev) : List Out × Mgmt := (d.out, d.mgmt)

/-- The objects of a link that carries the message, which count it. -/
def linkCounts (n : Die) (i : Nat) : Prop := i = 0x3080 + n

/-- From a device to one where a message of the link has been discarded: TWILL_MSG_BAD is one more, and nothing else is sent or shown. -/
structure Discards (n : Die) (d e : Dev) : Prop where
  within : Within (linkCounts n) discardRest d e
  counts : ∀ sub, e.get (0x3080 + n) sub = (d.inc (0x3080 + n) 6).get (0x3080 + n) sub

theorem discards_inc (n : Die) (d : Dev) : Discards n d (d.inc (0x3080 + n) 6) := ⟨(Within.refl _ _ d).inc rfl, fun _ => rfl⟩

theorem Discards.of_eq {n : Die} {d e : Dev} (h : e = d.inc (0x3080 + n) 6) : Discards n d e := h ▸ discards_inc n d

/-- A note in a die's record is no object. -/
theorem Discards.onDie {n : Die} {d e : Dev} (h : Discards n d e) (f : DieSt → DieSt) : Discards n d (e.onDie n f) :=
  ⟨h.within.onDie (fun _ => rfl), h.counts⟩

theorem discards_managementEnd {d : Dev} {n : Die} (hu : d.twillState n = 3) (w : Way) : Discards n d (d.managementEnd n w false) := by
  cases w with
  | up => exact Dev.managementEnd_up hu ▸ discards_inc n d
  | down =>
    by_cases hd : d.dieState n = 1
    · exact Dev.managementEnd_loading hu hd ▸ (discards_inc n d).onDie _
    · exact Dev.managementEnd_request hu hd ▸ (discards_inc n d).onDie _

/-- The count of bad messages is a 32-bit counter (R44, R304). -/
theorem width_linkCounts : ∀ n : Die, Catalog.width (0x3080 + n) 6 = 32 := by decide

theorem gives_of_discards {c : Instr} {s : State} {n : Die} {f : Dev → Dev} (hc : exec c s = s.event f) (h : Discards n s.dev (f s.dev)) :
    Gives c s (fun t => t.dev.get (0x3080 + n) 6 = (s.dev.get (0x3080 + n) 6 + 1) % 2 ^ 32 ∧ t.dev.out = s.dev.out ∧ t.dev.mgmt = s.dev.mgmt
      ∧ OnlyObjects (fun idx => idx = 0x3080 + n) s t ∧ (∀ sub, sub < 256 → sub ≠ 6 → t.dev.get (0x3080 + n) sub = s.dev.get (0x3080 + n) sub)) := by
  obtain ⟨hout, hmgmt⟩ := Prod.mk.inj h.within.rest
  refine ⟨s.onDev f, hc, ?counted, hout, hmgmt, { h.within.objects with vault := rfl, pending := rfl }, ?others⟩
  case counted =>
    have counted := (h.counts 6).trans (s.dev.get_count_same (0x3080 + n) 6 1)
    rwa [width_linkCounts n] at counted
  case others => exact fun sub hs hne => (h.counts sub).trans (s.dev.get_inc_other _ _ _ _ (key_ne_sub hne.symm (by decide) hs))

/-- Settles O15: every such message goes through the same check, which counts it; a bad management message on its way down is noted in the die's record too. -/
theorem failedChecksAreDiscarded : Obligations.FailedChecksAreDiscarded := by
  intro s n c hu hc
  rcases hc with ⟨w, m, hm, rfl | rfl⟩ | ⟨ev, rfl⟩ | ⟨bits, rfl⟩ | ⟨k, egress, wasSealed, moved, time, ev, rfl⟩ | ⟨k, valid, rfl⟩ | ⟨m, hm, rfl⟩
  · exact gives_of_discards (f := fun d => d.managementEnd n w (intact m)) rfl (hm ▸ discards_managementEnd hu w)
  · exact gives_of_discards (f := fun d => d.message n (intact m) id) rfl (.of_eq (hm ▸ Dev.message_bad hu id))
  · exact gives_of_discards rfl (.of_eq (Dev.eventMessage_bad hu rfl))
  · exact gives_of_discards rfl (.of_eq (Dev.eventMessage_bad hu rfl))
  · exact gives_of_discards rfl (.of_eq (Dev.timestampMessage_bad hu rfl))
  · exact gives_of_discards rfl (.of_eq (Dev.timestampMessage_bad hu rfl))
  · exact gives_of_discards rfl (.of_eq (Dev.timeMessage_bad hu hm))

end Sys2Proof.Machine

namespace Sys2Proof.Machine

/-! ## Blocks that a lane brings (O52) -/

section
variable {d : Dev} {n : Die} {w : Way} {x : Fin 34} {line : List Bool}

/-- A lane that carries no blocks, or one of a link that is not UP, is not read. -/
theorem Dev.dataBlock_idle (h : d.twillState n ≠ 3 ∨ d.activeLane n w x = false ∧ x.val ∉ (d.twillDir n w).retired ∧ d.delivering n w x = none) :
    d.dataBlock n w { lane := laneOf x, line := line } = d := by
  have idle : (d.twillState n ≠ 3 || !(d.activeLane n w x || x.val ∈ (d.twillDir n w).retired || (d.delivering n w x).isSome) : Bool) = true := by
    rcases h with hu | ⟨ha, hr, hd⟩ <;> simp [*]
  exact (dif_pos x.isLt).trans (if_pos idle)

/-- A header of no KIND counts as invalid, and its block is nothing more (R293). -/
theorem Dev.dataBlock_unknown (hu : d.twillState n = 3) (ha : d.activeLane n w x = true) (hd : isData (d.laneRead n w x line).1.header = false)
    (hk : 10 ≤ blockKind (d.laneRead n w x line).1.header) :
    d.dataBlock n w { lane := laneOf x, line := line } = (d.laneRead n w x line).2.headerSeen n w x false := by
  have invalid : ¬ blockKind (d.laneRead n w x line).1.header < 10 := by omega
  simp [Dev.dataBlock, laneOf, hu, ha, hd, hk, invalid]

/-- A block of the stream is next at once in a narrowed direction, and waits for its lane's turn in any other (R279). -/
theorem Dev.dataBlock_stream {b : LaneBlock} {c e : Dev} {l : Nat} (hu : d.twillState n = 3)
    (ha : d.activeLane n w x = true ∨ (d.delivering n w x).isSome = true) (hb : d.laneRead n w x line = (b, c)) (he : c.headerSeen n w x true = e)
    (hs : isData b.header = true ∨ blockKind b.header = 0 ∨ 4 ≤ blockKind b.header) (hk : isData b.header = true ∨ blockKind b.header < 10)
    (hr : x.val ∉ (e.twillDir n w).retired) (hl : (e.logicalOf n w x).or (e.delivering n w x) = some l) :
    d.dataBlock n w { lane := laneOf x, line := line } =
      if (e.twillDir n w).narrow = true then e.streamBlock n w b.header (exactly 32 b.body)
      else Dev.readTurns n w 64 (e.onDir n w (fun t => { t with rxHeld := t.rxHeld ++ [(l, b.header, exactly 32 b.body)] })) := by
  have valid : (isData b.header || blockKind b.header < 10 : Bool) = true := by simpa using hk
  have known : ¬ (!isData b.header && 10 ≤ blockKind b.header : Bool) = true := by simpa [imp_iff_not_or] using hk
  have noMarker : ¬ (!isData b.header && blockKind b.header = 1 : Bool) = true := by
    simp only [Bool.and_eq_true, Bool.not_eq_true', decide_eq_true_eq]
    rintro ⟨hd, h1⟩
    simp [hd, h1] at hs
  have noFill : ¬ (!isData b.header && (blockKind b.header = 2 || blockKind b.header = 3) : Bool) = true := by
    simp only [Bool.and_eq_true, Bool.or_eq_true, Bool.not_eq_true', decide_eq_true_eq]
    rintro ⟨hd, h2 | h3⟩
    · simp [hd, h2] at hs
    · simp [hd, h3] at hs
  simp only [Dev.dataBlock, laneOf, x.isLt, dite_true, hu, hb, valid, he, known, noMarker, noFill, hr, hl, ne_eq, not_true_eq_false, decide_false,
    Bool.false_eq_true, if_false]
  refine if_neg ?_
  rcases ha with ha | ha <;> simp [ha]

end

/-! ## The stream's blocks in their turn (O52) -/

section
variable {d : Dev} {n : Die} {w : Way} {h : Nat}

theorem Dev.streamBlock_late (hl : d.lateHeader n w h = true) (body : List Byte) : d.streamBlock n w h body = d.blockLate n w h body := if_pos hl

theorem Dev.blockLate_counts {body : List Byte} (hs : (isData h && h.testBit 6 && (body.getD 1 0).toNat.testBit 7) = false) :
    d.blockLate n w h body = d.inc (0x3080 + n) 5 := if_neg (ne_true_of_eq_false hs)

theorem Dev.streamBlock_data (hl : d.lateHeader n w h = false) (hd : isData h = true) (body : List Byte) :
    d.streamBlock n w h body = if h.testBit 6 then d.delimBlock n w (blockPort h) body else d.plainBlock n w (blockPort h) body := by
  simp [Dev.streamBlock, hl, hd]

theorem Dev.streamBlock_message (hl : d.lateHeader n w h = false) (hd : isData h = false) (body : List Byte) :
    d.streamBlock n w h body = if 4 ≤ blockKind h then d.segment n w (blockKind h) (blockSeg h) body else d := by
  simp [Dev.streamBlock, hl, hd]

theorem Dev.plainBlock_continues {k : Fin 16} {q : Fin 32} {r : RxFrame} (hf : (d.twillDir n w).frames.get k = some (q, r)) (body : List Byte) :
    d.plainBlock n w k body = d.growFrame n w k q r body := by
  simp [Dev.plainBlock, hf]

theorem Dev.plainBlock_frameless {k : Fin 16} (hf : (d.twillDir n w).frames.get k = none) (body : List Byte) :
    d.plainBlock n w k body = if (d.twillDir n w).resync.get k = true then d else d.malformedBlock n w k := by
  simp [Dev.plainBlock, hf]

end

/-! ## Messages whose check fits (O52) -/

section
variable {d : Dev} {n : Die}

/-- A report of a block that the die reports on, of a kind that the block can report (R408). -/
theorem Dev.eventMessage_report {ev : FaultEvent} {b : Block} (hu : d.twillState n = 3) (hb : block? ev.source = some b) (hr : reportsOn n b = true)
    (hc : canReport b ev.kind = true) : d.eventMessage n (.fault true ev) = d.report ev true := by
  simp [Dev.eventMessage, Dev.message_intact hu, hb, hr, hc]

theorem Dev.eventMessage_clock {bit : Nat} (hu : d.twillState n = 3) (hb : bit < 10) :
    d.eventMessage n (.clock true [bit]) = d.eventMask (0x1828 + n) (0 ||| 2 ^ bit) := by
  simp [Dev.eventMessage, Dev.message_intact hu, hb]

theorem Dev.timestampMessage_stamp (hu : d.twillState n = 3) (k : Fin 16) (egress wasSealed moved : Bool) (time : Nat) (ev : List Byte) :
    d.timestampMessage n (.stamp true k egress wasSealed moved time ev) = d.stampMessage (portAt n k) egress wasSealed moved time ev := by
  rw [Dev.timestampMessage, Dev.message_intact hu]

theorem Dev.timestampMessage_phase (hu : d.twillState n = 3) (k : Fin 16) : d.timestampMessage n (.phase true k true) = d.rclkLook := by
  rw [Dev.timestampMessage, Dev.message_intact hu, if_pos rfl]

theorem Dev.timeMessage_near {m : TimeMsg} (hu : d.twillState n = 3) (hm : m.crcOk = true) (hn : m.offset.natAbs ≤ 16) :
    d.timeMessage n m =
      (if (d.copyCheck n m.offset).copiesQualify then (d.copyCheck n m.offset).reactionEnd srcTime else d.copyCheck n m.offset).inbandWake := by
  simp only [Dev.timeMessage, hm, Dev.message_intact hu, Nat.not_lt.mpr hn, if_false]

/-- Beyond a nanosecond each timestamp unit of the die reports first (R309). -/
theorem Dev.timeMessage_far {m : TimeMsg} (hu : d.twillState n = 3) (hm : m.crcOk = true) (hf : 16 < m.offset.natAbs) :
    d.timeMessage n m =
      (let e := (d.copyCheck n m.offset).eachPortOf n (fun p d => d.report { source := srcStamp p, kind := 17 })
       (if e.copiesQualify then e.reactionEnd srcTime else e).inbandWake) := by
  simp only [Dev.timeMessage, hm, Dev.message_intact hu, hf, if_true]

end

/-! ### Timestamps (R313 to R315) -/

section
variable {d : Dev} {p : Port}

/-- A timestamp of a frame that its framer has not updated stands as it came. -/
theorem Dev.stampMessage_kept {egress : Bool} {time : Nat} {ev : List Byte}
    (h : (egress && (d.stampEnable p).testBit 2 && (oneStep ev 0 (d.stampTime p egress time)).isSome) = false) (wasSealed moved : Bool) :
    d.stampMessage p egress wasSealed moved time ev =
      d.ringWrite p egress (d.stampFlags p + ((if wasSealed then 2 else 0) + movedFlag moved)) (d.stampTime p egress time) ev := by
  simp [Dev.stampMessage, h, Nat.add_assoc]

/-- One that the framer would have updated is flagged, and where the frame was sealed it counts as not updated. -/
theorem Dev.stampMessage_oneStep {time : Nat} {ev : List Byte}
    (h : ((d.stampEnable p).testBit 2 && (oneStep ev 0 (d.stampTime p true time)).isSome) = true) (wasSealed moved : Bool) :
    d.stampMessage p true wasSealed moved time ev =
      if wasSealed then (d.inc (0x4480 + p) 0xD).ringWrite p true (d.stampFlags p + 2 + 4 + movedFlag moved) (d.stampTime p true time) ev
      else d.ringWrite p true (d.stampFlags p + 1 + movedFlag moved) (d.stampTime p true time) ev := by
  cases wasSealed <;> simp [Dev.stampMessage, h]

end

/-- Settles O52: each command is an event of the device, whose cases are the state of the link, the check, and what the lane or the message brings. -/
theorem twillTraffic : Obligations.TwillTraffic := by
  refine ⟨?unknown, ?stream, ?idle, ?late, ?lateCounts, ?data, ?message, ?continues, ?frameless, ?intact, ?bad, ?loading, ?request, ?badOthers, ?elsewhere,
    ?report, ?clock, ?stamp, ?phase, ?near, ?far⟩
  case unknown => exact fun s n w x line hu ha hd hk => does_of_event rfl (Dev.dataBlock_unknown hu ha hd hk)
  case stream => exact fun s n w x line l hu ha hs hk hr hl => does_of_event rfl (Dev.dataBlock_stream hu ha rfl rfl hs hk hr hl)
  case idle => exact fun s n w x line h => does_of_event rfl (Dev.dataBlock_idle h)
  case late => exact fun d n w h body hl => Dev.streamBlock_late hl body
  case lateCounts => exact fun d n w h body hs => Dev.blockLate_counts hs
  case data => exact fun d n w h body hl hd => Dev.streamBlock_data hl hd body
  case message => exact fun d n w h body hl hd => Dev.streamBlock_message hl hd body
  case continues =>
    intro d n w k body q r hf
    rw [Dev.plainBlock_continues hf]
    cases w <;> rfl
  case frameless => exact fun d n w k body hf => Dev.plainBlock_frameless hf body
  case intact =>
    exact fun s n w m hm => ⟨does_of_event rfl (hm ▸ s.dev.managementEnd_intact n w), does_of_event rfl (hm ▸ s.dev.message_id n)⟩
  case bad => exact fun s n w m hu hm => ⟨does_of_event rfl (hm ▸ Dev.message_bad hu id), does_of_event rfl (hm ▸ Dev.managementEnd_up hu)⟩
  case loading => exact fun s n m hu hm hd => does_of_event rfl (hm ▸ Dev.managementEnd_loading hu hd)
  case request => exact fun s n m hu hm hd => does_of_event rfl (hm ▸ Dev.managementEnd_request hu hd)
  case badOthers =>
    exact fun s n t ev bits k egress wasSealed moved valid time b hu ht =>
      ⟨does_of_event rfl (Dev.timeMessage_bad hu ht), does_of_event rfl (Dev.eventMessage_bad hu rfl), does_of_event rfl (Dev.eventMessage_bad hu rfl),
        does_of_event rfl (Dev.timestampMessage_bad hu rfl), does_of_event rfl (Dev.timestampMessage_bad hu rfl)⟩
  case elsewhere =>
    exact fun s n w m t e k hu =>
      ⟨does_of_event rfl (Dev.managementEnd_elsewhere hu w _), does_of_event rfl (Dev.message_elsewhere hu _ id),
        does_of_event rfl (Dev.message_elsewhere hu _ _), does_of_event rfl (Dev.eventMessage_elsewhere hu e),
        does_of_event rfl (Dev.timestampMessage_elsewhere hu k)⟩
  case report => exact fun s n ev b hu hb hr hc => does_of_event rfl (Dev.eventMessage_report hu hb hr hc)
  case clock => exact fun s n bit hu hb => does_of_event rfl (Dev.eventMessage_clock hu hb)
  case stamp =>
    intro s n k wasSealed moved time ev hu
    have taken (egress : Bool) := Dev.timestampMessage_stamp hu k egress wasSealed moved time ev
    exact ⟨does_of_event rfl ((taken false).trans (Dev.stampMessage_kept rfl wasSealed moved)),
      fun h => does_of_event rfl ((taken true).trans (Dev.stampMessage_kept (egress := true) h wasSealed moved)),
      fun h => does_of_event rfl ((taken true).trans (Dev.stampMessage_oneStep h wasSealed moved))⟩
  case phase => exact fun s n k hu => does_of_event rfl (Dev.timestampMessage_phase hu k)
  case near => exact fun s n m hu hm hn => does_of_event rfl (Dev.timeMessage_near hu hm hn)
  case far => exact fun s n m hu hm hf => does_of_event rfl (Dev.timeMessage_far hu hm hf)

end Sys2Proof.Machine

namespace Sys2Proof.Machine

/-! ## A training block that ends its link (O51) -/

section
variable {d : Dev} {n : Die} {w : Way} {x : Fin 34}

/-- A training block of its own lane is read and taken (R285). -/
theorem Dev.trainRx_reads {line : List Bool} {b : TrainBody} (hu : d.twillState n ≠ 0) (hl : d.laneState n w x = 1)
    (ha : w = .up ∨ d.answersTrain n = true) (hd : isData (d.laneRead n w x line).1.header = false)
    (hk : blockKind (d.laneRead n w x line).1.header = 3) (hb : readTrain (natOf (d.laneRead n w x line).1.body) = some b) (hp : b.phys = x.val) :
    d.trainRx n w x line = (d.laneRead n w x line).2.trainBlock n w x b := by
  have takes : ¬ (d.twillState n = 0 || d.laneState n w x ≠ 1 || (w = .down && !d.answersTrain n) : Bool) = true := by
    rcases ha with rfl | ha <;> simp [*]
  rw [Dev.trainRx, dif_pos x.isLt, if_neg takes]
  simp [hd, hk, hb, hp]

/-- While its link is not UP a lane answers a training block with one of its own. -/
theorem Dev.trainBlock_answers (hu : d.twillState n ≠ 3) (b : TrainBody) :
    ∃ m e, (d.trainBlock n w x b).out.getLast? = some (.train n (Way.back w) (laneOf x) m e) := by
  rw [Dev.trainBlock, if_neg hu]
  exact ⟨_, _, List.getLast?_concat⟩

/-- A store that is made or not sends nothing. -/
theorem Dev.out_ite_put (c : Prop) [Decidable c] (d : Dev) (i k v : Nat) : (if c then d.put i k v else d).out = d.out := by
  split <;> rfl

/-- On one that is UP the requests go back by LANE_CTL, which is the last that is sent. -/
theorem Dev.applyTaps_laneControl (d : Dev) (n : Die) (v w : Way) (what lane l : Nat) (more : List Nat) (asked : Nat × Nat × Nat) :
    ((d.laneControl n v what lane more).applyTaps n w l asked).out.getLast? = some (.laneCtl n v what lane) := by
  have taps : ((d.laneControl n v what lane more).applyTaps n w l asked).out = (d.laneControl n v what lane more).out := Dev.out_ite_put ..
  rw [taps]
  exact List.getLast?_concat

end

/-- A link that is UP with every logical lane of its up direction parked and up lane 0 in TRAINING. -/
def allParked : State :=
  { dev := { objs := [(key 0x3010 1, 3), (key 0x3031 1, 256 ^ 34), (key 0x3039 1, 256 ^ 32 - 1)] } }

/-- A training block of lane 0 that asks for nothing, its run of zeros without the stuffed ones. -/
def unstuffedTrain : List Bool := bitsOf 8 (kindHeader 3 0 false) ++ bitsOf 56 (trainFixed {}) ++ List.replicate 207 false

/-- The violation is reported as a lane error, and that looks at the lanes that are left. -/
theorem allParked_laneRead : (allParked.dev.laneRead 0 .up 0 unstuffedTrain).2.twillState 0 = 0 := by decide +kernel

/-- Refutes O51: a training block with a stuffing violation on a link that is UP with fewer than two logical lanes unparked ends that link as it is read (R278,
R288), so that the lane answers as in an attempt and no LANE_CTL goes back. -/
theorem not_tapsMarkersAndFill : ¬ Obligations.TapsMarkersAndFill := by
  rintro ⟨-, -, retrains, -⟩
  have claimed := retrains allParked 0 .up 0 unstuffedTrain {} (by decide) (by decide +kernel) (.inl rfl) (by decide +kernel) (by decide +kernel)
    (by decide +kernel) rfl
  have reads := Dev.trainRx_reads (d := allParked.dev) (n := 0) (w := .up) (x := 0) (line := unstuffedTrain) (b := {}) (by decide) (by decide +kernel)
    (.inl rfl) (by decide +kernel) (by decide +kernel) (by decide +kernel) rfl
  obtain ⟨m, e, answers⟩ := Dev.trainBlock_answers (d := (allParked.dev.laneRead 0 .up 0 unstuffedTrain).2) (n := 0) (w := .up) (x := 0)
    (by rw [allParked_laneRead]; decide) {}
  have sent := congrArg (fun t : State => t.dev.out.getLast?) (Host.Outcome.next.inj claimed)
  have same : some (Out.train 0 .down (laneOf 0) m e) = some (Out.laneCtl 0 .down 5 0) :=
    answers.symm.trans ((congrArg (fun d : Dev => d.out.getLast?) reads).symm.trans (sent.trans (Dev.applyTaps_laneControl ..)))
  cases same

end Sys2Proof.Machine

namespace Sys2Proof.Machine

/-! ## Lanes parked, narrowed and widened (O53) -/

section
variable {d : Dev} {n : Die} {w : Way}

theorem Dev.park_unparked {l : Fin 32} (hm : d.laneMap n w l ≠ 0xFF) (delivers : Bool) :
    d.park n w l delivers = (d.onDir n w (fun t => { t with
      parked := t.parked ++ [{ logical := l, leaves := d.laneMap n w l, delivers := delivers }] })).setMap n w l 0xFF := by
  have inRange : ¬ 31 < l.val := by omega
  simp [Dev.park, hm, inRange]

theorem Dev.laneCtlPark_idle {l : Nat} (h : d.twillState n ≠ 3 ∨ d.laneMap n w l = 0xFF) : d.laneCtlPark n w l = d :=
  if_pos (by simpa using h)

theorem Dev.laneCtlPark_parks {l : Fin 32} (hu : d.twillState n = 3) (hm : d.laneMap n w l ≠ 0xFF) (hn : (d.twillDir n w).narrow = false ∨ l ≠ 0) :
    d.laneCtlPark n w l = (d.park n w l false).fewLanes n w := by
  have keeps : ¬ ((d.twillDir n w).narrow && l.val = 0 : Bool) = true := by rcases hn with h | h <;> simp [h]
  have parks : ¬ (d.twillState n ≠ 3 || d.laneMap n w l = 0xFF : Bool) = true := by simp [hu, hm]
  rw [Dev.laneCtlPark, if_neg parks, if_neg keeps]

/-- The stream of a narrowed direction is logical lane 0's, so that it widens first (R292, R294). -/
theorem Dev.laneCtlPark_widens (hu : d.twillState n = 3) (hm : d.laneMap n w 0 ≠ 0xFF) (hn : (d.twillDir n w).narrow = true) :
    d.laneCtlPark n w 0 = ((d.widen n w).park n w 0 false).fewLanes n w := by
  simp [Dev.laneCtlPark, hu, hm, hn]

theorem Dev.twillDir_onDir (d : Dev) (n : Die) (w : Way) (f : TwillDir → TwillDir) : (d.onDir n w f).twillDir n w = f (d.twillDir n w) := by
  cases w with
  | down => exact congrArg DieSt.down (upd_same ..)
  | up => exact congrArg DieSt.up (upd_same ..)

/-- What a direction's change makes of the direction as it is decides. -/
theorem Dev.onDir_congr {f g : TwillDir → TwillDir} (h : f (d.twillDir n w) = g (d.twillDir n w)) : d.onDir n w f = d.onDir n w g := by
  refine congrArg (fun v : Vector DieSt 8 => { d with dies := v }) (upd_congr ?_)
  cases w with
  | down => exact congrArg (fun t => { d.dies.get n with down := t }) h
  | up => exact congrArg (fun t => { d.dies.get n with up := t }) h

theorem Dev.widen_narrow (hn : (d.twillDir n w).narrow = true) : ((d.widen n w).twillDir n w).narrow = false := by
  rw [Dev.widen, if_pos hn, Dev.lanesReturn, Dev.twillDir_onDir]

theorem Dev.widen_tells (hn : (d.twillDir n w).narrow = true) : .laneCtl n w 2 0 ∈ (d.widen n w).out := by
  rw [Dev.widen, if_pos hn]
  exact List.mem_append_right _ (List.mem_singleton_self _)

theorem Dev.widen_wide (hn : (d.twillDir n w).narrow = false) : d.widen n w = d := if_neg (ne_true_of_eq_false hn)

end

/-! ## Lanes lost and taken back (O53) -/

section
variable {d : Dev} {n : Die} {w : Way} {x : Fin 34}

theorem Dev.retrainLane_idle {l : Nat} (h : d.twillState n ≠ 3 ∨ d.laneState n w l ≠ 4 ∨ d.faultState (laneSrc n w l) = 4) :
    d.retrainLane n w l = d := by
  refine if_pos ?_
  rcases h with h | h | h <;> simp [h]

/-- A LOST lane that is not FATAL retrains, and what its taps were asked for before is forgotten (R297). -/
theorem Dev.retrainLane_lost (hu : d.twillState n = 3) (hl : d.laneState n w x = 4) (hf : d.faultState (laneSrc n w x) ≠ 4) :
    d.retrainLane n w x = ((d.onDir n w (fun t => { t with
      waiting := without t.waiting x, ready := without t.ready x, answers := t.answers.filter (fun e => e.1 ≠ x)
      asks := t.asks.filter (fun e => e.1 ≠ x), converged := without t.converged x })).setLane n w x 1).laneControl n (Way.back w) 3 x := by
  have inRange : ¬ 33 < x.val := by omega
  refine if_neg ?_
  simp [hu, hl, hf, inRange]

theorem Dev.reinstateTimer_idle {l : Nat} (h : d.twillState n ≠ 3 ∨ d.laneState n w l ≠ 4) : d.reinstateTimer n w l = d := by
  refine if_pos ?_
  rcases h with h | h <;> simp [h]

/-- With TWILL_REINSTATE at 1 the end of the 10 ms is a request to retrain. -/
theorem Dev.reinstateTimer_retrains (hf : d.flag 0x3000 4 = true) : d.reinstateTimer n w x = d.retrainLane n w x := by
  have inRange : ¬ 33 < x.val := by omega
  by_cases lost : d.twillState n = 3 ∧ d.laneState n w x = 4
  · exact (if_neg (by simp [lost, inRange])).trans (if_pos hf)
  · have idle : d.twillState n ≠ 3 ∨ d.laneState n w x ≠ 4 := by simpa [imp_iff_not_or] using lost
    exact (Dev.reinstateTimer_idle idle).trans (Dev.retrainLane_idle (idle.imp_right .inl)).symm

theorem Dev.reinstateTimer_waits (hu : d.twillState n = 3) (hl : d.laneState n w x = 4) (hf : d.flag 0x3000 4 = false)
    (hw : x.val ∉ (d.twillDir n w).waiting) : d.reinstateTimer n w x = d.onDir n w (fun t => { t with waiting := t.waiting ++ [x.val] }) := by
  have inRange : ¬ 33 < x.val := by omega
  have lost : ¬ (d.twillState n ≠ 3 || 33 < x.val || d.laneState n w x ≠ 4 : Bool) = true := by simp [hu, hl, inRange]
  rw [Dev.reinstateTimer, if_neg lost, if_neg (ne_true_of_eq_false hf)]
  exact Dev.onDir_congr (by simp [hw])

/-- A lane in DATA or SPARE that delivers for no parked logical lane is lost; frames end where it carried them (R293). -/
theorem Dev.lockLost_active (hu : d.twillState n = 3) (ha : d.activeLane n w x = true) (hd : d.delivering n w x = none) :
    d.lockLost n w x = (if d.laneState n w x = 2 then d.framesEnd n w else d).laneLost n w x := by
  have inRange : ¬ 33 < x.val := by omega
  have carries : (d.laneState n w x = 2 || d.laneState n w x = 3 : Bool) = true := ha
  simp only [Dev.lockLost]
  rw [if_neg (by simp [hd]), if_neg (by simp only [carries]; simp [hu, inRange])]

theorem Dev.lockLost_delivers (hu : d.twillState n = 3) (hd : (d.delivering n w x).isSome = true) :
    d.lockLost n w x = (d.framesEnd n w).onDir n w (fun t => { t with
      parked := t.parked.map (fun k => if k.leaves = x.val then { k with delivers := false } else k) }) := by
  refine if_pos ?_
  simp [hu, hd]

theorem Dev.lockLost_idle {l : Nat} (h : d.twillState n ≠ 3 ∨ (d.laneState n w l ≠ 2 ∧ d.laneState n w l ≠ 3 ∧ d.delivering n w l = none)) :
    d.lockLost n w l = d := by
  rw [Dev.lockLost, if_neg, if_pos]
  · rcases h with h | ⟨h2, h3, -⟩ <;> simp [*]
  · rcases h with h | ⟨-, -, hd⟩ <;> simp [*]

theorem Dev.retrainDone_idle {l : Nat} (h : d.twillState n ≠ 3 ∨ d.laneState n w l ≠ 1) (ok : Bool) : d.retrainDone n w l ok = d := by
  refine if_pos ?_
  rcases h with h | h <;> simp [h]

/-- A lane that trains in service: a success makes it a spare again, a failure LOST or, after the 16th in a row, FAILED (R297). -/
theorem Dev.retrainDone_trained (hu : d.twillState n = 3) (hl : d.laneState n w x = 1) :
    d.retrainDone n w x true = ((d.setLane n w x 3).onDir n w (fun t => { t with
      failures := assocSet t.failures x 0, retired := without t.retired x
      txCode := t.txCode.set x (LaneCode.fresh {} x), rxCode := t.rxCode.set x (LaneCode.fresh {} x)
      blocks := t.blocks.filter (fun e => e.1 ≠ x), invalid := t.invalid.filter (fun e => e.1 ≠ x) })).event (0x3020 + n) 6 := by
  have inRange : ¬ 33 < x.val := by omega
  simp [Dev.retrainDone, hu, hl, inRange]

theorem Dev.retrainDone_failed {k : Nat} (hu : d.twillState n = 3) (hl : d.laneState n w x = 1) (hk : (assocGet (d.twillDir n w).failures x).getD 0 = k) :
    d.retrainDone n w x false = (d.setLane n w x (if 15 ≤ k then 5 else 4)).onDir n w (fun t => { t with failures := assocSet t.failures x (k + 1) }) := by
  have inRange : ¬ 33 < x.val := by omega
  simp [Dev.retrainDone, hu, hl, hk, inRange]

end

/-! ## Tests of lanes (O53) -/

section
variable {s : State} {r : Req} {n : Die} {t : TwillTest}

/-- No test or program holds the die, and no firmware activates (R302). -/
structure TestFree (d : Dev) (n : Die) : Prop where
  test : (d.dies.get n).test = none
  held : d.dieHeld n = false
  still : d.activating = false

/-- Where the die is free and there is room for an injection's record (R238), a start is refused by the life cycle or by its fields. -/
theorem TestFree.code (hr : Ready s r 0x3400 (n + 1) 0) (h : TestFree s.dev n) (hl : t.inject = 0 ∨ s.dev.stagingFull = false) :
    firstCode (s.dev.testStartOp r s.vault.lifecycle n t).checks =
      firstCode [(s.vault.lifecycle = 3 && s.dev.hall.serviceUntil.isNone, .state), (testBad t, .range)] := by
  have logs : (t.inject ≠ 0 && s.dev.stagingFull : Bool) = false := by rcases hl with h | h <;> simp [h]
  refine (hr.command_code _ _).trans ?_
  rw [logs, h.test, h.held, h.still]
  rfl

/-- Out of DEPLOYED, or with the service flag, the state refuses no test (R302). -/
theorem serviced (h : s.vault.lifecycle ≠ 3 ∨ s.dev.hall.serviceUntil.isSome = true) :
    (s.vault.lifecycle = 3 && s.dev.hall.serviceUntil.isNone : Bool) = false := by
  rcases h with h | h <;> simp [h]

theorem testStart_busy (hr : Ready s r 0x3400 (n + 1) 0)
    (h : (s.dev.dies.get n).test.isSome = true ∨ s.dev.dieHeld n = true ∨ s.dev.activating = true) :
    firstCode (s.dev.testStartOp r s.vault.lifecycle n t).checks = .busy := by
  have holds : (((s.dev.dies.get n).test.isSome || s.dev.dieHeld n || s.dev.activating) || (t.inject ≠ 0 && s.dev.stagingFull) : Bool) = true := by
    rcases h with h | h | h <;> simp [h]
  refine (hr.command_code _ _).trans ?_
  rw [holds]
  exact firstCode_head (by simp [Code.rank])

theorem Dev.testDone_none {d : Dev} (h : (d.dies.get n).test = none) (bits : Nat) (errors : Vector Nat 34) : d.testDone n bits errors = d := by
  simp [Dev.testDone, h]

/-- DURATION commits what the checkers of the selected lanes counted, the injector's errors among them (R304). -/
theorem Dev.testDone_test {d : Dev} (h : (d.dies.get n).test = some t) (bits : Nat) (errors : Vector Nat 34) :
    d.testDone n bits errors = (((allFin 34).foldl (fun d l => if t.lanes.testBit l.val then
      d.put (0x3410 + n) (l.val + 1) (min (2 ^ 32 - 1) (errors.get l + injectedErrors t.inject bits)) else d) d).put
      (0x3410 + n) 0x23 (bits % 2 ^ 64)).testFinish n 2 := by
  simp [Dev.testDone, h]

end

/-- Settles O53: lane commands are events of the device, whose cases are the states of the link, the direction and the lane; a test starts or is refused by
the conditions of its write. -/
theorem twillLanesAndTests : Obligations.TwillLanesAndTests := by
  refine ⟨?parks, ?parkWidens, ?parkIdle, ?narrows, ?narrowIdle, ?mayNarrow, ?mayNotNarrow, ?widens, ?wide, ?retrains, ?retrainIdle, ?spareLost, ?dataLost,
    ?deliverer, ?lockIdle, ?waits, ?timerRetrains, ?timerIdle, ?reinstateOff, ?reinstateOn, ?trained, ?failed, ?doneIdle, ?kLost, ?kLostBefore, ?kReturns,
    ?testStarts, ?testBusy, ?testState, ?testRange, ?testStops, ?testEnds, ?noTest⟩
  case parks =>
    intro s n w l hu hm hn
    have parks := Dev.laneCtlPark_parks hu hm hn
    rw [Dev.park_unparked hm] at parks
    exact does_of_event rfl parks
  case parkWidens => exact fun s n w hu hm hn => does_of_event rfl (Dev.laneCtlPark_widens hu hm hn)
  case parkIdle => exact fun s n w l h => does_of_event rfl (Dev.laneCtlPark_idle h)
  case narrows => exact fun s n w hu hn => does_of_event rfl (if_pos (by simp [Dev.twillState, hu, hn]))
  case narrowIdle =>
    intro s n w h
    refine does_of_event rfl (if_neg ?_)
    rcases h with h | h <;> simp [Dev.twillState, h]
  case mayNarrow => exact fun s n w h => does_of_event rfl (if_pos h)
  case mayNotNarrow => exact fun s n w h => does_of_event rfl (if_neg (ne_true_of_eq_false h))
  case widens =>
    intro s n w hn
    have widens : Does (.laneCtlWiden n w) s (fun d => d.widen n w) := rfl
    exact widens.gives ⟨Dev.widen_narrow hn, Dev.widen_tells hn⟩
  case wide => exact fun s n w hn => does_of_event rfl (Dev.widen_wide hn)
  case retrains => exact fun s n w x hu hl hf => does_of_event rfl (Dev.retrainLane_lost hu hl hf)
  case retrainIdle => exact fun s n w x h => does_of_event rfl (Dev.retrainLane_idle h)
  case spareLost =>
    intro s n w x hu hl hd
    have spare : ¬ s.dev.laneState n w x = 2 := by omega
    exact does_of_event rfl ((Dev.lockLost_active hu (by simp [Dev.activeLane, hl]) hd).trans (by rw [if_neg spare]))
  case dataLost =>
    exact fun s n w x hu hl hd => does_of_event rfl ((Dev.lockLost_active hu (by simp [Dev.activeLane, hl]) hd).trans (by rw [if_pos hl]))
  case deliverer => exact fun s n w x hu hd => does_of_event rfl (Dev.lockLost_delivers hu hd)
  case lockIdle => exact fun s n w x h => does_of_event rfl (Dev.lockLost_idle h)
  case waits => exact fun s n w x hu hl hf hw => does_of_event rfl (Dev.reinstateTimer_waits hu hl hf hw)
  case timerRetrains =>
    intro s n w x hf
    have retrains : Does (.laneReinstateTimer n w (laneOf x)) s (fun d => d.retrainLane n w x) := does_of_event rfl (Dev.reinstateTimer_retrains hf)
    exact retrains
  case timerIdle => exact fun s n w x h => does_of_event rfl (Dev.reinstateTimer_idle h)
  case reinstateOff => exact fun s r h => answers_of_plainWrite rfl h rfl rfl
  case reinstateOn => exact fun s r h => answers_of_plainWrite rfl h rfl rfl
  case trained => exact fun s n w x hu hl => does_of_event rfl (Dev.retrainDone_trained hu hl)
  case failed => exact fun s n w x k hu hl hk => does_of_event rfl (Dev.retrainDone_failed hu hl hk)
  case doneIdle => exact fun s n w x ok h => does_of_event rfl (Dev.retrainDone_idle h ok)
  case kLost => exact fun s n h => does_of_event rfl (if_neg h)
  case kLostBefore => exact fun s n h => does_of_event rfl (if_pos h)
  case kReturns => exact fun s n => rfl
  case testStarts =>
    intro s r n t hr ht hh ha hs hb hl
    have granted := TestFree.code hr ⟨ht, hh, ha⟩ hl
    rw [serviced hs, hb] at granted
    exact answers_of_write (fun v d => d.testStartOp r v.lifecycle n t) rfl hr granted rfl rfl
  case testBusy => exact fun s r n t hr h => does_write_refused (fun v d => d.testStartOp r v.lifecycle n t) rfl hr (testStart_busy hr h) rfl
  case testState =>
    intro s r n t hr ht hh ha hd hs hl
    have deployed : (s.vault.lifecycle = 3 && s.dev.hall.serviceUntil.isNone : Bool) = true := by simp [hd, hs]
    have refused := TestFree.code hr ⟨ht, hh, ha⟩ hl
    rw [deployed, firstCode_head (by simp [Code.rank])] at refused
    exact does_write_refused (fun v d => d.testStartOp r v.lifecycle n t) rfl hr refused rfl
  case testRange =>
    intro s r n t hr ht hh ha hs hb hl
    have refused := TestFree.code hr ⟨ht, hh, ha⟩ hl
    rw [serviced hs, hb] at refused
    exact does_write_refused (fun v d => d.testStartOp r v.lifecycle n t) rfl hr refused rfl
  case testStops => exact fun s r n hr => answers_of_write (fun _ d => d.testStopOp r n 1) rfl hr (hr.command_code _ _) rfl rfl
  case testEnds => exact fun s n bits errors t h => does_of_event rfl (Dev.testDone_test h bits errors)
  case noTest => exact fun s n bits errors h => does_of_event rfl (Dev.testDone_none h bits errors)

end Sys2Proof.Machine

namespace Sys2Proof.Machine

/-! ## Setting, stepping and tuning the time base (O54) -/

/-- In its range, a TIME_SET is the write of its octets. -/
theorem exec_timeSet {s : State} {r : Req} {sec ns frac : Nat} (hn : ns < 2 ^ 32) (hf : frac < 16) :
    exec (.timeSet r sec ns frac) s = s.write r 0x6000 2 (fun _ d => d.timeSetOp r (sec * 2 ^ 48 + ns * 2 ^ 16 + frac * 256)) := by
  have fields : exec (.timeSet r sec ns frac) s =
      s.write r 0x6000 2 (fun _ d => d.timeSetOp r (sec * 2 ^ 48 + ns % 2 ^ 32 * 2 ^ 16 + frac % 256 * 256)) := rfl
  rwa [Nat.mod_eq_of_lt hn, Nat.mod_eq_of_lt (by omega)] at fields

/-- The nanoseconds and the time that the octets of a TIME_SET spell. -/
theorem timeSetOctets_nanos {sec ns frac : Nat} (hn : ns < 2 ^ 32) (hf : frac < 16) :
    (sec * 2 ^ 48 + ns * 2 ^ 16 + frac * 256) / 2 ^ 16 % 2 ^ 32 = ns := by omega

theorem octetsTime_timeSetOctets {sec ns frac : Nat} (hn : ns < 2 ^ 32) (hf : frac < 16) :
    octetsTime (sec * 2 ^ 48 + ns * 2 ^ 16 + frac * 256) = sec * 16000000000 + ns * 16 + frac := by
  rw [octetsTime, timeSetOctets_nanos hn hf, perSecond]
  omega

section
variable {s : State} {r : Req} {v : Nat}

theorem Ready.timeSet_code {sec ns frac : Nat} (h : Ready s r 0x6000 2 (sec * 2 ^ 48 + ns * 2 ^ 16 + frac * 256)) (hn : ns < 2 ^ 32) (hf : frac < 16) :
    firstCode (s.dev.timeSetOp r (sec * 2 ^ 48 + ns * 2 ^ 16 + frac * 256)).checks = if 1000000000 ≤ ns then .range else .ok := by
  rw [Dev.timeSetOp, h.command_code, timeSetOctets_nanos hn hf]
  by_cases large : 1000000000 ≤ ns <;> simp [large, firstCode, Code.first_ok]

theorem Ready.timeStep_code (h : Ready s r 0x6000 3 v) : firstCode (s.dev.timeStepOp r v).checks =
    if 1000 * 16000000000 < (signed 64 v).natAbs ∨ adjusted s.dev.adjustInstant (s.dev.time.adjust ++ [.step (signed 64 v)]) < 0 then .range else .ok := by
  rw [Dev.timeStepOp, h.command_code, perSecond, ← Bool.decide_or]
  by_cases out : 1000 * 16000000000 < (signed 64 v).natAbs ∨ adjusted s.dev.adjustInstant (s.dev.time.adjust ++ [.step (signed 64 v)]) < 0 <;>
    simp [out, firstCode, Code.first_ok]

theorem Writable.freqAdj_code (h : Writable s r 0x6000 4 v) :
    firstCode (s.dev.freqAdjOp r v).checks = if beyond 32 500000000 v then .range else .ok := by
  rw [Dev.freqAdjOp, h.plainWrite_code]
  cases beyond 32 500000000 v <;> simp [firstCode, Code.first_ok]

end

/-! ## Waiting adjustments take effect (O54) -/

section
variable (d : Dev)

/-- The time base, and whether its time is set. -/
def Dev.timeShown : TimeBase × Nat := (d.time, d.get 0x6000 5)

@[simp] theorem Dev.blockNormal_timeShown (src : Nat) : (d.blockNormal src).timeShown = d.timeShown := by
  have fault (e : Dev) (f : FaultSt → FaultSt) : (e.onFault src f).timeShown = e.timeShown := by
    unfold Dev.onFault
    split <;> rfl
  have state (e : Dev) : (if e.shown src then e.put (0x1C00 + src) 6 0 else e).timeShown = e.timeShown := by
    split
    · simp [Dev.timeShown, Dev.get_put_other _ _ _ _ _ _ (show key (0x1C00 + src) 6 ≠ key 0x6000 5 by unfold key; omega)]
    · rfl
  rw [Dev.blockNormal, fault]
  exact (state _).trans (fault _ _)

/-- A message to a line die is a matter of the twill link's lanes. -/
@[simp] theorem Dev.timeSend_timeShown (n : Die) : (d.timeSend n).timeShown = d.timeShown := by
  have sent : Within laneObject (laneRest n) d (d.timeSend n) := Within.foldl (fun _ _ h => h.streamSend) _ (.refl laneObject (laneRest n) d)
  have time : (d.timeSend n).time = d.time := congrArg Prod.fst sent.rest
  have isSet : (d.timeSend n).get 0x6000 5 = d.get 0x6000 5 := sent.objects.objects 0x6000 5 (by decide) (by simp [laneObject])
  simp [Dev.timeShown, time, isSet]

theorem Dev.onNative_timeShown (p : Port) (f : Native → Native) : (d.onNative p f).timeShown = d.timeShown := rfl

theorem Dev.tlmSyncTake_timeShown (edge write : Bool) : (d.tlmSyncTake edge write).timeShown = d.timeShown := rfl

theorem Dev.markMoved_timeShown : d.markMoved.timeShown = d.timeShown := by
  rw [Dev.markMoved, Dev.eachPort]
  exact forAll_keeps 128 _ Dev.timeShown (fun p e => e.onNative_timeShown p _) d

theorem Dev.timeSends_timeShown : (d.eachDie (fun n d => d.timeSend n)).timeShown = d.timeShown := by
  rw [Dev.eachDie]
  exact forAll_keeps 8 _ Dev.timeShown (fun n e => e.timeSend_timeShown n) d

/-- An adjustment moves the count, and leaves the rest of the time base as it was; the time is set from then on. -/
theorem Dev.adjustOne_timeShown (a : TimeAdj) : (d.adjustOne a).timeShown = ({ d.time with count := (adjusted d.time.count [a]).toNat }, 1) := by
  have isSet (e : Dev) : (e.put 0x6000 5 1).timeShown = (e.time, 1) := by simp [Dev.timeShown]
  cases a with
  | step o => exact isSet _
  | set c =>
    unfold Dev.adjustOne
    dsimp only
    split
    · rw [Dev.blockNormal_timeShown]
      exact isSet _
    · exact isSet _

/-- Adjustments apply one after another. -/
theorem Dev.foldl_adjustOne_time (l : List TimeAdj) :
    (l.foldl Dev.adjustOne d).time = { d.time with count := l.foldl (fun c a => (adjusted c [a]).toNat) d.time.count } := by
  induction l generalizing d with
  | nil => rfl
  | cons a l ih =>
    have one : (d.adjustOne a).time = { d.time with count := (adjusted d.time.count [a]).toNat } := congrArg Prod.fst (d.adjustOne_timeShown a)
    rw [List.foldl_cons, ih, one, List.foldl_cons]

theorem Dev.foldl_adjustOne_isSet {l : List TimeAdj} (h : l ≠ []) : (l.foldl Dev.adjustOne d).get 0x6000 5 = 1 := by
  have one (e : Dev) (a : TimeAdj) : (e.adjustOne a).get 0x6000 5 = 1 := congrArg Prod.snd (e.adjustOne_timeShown a)
  exact foldl_establishes (fun e => e.get 0x6000 5 = 1) Dev.adjustOne l _ (List.head_mem h) (fun e => one e _) (fun e a _ => one e a) d

/-- What follows at the instant, the messages to the line dies and telemetry's synchronisation, leaves what the adjustments made of the time (R307). -/
theorem Dev.timeAdjust_timeShown (h : d.time.adjust ≠ []) :
    d.timeAdjust.timeShown = (d.time.adjust.foldl Dev.adjustOne { d with time := { d.time with adjust := [] } }).timeShown := by
  unfold Dev.timeAdjust
  split
  · contradiction
  · rw [Dev.tlmSyncTake_timeShown, Dev.markMoved_timeShown, Dev.timeSends_timeShown]

theorem Dev.timeAdjust_time (h : d.time.adjust ≠ []) : d.timeAdjust.time =
    { d.time with adjust := [], count := d.time.adjust.foldl (fun c a => (adjusted c [a]).toNat) d.time.count } :=
  (congrArg Prod.fst (d.timeAdjust_timeShown h)).trans (Dev.foldl_adjustOne_time _ _)

/-- The same of the count as an integer, which never falls below 0. -/
theorem Dev.timeAdjust_count (h : d.time.adjust ≠ []) :
    (d.timeAdjust.time.count : Int) = d.time.adjust.foldl (fun (c : Int) a => ((adjusted c [a]).toNat : Int)) d.time.count := by
  rw [d.timeAdjust_time h]
  exact (List.foldl_hom (Nat.cast : Nat → Int) (fun _ _ => rfl)).symm

theorem Dev.timeAdjust_isSet (h : d.time.adjust ≠ []) : d.timeAdjust.get 0x6000 5 = 1 :=
  (congrArg Prod.snd (d.timeAdjust_timeShown h)).trans (Dev.foldl_adjustOne_isSet _ h)

theorem Dev.timeAdjust_none (h : d.time.adjust = []) : d.timeAdjust = d := by
  simp [Dev.timeAdjust, h]

end

/-! ## Edges on PPS_IN (O54) -/

section
variable {d : Dev} {time : Nat}

/-- The discipline runs: mode 2, and no write of the frequency has suspended it (R320). -/
def Dev.disciplined (d : Dev) : Bool := d.get 0x6010 1 = 2 && !d.pps.suspended

theorem Dev.disciplined_eq_true (hm : d.get 0x6010 1 = 2) (hs : d.pps.suspended = false) : d.disciplined = true := by
  simp [Dev.disciplined, hm, hs]

theorem Dev.disciplined_eq_false (h : d.get 0x6010 1 ≠ 2 ∨ d.pps.suspended = true) : d.disciplined = false := by
  rcases h with h | h <;> simp [Dev.disciplined, h]

/-- An event of the time base's status changes no mode of PPS_IN. -/
@[simp] theorem Dev.event_disciplined (d : Dev) (b : Nat) : (d.event 0x6030 b).disciplined = d.disciplined := by
  simp [Dev.disciplined, d.get_event_other 0x6030 b 0x6010 1 (by decide) (by decide)]

/-- An edge's offset from the nearest whole second, with the input's delay taken off (R320). -/
def Dev.ppsError (d : Dev) (time : Nat) : Int := ppsOffset ((time : Int) - signed 32 (d.get 0x6010 2))

/-- The edge's time and its offset stand in their objects. -/
def Dev.ppsStamped (d : Dev) (time : Nat) : Dev :=
  (d.put 0x6010 3 (timeOctets ((time : Int) - signed 32 (d.get 0x6010 2)).toNat)).put 0x6010 4 (unsigned 32 (saturate 32 (d.ppsError time)))

theorem Dev.ppsStamped_pps (d : Dev) (time : Nat) : (d.ppsStamped time).pps = d.pps := by
  rw [Dev.ppsStamped, Dev.put_pps, Dev.put_pps]

theorem Dev.ppsStamped_time (d : Dev) (time : Nat) : (d.ppsStamped time).time = d.time := by
  rw [Dev.ppsStamped, Dev.put_time, Dev.put_time]

theorem Dev.ppsStamped_get (d : Dev) (time : Nat) {i k : Nat} (h3 : key 0x6010 3 ≠ key i k) (h4 : key 0x6010 4 ≠ key i k) :
    (d.ppsStamped time).get i k = d.get i k := by
  rw [Dev.ppsStamped, Dev.get_put_other _ _ _ _ _ _ h4, Dev.get_put_other _ _ _ _ _ _ h3]

theorem Dev.ppsStamped_disciplined (d : Dev) (time : Nat) : (d.ppsStamped time).disciplined = d.disciplined := by
  rw [Dev.disciplined, Dev.ppsStamped_get d time (by decide) (by decide), Dev.ppsStamped_pps, Dev.disciplined]

/-- The row of edges is broken, and so many are missing in a row. -/
def Dev.ppsRow (d : Dev) (n : Nat) : Dev := { d with pps := { d.pps with edges := 0, missing := n } }

theorem Dev.ppsRow_event_time (d : Dev) (n b : Nat) : ((d.ppsRow n).event 0x6030 b).time = d.time := rfl

theorem Dev.ppsRow_event_bits (d : Dev) (n b : Nat) : ((d.ppsRow n).event 0x6030 b).get 0x6030 1 = d.get 0x6030 1 ||| 2 ^ b :=
  (d.ppsRow n).get_eventMask_bits 0x6030 (2 ^ b)

theorem Dev.ppsEdge_off (h : d.get 0x6010 1 = 0) : d.ppsEdge time = d := if_pos h

theorem Dev.ppsEdge_far (h : d.get 0x6010 1 ≠ 0) (far : 16000 < (d.ppsError time).natAbs) :
    d.ppsEdge time = ((d.ppsStamped time).ppsRow 0).event 0x6030 3 :=
  (if_neg h).trans (if_pos far)

theorem Dev.ppsEdge_near (h : d.get 0x6010 1 ≠ 0) (near : (d.ppsError time).natAbs ≤ 16000) :
    d.ppsEdge time = (d.ppsStamped time).ppsAccepted (d.ppsError time) :=
  (if_neg h).trans (if_neg (by exact Nat.not_lt.mpr near))

/-- An accepted edge ends the row of missing ones; within 10 ns it is one more in the row, and the running discipline leaves holdover (R320). -/
theorem Dev.ppsAccepted_pps (d : Dev) (off : Int) : (d.ppsAccepted off).pps = { d.pps with
    edges := if off.natAbs ≤ 160 then d.pps.edges + 1 else 0, missing := 0, holdover := if d.disciplined then false else d.pps.holdover } := by
  have told (e : Dev) (n : Nat) : (if n = 10 then e.event 0x6030 1 else e).pps = e.pps ∧
      (if n = 10 then e.event 0x6030 1 else e).disciplined = e.disciplined := by split <;> simp
  have steered (e : Dev) (k : Nat) : (if e.disciplined then ({ e with pps := { e.pps with holdover := false } }.newDraw).put 0x6000 4 k else e).pps =
      { e.pps with holdover := if e.disciplined then false else e.pps.holdover } := by split <;> rfl
  refine (steered _ _).trans ?_
  rw [(told _ _).1, (told _ _).2]
  rfl

theorem Dev.ppsEdge_near_pps (h : d.get 0x6010 1 ≠ 0) (near : (d.ppsError time).natAbs ≤ 16000) : (d.ppsEdge time).pps = { d.pps with
    edges := if (d.ppsError time).natAbs ≤ 160 then d.pps.edges + 1 else 0, missing := 0
    holdover := if d.disciplined then false else d.pps.holdover } := by
  rw [Dev.ppsEdge_near h near, Dev.ppsAccepted_pps, Dev.ppsStamped_pps, Dev.ppsStamped_disciplined]

/-! ## Missing edges on PPS_IN (O54) -/

/-- The discipline is in holdover from now on, and says so (R320). -/
def Dev.ppsHoldover (d : Dev) : Dev := { d with pps := { d.pps with holdover := true } }.event 0x6030 4

theorem Dev.ppsMissing_off (h : d.get 0x6010 1 = 0) : d.ppsMissing = d := if_pos h

/-- A missing edge is counted, the third in a row told. -/
def Dev.ppsMissed (d : Dev) : Dev :=
  if d.pps.missing + 1 = 3 then (d.ppsRow (d.pps.missing + 1)).event 0x6030 2 else d.ppsRow (d.pps.missing + 1)

theorem Dev.ppsMissed_third (h : d.pps.missing = 2) : d.ppsMissed = (d.ppsRow 3).event 0x6030 2 := by
  rw [Dev.ppsMissed, h]
  rfl

theorem Dev.ppsMissed_other (h : d.pps.missing ≠ 2) : d.ppsMissed = d.ppsRow (d.pps.missing + 1) := if_neg (by omega)

/-- From the third on, a running discipline that is not in holdover enters it. -/
theorem Dev.ppsMissing_eq (h : d.get 0x6010 1 ≠ 0) :
    d.ppsMissing = if 3 ≤ d.pps.missing + 1 ∧ d.disciplined = true ∧ d.pps.holdover = false then d.ppsMissed.ppsHoldover else d.ppsMissed := by
  have counted : d.ppsMissed.pps = (d.ppsRow (d.pps.missing + 1)).pps := by
    unfold Dev.ppsMissed
    split <;> rfl
  have steered : d.ppsMissed.disciplined = d.disciplined := by
    unfold Dev.ppsMissed
    split
    · exact Dev.event_disciplined _ _
    · rfl
  have step : d.ppsMissing = if 3 ≤ d.ppsMissed.pps.missing && d.ppsMissed.get 0x6010 1 = 2 && !d.ppsMissed.pps.suspended && !d.ppsMissed.pps.holdover then
      d.ppsMissed.ppsHoldover else d.ppsMissed := if_neg h
  rw [step]
  refine if_congr ?_ rfl rfl
  rw [← steered, Dev.disciplined, counted]
  simp [Dev.ppsRow, and_assoc]

theorem Dev.ppsMissing_holdover (hm : d.get 0x6010 1 = 2) (hs : d.pps.suspended = false) (hh : d.pps.holdover = false) (h : 2 ≤ d.pps.missing) :
    d.ppsMissing = d.ppsMissed.ppsHoldover :=
  (Dev.ppsMissing_eq (by omega)).trans (if_pos ⟨by omega, Dev.disciplined_eq_true hm hs, hh⟩)

theorem Dev.ppsMissing_counted (hm : d.get 0x6010 1 ≠ 0)
    (h : d.get 0x6010 1 ≠ 2 ∨ d.pps.suspended = true ∨ d.pps.holdover = true ∨ d.pps.missing < 2) : d.ppsMissing = d.ppsMissed := by
  refine (Dev.ppsMissing_eq hm).trans (if_neg ?_)
  rintro ⟨row, runs, hold⟩
  have mode : d.get 0x6010 1 = 2 ∧ d.pps.suspended = false := by simpa [Dev.disciplined] using runs
  rcases h with h | h | h | h
  · exact h mode.1
  · simp [mode.2] at h
  · simp [hold] at h
  · omega

theorem Dev.ppsHoldover_bits (d : Dev) (b n : Nat) :
    ((d.ppsRow n).event 0x6030 b).ppsHoldover.get 0x6030 1 = d.get 0x6030 1 ||| 2 ^ b ||| 16 :=
  (Dev.get_eventMask_bits _ 0x6030 16).trans (congrArg (· ||| 16) (d.ppsRow_event_bits n b))

end

/-! ## PPS_OUT (O54) -/

section
variable {d : Dev}

theorem Dev.ppsRise_low (he : d.get 0x6014 1 = 1) (hl : d.pinsLive = true) (hp : d.options.pinEnable.testBit 1 = true) (ho : d.time.ppsOutHigh = false) :
    d.ppsRise = { d with time := { d.time with ppsOutHigh := true } }.emit (.ppsOut true) :=
  if_pos (by simp [Dev.flag, he, hl, hp, ho])

theorem Dev.ppsRise_idle (h : d.flag 0x6014 1 = false ∨ d.pinsLive = false ∨ d.options.pinEnable.testBit 1 = false ∨ d.time.ppsOutHigh = true) :
    d.ppsRise = d := by
  refine if_neg ?_
  rcases h with h | h | h | h <;> simp [h]

end

/-- Settles O54: a set, a step and a frequency adjustment are writes whose codes their ranges give; the waiting adjustments apply as a fold over the count;
an edge and a missing edge each come to one form of the input's record, and the outputs to the branches of their events. -/
theorem timeAndPulses : Obligations.TimeAndPulses := by
  refine ⟨?sets, ?setRange, ?steps, ?stepRange, ?applies, ?nothingWaits, ?tunes, ?suspends, ?tuneRange, ?inputOff, ?edgeFar, ?edgeExact, ?edgeNear,
    ?edgeSteers, ?thirdSteered, ?thirdFree, ?laterSteered, ?counted, ?rises, ?riseIdle, ?falls, ?fallIdle⟩
  case sets =>
    intro s r sec ns frac hr hsec hns hf
    have hn : ns < 2 ^ 32 := by omega
    refine answers_of_write (fun _ d => d.timeSetOp r _) (exec_timeSet hn hf) hr ((hr.timeSet_code hn hf).trans (if_neg (by omega))) ?_ rfl
    exact congrArg (fun c => s.dev.adjustAdd (.set c)) (octetsTime_timeSetOctets hn hf)
  case setRange =>
    intro s r sec ns frac hr hsec hns hn hf
    exact does_write_refused (fun _ d => d.timeSetOp r _) (exec_timeSet hn hf) hr ((hr.timeSet_code hn hf).trans (if_pos hns)) rfl
  case steps =>
    exact fun s r v hr hb hp => answers_of_write (fun _ d => d.timeStepOp r v) rfl hr (hr.timeStep_code.trans (if_neg (by omega))) rfl rfl
  case stepRange =>
    exact fun s r v hr hb => does_write_refused (fun _ d => d.timeStepOp r v) rfl hr (hr.timeStep_code.trans (if_pos (.inl hb))) rfl
  case applies =>
    intro s h
    have applies : Does .timeAdjustApply s Dev.timeAdjust := rfl
    have waits : s.dev.timeAdjust.time.adjust = [] := congrArg TimeBase.adjust (s.dev.timeAdjust_time h)
    exact applies.gives ⟨s.dev.timeAdjust_count h, waits, s.dev.timeAdjust_isSet h, rfl⟩
  case nothingWaits => exact fun s h => does_of_event rfl (s.dev.timeAdjust_none h)
  case tunes =>
    intro s r v hw hb h
    have free : (s.dev.stored 0x6000 4 v).disciplined = false := by
      refine Dev.disciplined_eq_false (h.imp_left fun mode => ?_)
      exact fun e => mode ((s.dev.get_put_other 0x6000 4 _ 0x6010 1 (by decide)).symm.trans e)
    exact answers_of_write (fun _ d => d.freqAdjOp r v) rfl hw.toReady (hw.freqAdj_code.trans (if_neg (by simp [hb])))
      (if_neg (ne_true_of_eq_false free)) rfl
  case suspends =>
    intro s r v hw hb hm hs
    have runs : (s.dev.stored 0x6000 4 v).disciplined = true :=
      Dev.disciplined_eq_true ((s.dev.get_put_other 0x6000 4 _ 0x6010 1 (by decide)).trans hm) hs
    exact answers_of_write (fun _ d => d.freqAdjOp r v) rfl hw.toReady (hw.freqAdj_code.trans (if_neg (by simp [hb]))) (if_pos runs) rfl
  case tuneRange =>
    exact fun s r v hw hb => does_write_refused (fun _ d => d.freqAdjOp r v) rfl hw.toReady (hw.freqAdj_code.trans (if_pos hb)) rfl
  case inputOff => exact fun s time h => ⟨does_of_event rfl (Dev.ppsEdge_off h), does_of_event rfl (Dev.ppsMissing_off h)⟩
  case edgeFar =>
    intro s time hm far
    have edge : Does (.ppsInEdge time) s (fun d => ((d.ppsStamped time).ppsRow 0).event 0x6030 3) := does_of_event rfl (Dev.ppsEdge_far hm far)
    have bits : (s.dev.ppsStamped time).get 0x6030 1 = s.dev.get 0x6030 1 := s.dev.ppsStamped_get time (by decide) (by decide)
    exact edge.gives ⟨rfl, rfl, (Dev.ppsRow_event_bits _ 0 3).trans (congrArg (· ||| 8) bits),
      (Dev.ppsRow_event_time _ 0 3).trans (s.dev.ppsStamped_time time)⟩
  case edgeExact =>
    intro s time hm exact
    have edge : Does (.ppsInEdge time) s (fun d => d.ppsEdge time) := rfl
    have record := Dev.ppsEdge_near_pps hm (Nat.le_trans exact (by decide))
    exact edge.gives ⟨(congrArg PpsSt.edges record).trans (if_pos exact), congrArg PpsSt.missing record⟩
  case edgeNear =>
    intro s time hm coarse near
    have edge : Does (.ppsInEdge time) s (fun d => d.ppsEdge time) := rfl
    have record := Dev.ppsEdge_near_pps hm near
    exact edge.gives ⟨(congrArg PpsSt.edges record).trans (if_neg (Nat.not_le.mpr coarse)), congrArg PpsSt.missing record⟩
  case edgeSteers =>
    intro s time hm hs near
    have edge : Does (.ppsInEdge time) s (fun d => d.ppsEdge time) := rfl
    have record := Dev.ppsEdge_near_pps (by omega) near
    exact edge.gives ((congrArg PpsSt.holdover record).trans (if_pos (Dev.disciplined_eq_true hm hs)))
  case thirdSteered =>
    intro s hm hs hh h2
    have third := Dev.ppsMissing_holdover hm hs hh (by omega)
    rw [Dev.ppsMissed_third h2] at third
    have missing : Does .ppsInMissing s (fun d => ((d.ppsRow 3).event 0x6030 2).ppsHoldover) := does_of_event rfl third
    exact missing.gives ⟨rfl, rfl, s.dev.ppsHoldover_bits 2 3⟩
  case thirdFree =>
    intro s hm h h2
    exact does_of_event rfl ((Dev.ppsMissing_counted hm (h.imp_right (Or.imp_right .inl))).trans (Dev.ppsMissed_third h2))
  case laterSteered =>
    intro s hm hs hh h3
    have later := Dev.ppsMissing_holdover hm hs hh (by omega)
    rw [Dev.ppsMissed_other (by omega)] at later
    exact does_of_event rfl later
  case counted => exact fun s hm h2 h => does_of_event rfl ((Dev.ppsMissing_counted hm h).trans (Dev.ppsMissed_other h2))
  case rises => exact fun s he hl hp ho => does_of_event rfl (Dev.ppsRise_low he hl hp ho)
  case riseIdle => exact fun s h => does_of_event rfl (Dev.ppsRise_idle h)
  case falls => exact fun s h => does_of_event rfl (if_pos h)
  case fallIdle => exact fun s h => does_of_event rfl (if_neg (ne_true_of_eq_false h))

end Sys2Proof.Machine

namespace Sys2Proof.Machine

/-! ## Folds over every port, die or pair -/

/-- What the step for one index establishes and the steps for all others keep holds at the end. -/
theorem forAll_establishes {α : Type} {n : Nat} (P : α → Prop) (f : Fin n → α → α) (i : Fin n) (he : ∀ a, P (f i a)) (hk : ∀ j a, P a → P (f j a)) (a : α) :
    P (forAll n f a) :=
  foldl_establishes P (fun a i => f i a) _ i (List.mem_finRange i) he (fun a j => hk j a) a

/-! ## Writes of 1 to a command field -/

/-- A write of 1 to a field that takes no other value, and to which nothing stands in the way, has its effect. -/
theorem answers_of_one {c : Instr} {s : State} {r : Req} {idx sub : Nat} {effect : Dev → Dev}
    (hc : exec c s = s.write r idx sub (fun _ d => d.one r idx sub 1 [] effect)) (h : Ready s r idx sub 1) : Answers c s r effect :=
  answers_of_write _ hc h (h.command_code _ effect) rfl rfl

/-! ## Blocks of the telemetry chains (O56) -/

section
variable {d : Dev} {p : Port} {k : Pair}

/-- The chain of a pair. -/
def Dev.tlmPair (d : Dev) (p : Port) (k : Pair) : TlmPair := (d.port p).tlm.get k

theorem Dev.tlmPair_onTlm_same (f : TlmPair → TlmPair) : (d.onTlm p k f).tlmPair p k = f (d.tlmPair p k) := by
  simp [Dev.tlmPair, Dev.onTlm, upd_same]

theorem Dev.tlmPair_onTlm_otherPort {q : Port} (h : q ≠ p) (j : Pair) (f : TlmPair → TlmPair) : (d.onTlm q j f).tlmPair p k = d.tlmPair p k := by
  rw [Dev.tlmPair, Dev.onTlm, Dev.port_onPort_other _ _ _ _ h, Dev.tlmPair]

theorem Dev.tlmPair_onTlm_otherPair {j : Pair} (h : j ≠ k) (f : TlmPair → TlmPair) : (d.onTlm p j f).tlmPair p k = d.tlmPair p k := by
  simp [Dev.tlmPair, Dev.onTlm, upd_other _ _ _ _ h]

/-- The number of the last block that a port has published, and the first that a chain of it has not. -/
def Dev.tlmShown (d : Dev) (p : Port) (k : Pair) : Nat × Nat := (d.get (0x5E00 + p) 0xD, (d.tlmPair p k).next)

theorem Dev.tlmShown_put {sub : Nat} (h : sub ≠ 0xD) (hs : sub < 256) (v : Nat) : (d.put (0x5E00 + p) sub v).tlmShown p k = d.tlmShown p k :=
  congrArg (·, (d.tlmPair p k).next) (Dev.get_put_other _ _ _ _ _ _ (key_ne_sub h hs (by decide)))

theorem Dev.tlmShown_tlmFlags (v : Nat) : (d.tlmFlags p k v).tlmShown p k = d.tlmShown p k :=
  Dev.tlmShown_put (by decide) (by decide) _

theorem Dev.tlmShown_tlmPut (peak rms env : Nat) : (d.tlmPut p k peak rms env).tlmShown p k = d.tlmShown p k := by
  rw [Dev.tlmPut, Dev.tlmShown_put (by omega) (by omega), Dev.tlmShown_put (by omega) (by omega), Dev.tlmShown_put (by omega) (by omega)]

theorem Dev.tlmBlock_idle (h : d.tlmOn p = false ∨ d.tlmCount / d.get 0x5F00 9 ≤ (d.tlmPair p k).next) (l : List Nat) : d.tlmBlock p k l = d :=
  if_pos (by simpa [Dev.tlmPair] using h)

/-- A block that has ended is numbered and the chain goes on to the next, whether it was settling, stale or gapped (R347, R348). -/
theorem Dev.tlmBlock_shown (ho : d.tlmOn p = true) (hn : (d.tlmPair p k).next < d.tlmCount / d.get 0x5F00 9) (l : List Nat) :
    (d.tlmBlock p k l).tlmShown p k = ((d.tlmCount / d.get 0x5F00 9 - 1) % 2 ^ 32, d.tlmCount / d.get 0x5F00 9) := by
  have numbered (e : Dev) (t : TlmPair) (f : PortSt → PortSt) (b : Nat) (hf : ∀ s, (f s).tlm = s.tlm) :
      (((e.onTlm p k (fun _ => t)).onPort p f).put (0x5E00 + p) 0xD b).tlmShown p k = (b, t.next) := by
    simp [Dev.tlmShown, Dev.tlmPair, hf, Dev.onTlm, upd_same]
  unfold Dev.tlmBlock
  dsimp only
  rw [if_neg (by simpa [ho, Dev.tlmPair] using hn)]
  split
  · rw [Dev.tlmShown_tlmFlags, Dev.tlmShown_tlmPut]
    exact numbered _ _ _ _ (fun _ => rfl)
  split
  · rw [Dev.tlmShown_tlmFlags]
    exact numbered _ _ _ _ (fun _ => rfl)
  split
  · rw [Dev.tlmShown_tlmFlags]
    exact numbered _ _ _ _ (fun _ => rfl)
  · rw [Dev.tlmShown_tlmFlags, Dev.tlmShown_tlmPut]
    exact numbered _ _ _ _ (fun _ => rfl)

end

/-! ## Syncs of the telemetry chains (O56) -/

section
variable {d : Dev} {edge : Bool} {p : Port} {k : Pair}

/-- What no trigger of a capture changes, an edge that captures see does not. -/
theorem Dev.samplerSync_keeps {α : Type} {g : Dev → α} (h : ∀ (d : Dev) n position flag, g (d.samplerTriggers n position flag) = g d) (d : Dev) :
    g d.samplerSync = g d := by
  rw [Dev.samplerSync, Dev.eachDie]
  refine forAll_keeps 8 _ g (fun n e => ?_) d
  dsimp only
  split
  · exact h e n _ _
  · rfl

theorem Dev.samplerSync_tlm (d : Dev) : d.samplerSync.tlm = d.tlm := Dev.samplerSync_keeps (g := Dev.tlm) (fun _ _ _ _ => rfl) d

theorem Dev.samplerSync_uptime (d : Dev) : d.samplerSync.uptime = d.uptime := Dev.samplerSync_keeps (g := Dev.uptime) (fun _ _ _ _ => rfl) d

/-- No capture that is not armed sees it. -/
theorem Dev.samplerSync_unarmed (h : ∀ n, d.samplerState n ≠ 1) : d.samplerSync = d := by
  refine foldl_keeps (· = d) _ _ (fun e n he => ?_) rfl
  subst he
  exact if_neg (by simp [h n])

theorem Dev.tlmSyncAsk_first (h : d.tlm.lastAt = none) : d.tlmSyncAsk edge = d.samplerSync.tlmSyncTake edge (!edge) := by
  have tlm := d.samplerSync_tlm
  unfold Dev.tlmSyncAsk
  generalize d.samplerSync = e at tlm ⊢
  simp [tlm, h]

/-- After another, an edge or a command joins the other of its window, is too early, or is taken (R349). -/
theorem Dev.tlmSyncAsk_after {t : Nat} (h : d.tlm.lastAt = some t) : d.tlmSyncAsk edge =
    if d.uptime = t ∧ (if edge then d.tlm.lastEdge else d.tlm.lastWrite) = false then
      { d.samplerSync with tlm := { d.samplerSync.tlm with lastEdge := true, lastWrite := true } }
    else if d.uptime < t + 100 then (d.samplerSync.event 0x5F30 7).inc 0x5F38 6
    else d.samplerSync.tlmSyncTake edge (!edge) := by
  have tlm := d.samplerSync_tlm
  have uptime := d.samplerSync_uptime
  unfold Dev.tlmSyncAsk
  generalize d.samplerSync = e at tlm uptime ⊢
  simp only [tlm, uptime, h, Bool.and_eq_true, decide_eq_true_eq, Bool.not_eq_true']

/-- A chain restarts: its averager and resampler settle anew, and it still knows when its symbols were valid (R349). -/
def Dev.tlmRestart (d : Dev) (p : Port) (k : Pair) : Dev := d.onTlm p k (fun t => { settle := d.uptime, looks := t.looks })

theorem Dev.tlmRestart_looks (d : Dev) (q : Port) (j : Pair) : ((d.tlmRestart q j).tlmPair p k).looks = (d.tlmPair p k).looks := by
  unfold Dev.tlmRestart
  by_cases hq : q = p
  · subst hq
    by_cases hj : j = k
    · rw [hj, Dev.tlmPair_onTlm_same]
    · rw [Dev.tlmPair_onTlm_otherPair hj]
  · rw [Dev.tlmPair_onTlm_otherPort hq]

/-- The chain has restarted in this microsecond. -/
def Dev.tlmRestarted (p : Port) (k : Pair) (d : Dev) : Prop := d.tlmPair p k = { settle := d.uptime, looks := (d.tlmPair p k).looks }

theorem Dev.tlmRestart_restarted (d : Dev) : (d.tlmRestart p k).tlmRestarted p k := by
  rw [Dev.tlmRestarted, Dev.tlmRestart_looks, Dev.tlmRestart, Dev.tlmPair_onTlm_same]
  rfl

theorem Dev.tlmRestarted.restart (h : d.tlmRestarted p k) (q : Port) (j : Pair) : (d.tlmRestart q j).tlmRestarted p k := by
  by_cases same : q = p ∧ j = k
  · obtain ⟨rfl, rfl⟩ := same
    exact d.tlmRestart_restarted
  · have kept : (d.tlmRestart q j).tlmPair p k = d.tlmPair p k := by
      by_cases hq : q = p
      · subst hq
        exact Dev.tlmPair_onTlm_otherPair (fun hj => same ⟨rfl, hj⟩) _
      · exact Dev.tlmPair_onTlm_otherPort hq _ _
    rw [Dev.tlmRestarted, kept]
    exact h

/-- Every chain of the module restarts. -/
def Dev.tlmRestartAll (d : Dev) : Dev := d.eachPort (fun p d => forAll 4 (fun k d => d.tlmRestart p k) d)

/-- What no chain's restart changes, the restart of all does not. -/
theorem Dev.tlmRestartAll_keeps {α : Type} {g : Dev → α} (h : ∀ (d : Dev) q j, g (d.tlmRestart q j) = g d) (d : Dev) : g d.tlmRestartAll = g d :=
  forAll_keeps 128 _ g (fun q e => forAll_keeps 4 _ g (fun j e => h e q j) e) d

theorem Dev.tlmRestartAll_pair (d : Dev) (p : Port) (k : Pair) :
    d.tlmRestartAll.tlmPair p k = { settle := d.uptime, looks := (d.tlmPair p k).looks } := by
  have port (e : Dev) : (forAll 4 (fun j e => e.tlmRestart p j) e).tlmRestarted p k :=
    forAll_establishes (Dev.tlmRestarted p k) _ k Dev.tlmRestart_restarted (fun j _ h => h.restart p j) e
  have others (q : Port) (e : Dev) (h : e.tlmRestarted p k) : (forAll 4 (fun j e => e.tlmRestart q j) e).tlmRestarted p k :=
    foldl_keeps (Dev.tlmRestarted p k) _ _ (fun _ j h => h.restart q j) h
  have restarted : d.tlmRestartAll.tlmRestarted p k := by
    rw [Dev.tlmRestartAll, Dev.eachPort]
    refine forAll_establishes (Dev.tlmRestarted p k) _ p ?_ ?_ d
    · exact port
    · exact others
  have looks := Dev.tlmRestartAll_keeps (g := fun e => (e.tlmPair p k).looks) Dev.tlmRestart_looks d
  have uptime := Dev.tlmRestartAll_keeps (g := Dev.uptime) (fun _ _ _ => rfl) d
  rw [restarted, uptime, looks]

/-- The instant of a sync: it is counted and told, and its time stands in the object; a latch that waits takes it as its own (R349). -/
def Dev.tlmSynced (d : Dev) (t0 : Nat) : Dev :=
  (({ d with tlm := { d.tlm with syncAt := none, latchAt := d.tlm.latchAt.map (fun _ => 0) } }.put 0x5F00 6 (timeOctets t0)).event 0x5F30 6).inc 0x5F38 5

theorem Dev.tlmSynced_time (d : Dev) (t0 : Nat) : (d.tlmSynced t0).get 0x5F00 6 = timeOctets t0 := by
  rw [Dev.tlmSynced, Dev.get_inc_other _ _ _ _ _ (by decide), Dev.get_event_other _ _ _ _ _ (by decide) (by decide), Dev.get_put_same]

theorem Dev.tlmSynced_uptime (d : Dev) (t0 : Nat) : (d.tlmSynced t0).uptime = d.uptime := by
  rw [Dev.tlmSynced, Dev.inc_uptime, Dev.event_uptime, Dev.put_uptime]

theorem Dev.tlmSynced_pair (d : Dev) (t0 : Nat) : (d.tlmSynced t0).tlmPair p k = d.tlmPair p k := by
  rw [Dev.tlmPair, Dev.tlmSynced, Dev.inc_port, Dev.event_port, Dev.put_port]
  rfl

theorem Dev.tlmSynced_restarted (d : Dev) (t0 : Nat) :
    (d.tlmSynced t0).tlmRestartAll.get 0x5F00 6 = timeOctets t0 ∧ (d.tlmSynced t0).tlmRestartAll.tlm.syncAt = none ∧ ∀ (p : Port) (k : Pair),
      (d.tlmSynced t0).tlmRestartAll.tlmPair p k = { settle := d.uptime, looks := (d.tlmPair p k).looks } := by
  have time := Dev.tlmRestartAll_keeps (g := fun e : Dev => e.get 0x5F00 6) (fun _ _ _ => rfl) (d.tlmSynced t0)
  have tlm := Dev.tlmRestartAll_keeps (g := Dev.tlm) (fun _ _ _ => rfl) (d.tlmSynced t0)
  refine ⟨time.trans (d.tlmSynced_time t0), ?_, fun p k => ?_⟩
  · rw [tlm]
    rfl
  · rw [Dev.tlmRestartAll_pair, Dev.tlmSynced_uptime, Dev.tlmSynced_pair]

theorem Dev.tlmSyncApply_due {t0 : Nat} (h : d.tlm.syncAt = some t0) : d.tlmSyncApply = (d.tlmSynced t0).tlmRestartAll := by
  simp only [Dev.tlmSyncApply, h]
  rfl

theorem Dev.tlmSyncApply_idle (h : d.tlm.syncAt = none) : d.tlmSyncApply = d := by
  simp [Dev.tlmSyncApply, h]

end

/-! ## Latches of the telemetry outputs (O56) -/

section
variable {d : Dev} {p : Port} {i : Fin 14}

/-- An output of a port goes into its twin. -/
def Dev.tlmTwin (d : Dev) (p : Port) (i : Fin 14) : Dev := d.put (0x5E00 + p) (0x81 + i) (d.get (0x5E00 + p) (1 + i))

/-- All outputs of a port go into their twins, and so does the state of its chains (R351). -/
def Dev.tlmTwins (d : Dev) (p : Port) : Dev := (forAll 14 (fun i d => d.tlmTwin p i) d).put (0x5E00 + p) 0x8F (d.tlmState p)

theorem Dev.tlmCopy_eq (d : Dev) : d.tlmCopy = d.eachPort (fun p d => d.tlmTwins p) := by
  have twins (p : Port) (d : Dev) : ((List.range 14).foldl (fun d i => d.put (0x5E00 + p) (0x81 + i) (d.get (0x5E00 + p) (1 + i))) d) =
      forAll 14 (fun i d => d.tlmTwin p i) d := by
    rw [← List.map_coe_finRange_eq_range, List.foldl_map]
    rfl
  simp only [Dev.tlmCopy, twins, Dev.tlmTwins]

/-- A store above the outputs leaves them alone. -/
theorem Dev.get_put_tlmOutput {q : Port} {sub : Nat} (hl : 0x81 ≤ sub) (hs : sub < 256) (v : Nat) :
    (d.put (0x5E00 + q) sub v).get (0x5E00 + p) (1 + i) = d.get (0x5E00 + p) (1 + i) :=
  Dev.get_put_other _ _ _ _ _ _ (by unfold key; omega)

theorem Dev.tlmTwins_output (d : Dev) (q : Port) : (d.tlmTwins q).get (0x5E00 + p) (1 + i) = d.get (0x5E00 + p) (1 + i) :=
  (Dev.get_put_tlmOutput (by decide) (by decide) _).trans
    (forAll_keeps 14 _ (fun e : Dev => e.get (0x5E00 + p) (1 + i)) (fun _ _ => Dev.get_put_tlmOutput (by omega) (by omega) _) d)

/-- The twin of an output reads as the output does. -/
def Dev.tlmTwinned (p : Port) (i : Fin 14) (d : Dev) : Prop := d.get (0x5E00 + p) (0x81 + i) = d.get (0x5E00 + p) (1 + i)

/-- A store of another twin, or of a chain's state, leaves a twin as it is. -/
theorem Dev.tlmTwinned.put (h : d.tlmTwinned p i) {q : Port} {sub : Nat} (hl : 0x81 ≤ sub) (hs : sub < 256) (hne : q.val ≠ p.val ∨ sub ≠ 0x81 + i.val) (v : Nat) :
    (d.put (0x5E00 + q) sub v).tlmTwinned p i := by
  have other : key (0x5E00 + q) sub ≠ key (0x5E00 + p) (0x81 + i) := by
    unfold key
    omega
  rw [Dev.tlmTwinned, Dev.get_put_other _ _ _ _ _ _ other, Dev.get_put_tlmOutput hl hs]
  exact h

theorem Dev.tlmTwin_twinned (d : Dev) : (d.tlmTwin p i).tlmTwinned p i :=
  (Dev.get_put_same _ _ _ _).trans (Dev.get_put_tlmOutput (by omega) (by omega) _).symm

theorem Dev.tlmTwinned.twin (h : d.tlmTwinned p i) (q : Port) (j : Fin 14) : (d.tlmTwin q j).tlmTwinned p i := by
  by_cases same : q = p ∧ j = i
  · obtain ⟨rfl, rfl⟩ := same
    exact d.tlmTwin_twinned
  · rw [Fin.ext_iff, Fin.ext_iff] at same
    exact h.put (by omega) (by omega) (by omega) _

theorem Dev.tlmTwins_twinned (d : Dev) : (d.tlmTwins p).tlmTwinned p i := by
  have twinned : (forAll 14 (fun i d => d.tlmTwin p i) d).tlmTwinned p i :=
    forAll_establishes (Dev.tlmTwinned p i) _ i Dev.tlmTwin_twinned (fun j _ h => h.twin p j) d
  exact twinned.put (by decide) (by decide) (by omega) _

theorem Dev.tlmTwinned.twins (h : d.tlmTwinned p i) (q : Port) : (d.tlmTwins q).tlmTwinned p i := by
  have twinned : (forAll 14 (fun i d => d.tlmTwin q i) d).tlmTwinned p i :=
    foldl_keeps (Dev.tlmTwinned p i) _ _ (fun _ j h => h.twin q j) h
  exact twinned.put (by decide) (by decide) (by omega) _

theorem Dev.tlmCopy_twins (d : Dev) (p : Port) (i : Fin 14) : d.tlmCopy.get (0x5E00 + p) (0x81 + i) = d.get (0x5E00 + p) (1 + i) := by
  have twinned : (d.eachPort (fun p d => d.tlmTwins p)).tlmTwinned p i :=
    forAll_establishes (Dev.tlmTwinned p i) _ p Dev.tlmTwins_twinned (fun q _ h => h.twins q) d
  rw [Dev.tlmCopy_eq, twinned]
  exact forAll_keeps 128 _ (fun e : Dev => e.get (0x5E00 + p) (1 + i)) (fun q e => e.tlmTwins_output q) d

theorem Dev.tlmTwins_tlm (d : Dev) (p : Port) : (d.tlmTwins p).tlm = d.tlm :=
  (Dev.put_tlm _ _ _ _).trans (forAll_keeps 14 _ Dev.tlm (fun _ _ => Dev.put_tlm _ _ _ _) d)

theorem Dev.tlmCopy_tlm (d : Dev) : d.tlmCopy.tlm = d.tlm := by
  rw [Dev.tlmCopy_eq, Dev.eachPort]
  exact forAll_keeps 128 _ Dev.tlm (fun p e => e.tlmTwins_tlm p) d

/-- A latch whose sample instant has come copies, and waits no more (R351). -/
theorem Dev.tlmLatches_due {k : Nat} (h : d.tlm.latchAt = some k) (hk : k < d.tlmCount) :
    d.tlmLatches = { d with tlm := { d.tlm with latchAt := none } }.tlmCopy := by
  simp [Dev.tlmLatches, h, hk]

end

/-- Settles O56: a block by whether its chain runs and has ended it, a sync by what came before it, its restart and a latch's copy as folds over the
ports, whose step for a port alone settles what is said of it. -/
theorem telemetryChains : Obligations.TelemetryChains := by
  refine ⟨?blockIdle, ?block, ?syncTaken, ?syncJoined, ?syncEarly, ?unseen, ?syncWrite, ?syncEdge, ?applies, ?nothingWaits, ?latch, ?latchDue, ?latchWaits⟩
  case blockIdle => exact fun s p k l h => does_of_event rfl (Dev.tlmBlock_idle h l)
  case block =>
    intro s p k l ho hn
    have block : Does (.tlmBlockEnd p k l) s (fun d => d.tlmBlock p k l) := rfl
    have shown := Dev.tlmBlock_shown ho hn l
    exact block.gives ⟨congrArg Prod.fst shown, congrArg Prod.snd shown⟩
  case syncTaken =>
    rintro d edge (never | ⟨t, last, late⟩)
    · exact Dev.tlmSyncAsk_first never
    · rw [Dev.tlmSyncAsk_after last, if_neg (by omega), if_neg (by omega)]
  case syncJoined =>
    intro d edge last other
    rw [Dev.tlmSyncAsk_after last, if_pos ⟨rfl, other⟩]
  case syncEarly =>
    intro d edge t last _ early same
    have alone : ¬ (d.uptime = t ∧ (if edge then d.tlm.lastEdge else d.tlm.lastWrite) = false) :=
      fun joins => ne_true_of_eq_false joins.2 (same joins.1.symm)
    rw [Dev.tlmSyncAsk_after last, if_neg alone, if_pos early]
  case unseen => exact fun d h => Dev.samplerSync_unarmed h
  case syncWrite => exact fun s r hr => answers_of_one rfl hr
  case syncEdge => exact fun s => rfl
  case applies =>
    intro s t0 h
    have applies : Does .tlmSyncApply s (fun d => (d.tlmSynced t0).tlmRestartAll) := does_of_event rfl (Dev.tlmSyncApply_due h)
    refine applies.gives ?_
    rw [State.onDev_dev]
    exact s.dev.tlmSynced_restarted t0
  case nothingWaits => exact fun s h => does_of_event rfl (Dev.tlmSyncApply_idle h)
  case latch => exact fun s r hr => answers_of_one rfl hr
  case latchDue =>
    intro d k h hk
    rw [Dev.tlmLatches_due h hk]
    exact ⟨congrArg TlmSt.latchAt (Dev.tlmCopy_tlm _), fun p i => Dev.tlmCopy_twins _ p i⟩
  case latchWaits => exact fun d h => Dev.tlmLatches_waits h

end Sys2Proof.Machine

namespace Sys2Proof.Machine

/-! ## Runs of the cable diagnosis start, repeat and wait (O55) -/

section
variable {s : State} {r : Req} {d : Dev} {p : Port}

theorem Ready.diagStart_code {v : Nat} (h : Ready s r (0x5C80 + p) 1 v) : firstCode (s.dev.diagStartOp r p v).checks =
    firstCode [((s.dev.port p).diag.isSome, .busy), (s.dev.diagState p v, .state), (v != 1 && v != 2, .range)] :=
  h.command_code _ _

/-- A start on a port without a run is refused for the state of its link alone. -/
theorem Ready.diagStart_free {v : Nat} (h : Ready s r (0x5C80 + p) 1 v) (hv : v = 1 ∨ v = 2) (hd : (s.dev.port p).diag = none) :
    firstCode (s.dev.diagStartOp r p v).checks = if s.dev.diagState p v then .state else .ok := by
  have known : (v != 1 && v != 2) = false := by simp; omega
  rw [h.diagStart_code, hd, known]
  cases s.dev.diagState p v <;> rfl

theorem Ready.diagStart_busy {v : Nat} (h : Ready s r (0x5C80 + p) 1 v) (hd : (s.dev.port p).diag.isSome = true) :
    firstCode (s.dev.diagStartOp r p v).checks = .busy := by
  rw [h.diagStart_code, hd]
  exact firstCode_head (by simp [Code.rank])

/-- The link is not one on which a run out of service starts: it trains or is up (R330). -/
theorem Dev.diagState_outOfService (d : Dev) (p : Port) : d.diagState p 2 = true ↔ 3 ≤ d.linkState p ∧ d.linkState p ≤ 8 := by
  simp [Dev.diagState]

theorem Dev.diagPeriodic_starts (hi : d.get (0x5C00 + p) 2 ≠ 0) (hd : (d.port p).diag = none) (hu : d.linkUp p = true) (hl : d.linkState p ≠ 5) :
    d.diagPeriodic p = (d.diagStart p false true).diagStale p :=
  if_pos (by simp [hi, hd, hu, hl])

theorem Dev.diagPeriodic_skips (h : d.get (0x5C00 + p) 2 = 0 ∨ (d.port p).diag.isSome = true ∨ d.linkUp p = false ∨ d.linkState p = 5) :
    d.diagPeriodic p = d := by
  refine if_neg ?_
  rcases h with h | h | h | h
  · simp [h]
  · simp [Option.isNone_eq_false_iff.mpr h]
  · simp [h]
  · simp [h]

theorem Dev.diagRepeat_repeats {k : Pair} {run : DiagRun} (h : (d.port p).diag = some run) (ho : run.outOfService = true) (hk : run.repeats.get k < 3) :
    d.diagRepeat p k = (d.newDraw.onPort p (fun s => { s with diag := some { run with
      repeats := upd run.repeats k (· + 1), again := d.uptime + 500 + Config.drawBelow d.draws 1501 } })).inc 0x5F38 4 := by
  simp [Dev.diagRepeat, h, ho, hk]

theorem Dev.diagRepeat_idle {k : Pair} (h : ∀ run, (d.port p).diag = some run → run.outOfService = false ∨ 3 ≤ run.repeats.get k) : d.diagRepeat p k = d := by
  unfold Dev.diagRepeat
  split
  · rfl
  · next run hr => exact if_neg (by simpa [imp_iff_not_or] using h run hr)

theorem Dev.diagLatch_latches (hc : d.calBusy p = false) (hl : d.linkState p ≠ 5) (hw : (d.port p).diag.any (·.waits) = true) :
    d.diagLatch p = d.echoLatch p :=
  if_neg (by simp [hc, hl, hw])

theorem Dev.diagLatch_waits (h : d.calBusy p = true ∨ d.linkState p = 5 ∨ (d.port p).diag.any (·.waits) = false) : d.diagLatch p = d := by
  refine if_pos ?_
  rcases h with h | h | h <;> simp [h]

end

/-! ## Runs of the cable diagnosis commit (O55) -/

section
variable {d : Dev} {p : Port}

/-- The results of a run: its pairs, the noise of one in service, the delays beside the timestamps (R327, R328, R333). -/
def Dev.diagResults (d : Dev) (p : Port) (run : DiagRun) (m : DiagMeas) : Dev :=
  let e := if run.outOfService then d.diagPairs p run m else (d.diagPairs p run m).put (0x5D00 + p) 5 (unsigned 16 m.noise)
  if run.noiseOnly then e else e.cablePut p run m

/-- A run is counted, its kind, time and flags stand in their objects, and the port is free (R336). -/
def Dev.diagFinished (d : Dev) (p : Port) (outOfService : Bool) (flags : Nat) : Dev :=
  let e := (d.put (0x5D00 + p) 1 ((d.get (0x5D00 + p) 1 + 1) % 2 ^ 32)).put (0x5D00 + p) 2 (if outOfService then 2 else 1)
  let e := (e.put (0x5D00 + p) 3 (timeOctets e.now)).put (0x5D00 + p) 4 flags
  (((e.onPort p (fun s => { s with diag := none })).put (0x5C80 + p) 3 2).event 0x5F30 2).inc 0x5F38 (if outOfService then 2 else 1)

/-- What the statuses of the pairs tell: a fault, an interfered pair (R333). -/
def Dev.diagAlarms (d : Dev) (statuses : List Nat) : Dev :=
  let e := if statuses.any (fun s => 2 ≤ s && s ≤ 5) then d.event 0x5F30 4 else d
  if 7 ∈ statuses then e.event 0x5F30 5 else e

theorem Dev.diagCommit_free (h : (d.port p).diag = none) (m : DiagMeas) : d.diagCommit p m = d := by
  simp [Dev.diagCommit, h]

theorem Dev.diagCommit_held {run : DiagRun} (h : (d.port p).diag = some run) (held : d.diagHeld p run = true) (m : DiagMeas) : d.diagCommit p m = d := by
  simp [Dev.diagCommit, h, held]

/-- The flags of a result: coefficients that were written, an interfered pair (R336). -/
def DiagRun.flags (run : DiagRun) (statuses : List Nat) : Nat :=
  (if !run.outOfService && run.overridden then 2 else 0) + (if 7 ∈ statuses then 4 else 0)

/-- A run that nothing holds has its results stored, is counted, and tells what its pairs are. -/
theorem Dev.diagCommit_commits {run : DiagRun} (h : (d.port p).diag = some run) (free : d.diagHeld p run = false) (m : DiagMeas) :
    ∃ (seen : DiagMeas) (statuses : List Nat),
      d.diagCommit p m = ((d.diagResults p run seen).diagFinished p run.outOfService (run.flags statuses)).diagAlarms statuses := by
  refine ⟨d.diagSeen p run m, (allFin 4).map (fun k => d.diagStatus p run (d.diagSeen p run m) k), ?_⟩
  simp only [Dev.diagCommit, h, free]
  rfl

/-- The results are no count of runs. -/
theorem Dev.diagResults_count (d : Dev) (p : Port) (run : DiagRun) (m : DiagMeas) :
    (d.diagResults p run m).get (0x5D00 + p) 1 = d.get (0x5D00 + p) 1 := by
  have pairs : (d.diagPairs p run m).get (0x5D00 + p) 1 = d.get (0x5D00 + p) 1 :=
    forAll_keeps 4 _ (fun e : Dev => e.get (0x5D00 + p) 1) (fun _ _ => Dev.get_put_other _ _ _ _ _ _ (by unfold key; omega)) d
  have cable (e : Dev) : (e.cablePut p run m).get (0x5D00 + p) 1 = e.get (0x5D00 + p) 1 := by
    unfold Dev.cablePut
    split
    · rfl
    · refine (forAll_keeps 3 _ (fun e : Dev => e.get (0x5D00 + p) 1) (fun _ _ => Dev.get_put_other _ _ _ _ _ _ (by unfold key; omega)) _).trans ?_
      rw [Dev.onPort_get, Dev.get_put_other _ _ _ _ _ _ (by unfold key; omega)]
  have noise (v : Nat) : ((d.diagPairs p run m).put (0x5D00 + p) 5 v).get (0x5D00 + p) 1 = d.get (0x5D00 + p) 1 := by
    rw [Dev.get_put_other _ _ _ _ _ _ (by unfold key; omega), pairs]
  unfold Dev.diagResults
  dsimp only
  split <;> split <;> simp only [cable, pairs, noise]

/-- What the end of a run shows: the run itself, its state, the count of runs and the kind of the last. -/
def Dev.diagShown (d : Dev) (p : Port) : Option DiagRun × Nat × Nat × Nat :=
  ((d.port p).diag, d.get (0x5C80 + p) 3, d.get (0x5D00 + p) 1, d.get (0x5D00 + p) 2)

/-- A store of another object leaves it as it is. -/
theorem Dev.diagShown_put {i k : Nat} (hi : i < 0x5C80 ∨ 0x5D80 ≤ i) (hk : k < 256) (v : Nat) : (d.put i k v).diagShown p = d.diagShown p := by
  simp only [Dev.diagShown, Dev.put_port]
  rw [Dev.get_put_other _ _ _ _ _ _ (by unfold key; omega), Dev.get_put_other _ _ _ _ _ _ (by unfold key; omega),
    Dev.get_put_other _ _ _ _ _ _ (by unfold key; omega)]

theorem Dev.diagShown_event (b : Nat) : (d.event 0x5F30 b).diagShown p = d.diagShown p :=
  (Dev.diagShown_put (by decide) (by decide) _).trans (Dev.diagShown_put (by decide) (by decide) _)

theorem Dev.diagShown_alarms (statuses : List Nat) : (d.diagAlarms statuses).diagShown p = d.diagShown p := by
  unfold Dev.diagAlarms
  dsimp only
  split <;> split <;> simp only [Dev.diagShown_event]

theorem Dev.diagShown_finished (d : Dev) (p : Port) (outOfService : Bool) (flags : Nat) :
    (d.diagFinished p outOfService flags).diagShown p = (none, 2, (d.get (0x5D00 + p) 1 + 1) % 2 ^ 32, if outOfService then 2 else 1) := by
  have small : (if outOfService then 2 else 1) < 256 := by split <;> decide
  have told (e : Dev) {i k : Nat} (hi : i < 0x5F30) (hk : k < 256) :
      ((e.event 0x5F30 2).inc 0x5F38 (if outOfService then 2 else 1)).get i k = e.get i k := by
    rw [Dev.get_inc_other _ _ _ _ _ (key_ne_index (by omega) small hk),
      Dev.get_event_other _ _ _ _ _ (key_ne_index (by omega) (by decide) hk) (key_ne_index (by omega) (by decide) hk)]
  have run : ((d.diagFinished p outOfService flags).port p).diag = none := by
    rw [Dev.diagFinished, Dev.inc_port, Dev.event_port, Dev.put_port, Dev.port_onPort_same]
  have state : (d.diagFinished p outOfService flags).get (0x5C80 + p) 3 = 2 := by
    rw [Dev.diagFinished, told _ (by omega) (by decide), Dev.get_put_same]
  have stored {sub : Nat} (h : sub < 3) : (d.diagFinished p outOfService flags).get (0x5D00 + p) sub =
      ((d.put (0x5D00 + p) 1 ((d.get (0x5D00 + p) 1 + 1) % 2 ^ 32)).put (0x5D00 + p) 2 (if outOfService then 2 else 1)).get (0x5D00 + p) sub := by
    rw [Dev.diagFinished, told _ (by omega) (by omega), Dev.get_put_other _ _ _ _ _ _ (key_ne_index (by omega) (by decide) (by omega)), Dev.onPort_get,
      Dev.get_put_other _ _ _ _ _ _ (key_ne_sub (by omega) (by decide) (by omega)),
      Dev.get_put_other _ _ _ _ _ _ (key_ne_sub (by omega) (by decide) (by omega))]
  have count := stored (show 1 < 3 by decide)
  rw [Dev.get_put_other _ _ _ _ _ _ (key_ne_sub (by decide) (by decide) (by decide)), Dev.get_put_same] at count
  rw [Dev.diagShown, run, state, count, stored (show 2 < 3 by decide), Dev.get_put_same]

/-- A commit ends the run, DONE, counts it and says which kind it was (R336). -/
theorem Dev.diagCommit_shown {run : DiagRun} (h : (d.port p).diag = some run) (free : d.diagHeld p run = false) (m : DiagMeas) :
    (d.diagCommit p m).diagShown p = (none, 2, (d.get (0x5D00 + p) 1 + 1) % 2 ^ 32, if run.outOfService then 2 else 1) := by
  obtain ⟨seen, statuses, commits⟩ := Dev.diagCommit_commits h free m
  rw [commits, Dev.diagShown_alarms, Dev.diagShown_finished, Dev.diagResults_count]

theorem Dev.diagHeld_eq_false {run : DiagRun} (h : run.outOfService = true ∨ (run.echo.isSome = true ∧ d.calBusy p = false)) : d.diagHeld p run = false := by
  rcases h with h | ⟨latched, free⟩
  · simp [Dev.diagHeld, h]
  · simp [Dev.diagHeld, Option.isNone_eq_false_iff.mpr latched, free]

theorem Dev.diagHeld_eq_true {run : DiagRun} (ho : run.outOfService = false) (h : run.echo = none ∨ d.calBusy p = true) : d.diagHeld p run = true := by
  rcases h with h | h <;> simp [Dev.diagHeld, ho, h]

end

/-! ## Captures are armed and triggered (O55) -/

section
variable {s : State} {r : Req} {d : Dev} {n : Die}

theorem Dev.sampler_onSampler (d : Dev) (n : Die) (f : SamplerSt → SamplerSt) : (d.onSampler n f).sampler n = f (d.sampler n) := upd_same _ _ _

/-- A read of a sampler's object after a store of another of its own. -/
theorem Dev.get_put_sampler {sub t : Nat} (h : sub ≠ t) (hs : sub < 256) (ht : t < 256) (v : Nat) :
    (d.put (0x5F10 + n) sub v).get (0x5F10 + n) t = d.get (0x5F10 + n) t :=
  Dev.get_put_other _ _ _ _ _ _ (key_ne_sub h hs ht)

/-- The events and counts of all samplers are no objects of one. -/
theorem Dev.get_event_sampler {t : Nat} (ht : t < 256) (b : Nat) : (d.event 0x5F30 b).get (0x5F10 + n) t = d.get (0x5F10 + n) t :=
  Dev.get_event_other _ _ _ _ _ (key_ne_index (by omega) (by decide) ht) (key_ne_index (by omega) (by decide) ht)

theorem Dev.get_inc_sampler {sub t : Nat} (hs : sub < 256) (ht : t < 256) : (d.inc 0x5F38 sub).get (0x5F10 + n) t = d.get (0x5F10 + n) t :=
  Dev.get_inc_other _ _ _ _ _ (key_ne_index (by omega) hs ht)

theorem Ready.samplerArm_code {arm : Nat} (h : Ready s r (0x5F10 + n) 1 arm) : firstCode (s.dev.armOp r n arm).checks =
    firstCode [(s.dev.get 0x1010 (n + 1) = 4 || s.dev.armTested arm || s.dev.samplerState n = 1 || s.dev.samplerState n = 2, .busy),
      (armBad n arm, .range)] :=
  h.command_code _ _

theorem Dev.samplerTriggers_state (d : Dev) (n : Die) (position flag : Nat) : (d.samplerTriggers n position flag).samplerState n = 2 :=
  (Dev.get_put_sampler (by decide) (by decide) (by decide) _).trans
    ((Dev.get_event_sampler (by decide) _).trans (Dev.get_put_same _ _ _ _))

/-- A trigger keeps its time and its place, at most as far as the samples before it go (R341). -/
theorem Dev.samplerTriggers_sampler (d : Dev) (n : Die) (position flag : Nat) : (d.samplerTriggers n position flag).sampler n =
    { d.sampler n with trigAt := d.uptime, trigTime := d.now, trigIndex := min position (armPre (d.sampler n).arm) } :=
  (Dev.sampler_onSampler _ n _)

theorem Dev.samplerTriggers_flags (d : Dev) (n : Die) (position flag : Nat) :
    (d.samplerTriggers n position flag).get (0x5F10 + n) 7 = flag + if position < armPre (d.sampler n).arm then 8 else 0 :=
  Dev.get_put_same _ _ _ _

end

/-! ## Captures commit (O55) -/

section
variable {d : Dev} {n : Die}

/-- A record is kept: the capture is DONE and counted, the trigger's time and place and the flags stand in their objects (R341, R343). -/
def Dev.samplerStored (d : Dev) (n : Die) (time index flags : Nat) : Dev :=
  (((((d.put (0x5F10 + n) 3 3).event 0x5F30 (8 + n)).inc 0x5F38 7).put (0x5F10 + n) 5 time).put (0x5F10 + n) 6 index).put (0x5F10 + n) 7 flags

theorem Dev.samplerStored_sampler (d : Dev) (n : Die) (time index flags : Nat) : (d.samplerStored n time index flags).sampler n = d.sampler n := by
  simp only [Dev.sampler, Dev.samplerStored, Dev.put_samplers, Dev.inc_samplers, Dev.event_samplers]

theorem Dev.samplerStored_objects (d : Dev) (n : Die) (time index flags : Nat) :
    (d.samplerStored n time index flags).samplerState n = 3 ∧ (d.samplerStored n time index flags).get (0x5F10 + n) 5 = time ∧
      (d.samplerStored n time index flags).get (0x5F10 + n) 6 = index := by
  refine ⟨?_, ?_, ?_⟩
  · rw [Dev.samplerState, Dev.samplerStored, Dev.get_put_sampler (by decide) (by decide) (by decide),
      Dev.get_put_sampler (by decide) (by decide) (by decide), Dev.get_put_sampler (by decide) (by decide) (by decide),
      Dev.get_inc_sampler (by decide) (by decide), Dev.get_event_sampler (by decide), Dev.get_put_same]
  · rw [Dev.samplerStored, Dev.get_put_sampler (by decide) (by decide) (by decide), Dev.get_put_sampler (by decide) (by decide) (by decide), Dev.get_put_same]
  · rw [Dev.samplerStored, Dev.get_put_sampler (by decide) (by decide) (by decide), Dev.get_put_same]

/-- What a capture under way sees of its port changes neither its arm nor its trigger. -/
theorem Dev.samplerSeen_kept (d : Dev) (n : Die) : (d.samplerSeen n).arm = (d.sampler n).arm ∧ (d.samplerSeen n).trigTime = (d.sampler n).trigTime ∧
    (d.samplerSeen n).trigIndex = (d.sampler n).trigIndex := by
  unfold Dev.samplerSeen
  dsimp only
  split <;> exact ⟨rfl, rfl, rfl⟩

theorem Dev.samplerSeen_length (d : Dev) (n : Die) : (d.samplerSeen n).length = (d.sampler n).length := by
  obtain ⟨arm, -, index⟩ := d.samplerSeen_kept n
  rw [SamplerSt.length, arm, index, SamplerSt.length]

/-- The record of a capture: the samples of each pair that its arm selects (R341). -/
def SamplerSt.records (s : SamplerSt) (draw : Nat) (samples : List (Pair × List Int)) : List (Pair × List Int) :=
  (armPairs s.arm).map (fun k => (k, s.record draw k ((assocGet samples k).getD [])))

theorem SamplerSt.records_pairs (s : SamplerSt) (draw : Nat) (samples : List (Pair × List Int)) : (s.records draw samples).map (·.1) = armPairs s.arm := by
  simp [SamplerSt.records, Function.comp_def]

theorem SamplerSt.records_length {s : SamplerSt} {draw : Nat} {samples : List (Pair × List Int)} {e : Pair × List Int} (h : e ∈ s.records draw samples) :
    e.2.length = s.length := by
  obtain ⟨k, -, rfl⟩ := List.mem_map.mp h
  simp [SamplerSt.record]

/-- A triggered capture keeps the record of what it has seen (R341). -/
def Dev.samplerRecorded (d : Dev) (n : Die) (samples : List (Pair × List Int)) : Dev :=
  ((d.onSampler n (fun _ => d.samplerSeen n)).newDraw).onSampler n (fun s => { s with
    samples := (d.samplerSeen n).records (d.draws + 1) samples, committed := true })

theorem Dev.samplerRecorded_sampler (d : Dev) (n : Die) (samples : List (Pair × List Int)) : (d.samplerRecorded n samples).sampler n =
    { d.samplerSeen n with samples := (d.samplerSeen n).records (d.draws + 1) samples, committed := true } := by
  have seen : ((d.onSampler n (fun _ => d.samplerSeen n)).newDraw).sampler n = d.samplerSeen n := d.sampler_onSampler n _
  rw [Dev.samplerRecorded, Dev.sampler_onSampler, seen]

theorem Dev.samplerCommit_commits (h : d.samplerState n = 2) (samples : List (Pair × List Int)) : ∃ flags,
    d.samplerCommit n samples = (d.samplerRecorded n samples).samplerStored n (timeOctets (d.samplerSeen n).trigTime) (d.samplerSeen n).trigIndex flags := by
  have seen : ((d.onSampler n (fun _ => d.samplerSeen n)).newDraw).sampler n = d.samplerSeen n := d.sampler_onSampler n _
  unfold Dev.samplerCommit
  dsimp only
  rw [if_neg (not_not.mpr h), seen]
  exact ⟨_, rfl⟩

theorem Dev.samplerCommit_idle (h : d.samplerState n ≠ 2) (samples : List (Pair × List Int)) : d.samplerCommit n samples = d := if_pos h

/-- The commit of a triggered capture stores its trigger's time and place, and as many samples of each selected pair as the record is long (R341). -/
theorem Dev.samplerCommit_keeps (h : d.samplerState n = 2) (samples : List (Pair × List Int)) :
    (d.samplerCommit n samples).samplerState n = 3 ∧ ((d.samplerCommit n samples).sampler n).committed = true ∧
      (d.samplerCommit n samples).get (0x5F10 + n) 5 = timeOctets (d.sampler n).trigTime ∧
      (d.samplerCommit n samples).get (0x5F10 + n) 6 = (d.sampler n).trigIndex ∧
      ((d.samplerCommit n samples).sampler n).samples.map (·.1) = armPairs (d.sampler n).arm ∧
      ∀ e ∈ ((d.samplerCommit n samples).sampler n).samples, e.2.length = (d.sampler n).length := by
  obtain ⟨arm, time, index⟩ := d.samplerSeen_kept n
  obtain ⟨flags, commits⟩ := Dev.samplerCommit_commits h samples
  rw [time, index] at commits
  obtain ⟨state, stored, place⟩ :=
    (d.samplerRecorded n samples).samplerStored_objects n (timeOctets (d.sampler n).trigTime) (d.sampler n).trigIndex flags
  rw [commits, Dev.samplerStored_sampler, Dev.samplerRecorded_sampler, stored, place, ← arm, ← d.samplerSeen_length n]
  exact ⟨state, rfl, rfl, rfl, SamplerSt.records_pairs _ _ _, fun e he => SamplerSt.records_length he⟩

/-- Only a triggered or an armed capture ends by an abort (R341). -/
theorem Dev.samplerEnd_ends (h : d.samplerState n = 1 ∨ d.samplerState n = 2) :
    d.samplerEnd n = (d.onSampler n (fun s => { s with samples := [], committed := false, select := 0 })).put (0x5F10 + n) 3 4 :=
  if_pos (by simpa using h)

theorem Dev.samplerEnd_idle (h1 : d.samplerState n ≠ 1) (h2 : d.samplerState n ≠ 2) : d.samplerEnd n = d := if_neg (by simp [h1, h2])

theorem Dev.samplerRead_serves {r : Req} (hh : d.hears r.route = true) (hb : d.busyIndex (0x5F10 + n) = false)
    (hm : d.modeRefuses (0x5F10 + n) = false ∨ d.safe = true) :
    d.samplerRead r n = ((d.samplerAdvance n).answer r .ok).emit (.data r (d.samplerData n)) := by
  have allowed : ¬ (d.modeRefuses (0x5F10 + n) && !d.safe) = true := by rcases hm with h | h <;> simp [h]
  rw [Dev.samplerRead, if_neg (by simp [hh]), if_neg (ne_true_of_eq_false hb), if_neg allowed]

end

section
variable {s : State} {r : Req} {n : Die}

theorem Ready.samplerSelect_code {sel : Nat} (h : Ready s r (0x5F10 + n) 8 sel) : firstCode (s.dev.samplerSelectOp r n sel).checks =
    firstCode [(s.dev.samplerState n != 3, .state),
      (!((armPairs (s.dev.sampler n).arm).map Fin.val).contains (selPair sel) || armSamples (s.dev.sampler n).arm ≤ selOffset sel, .range)] :=
  h.command_code _ _

end

/-- Settles O55: a start by what stands in its way, a commit by what holds it and then by the parts of its result, a capture by its state; of a trigger
and of a record, what they keep. -/
theorem diagnosisAndSampler : Obligations.DiagnosisAndSampler := by
  refine ⟨?inService, ?down, ?outOfService, ?training, ?busy, ?periodic, ?skipped, ?repeats, ?repeatIdle, ?abort, ?commits, ?held, ?latches, ?waits, ?free,
    ?arms, ?armBusy, ?triggers, ?triggerIdle, ?trigger, ?timeoutIdle, ?timeout, ?timeoutNone, ?done, ?doneIdle, ?ends, ?endIdle, ?selects, ?selectState,
    ?reads⟩
  case inService =>
    intro s r p hr hd hu
    have granted := hr.diagStart_free (.inl rfl) hd
    exact answers_of_write (fun _ d => d.diagStartOp r p 1) rfl hr (granted.trans (if_neg (by simp [Dev.diagState, hu]))) rfl rfl
  case down =>
    intro s r p hr hd hu
    have refused := hr.diagStart_free (.inl rfl) hd
    exact does_write_refused (fun _ d => d.diagStartOp r p 1) rfl hr (refused.trans (if_pos (by simp [Dev.diagState, hu]))) rfl
  case outOfService =>
    intro s r p hr hd hl
    have granted := hr.diagStart_free (.inr rfl) hd
    exact answers_of_write (fun _ d => d.diagStartOp r p 2) rfl hr (granted.trans (if_neg (by rw [Dev.diagState_outOfService]; omega))) rfl rfl
  case training =>
    intro s r p hr hd h3 h8
    have refused := hr.diagStart_free (.inr rfl) hd
    exact does_write_refused (fun _ d => d.diagStartOp r p 2) rfl hr (refused.trans (if_pos ((s.dev.diagState_outOfService p).mpr ⟨h3, h8⟩))) rfl
  case busy =>
    exact fun s r p h1 h2 hd => ⟨does_write_refused (fun _ d => d.diagStartOp r p 1) rfl h1 (h1.diagStart_busy hd) rfl,
      does_write_refused (fun _ d => d.diagStartOp r p 2) rfl h2 (h2.diagStart_busy hd) rfl⟩
  case periodic => exact fun s p hi hd hu hl => does_of_event rfl (Dev.diagPeriodic_starts hi hd hu hl)
  case skipped => exact fun s p h => does_of_event rfl (Dev.diagPeriodic_skips h)
  case repeats => exact fun s p k run h ho hk => does_of_event rfl (Dev.diagRepeat_repeats h ho hk)
  case repeatIdle => exact fun s p k h => does_of_event rfl (Dev.diagRepeat_idle h)
  case abort => exact fun s r p hr => answers_of_one rfl hr
  case commits =>
    intro s p m run h free
    have commits : Does (.diagCommit p m) s (fun d => d.diagCommit p m) := rfl
    refine commits.gives ?_
    rw [State.onDev_dev]
    simpa only [Dev.diagShown, Prod.mk.injEq] using Dev.diagCommit_shown h (Dev.diagHeld_eq_false free) m
  case held => exact fun s p m run h ho hh => does_of_event rfl (Dev.diagCommit_held h (Dev.diagHeld_eq_true ho hh) m)
  case latches => exact fun d p hc hl hw => Dev.diagLatch_latches hc hl hw
  case waits => exact fun d p h => Dev.diagLatch_waits h
  case free => exact fun s p m h => does_of_event rfl (Dev.diagCommit_free h m)
  case arms =>
    intro s r n arm hr hdie htest h1 h2 hbad
    refine answers_of_write (fun _ d => d.armOp r n arm) rfl hr (hr.samplerArm_code.trans ?_) rfl rfl
    simp [hdie, htest, h1, h2, hbad]
  case armBusy =>
    intro s r n arm hr h
    refine does_write_refused (fun _ d => d.armOp r n arm) rfl hr (hr.samplerArm_code.trans ?_) rfl
    have busy : (s.dev.get 0x1010 (n + 1) = 4 || s.dev.armTested arm || s.dev.samplerState n = 1 || s.dev.samplerState n = 2) = true := by
      rcases h with h | h <;> simp [h]
    rw [busy]
    exact firstCode_head (by simp [Code.rank])
  case triggers => exact fun s n pos h => does_of_event rfl (if_pos h)
  case triggerIdle => exact fun s n pos h => does_of_event rfl (if_neg (ne_true_of_eq_false h))
  case trigger =>
    intro d n pos flag
    rw [Dev.samplerTriggers_sampler]
    exact ⟨d.samplerTriggers_state n pos flag, rfl, rfl, d.samplerTriggers_flags n pos flag⟩
  case timeoutIdle => exact fun s n pos h => does_of_event rfl (if_neg (by simp [h]))
  case timeout => exact fun s n pos h ht => does_of_event rfl (if_pos (Bool.and_eq_true_iff.mpr ⟨decide_eq_true h, decide_eq_true ht⟩))
  case timeoutNone => exact fun s n pos h10 h11 => does_of_event rfl (if_neg (by simp [h10, h11]))
  case done =>
    intro s n samples a b c h
    have done : Does (.samplerDone n samples a b c) s (fun d => d.samplerCommit n samples) := rfl
    refine done.gives ?_
    rw [State.onDev_dev]
    exact Dev.samplerCommit_keeps h samples
  case doneIdle => exact fun s n samples a b c h => does_of_event rfl (Dev.samplerCommit_idle h samples)
  case ends => exact fun s r n hr h => answers_of_write (fun _ d => d.samplerAbortOp r n 1) rfl hr (hr.command_code _ _) (Dev.samplerEnd_ends h) rfl
  case endIdle =>
    exact fun s r n hr h1 h2 => answers_of_write (fun _ d => d.samplerAbortOp r n 1) rfl hr (hr.command_code _ _) (Dev.samplerEnd_idle h1 h2) rfl
  case selects =>
    intro s r n sel hr h3 hp ho
    refine answers_of_write (fun _ d => d.samplerSelectOp r n sel) rfl hr (hr.samplerSelect_code.trans ?_) rfl rfl
    have pair : ((armPairs (s.dev.sampler n).arm).map Fin.val).contains (selPair sel) = true := List.contains_iff_mem.mpr hp
    rw [h3, pair]
    simp [Nat.not_le.mpr ho]
  case selectState =>
    intro s r n sel hr h3
    refine does_write_refused (fun _ d => d.samplerSelectOp r n sel) rfl hr (hr.samplerSelect_code.trans ?_) rfl
    rw [bne_iff_ne.mpr h3]
    exact firstCode_head (by simp [Code.rank])
  case reads => exact fun s r n hh hb hm => does_of_event rfl (Dev.samplerRead_serves hh hb hm)

end Sys2Proof.Machine

namespace Sys2Proof.Machine

/-! ## A step is the command at the front, and what reset leaves (O1, O3) -/

/-- Settles O1: the front of such a queue is the command, and its rest is the state's own. -/
theorem stepRunsFront : Obligations.StepRunsFront := fun _ _ => rfl

/-- Settles O3: the dictionary lists no value at reset, so that every object reads its power-on value. -/
theorem resetState : Obligations.ResetState := by
  have blank (idx sub : Nat) : State.reset.dev.get idx sub = Catalog.dflt idx sub := rfl
  have normal (b : Nat) : State.reset.dev.faultState b = 0 := by
    unfold Dev.faultState Dev.faultSt
    split
    · exact congrArg FaultSt.state (Vector.getElem_replicate _)
    · rfl
  exact ⟨blank, rfl, rfl, rfl, rfl, rfl, normal, rfl, rfl⟩

/-! ## Requests that nobody hears (O9) -/

section
variable {s : State} {r : Req}

/-- A command that changes nothing of the device changes nothing. -/
theorem exec_unchanged {c : Instr} {f : Dev → Dev} (hc : exec c s = s.event f) (h : f s.dev = s.dev) : exec c s = .next s := by
  rw [hc, State.event, State.onDev, h]

theorem State.writeAccess_unheard (w : WItem) (h : s.dev.hears r.route = false) : s.writeAccess r w = s := by
  simp [State.writeAccess, h]

theorem exec_vaultWrite_unheard {c : Instr} {idx sub : Nat} {heard : Bool} {o : VOp} (hc : exec c s = s.vaultWrite r idx sub heard o)
    (h : heard = false) : exec c s = .next s := by
  subst h
  exact hc

theorem lifeHeard_eq_false (h : s.dev.hears r.route = false) (hv : s.vault.lifecycle ≠ 0) : lifeHeard s.vault s.dev r = false := by
  simp [lifeHeard, h, hv]

theorem Dev.frameTaken_unheard {d : Dev} {h : MHdr} (hh : d.hears h.route = false) (op items : Nat) (body : List Byte) :
    d.frameTaken h op items body = (false, d) := by
  simp [Dev.frameTaken, hh]

theorem Dev.frameIn_unheard {d : Dev} {h : MHdr} (hh : d.hears h.route = false) (op items : Nat) (body : List Byte) (serve : Dev → Dev) :
    d.frameIn h op items body serve = d := by
  simp [Dev.frameIn, Dev.frameTaken_unheard hh]

theorem State.writeFrame_unheard {h : MHdr} (hh : s.dev.hears h.route = false) (op low high : Nat) (items : List WItem) :
    s.writeFrame h op low high items = s := by
  simp [State.writeFrame, Dev.frameTaken_unheard hh]

end

/-- A frame of a session without step data is taken as every other, or found malformed; unheard, it is neither. -/
theorem exec_close_unheard {s : State} {v : SessionAsk} (h : s.dev.hears v.hdr.route = false) : exec (.close v) s = .next s := by
  refine exec_unchanged rfl ?_
  split
  · simp [Dev.lacksStep, h]
  · exact Dev.frameIn_unheard h ..

/-- A bit written through its own object is a write of its word, and an index that names no such bit is refused; unheard, it is neither. -/
theorem exec_bitAliasWrite_unheard {s : State} {r : Req} {index sub v : Nat} (h : s.dev.hears r.route = false) :
    exec (.bitAliasWrite r index sub v) s = .next s := by
  by_cases hn : (wordBit? index).isNone = true
  · exact exec_unchanged (if_pos hn) (Op.run_unheard _ _ h)
  · exact (if_neg hn).trans (congrArg Host.Outcome.next (State.writeAccess_unheard _ h))

/-- Settles O9: a request is a write, of a plain object or of the one-way store, or a frame, and each looks at its route first. -/
theorem unheardRequests : Obligations.UnheardRequests := by
  intro c r s hr hh hlife
  cases c <;> cases hr
  case objectWrite => exact congrArg Host.Outcome.next (State.writeAccess_unheard _ hh)
  case stClear => exact congrArg Host.Outcome.next (State.writeAccess_unheard _ hh)
  case bitAliasWrite => exact exec_bitAliasWrite_unheard hh
  case read => exact exec_unchanged rfl (Dev.frameIn_unheard hh ..)
  case readMulti => exact exec_unchanged rfl (Dev.frameIn_unheard hh ..)
  case snapshot => exact exec_unchanged rfl (Dev.frameIn_unheard hh ..)
  case commitAdopt => exact exec_unchanged rfl (Dev.frameIn_unheard hh ..)
  case commitVerify => exact exec_unchanged rfl (Dev.frameIn_unheard hh ..)
  case openConfig => exact exec_unchanged rfl (Dev.frameIn_unheard hh ..)
  case open1 => exact exec_unchanged rfl (Dev.frameIn_unheard hh ..)
  case open3 => exact exec_unchanged rfl (Dev.frameIn_unheard hh ..)
  case close => exact exec_close_unheard hh
  case write => exact congrArg Host.Outcome.next (State.writeFrame_unheard hh ..)
  case writeMulti => exact congrArg Host.Outcome.next (State.writeFrame_unheard hh ..)
  case samplerDataRead => exact exec_unchanged rfl (by simp [Dev.samplerRead, hh])
  case managerEnrol => exact exec_vaultWrite_unheard rfl hh
  case managerRevoke => exact exec_vaultWrite_unheard rfl hh
  case fwConfirm => exact exec_vaultWrite_unheard rfl hh
  case lifecycleToManufacture => exact exec_vaultWrite_unheard rfl (lifeHeard_eq_false hh (hlife rfl))
  case lifecycleToProvisioned => exact exec_vaultWrite_unheard rfl (lifeHeard_eq_false hh (hlife rfl))
  case lifecycleToDeployed => exact exec_vaultWrite_unheard rfl (lifeHeard_eq_false hh (hlife rfl))
  case lifecycleToReturned => exact exec_vaultWrite_unheard rfl (lifeHeard_eq_false hh (hlife rfl))
  case lifecycleToRetired => exact exec_vaultWrite_unheard rfl (lifeHeard_eq_false hh (hlife rfl))
  all_goals exact exec_unchanged rfl (Op.run_unheard _ _ hh)

/-! ## Every command completes (O4) -/

/-- The command answers a next state, behind which the queue waits as it did. -/
def Completes (c : Instr) (s : State) : Prop := ∃ t, exec c s = .next t ∧ t.pending = s.pending

theorem completes_of_next {c : Instr} {s t : State} (hc : exec c s = .next t) (ht : t.pending = s.pending) : Completes c s := ⟨t, hc, ht⟩

/-- A command that changes the device alone completes. -/
theorem completes_of_onDev {c : Instr} {s : State} {f : Dev → Dev} (hc : exec c s = .next (s.onDev f)) : Completes c s := ⟨_, hc, rfl⟩

theorem completes_of_vaultWrite {c : Instr} {s : State} {r : Req} {idx sub : Nat} {heard : Bool} {o : VOp}
    (hc : exec c s = s.vaultWrite r idx sub heard o) : Completes c s := by
  obtain ⟨t, ht, same, -⟩ := s.vaultWrite_next r idx sub heard o
  exact ⟨t, hc.trans ht, same⟩

theorem State.writeItem_pending (s : State) (r : Req) (w : WItem) : (s.writeItem r w).2.2.pending = s.pending :=
  ((itemOp s r w).2.2.apply_vault r (itemOp s r w).1 (itemOp s r w).2.1 s).1

theorem State.writeAccess_pending (s : State) (r : Req) (w : WItem) : (s.writeAccess r w).pending = s.pending := by
  unfold State.writeAccess
  split
  · rfl
  · split
    · rfl
    · exact s.writeItem_pending r w

theorem State.access_pending (s : State) (a : Access) : (s.access a).pending = s.pending := by
  cases a with
  | write r w => exact s.writeAccess_pending r w
  | clear r index seq => exact s.writeAccess_pending r _
  | read r i => rfl

theorem State.accesses_pending (wide : Nat) (l : List Access) (warm : Bool) (s : State) : (State.accesses wide warm s l).pending = s.pending := by
  induction l generalizing warm s with
  | nil => rfl
  | cons a l ih =>
    have dropped : (s.dropped a).pending = s.pending := by cases a <;> rfl
    have merged : (s.merged a).pending = s.pending := by cases a <;> rfl
    simp only [State.accesses]
    split
    · exact (ih _ _).trans (s.access_pending a)
    · split
      · exact (ih _ _).trans dropped
      · split
        · exact (ih _ _).trans merged
        · exact (ih _ _).trans (s.access_pending a)

theorem State.writeItems_pending (r : Req) (l : List WItem) (s : State) : (State.writeItems r s l).2.2.pending = s.pending := by
  induction l generalizing s with
  | nil => rfl
  | cons w l ih => exact (ih _).trans (s.writeItem_pending r w)

theorem State.serveWrites_pending (s : State) (h : MHdr) (op low high : Nat) (items : List WItem) :
    (s.serveWrites h op low high items).pending = s.pending := by
  unfold State.serveWrites
  split
  · rfl
  · split
    · rfl
    · exact State.writeItems_pending (MHdr.req h) items s

theorem State.writeFrame_pending (s : State) (h : MHdr) (op low high : Nat) (items : List WItem) :
    (s.writeFrame h op low high items).pending = s.pending := by
  unfold State.writeFrame
  dsimp only
  split
  · exact State.serveWrites_pending _ h op low high items
  · rfl

theorem bitAliasWrite_completes (r : Req) (index sub v : Nat) (s : State) : Completes (.bitAliasWrite r index sub v) s := by
  change ∃ t, execBitAliasWrite r index sub v s = .next t ∧ t.pending = s.pending
  unfold execBitAliasWrite
  split
  · exact ⟨_, rfl, rfl⟩
  · exact ⟨_, rfl, s.writeAccess_pending r _⟩

/-- A vendor's code is BYPASS but in the two life-cycle states that have instructions of their own (R461). -/
theorem tapVendor_completes {code : Nat} {s : State} (h : ¬ (s.vault.lifecycle = 1 ∨ s.vault.lifecycle = 4)) :
    Completes (.tapInstruction (.vendor code)) s :=
  ⟨s, if_neg (by simpa using h), rfl⟩

/-- Settles O4: writes that reach the one-way store and frames of items keep the queue, every other command changes the device alone, and a vendor's
code of the test access port is refused in the two life-cycle states of R461. -/
theorem everyCommandCompletes : Obligations.EveryCommandCompletes := by
  intro c s
  cases c
  case tapInstruction code =>
    cases code
    case vendor code =>
      by_cases h : s.vault.lifecycle = 1 ∨ s.vault.lifecycle = 4
      · exact .inr ⟨code, rfl, h, if_pos (by simpa using h)⟩
      · exact .inl (tapVendor_completes h)
    all_goals exact .inl ⟨_, rfl, rfl⟩
  all_goals refine .inl ?_
  case managerEnrol => exact completes_of_vaultWrite rfl
  case managerRevoke => exact completes_of_vaultWrite rfl
  case lifecycleToManufacture => exact completes_of_vaultWrite rfl
  case lifecycleToProvisioned => exact completes_of_vaultWrite rfl
  case lifecycleToDeployed => exact completes_of_vaultWrite rfl
  case lifecycleToReturned => exact completes_of_vaultWrite rfl
  case lifecycleToRetired => exact completes_of_vaultWrite rfl
  case fwConfirm => exact completes_of_vaultWrite rfl
  case objectWrite r w => exact completes_of_next rfl (s.writeAccess_pending r w)
  case stClear r index seq => exact completes_of_next rfl (s.writeAccess_pending r _)
  case write => exact completes_of_next rfl (s.writeFrame_pending ..)
  case writeMulti => exact completes_of_next rfl (s.writeFrame_pending ..)
  case arbitrationGrant => exact completes_of_next rfl (State.accesses_pending ..)
  case bitAliasWrite => exact bitAliasWrite_completes ..
  all_goals exact completes_of_onDev rfl

end Sys2Proof.Machine

namespace Sys2Proof.Machine

/-! ## Assay programs (O16, O60) -/

section
variable {d : Dev} {n : DieId} {program target : Nat} {res : AssayResult}

/-- A program's record is its engine's last, and that of SHUTDOWN its shutdown record too (R420). -/
def Dev.assayRecorded (d : Dev) (n : DieId) (program : Nat) (res : AssayResult) : Dev :=
  d.onAssay n (fun e => { e with
    last := some (d.assayRecord program res), shutdown := if program = 1 then some (d.assayRecord program res) else e.shutdown })

/-- A line die's store that the program has not restored is invalid (R415). -/
def Dev.storeLooked (d : Dev) (n : DieId) (restored : Bool) : Dev :=
  match lineDie? n with
  | some m => if restored then d else d.storeInvalid m
  | none => d

/-- The host die has no store to restore, and a store that was restored is valid. -/
theorem Dev.storeLooked_valid (h : n.val = 8 ∨ res.restored = true) (d : Dev) : d.storeLooked n res.restored = d := by
  unfold Dev.storeLooked
  rcases h with h8 | hr
  · have host : lineDie? n = none := dif_neg (by omega)
    rw [host]
  · split
    · exact if_pos hr
    · rfl

theorem Dev.assayCommit_runs (h : (d.engineOf n).program = some (program, target)) (res : AssayResult) :
    d.assayCommit n res = ((d.assayRecorded n program res).storeLooked n res.restored).engineEnd n 2 := by
  rw [Dev.assayCommit, h]
  rfl

theorem Dev.assayCommit_none (h : (d.engineOf n).program = none) (res : AssayResult) : d.assayCommit n res = d := by
  rw [Dev.assayCommit, h]

theorem assayResult_incomplete (h : res.count < res.length) : assayResult res = 3 := if_pos h

theorem assayResult_pass (h : res.length ≤ res.count) (hg : res.got = res.expected) : assayResult res = 1 := by simp [assayResult, h, hg]

theorem assayResult_fail (h : res.length ≤ res.count) (hg : res.got ≠ res.expected) : assayResult res = 2 := by simp [assayResult, h, hg]

end

/-- Settles O16: the record is the one that the engine commits at that moment, and its RESULT is that of the run. -/
theorem assayResults : Obligations.AssayResults := by
  intro s n res program target h hr
  have commits : s.dev.assayCommit n res = (s.dev.assayRecorded n program res).engineEnd n 2 :=
    (Dev.assayCommit_runs h res).trans (congrArg (fun d : Dev => d.engineEnd n 2) (Dev.storeLooked_valid hr _))
  refine ⟨s.dev.assayRecord program res, does_of_event rfl commits, rfl, rfl, rfl, rfl, ?pass, ?fail, ?incomplete⟩
  case pass => exact fun hc hg => assayResult_pass hc.ge hg
  case fail => exact fun hc hg => assayResult_fail hc.ge hg
  case incomplete => exact assayResult_incomplete

section
variable {s : State} {r : Req} {program target : Nat}

theorem Ready.assayRun_code (h : Ready s r 0x6800 2 0) (lifecycle : Nat) :
    firstCode (s.dev.assayRunOp r lifecycle program target).checks =
      firstCode [(s.dev.assayAuth r lifecycle, .auth), (s.dev.targetHeld program target || s.dev.activating, .busy),
        (s.dev.runForbidden lifecycle program target, .state), (runBad program target, .range)] :=
  h.command_code _ _

/-- The write of a program and a target that fit their bytes. -/
theorem exec_assayRun (hp : program < 256) (ht : target < 256) :
    exec (.assayRun r program target) s = s.write r 0x6800 2 (fun v d => d.assayRunOp r v.lifecycle program target) := by
  change execAssayRun r program target s = _
  rw [execAssayRun, Nat.mod_eq_of_lt hp, Nat.mod_eq_of_lt ht]

/-- A program in range names engines and a target of a byte each. -/
theorem lt_of_runBad (h : runBad program target = false) : program < 256 ∧ target < 256 := by
  simp only [runBad, Bool.or_eq_false_iff, decide_eq_false_iff_not] at h
  obtain ⟨⟨hlow, hhigh⟩, htarget⟩ := h
  split at htarget
  · simp at htarget; omega
  · split at htarget <;> simp at htarget <;> omega

theorem Ready.assayAbort_code {v : Nat} (h : Ready s r 0x6800 3 v) (lifecycle : Nat) :
    firstCode (s.dev.assayAbortOp r lifecycle v).checks = firstCode [(s.dev.assayAuth r lifecycle, .auth), (8 < v && v ≠ 0xFF, .range)] :=
  h.command_code _ _

theorem Ready.shutdown_code (h : Ready s r 0x6800 1 1) (lifecycle : Nat) :
    firstCode (s.dev.shutdownOp r lifecycle 1).checks =
      firstCode [(s.dev.assayAuth r lifecycle, .auth), (s.dev.assay.any (fun a => a.program.isSome) || s.dev.activating, .busy),
        (lifecycle = 5 || s.dev.get 0x6800 5 = 2, .state), (false, .range)] :=
  h.command_code _ _

theorem Dev.assay_any_iff (d : Dev) : d.assay.any (fun a => a.program.isSome) = true ↔ ∃ n : DieId, (d.assay.get n).program.isSome = true := by
  rw [Vector.any_iff_exists]
  exact ⟨fun ⟨i, hi, h⟩ => ⟨⟨i, hi⟩, h⟩, fun ⟨n, h⟩ => ⟨n, n.isLt, h⟩⟩

end

/-- Settles O60: each write by the conditions that refuse it, in R36's order, and a commit by the program that its engine runs. -/
theorem assayPrograms : Obligations.AssayPrograms := by
  refine ⟨?runs, ?runAuth, ?runBusy, ?runState, ?runRange, ?commits, ?commitNone, ?results, ?abort, ?abortAll, ?shuts, ?shutBusy⟩
  case runs =>
    intro s r program target h ha hh hact hf hb
    obtain ⟨hp, ht⟩ := lt_of_runBad hb
    exact answers_of_write _ (exec_assayRun hp ht) h ((h.assayRun_code _).trans (by rw [ha, hh, hact, hf, hb]; rfl)) rfl rfl
  case runAuth =>
    intro s r program target h ha
    refine does_write_auth (fun v d => d.assayRunOp r v.lifecycle (program % 256) (target % 256)) rfl h ((h.assayRun_code _).trans ?_) rfl
    rw [ha]
    exact firstCode_head (by simp [Code.rank])
  case runBusy =>
    intro s r program target h ha hp ht hbusy
    have busy : (s.dev.targetHeld program target || s.dev.activating) = true := Bool.or_eq_true_iff.mpr hbusy
    refine does_write_refused _ (exec_assayRun hp ht) h ((h.assayRun_code _).trans ?_) rfl
    rw [ha, busy]
    exact firstCode_head (by simp [Code.rank])
  case runState =>
    intro s r program target h ha hp ht hh hact hf
    refine does_write_refused _ (exec_assayRun hp ht) h ((h.assayRun_code _).trans ?_) rfl
    rw [ha, hh, hact, hf]
    exact firstCode_head (by simp [Code.rank])
  case runRange =>
    intro s r program target h ha hp ht hh hact hf hb
    refine does_write_refused _ (exec_assayRun hp ht) h ((h.assayRun_code _).trans ?_) rfl
    rw [ha, hh, hact, hf, hb]
    rfl
  case commits => exact fun s n res program target h => does_of_event rfl (Dev.assayCommit_runs h res)
  case commitNone => exact fun s n res h => does_of_event rfl (Dev.assayCommit_none h res)
  case results => exact fun res => ⟨assayResult_incomplete, assayResult_pass, assayResult_fail⟩
  case abort =>
    intro s r n h ha
    have known : (decide (8 < n.val) && decide (n.val ≠ 0xFF)) = false := by simp; omega
    have ends : (s.dev.assayAbortOp r s.vault.lifecycle n).effect s.dev = s.dev.engineEnd n 3 := dif_pos n.isLt
    exact answers_of_write (fun v d => d.assayAbortOp r v.lifecycle n) rfl h ((h.assayAbort_code _).trans (by rw [ha, known]; rfl)) ends rfl
  case abortAll =>
    intro s r h ha
    have ends : (s.dev.assayAbortOp r s.vault.lifecycle 0xFF).effect s.dev = s.dev.assayAbortAll := by
      simp [Dev.assayAbortOp, Dev.command]
    exact answers_of_write (fun v d => d.assayAbortOp r v.lifecycle 0xFF) rfl h ((h.assayAbort_code _).trans (by rw [ha]; rfl)) ends rfl
  case shuts =>
    intro s r h ha hn hact h5 h2
    have idle : s.dev.assay.any (fun a => a.program.isSome) = false := by
      rw [Bool.eq_false_iff, Ne, Dev.assay_any_iff]
      simp [hn]
    exact answers_of_write (fun v d => d.shutdownOp r v.lifecycle 1) rfl h ((h.shutdown_code _).trans (by simp [ha, idle, hact, h5, h2])) rfl rfl
  case shutBusy =>
    intro s r h ha hbusy
    have busy : (s.dev.assay.any (fun a => a.program.isSome) || s.dev.activating) = true := by
      rwa [Bool.or_eq_true_iff, Dev.assay_any_iff]
    refine does_write_refused (fun v d => d.shutdownOp r v.lifecycle 1) rfl h ((h.shutdown_code _).trans ?_) rfl
    rw [ha, busy]
    exact firstCode_head (by simp [Code.rank])

end Sys2Proof.Machine

namespace Sys2Proof.Machine

/-! ## Power and pin reset (O17) -/

section
variable {d : Dev}

/-- The device starts from power-on reset: nothing of its management or its objects is left, and RESET_CAUSE says why (R382). -/
structure Dev.PoweredUp (d : Dev) (kind : Nat) : Prop where
  life : d.life = .starting
  cause : d.get 0x1800 2 = kind
  safe : d.safe = false
  mgmt : d.mgmt = {}
  time : d.time.count = 0

theorem Dev.powerUp_poweredUp (d : Dev) (kind : Nat) : (d.powerUp kind).PoweredUp kind :=
  ⟨rfl, Dev.get_put_same _ _ _ _, rfl, rfl, rfl⟩

theorem Dev.hostDark_poweredUp (d : Dev) : d.hostDark.PoweredUp 0 :=
  ⟨rfl, (d.powerUp_poweredUp 0).cause, rfl, rfl, rfl⟩

theorem Dev.hostDark_flash (d : Dev) : d.hostDark.hall.flash = d.hall.flash := rfl

/-- The supplies of a line die have become valid: it starts, and its islands wait (R381, R439). -/
def Dev.dieSupplied (d : Dev) (n : Die) : Dev :=
  (d.onDie n (fun s => { s with powered := true, attempts := 0, silent := false })).islandsWait n

theorem Dev.fieldOn_starts (h : d.fieldValid = false) : d.fieldOn = { d with fieldValid := true }.eachDie (fun n d => d.dieSupplied n) :=
  if_neg (by simp [h])

theorem Dev.dieSupplied_powered (d : Dev) (n : Die) : ((d.dieSupplied n).dies.get n).powered = true :=
  congrArg DieSt.powered (upd_same d.dies n _)

/-- A die that starts takes no other die's supplies away. -/
theorem Dev.dieSupplied_keeps_powered {n : Die} (h : (d.dies.get n).powered = true) (m : Die) : ((d.dieSupplied m).dies.get n).powered = true := by
  by_cases hm : m = n
  · exact hm ▸ d.dieSupplied_powered m
  · exact (congrArg DieSt.powered (upd_other d.dies m n _ hm)).trans h

/-- The field domain's supplies power every line die, and change no object (R439). -/
theorem Dev.fieldOn_powers (h : d.fieldValid = false) :
    d.fieldOn.fieldValid = true ∧ (∀ n : Die, (d.fieldOn.dies.get n).powered = true) ∧ d.fieldOn.objs = d.objs := by
  rw [Dev.fieldOn_starts h]
  have valid := forAll_keeps 8 (fun n d => d.dieSupplied n) Dev.fieldValid (fun _ _ => rfl) { d with fieldValid := true }
  have objects := forAll_keeps 8 (fun n d => d.dieSupplied n) Dev.objs (fun _ _ => rfl) { d with fieldValid := true }
  refine ⟨valid, fun n => ?_, objects⟩
  exact forAll_establishes (fun d : Dev => (d.dies.get n).powered = true) (fun n d => d.dieSupplied n) n (fun d => d.dieSupplied_powered n)
    (fun m _ hd => Dev.dieSupplied_keeps_powered hd m) _

theorem Dev.nv_touchEvent (d : Dev) (type : Nat) (body : List Byte) : (d.touchEvent type body).nv = d.nv :=
  congrArg (·.2.2) (d.running_touchEvent type body)

theorem Dev.nv_revertSlot (d : Dev) (reason : Nat) : (d.revertSlot reason).nv = d.nv := by
  unfold Dev.revertSlot
  split
  · rfl
  · exact Dev.nv_touchEvent _ _ _

theorem Dev.pinReset_powered (h : d.life ≠ .off) :
    d.pinReset = { d.powerUp 1 with pins := { (d.powerUp 1).pins with resetLow := true } } :=
  if_neg h

theorem Dev.startTimeout_restarts (h : d.life = .starting) :
    d.startTimeout = ({ d with nv := { d.nv with failStep := d.nv.lastStep } }.revertSlot 2).powerUp 1 :=
  if_neg (not_not.mpr h)

end

/-- Settles O17: each command is an event of the device; what power-on reset leaves is said once, and of the line dies each by its own start. -/
theorem powerAndPinReset : Obligations.PowerAndPinReset := by
  refine ⟨?hostOn, ?fieldOn, ?fieldValid, ?hostOff, ?fieldOff, ?pin, ?timeout⟩
  case hostOn =>
    intro s h
    have starts : Does (.powerOn .host) s Dev.hostDark := does_of_event rfl (if_pos h)
    have up := s.dev.hostDark_poweredUp
    exact starts.gives ⟨up.life, up.cause, rfl, up.time, up.safe, up.mgmt, rfl, rfl⟩
  case fieldOn => exact fun s h => ⟨_, rfl, Dev.fieldOn_powers h⟩
  case fieldValid => exact fun s h => ⟨_, rfl, Dev.fieldOn_powers h⟩
  case hostOff => exact fun s => ⟨_, rfl, rfl, s.dev.hostDark_poweredUp.mgmt, rfl, s.dev.hostDark_flash, rfl⟩
  case fieldOff => exact fun s h => does_of_event rfl (if_pos h)
  case pin =>
    intro s h
    have resets : Does .pinReset s (fun d => { d.powerUp 1 with pins := { (d.powerUp 1).pins with resetLow := true } }) :=
      does_of_event rfl (Dev.pinReset_powered h)
    have up := s.dev.powerUp_poweredUp 1
    exact resets.gives ⟨up.life, up.cause, rfl, rfl, up.mgmt, rfl⟩
  case timeout =>
    intro s h
    have restarts : Does .startTimeout s (fun d => ({ d with nv := { d.nv with failStep := d.nv.lastStep } }.revertSlot 2).powerUp 1) :=
      does_of_event rfl (Dev.startTimeout_restarts h)
    have up (d : Dev) := d.powerUp_poweredUp 1
    exact restarts.gives ⟨(up _).life, (up _).cause, congrArg StartNv.failStep (Dev.nv_revertSlot _ _), rfl, rfl⟩

end Sys2Proof.Machine

namespace Sys2Proof.Machine

/-! ## Warm resets (O19) -/

section
variable {d : Dev} {v : Vault} {env : WarmEnv}

theorem Dev.warmAsked_off (h : d.life = .off) : d.warmAsked v env = d := by
  rw [Dev.warmAsked, h]

theorem Dev.warmAsked_starting (h : d.life = .starting) : d.warmAsked v env = d.put 0x1800 0xA 1 := by
  rw [Dev.warmAsked, h]

theorem Dev.warmAsked_recovery (h : d.life = .running) (hr : d.mgmt.recovery = true) : d.warmAsked v env = d.sessionsEnd := by
  rw [Dev.warmAsked, h]
  exact if_pos hr

theorem Dev.warmAsked_activating (h : d.life = .running) (hr : d.mgmt.recovery = false) (ha : d.activating = true) :
    d.warmAsked v env = (d.onHall (fun h => { h with fw := { h.fw with warmWaits := true } })).put 0x1800 0xA 1 := by
  rw [Dev.warmAsked, h]
  exact (if_neg (ne_true_of_eq_false hr)).trans (if_pos ha)

theorem Dev.warmAsked_runs (h : d.life = .running) (hr : d.mgmt.recovery = false) (ha : d.activating = false) :
    d.warmAsked v env = d.warmReset v env := by
  rw [Dev.warmAsked, h]
  exact (if_neg (ne_true_of_eq_false hr)).trans (if_neg (ne_true_of_eq_false ha))

end

/-! ## Requests for resets, and a granted recovery exit (O19) -/

section
variable {s : State} {r : Req}

/-- A granted exit of recovery mode: its slot is chosen, no start has failed, and the device restarts (R394). -/
def Dev.recoveryLeft (d : Dev) (v : Nat) : Dev :=
  Dev.powerUp { d.onHall (fun h => { h with activeSlot := if v = 1 then 0 else 1 }) with nv := { d.nv with fails := 0 } } 1

theorem Ready.recoveryExit_code {v : Nat} (h : Ready s r 0x1806 0 v) (hr : s.dev.mgmt.recovery = true) (hv : v = 1 ∨ v = 2)
    (hs : slotRuns s.vault (s.dev.hall.slots.get (if v = 1 then 0 else 1)) = true) :
    firstCode (s.dev.recoveryExitOp r s.vault v).checks = .ok := by
  refine (h.command_code _ id).trans ?_
  rcases hv with rfl | rfl
  · simp only [if_true] at hs
    simp [hr, hs]
  · simp only [OfNat.ofNat_ne_one, if_false] at hs
    simp [hr, hs]

theorem does_recoveryExit {v : Nat} (h : Ready s r 0x1806 0 v) (hr : s.dev.mgmt.recovery = true) (hv : v = 1 ∨ v = 2)
    (hs : slotRuns s.vault (s.dev.hall.slots.get (if v = 1 then 0 else 1)) = true) :
    Does (.recoveryExit r v) s (fun d => (d.answer r .ok).recoveryLeft v) :=
  does_of_write (fun vault d => d.recoveryExitOp r vault v) rfl h (h.recoveryExit_code hr hv hs) rfl

/-- The states in which requests for resets are served (R383). -/
structure Dev.ServesResets (d : Dev) : Prop where
  life : d.life = .running
  recovery : d.mgmt.recovery = false
  still : d.activating = false

/-- A request for a reset is granted to a session that may ask, for a target that exists, is under no test and may be reset in the module's state. -/
theorem Dev.ServesResets.resetOp_code {d : Dev} (h : d.ServesResets) {vault : Vault} {kind target block : Nat} {env : WarmEnv}
    (hp : (kind = 1 ∨ kind = 2) → (vault.lifecycle = 2 ∨ vault.lifecycle = 3) → d.permits r 1 = true) (ht : d.resetTested kind target = false)
    (hs : d.safe = false ∨ kind = 1) (hr : (kind = 0 || 4 < kind || (kind = 1 && target ≠ 0) || (kind = 2 && 7 < target) || (kind = 3 && 127 < target)
      || (kind = 4 && (block? block).isNone) : Bool) = false) : firstCode (d.resetOp r vault kind target block env).checks = .ok := by
  obtain ⟨life, recovery, still⟩ := h
  have permitted : ((kind = 1 || kind = 2) && (vault.lifecycle = 2 || vault.lifecycle = 3) && !d.permits r 1 : Bool) = false := by
    simpa [imp_iff_not_or, not_or, or_assoc] using hp
  have safe : (d.safe && kind ≠ 1 : Bool) = false := by
    rcases hs with hs | hs <;> simp [hs]
  simp only [Dev.resetOp, permitted, ht, still, life, recovery, safe, hr]
  rfl

theorem does_resetRequest {c : Instr} {kind target block : Nat} {env : WarmEnv} {f : Dev → Dev}
    (hc : exec c s = s.write r 0x1804 0 (fun v d => d.resetOp r v kind target block env)) (hh : s.dev.hears r.route = true)
    (granted : firstCode (s.dev.resetOp r s.vault kind target block env).checks = .ok)
    (he : (s.dev.resetOp r s.vault kind target block env).later (((s.dev.resetOp r s.vault kind target block env).effect s.dev).answer r .ok) = f s.dev) :
    Does c s f :=
  does_of_event (hc.trans (State.write_ok 0x1804 0 hh rfl granted)) he

theorem Dev.resetOne_die (d : Dev) (n : Die) (block : Nat) :
    d.resetOne 2 n block = if d.dieReachable n && d.dieState n ≠ 3 then d.dieReset n 2 else d :=
  dif_pos n.isLt

theorem Dev.resetOne_port (d : Dev) (p : Port) (block : Nat) :
    d.resetOne 3 p block = (if d.faultState (srcStamp p) = 4 then d.blockNormal (srcStamp p) else d).portLogicReset p 1 :=
  dif_pos p.isLt

theorem Dev.resetTested_die {d : Dev} {n : Die} (h : d.get 0x1010 (n + 1) ≠ 4) : d.resetTested 2 n = false := by
  simp [Dev.resetTested, h]

theorem Dev.resetTested_port {d : Dev} {p : Port} (h : d.linkState p ≠ 10) : d.resetTested 3 p = false := by
  simp [Dev.resetTested, h]

/-- A request for a die's reset that nothing refuses. -/
theorem answers_dieReset {n : Die} {f : Dev → Dev} (hh : s.dev.hears r.route = true)
    (hp : s.vault.lifecycle = 2 ∨ s.vault.lifecycle = 3 → s.dev.permits r 1 = true) (hr : s.dev.ServesResets) (hs : s.dev.safe = false)
    (ht : s.dev.get 0x1010 (n + 1) ≠ 4) (he : s.dev.resetOne 2 n 0 = f s.dev) : Answers (.dieResetRequest r n) s r f := by
  have inRange : ¬ 7 < n.val := by omega
  refine does_resetRequest rfl hh (hr.resetOp_code (fun _ => hp) (Dev.resetTested_die ht) (.inl hs) ?_) ?_
  · simpa using inRange
  · exact congrArg (fun d : Dev => d.answer r .ok) he

end

/-- Settles O19: a warm reset by the life of the device, a request by the conditions that refuse it, a block by whether it is in reset. -/
theorem warmAndOtherResets : Obligations.WarmAndOtherResets := by
  refine ⟨?recovery, ?warm, ?starting, ?activating, ?off, ?loader, ?requested, ?die, ?port, ?dieAway, ?block, ?cut, ?reinitialised, ?elsewhere⟩
  case recovery =>
    intro s r v h hr hv hs
    refine (does_recoveryExit h hr hv hs).gives ?_
    have up := Dev.powerUp_poweredUp
    exact ⟨rfl, rfl, rfl, (up _ 1).cause, rfl, Dev.answer_out _ _ _⟩
  case warm => exact fun s env hl hr ha => does_of_event rfl (Dev.warmAsked_runs hl hr ha)
  case starting => exact fun s env hl => does_of_event rfl (Dev.warmAsked_starting hl)
  case activating => exact fun s env hl hr ha => does_of_event rfl (Dev.warmAsked_activating hl hr ha)
  case off => exact fun s env hl => does_of_event rfl (Dev.warmAsked_off hl)
  case loader => exact fun s env hl hr => does_of_event rfl (Dev.warmAsked_recovery hl hr)
  case requested =>
    intro s r env hh hp hl hr ha
    exact does_resetRequest rfl hh (Dev.ServesResets.resetOp_code ⟨hl, hr, ha⟩ (fun _ => hp) rfl (.inr rfl) (by simp)) (by simp [Dev.resetOp])
  case die =>
    intro s r n hh hp hl hr ha hs ht hd h3
    exact answers_dieReset hh hp ⟨hl, hr, ha⟩ hs ht ((Dev.resetOne_die _ n 0).trans (if_pos (by simp [hd, h3])))
  case port =>
    intro s r p hh hl hr ha hs ht
    have inRange : ¬ 127 < p.val := by omega
    refine does_resetRequest rfl hh (Dev.ServesResets.resetOp_code ⟨hl, hr, ha⟩ (fun h => absurd h (by decide)) (Dev.resetTested_port ht) (.inl hs) ?_) ?_
    · simpa using inRange
    · exact congrArg (fun d : Dev => d.answer r .ok) (Dev.resetOne_port _ p 0)
  case dieAway =>
    intro s r n hh hp hl hr ha hs ht hd
    have away : ¬ (s.dev.dieReachable n && s.dev.dieState n ≠ 3 : Bool) = true := by
      rcases hd with hd | hd <;> simp [hd]
    exact answers_dieReset hh hp ⟨hl, hr, ha⟩ hs ht ((Dev.resetOne_die _ n 0).trans (if_neg away))
  case block =>
    intro s r source hh hl hr ha hs hb
    refine does_resetRequest rfl hh (Dev.ServesResets.resetOp_code ⟨hl, hr, ha⟩ (fun h => absurd h (by decide)) rfl (.inl hs) ?_) rfl
    simpa using hb
  case cut => exact fun s source h => does_of_event rfl (if_pos h)
  case reinitialised => exact fun s source h => does_of_event rfl (if_pos h)
  case elsewhere => exact fun s source h => ⟨does_of_event rfl (if_neg h), does_of_event rfl (if_neg h)⟩

end Sys2Proof.Machine

namespace Sys2Proof.Machine

/-! ## A die's clock: loss, fallback and return (O20) -/

section
variable {d : Dev} {n : DieId}

theorem lineDie?_dieId (m : Die) : lineDie? (dieId m) = some m := dif_pos m.isLt

/-- What a monitor's trip leaves before anything is made of it: down K as it stands, and what the monitor last saw (R372, R376). -/
def Dev.tripSeen (d : Dev) (n : DieId) (stopped : Bool) : Dev :=
  (d.downK n !stopped).onClock n (fun c => { c with stopped := stopped, returned := false })

theorem Dev.monitorTrip_onReference (h : (d.clock n).phase = .onReference) (stopped : Bool) :
    d.monitorTrip n stopped = (d.tripSeen n stopped).tripLost n := by
  rw [Dev.monitorTrip, h]
  rfl

theorem Dev.monitorTrip_requalifying (h : (d.clock n).phase = .requalifying) (stopped : Bool) :
    d.monitorTrip n stopped = ((((d.tripSeen n stopped).clockPhase n .onFallback).report { source := srcClock n, kind := 9 }).clockBits n [1]).reactionEnd
      (srcClock n) := by
  rw [Dev.monitorTrip, h]
  rfl

theorem Dev.monitorTrip_elsewhere (hr : (d.clock n).phase ≠ .onReference) (hq : (d.clock n).phase ≠ .requalifying) (stopped : Bool) :
    d.monitorTrip n stopped = (d.tripSeen n stopped).clockBits n [1] := by
  unfold Dev.monitorTrip
  dsimp only
  split
  · contradiction
  · contradiction
  · rfl

theorem Dev.tripLost_line (d : Dev) (m : Die) : d.tripLost (dieId m) =
    (((d.dieClockLost m).clockPhase (dieId m) .delay).report { source := srcClock (dieId m), kind := 9 }).clockBits (dieId m) [1] := by
  rw [Dev.tripLost, lineDie?_dieId]

theorem Dev.tripLost_host (d : Dev) :
    d.tripLost hd = (((d.clockPhase hd .delay).report { source := srcClock hd, kind := 9 }).clockBits hd [1, 6]).hostClockLost := rfl

theorem Dev.fallbackConfirmed_switches (h : (d.clock n).phase = .confirming) (hs : (d.clock n).stopped = false ∨ (d.clock n).returned = true) :
    d.fallbackConfirmed n = d.onFallback n [2] := by
  have turns : ((d.clock n).stopped && !(d.clock n).returned) = false := by rcases hs with hs | hs <;> simp [hs]
  simp [Dev.fallbackConfirmed, h, turns]

theorem Dev.fallbackConfirmed_hangs (h : (d.clock n).phase = .confirming) (hs : (d.clock n).stopped = true) (hr : (d.clock n).returned = false) :
    d.fallbackConfirmed n = d.clockPhase n .switching := by
  simp [Dev.fallbackConfirmed, h, hs, hr]

theorem Dev.fallbackFails_line (h : (d.clock n).phase = .delay ∨ (d.clock n).phase = .confirming) (hn : n.val < 8) :
    d.fallbackFails n = (d.clockPhase n .fallbackFailed).clockBits n [8] := by
  have line : n.val ≠ 8 := by omega
  rw [Dev.fallbackFails, if_neg (by rcases h with h | h <;> simp [h])]
  exact if_neg line

theorem Dev.fallbackFails_host (h : (d.clock 8).phase = .delay ∨ (d.clock 8).phase = .confirming) :
    ∃ e : Dev, e.nv.toRecovery = true ∧ d.fallbackFails 8 = e.powerUp 1 := by
  rw [Dev.fallbackFails, if_neg (by rcases h with h | h <;> simp [h])]
  exact ⟨_, rfl, if_pos rfl⟩

theorem Dev.referenceReturn_requalifies (h : (d.clock n).phase = .onFallback ∨ (d.clock n).phase = .fallbackFailed) :
    d.referenceReturn n = (d.downK n true).requalify n := by
  rcases h with h | h <;> simp [Dev.referenceReturn, h]

theorem Dev.referenceReturn_remembered (h : (d.clock n).phase = .delay ∨ (d.clock n).phase = .confirming ∨ (d.clock n).phase = .switching) :
    d.referenceReturn n = (d.downK n true).onClock n (fun c => { c with returned := true }) := by
  rcases h with h | h | h <;> simp [Dev.referenceReturn, h]

end

/-- Settles O20: each command is an event of the device, whose cases are the phases of the die's clock. -/
theorem clockLossAndReturn : Obligations.ClockLossAndReturn := by
  refine ⟨?line, ?host, ?requalifying, ?elsewhere, ?delay, ?confirmed, ?hangs, ?forced, ?failedLine, ?failedHost, ?requalifies, ?remembered⟩
  case line => exact fun s m stopped h => does_of_event rfl ((Dev.monitorTrip_onReference h stopped).trans (Dev.tripLost_line _ m))
  case host => exact fun s stopped h => does_of_event rfl ((Dev.monitorTrip_onReference h stopped).trans (Dev.tripLost_host _))
  case requalifying => exact fun s n stopped h => does_of_event rfl (Dev.monitorTrip_requalifying h stopped)
  case elsewhere => exact fun s n stopped hr hq => does_of_event rfl (Dev.monitorTrip_elsewhere hr hq stopped)
  case delay => exact fun s n h => does_of_event rfl (if_pos h)
  case confirmed => exact fun s n h hs => does_of_event rfl (Dev.fallbackConfirmed_switches h hs)
  case hangs => exact fun s n h hs hr => does_of_event rfl (Dev.fallbackConfirmed_hangs h hs hr)
  case forced => exact fun s n h => does_of_event rfl (if_pos h)
  case failedLine => exact fun s n hn h => does_of_event rfl (Dev.fallbackFails_line h hn)
  case failedHost =>
    intro s h
    obtain ⟨e, he, fails⟩ := Dev.fallbackFails_host h
    have restarts : Does (.fallbackFailed 8) s (fun _ => e.powerUp 1) := does_of_event rfl fails
    have up := e.powerUp_poweredUp 1
    exact restarts.gives ⟨up.life, he, up.cause⟩
  case requalifies => exact fun s n h => does_of_event rfl (Dev.referenceReturn_requalifies h)
  case remembered => exact fun s n h => does_of_event rfl (Dev.referenceReturn_remembered h)

end Sys2Proof.Machine

namespace Sys2Proof.Machine

/-! ## Qualification and release of islands (O21) -/

section
variable {d : Dev} {n : DieId} {code : Nat}

theorem Dev.clock_onClock (d : Dev) (n : DieId) (f : ClockSt → ClockSt) : (d.onClock n f).clock n = f (d.clock n) := upd_same _ _ _

/-- A change of a die's clock is what it comes to on the clock as it stands. -/
theorem Dev.onClock_congr {f g : ClockSt → ClockSt} (h : f (d.clock n) = g (d.clock n)) : d.onClock n f = d.onClock n g :=
  congrArg (fun c => { d with clocks := d.clocks.set n.val c n.isLt }) h

theorem qualCount_assocSet (c : ClockSt) (code k : Nat) : qualCount { c with qualified := assocSet c.qualified code k } code = k := by
  simp [qualCount, assocGet, assocSet]

/-- Bits of its status leave a die's clock as it runs, and what it waits for. -/
theorem Dev.clockBits_runs (d : Dev) (n : DieId) (bits : List Nat) :
    ((d.clockBits n bits).clock n).phase = (d.clock n).phase ∧ ((d.clockBits n bits).clock n).deferred = (d.clock n).deferred := by
  unfold Dev.clockBits
  split
  · exact ⟨rfl, rfl⟩
  · rw [Dev.clock_onClock]
    exact ⟨rfl, rfl⟩

theorem clockStatus_ne (n : DieId) : clockStatus n ≠ 0x3000 := by
  unfold clockStatus
  split <;> omega

/-- Which code a die's reference has hangs on the clocking that the options give, and on no status (R370, R387). -/
theorem Dev.referenceCode_clockBits (d : Dev) (n : DieId) (bits : List Nat) : (d.clockBits n bits).referenceCode n = d.referenceCode n := by
  unfold Dev.clockBits
  split
  · unfold Dev.referenceCode
    rw [Dev.get_eventMask_other _ _ _ _ _ (key_ne_index (clockStatus_ne n) (by decide) (by decide))
      (key_ne_index (clockStatus_ne n) (by decide) (by decide))]
  · rfl

theorem Dev.referenceCode_mem (d : Dev) (n : DieId) : d.referenceCode n ∈ clockCodes := by
  unfold Dev.referenceCode
  split <;> decide

theorem Dev.laneWakes_keeps {α : Type} {g : Dev → α} {p : Port} (h : ∀ (e : Dev) (v : Nat), g (e.put (0x2100 + p) 1 v) = g e) (d : Dev) :
    g (d.laneWakes p) = g d := by
  unfold Dev.laneWakes Dev.laneStarts
  split
  · rfl
  · split
    · exact h d 1
    · rfl

/-- The host lanes of an island that leaves reset start (R381). -/
def Dev.islandLanes (d : Dev) (n : DieId) (code : Nat) : Dev :=
  if n.val = 8 && 0x10 ≤ code && code < 0x18 then d.eachPort (fun p d => if p.val / 16 = code - 0x10 then d.laneWakes p else d) else d

theorem Dev.islandLanes_keeps {α : Type} {g : Dev → α} (h : ∀ (p : Port) (e : Dev) (v : Nat), g (e.put (0x2100 + p) 1 v) = g e) (d : Dev) (n : DieId)
    (code : Nat) : g (d.islandLanes n code) = g d := by
  have lanes (p : Port) (e : Dev) : g (if p.val / 16 = code - 0x10 then e.laneWakes p else e) = g e := by
    split
    · exact Dev.laneWakes_keeps (h p) e
    · rfl
  unfold Dev.islandLanes
  split
  · exact forAll_keeps 128 _ g lanes d
  · rfl

/-- An island that is freed is out of reset and waits no more. -/
def ClockSt.freed (c : ClockSt) (code : Nat) : ClockSt := { c with deferred := without c.deferred code, released := code :: without c.released code }

theorem Dev.islandFree_clock (d : Dev) (n : DieId) (code : Nat) : (d.islandFree n code).clock n = (d.clock n).freed code :=
  (Dev.islandLanes_keeps (g := fun e => e.clock n) (fun _ _ _ => rfl) _ n code).trans (Dev.clock_onClock d n (fun c => c.freed code))

theorem Dev.islandFree_referenceCode (d : Dev) (n : DieId) (code : Nat) : (d.islandFree n code).referenceCode n = d.referenceCode n := by
  have clocking : (d.islandFree n code).get 0x3000 1 = d.get 0x3000 1 :=
    Dev.islandLanes_keeps (g := fun e => e.get 0x3000 1) (fun p e v => e.get_put_other _ _ v _ _ (key_ne_index (by omega) (by decide) (by decide)))
      (d.onClock n (fun c => c.freed code)) n code
  rw [Dev.referenceCode, clocking, Dev.referenceCode]

theorem Dev.qualMeasurement_failed (hc : code ∈ clockCodes) : d.qualMeasurement n code false =
    (d.onClock n (fun c => { c with qualified := assocSet c.qualified code 0 })).clockBits n [7] := by
  simp [Dev.qualMeasurement, hc]

theorem Dev.qualMeasurement_counts (hc : code ∈ clockCodes) (h7 : qualCount (d.clock n) code < 7) : d.qualMeasurement n code true =
    d.onClock n (fun c => { c with qualified := assocSet c.qualified code (qualCount c code + 1) }) := by
  have few : min 8 (qualCount (d.clock n) code + 1) = qualCount (d.clock n) code + 1 := by omega
  have below : qualCount (d.clock n) code + 1 < 8 := by omega
  simp only [Dev.qualMeasurement, List.contains_iff_mem.mpr hc, few, below]
  exact Dev.onClock_congr rfl

/-- The eighth measurement in a row has qualified the clock (R380). -/
def Dev.clockQualified (d : Dev) (n : DieId) (code : Nat) : Dev := d.onClock n (fun c => { c with qualified := assocSet c.qualified code 8 })

/-- A die's reference that has qualified is reported. -/
def Dev.clockReported (d : Dev) (n : DieId) (code : Nat) : Dev := if code = d.referenceCode n then d.clockBits n [0] else d

/-- An island that waits for its clock is freed. -/
def Dev.islandServed (d : Dev) (n : DieId) (code : Nat) : Dev := if code ∈ (d.clock n).deferred then d.islandFree n code else d

/-- A die that requalifies its reference switches back to it (R377). -/
def Dev.referenceServed (d : Dev) (n : DieId) (code : Nat) : Dev :=
  if code = d.referenceCode n && (d.clock n).phase = .requalifying then d.switchBack n else d

theorem Dev.clockReported_below (d : Dev) (n : DieId) (code : Nat) {old : Nat} (h : old < 8) :
    (if code = d.referenceCode n && (old < 8 || (d.clock n).phase = .requalifying) then d.clockBits n [0] else d) = d.clockReported n code := by
  simp [Dev.clockReported, h]

theorem Dev.qualMeasurement_eighth (hc : code ∈ clockCodes) (h7 : qualCount (d.clock n) code = 7) : d.qualMeasurement n code true =
    (((d.clockQualified n code).clockReported n code).islandServed n code).referenceServed n code := by
  have qualified : d.onClock n (fun c => { c with qualified := assocSet c.qualified code (min 8 (qualCount (d.clock n) code + 1)) }) =
      d.clockQualified n code := by rw [h7]; rfl
  rw [← qualified, ← Dev.clockReported_below _ n code (h7.trans_lt (by decide))]
  exact (if_neg (by simp [hc])).trans ((if_neg (by simp)).trans (if_neg (by simp [h7])))

/-- An island that waits for another clock than the reference is freed when that clock qualifies. -/
theorem Dev.qualMeasurement_frees (hc : code ∈ clockCodes) (h7 : qualCount (d.clock n) code = 7) (hd : code ∈ (d.clock n).deferred)
    (hr : code ≠ d.referenceCode n) : d.qualMeasurement n code true = (d.clockQualified n code).islandFree n code := by
  have waits : code ∈ ((d.clockQualified n code).clock n).deferred := by rwa [Dev.clockQualified, Dev.clock_onClock]
  have reported : (d.clockQualified n code).clockReported n code = d.clockQualified n code := if_neg hr
  have freed : (d.clockQualified n code).islandServed n code = (d.clockQualified n code).islandFree n code := if_pos waits
  rw [Dev.qualMeasurement_eighth hc h7, reported, freed]
  have other : code ≠ ((d.clockQualified n code).islandFree n code).referenceCode n := (Dev.islandFree_referenceCode _ n code).symm ▸ hr
  exact if_neg (by simp [other])

/-- A reference under requalification has qualified, and the die switches back to it. -/
theorem Dev.qualMeasurement_switchesBack (hp : (d.clock n).phase = .requalifying) (h7 : qualCount (d.clock n) (d.referenceCode n) = 7)
    (hd : d.referenceCode n ∉ (d.clock n).deferred) : d.qualMeasurement n (d.referenceCode n) true =
      ((d.clockQualified n (d.referenceCode n)).clockBits n [0]).switchBack n := by
  obtain ⟨phase, deferred⟩ := (d.clockQualified n (d.referenceCode n)).clockBits_runs n [0]
  have kept : (d.clockQualified n (d.referenceCode n)).clock n = _ := Dev.clock_onClock _ n _
  have reference : ((d.clockQualified n (d.referenceCode n)).clockBits n [0]).referenceCode n = d.referenceCode n :=
    Dev.referenceCode_clockBits _ _ _
  have reported : (d.clockQualified n (d.referenceCode n)).clockReported n (d.referenceCode n) =
    (d.clockQualified n (d.referenceCode n)).clockBits n [0] := if_pos rfl
  rw [Dev.qualMeasurement_eighth (d.referenceCode_mem n) h7, reported, Dev.islandServed, deferred, kept, if_neg hd]
  exact if_pos (by simp [reference, phase, kept, hp])

theorem Dev.islandRelease_waits (h : code ∉ (d.clock n).released) (hq : qualCount (d.clock n) code < 8) (hd : code ∉ (d.clock n).deferred) :
    d.islandRelease n code = ((d.onClock n (fun c => { c with deferred := c.deferred ++ [code] })).clockBits n [9]).counterTake n := by
  rw [Dev.islandRelease, if_neg h, if_neg (by omega)]
  exact congrArg (fun e : Dev => (e.clockBits n [9]).counterTake n) (Dev.onClock_congr (by rw [if_neg hd]))

theorem Ready.islandRelease_code {s : State} {r : Req} (h : Ready s r 0x1808 0 0) (hc : code ∈ clockCodes) :
    firstCode (s.dev.islandReleaseOp r n code).checks = .ok := by
  have known : (8 < n.val || !clockCodes.contains code : Bool) = false := by
    have := n.isLt
    simp [hc]
    omega
  refine (h.command_code _ _).trans ?_
  rw [known]
  rfl

/-- A request to release an island that nothing refuses. -/
theorem answers_islandRelease {s : State} {r : Req} {f : Dev → Dev} (h : Ready s r 0x1808 0 0) (hc : code ∈ clockCodes)
    (he : s.dev.islandRelease n code = f s.dev) : Answers (.islandRelease r n code) s r f :=
  answers_of_write (fun _ d => d.islandReleaseOp r n code) rfl h (h.islandRelease_code hc) ((dif_pos n.isLt).trans he) rfl

end

/-! ## The frequency counter (O21) -/

section
variable {d : Dev} {n : DieId}

theorem Ready.fcStart_code {s : State} {r : Req} {meas ref gate : Nat} (h : Ready s r (0x1830 + n) 1 0) :
    firstCode (s.dev.fcStartOp r n meas ref gate).checks =
      firstCode [(!clockCodes.contains meas || !clockCodes.contains ref || gate < 10 || 10000000 < gate, .range),
        (s.dev.get (0x1830 + n) 2 = 1 || s.dev.counterHeld n || s.dev.get 0x1010 (n + 1) = 4, .busy),
        (n.val < 8 && s.dev.get 0x1010 (n + 1) ≠ 1 && s.dev.get 0x1010 (n + 1) ≠ 2, .state)] :=
  h.command_code _ _

/-- The end of a measurement commits both counts; the deviation comes with it (R379). -/
def Dev.fcCounted (d : Dev) (n : DieId) (measCount refCount : Nat) : Dev :=
  ((d.put (0x1830 + n) 2 2).put (0x1830 + n) 3 (measCount % 2 ^ 64)).put (0x1830 + n) 4 (refCount % 2 ^ 64)

theorem Dev.fcComplete_counts (h : d.get (0x1830 + n) 2 = 1) (measCount refCount : Nat) : ∃ (e : Dev) (v : Nat),
    e.objs = (d.fcCounted n measCount refCount).objs ∧ d.fcComplete n measCount refCount = e.put (0x1830 + n) 5 v ∧
      (refCount ≠ 0 → v = unsigned 32 (deviation n (d.clock n).fcMeas (d.clock n).fcRef measCount refCount)) := by
  by_cases hr : refCount = 0
  · exact ⟨(d.fcCounted n measCount refCount).newDraw, _, rfl, (if_neg (not_not.mpr h)).trans (if_pos hr), fun h => absurd hr h⟩
  · exact ⟨d.fcCounted n measCount refCount, _, rfl, (if_neg (not_not.mpr h)).trans (if_neg hr), fun _ => rfl⟩

/-- What a counter shows at the end of a measurement: its state, both counts and the deviation. -/
theorem Dev.fcComplete_shows (h : d.get (0x1830 + n) 2 = 1) (measCount refCount : Nat) :
    (d.fcComplete n measCount refCount).get (0x1830 + n) 2 = 2 ∧ (d.fcComplete n measCount refCount).get (0x1830 + n) 3 = measCount % 2 ^ 64 ∧
      (d.fcComplete n measCount refCount).get (0x1830 + n) 4 = refCount % 2 ^ 64 ∧ (refCount ≠ 0 → (d.fcComplete n measCount refCount).get (0x1830 + n) 5 =
        unsigned 32 (deviation n (d.clock n).fcMeas (d.clock n).fcRef measCount refCount)) := by
  obtain ⟨e, v, objects, ends, shown⟩ := Dev.fcComplete_counts h measCount refCount
  have other (e : Dev) {i j : Nat} (h : i ≠ j) (hi : i < 256) (hj : j < 256) (v : Nat) : (e.put (0x1830 + n) i v).get (0x1830 + n) j = e.get (0x1830 + n) j :=
    Dev.get_put_other _ _ _ _ _ _ (key_ne_sub h hi hj)
  have counted (k : Nat) : e.get (0x1830 + n) k = (d.fcCounted n measCount refCount).get (0x1830 + n) k := by rw [Dev.get, objects, Dev.get]
  rw [ends]
  refine ⟨?_, ?_, ?_, fun hr => (Dev.get_put_same _ _ _ _).trans (shown hr)⟩
  · rw [other _ (by decide) (by decide) (by decide), counted, Dev.fcCounted, other _ (by decide) (by decide) (by decide),
      other _ (by decide) (by decide) (by decide), Dev.get_put_same]
  · rw [other _ (by decide) (by decide) (by decide), counted, Dev.fcCounted, other _ (by decide) (by decide) (by decide), Dev.get_put_same]
  · rw [other _ (by decide) (by decide) (by decide), counted, Dev.fcCounted, Dev.get_put_same]

theorem Dev.counterEnd_ends (h : d.get (0x1830 + n) 2 = 1) (state : Nat) : d.counterEnd n state = d.put (0x1830 + n) 2 state := if_pos h

end

/-- Settles O21: a measurement by the count that it makes, a request by its island and clock, a count of the frequency counter by its end. -/
theorem qualificationAndCounter : Obligations.QualificationAndCounter := by
  refine ⟨?fails, ?counts, ?frees, ?switchesBack, ?released, ?already, ?deferred, ?fcStart, ?fcComplete, ?fcNoEdge, ?fcAbort⟩
  case fails => exact fun s n code hc => does_of_event rfl (Dev.qualMeasurement_failed hc)
  case counts => exact fun s n code hc h7 => does_of_event rfl (Dev.qualMeasurement_counts hc h7)
  case frees =>
    intro s n code hc h7 hd hr
    have frees : Does (.qualMeasurement n code true) s (fun d => (d.clockQualified n code).islandFree n code) :=
      does_of_event rfl (Dev.qualMeasurement_frees hc h7 hd hr)
    have clock : ((s.dev.clockQualified n code).islandFree n code).clock n = _ := Dev.islandFree_clock _ n code
    refine frees.gives ?_
    rw [State.onDev_dev, clock, Dev.clockQualified, Dev.clock_onClock]
    exact ⟨List.mem_cons_self .., by simp [ClockSt.freed, without], qualCount_assocSet _ code 8⟩
  case switchesBack => exact fun s n hp h7 hd => does_of_event rfl (Dev.qualMeasurement_switchesBack hp h7 hd)
  case released => exact fun s r n code h hc hr hq => answers_islandRelease h hc ((if_neg hr).trans (if_pos hq))
  case already => exact fun s r n code h hc hr => answers_islandRelease h hc (if_pos hr)
  case deferred => exact fun s r n code h hc hr hq hd => answers_islandRelease h hc (Dev.islandRelease_waits hr hq hd)
  case fcStart =>
    intro s r n meas ref gate h hm hr hlow hhigh hrun hheld htest hstate
    have inRange : (!clockCodes.contains meas || !clockCodes.contains ref || gate < 10 || 10000000 < gate : Bool) = false := by
      simp [hm, hr]
      omega
    have free : (s.dev.get (0x1830 + n) 2 = 1 || s.dev.counterHeld n || s.dev.get 0x1010 (n + 1) = 4 : Bool) = false := by
      simp [hrun, hheld, htest]
    have serves : (n.val < 8 && s.dev.get 0x1010 (n + 1) ≠ 1 && s.dev.get 0x1010 (n + 1) ≠ 2 : Bool) = false := by
      simpa [imp_iff_not_or, or_assoc] using hstate
    exact answers_of_write (fun _ d => d.fcStartOp r n meas ref gate) rfl h (h.fcStart_code.trans (by rw [inRange, free, serves]; rfl)) rfl rfl
  case fcComplete =>
    intro s n measCount refCount h hr
    obtain ⟨state, meas, ref, deviates⟩ := Dev.fcComplete_shows h measCount refCount
    exact ⟨_, rfl, state, meas, ref, deviates hr⟩
  case fcNoEdge =>
    intro s n measCount h
    obtain ⟨state, meas, ref, -⟩ := Dev.fcComplete_shows h measCount 0
    exact ⟨_, rfl, state, meas, ref⟩
  case fcAbort =>
    intro s r n h hrun
    exact answers_of_write (fun _ d => d.fcAbortOp r n 1) rfl h (h.command_code _ _) (Dev.counterEnd_ends hrun 3) rfl

end Sys2Proof.Machine

namespace Sys2Proof.Machine

/-! ## Calibration runs (O57) -/

section
variable {s : State} {r : Req} {d : Dev} {p : Port}

theorem Ready.calStart_code {v : Nat} {m : CalMeas} (h : Ready s r (0x5800 + p) 1 v) : firstCode (s.dev.calStartOp r p v m).checks =
    firstCode [((s.dev.port p).cal.isSome || 4 ≤ s.dev.calRuns p, .busy),
      (s.dev.get (0x5800 + p) 6 = 1 || s.dev.calCheck p (field v 8 5) (field v 0 4) m ≠ 0, .state), (field v 8 5 = 0 || field v 0 4 = 0, .range)] :=
  h.command_code _ (fun d => d.calBegin p (field v 8 5) (field v 0 4) false)

/-- A refused pre-check shows its code, unless CAL_SLOT_USE is what refuses the run (R354, R363). -/
theorem Ready.calStart_refusal {v : Nat} {m : CalMeas} (h : Ready s r (0x5800 + p) 1 v) (h6 : s.dev.get (0x5800 + p) 6 ≠ 1) :
    (s.dev.calStartOp r p v m).refusal .state s.dev = s.dev.calRefuse p (s.dev.calCheck p (field v 8 5) (field v 0 4) m) :=
  if_pos (by simp [h6, h.mode])

theorem does_calStart_refused {v : Nat} {m : CalMeas} (h : Ready s r (0x5800 + p) 1 v) (h6 : s.dev.get (0x5800 + p) 6 ≠ 1)
    (refused : firstCode (s.dev.calStartOp r p v m).checks = .state) :
    Does (.calStart r p v m) s (fun d => (d.calRefuse p (d.calCheck p (field v 8 5) (field v 0 4) m)).answer r .state) := by
  have runs := Op.run_refused (r := r) (0x5800 + p) 1 h.heard h.delivered refused (by decide)
  rw [h.calStart_refusal h6] at runs
  exact does_of_event rfl runs

/-- A write to CAL_START while the port has a run, or its die has four, is refused; the pre-check shows nothing of it. -/
theorem does_calStart_busy {v : Nat} {m : CalMeas} (h : Ready s r (0x5800 + p) 1 v) (hb : (s.dev.port p).cal.isSome = true ∨ 4 ≤ s.dev.calRuns p) :
    Does (.calStart r p v m) s (fun d => d.answer r .busy) := by
  have busy : ((s.dev.port p).cal.isSome || 4 ≤ s.dev.calRuns p : Bool) = true := by simpa using hb
  have refused : firstCode (s.dev.calStartOp r p v m).checks = .busy := by
    rw [h.calStart_code, busy]
    exact firstCode_head (by simp [Code.rank])
  exact does_of_event rfl (Op.run_refused (r := r) (0x5800 + p) 1 h.heard h.delivered refused (by decide))

theorem Dev.calRound_fails {m : CalMeas} {c : CalRun} (h : (d.port p).cal = some c) (hs : c.storing = false)
    (hc : d.calCheck p c.classes c.pairMask m ≠ 0) : d.calRound p m = d.calFails p (d.calCheck p c.classes c.pairMask m) := by
  simp [Dev.calRound, h, hs, hc]

theorem Dev.calRound_joins {m : CalMeas} {c : CalRun} (h : (d.port p).cal = some c) (hs : c.storing = false)
    (hc : d.calCheck p c.classes c.pairMask m = 0) : d.calRound p m = (d.onPort p (fun s => { s with
      cal := some { c with rounds := (m.estimate :: c.rounds).take 8,
                           storing := settledBy c.classes (pairsOf c.pairMask) ((m.estimate :: c.rounds).take 8) } })).calState p := by
  simp [Dev.calRound, h, hs, hc]

theorem Dev.calRound_idle (h : ∀ c ∈ (d.port p).cal, c.storing = true) (m : CalMeas) : d.calRound p m = d := by
  unfold Dev.calRound
  split
  · rfl
  · next c hc => exact if_pos (h c hc)

theorem Dev.calCommit_stores {c : CalRun} (h : (d.port p).cal = some c) (hs : c.storing = true) :
    d.calCommit p true = d.calStore p c ∧ d.calCommit p false = d.calEnd p 6 := by
  simp [Dev.calCommit, h, hs]

theorem Dev.calCommit_idle (h : ∀ c ∈ (d.port p).cal, c.storing = false) (ok : Bool) : d.calCommit p ok = d := by
  unfold Dev.calCommit
  split
  · rfl
  · next c hc => exact if_pos (by simp [h c hc])

/-- Eight rounds, no two of which differ by more than one unit in a selected trim (log entry 112). -/
theorem settledBy_iff (classes : Nat) (ps : List Pair) (rounds : List (Vector (List Int) 4)) : settledBy classes ps rounds = true ↔
    8 ≤ rounds.length ∧ ∀ k ∈ ps, ∀ i < 57, classes.testBit (trimClass i) = true → ∀ a ∈ rounds, ∀ b ∈ rounds,
      ((a.get k).getD i 0 - (b.get k).getD i 0).natAbs ≤ 1 := by
  simp [settledBy, imp_iff_not_or]

/-! ## The slot in use, and automatic calibration (O57) -/

theorem Writable.slotUse_code {v : Nat} (h : Writable s r (0x5800 + p) 6 v) : firstCode (s.dev.slotUseOp r p v).checks =
    firstCode [(v = 1 && (s.dev.port p).cal.isSome, .busy), (s.dev.slotChanges p v && s.dev.stagingFull, .busy),
      (v = 1 && (s.dev.slotFor p 1).isNone, .state)] :=
  h.plainWrite_code _ _

/-- A selection of the other slot waits for no run, and finds that slot valid. -/
theorem Writable.slotUse_granted {v : Nat} (h : Writable s r (0x5800 + p) 6 v) (hroom : s.dev.slotChanges p v = false ∨ s.dev.stagingFull = false)
    (hv : v ≠ 1 ∨ ((s.dev.port p).cal = none ∧ (s.dev.slotFor p 1).isSome = true)) : firstCode (s.dev.slotUseOp r p v).checks = .ok := by
  have room : (s.dev.slotChanges p v && s.dev.stagingFull) = false := Bool.and_eq_false_iff.mpr hroom
  rw [h.slotUse_code, room]
  rcases hv with hv | ⟨hc, hs⟩
  · simp [hv]
  · simp [hc, Option.isNone_eq_false_iff.mpr hs]

theorem Dev.calAuto_lapses (h : d.get (0x5800 + p) 3 = 0 ∨ d.get (0x5800 + p) 6 = 1 ∨ (d.port p).cal.isSome = true ∨ (d.port p).tested = true)
    (m : CalMeas) : d.calAuto p m = d.onPort p (fun s => { s with calAsked := 0 }) :=
  if_pos (by simpa [or_assoc] using h)

/-- A port whose automatic calibration is on, whose slot in use is the newest, and that neither a run nor a test holds. -/
structure Dev.CalibratesItself (d : Dev) (p : Port) : Prop where
  on : d.get (0x5800 + p) 3 ≠ 0
  newest : d.get (0x5800 + p) 6 ≠ 1
  free : (d.port p).cal = none
  untested : (d.port p).tested = false

/-- Its request goes by the runs of its die, the lower ports that wait, and the pre-check. -/
theorem Dev.CalibratesItself.calAuto (h : d.CalibratesItself p) (m : CalMeas) : d.calAuto p m =
    if 4 ≤ d.calRuns p || (allFin 16).any (fun k => k.val < localOf p && (d.port (portAt (dieOf p) k)).calAsked = 1) then
      d.onPort p (fun s => { s with calAsked := 1 })
    else if d.calCheck p (d.autoClasses p) 0xF m ≠ 0 then
      (d.onPort p (fun s => { s with calAsked := 2 })).calRefuse p (d.calCheck p (d.autoClasses p) 0xF m)
    else if d.autoClasses p = 0 then d.onPort p (fun s => { s with calAsked := 0 }) else d.calBegin p (d.autoClasses p) 0xF true :=
  if_neg (by simp [h.on, h.newest, h.free, h.untested])

/-- A lower port of the die waits for a run. -/
theorem Dev.lowerWaits_iff (d : Dev) (p : Port) :
    (allFin 16).any (fun k => k.val < localOf p && (d.port (portAt (dieOf p) k)).calAsked = 1) = true ↔
      ∃ k : Fin 16, k.val < localOf p ∧ (d.port (portAt (dieOf p) k)).calAsked = 1 := by
  simp [allFin]

theorem Ready.temperSelect_code {v : Nat} (h : Ready s r 0x5A00 1 v) : firstCode (s.dev.temperSelectOp r v).checks =
    firstCode [(s.dev.temperInvalid v, .state), (temperBad v, .range)] :=
  h.command_code _ _

end

/-- Settles O57: a start by its pre-check, a round and a write by the state of the run, an automatic request by what stands in its way, a write of the slot
in use by whether it changes it. -/
theorem calibrationRuns : Obligations.CalibrationRuns := by
  refine ⟨?starts, ?refused, ?busy, ?roundFails, ?roundJoins, ?settled, ?roundIdle, ?timeout, ?commits, ?commitIdle, ?abort, ?slotKept, ?slotChanged, ?slotBusy,
    ?rampEnd, ?tracking, ?timer, ?retry, ?retryIdle, ?lapses, ?waits, ?goes, ?selects, ?selectState⟩
  case starts =>
    intro s r p v m h hc h4 h6 hclasses hmask hcode
    have granted : firstCode (s.dev.calStartOp r p v m).checks = .ok := by
      rw [h.calStart_code]
      simp [hc, Nat.not_le.mpr h4, h6, hclasses, hmask, hcode]
    exact answers_of_write (fun _ d => d.calStartOp r p v m) rfl h granted rfl rfl
  case refused =>
    intro s r p v m h hc h4 h6 hcode
    have free : ((s.dev.port p).cal.isSome || 4 ≤ s.dev.calRuns p : Bool) = false := by simp [hc, Nat.not_le.mpr h4]
    have bad : (s.dev.get (0x5800 + p) 6 = 1 || s.dev.calCheck p (field v 8 5) (field v 0 4) m ≠ 0 : Bool) = true := by simp [hcode]
    refine does_calStart_refused h h6 (h.calStart_code.trans ?_)
    rw [free, bad]
    exact firstCode_head (by simp [Code.rank])
  case busy => exact fun s r p v m h hb => does_calStart_busy h hb
  case roundFails => exact fun s p m c h hs hc => does_of_event rfl (Dev.calRound_fails h hs hc)
  case roundJoins => exact fun s p m c h hs hc => does_of_event rfl (Dev.calRound_joins h hs hc)
  case settled => exact settledBy_iff
  case roundIdle =>
    intro s p m h
    have ended : ¬ (s.dev.port p).cal.any (fun c => !c.storing) = true := by simpa [Option.any_eq_true] using h
    exact ⟨does_of_event rfl (Dev.calRound_idle h m), does_of_event rfl (if_neg ended)⟩
  case timeout => exact fun s p c h hs => does_of_event rfl (if_pos (by simp [h, hs]))
  case commits =>
    intro s p c h hs
    obtain ⟨good, bad⟩ := Dev.calCommit_stores h hs
    exact ⟨does_of_event rfl good, does_of_event rfl bad⟩
  case commitIdle => exact fun s p ok h => does_of_event rfl (Dev.calCommit_idle h ok)
  case abort => exact fun s r p h => answers_of_one rfl h
  case slotKept =>
    intro s r p v h hk hv
    exact answers_of_write (fun _ d => d.slotUseOp r p v) rfl h.toReady (h.slotUse_granted (.inl hk) hv) (if_neg (ne_true_of_eq_false hk)) rfl
  case slotChanged =>
    intro s r p v h hk hf hv
    exact answers_of_write (fun _ d => d.slotUseOp r p v) rfl h.toReady (h.slotUse_granted (.inr hf) hv) (if_pos hk) rfl
  case slotBusy =>
    intro s r p h hc
    refine does_write_refused (fun _ d => d.slotUseOp r p 1) rfl h.toReady (h.slotUse_code.trans ?_) rfl
    rw [hc]
    exact firstCode_head (by simp [Code.rank])
  case rampEnd => exact fun s p k => rfl
  case tracking => exact fun s temps => rfl
  case timer => exact fun s p m => rfl
  case retry => exact fun s p m h => does_of_event rfl (if_neg h)
  case retryIdle => exact fun s p m h => does_of_event rfl (if_pos h)
  case lapses => exact fun d p m h => Dev.calAuto_lapses h m
  case waits =>
    intro d p m h3 h6 hc ht h
    rw [Dev.CalibratesItself.calAuto ⟨h3, h6, hc, ht⟩]
    exact if_pos (by rwa [Bool.or_eq_true_iff, decide_eq_true_iff, Dev.lowerWaits_iff])
  case goes =>
    intro d p m h3 h6 hc ht h4 hlower
    rw [Dev.CalibratesItself.calAuto ⟨h3, h6, hc, ht⟩]
    refine if_neg ?_
    rw [Bool.or_eq_true_iff, decide_eq_true_iff, Dev.lowerWaits_iff]
    rintro (h | ⟨k, hk, hasked⟩)
    · omega
    · exact hlower k hk hasked
  case selects =>
    intro s r v h hb hi
    exact answers_of_write (fun _ d => d.temperSelectOp r v) rfl h (h.temperSelect_code.trans (by rw [hi, hb]; rfl)) rfl rfl
  case selectState =>
    intro s r v h hi
    refine does_write_refused (fun _ d => d.temperSelectOp r v) rfl h (h.temperSelect_code.trans ?_) rfl
    rw [hi]
    exact firstCode_head (by simp [Code.rank])

end Sys2Proof.Machine

namespace Sys2Proof.Machine

/-! ## The state and the windows of a block (O58) -/

section
variable {d : Dev} {src : Nat}

theorem Dev.faultSt_onFault (h : src < 969) (d : Dev) (f : FaultSt → FaultSt) : (d.onFault src f).faultSt src = f (d.faultSt src) := by
  simp only [Dev.faultSt, Dev.onFault, h, dif_pos]
  exact upd_same _ _ _

theorem Dev.onFault_objs (d : Dev) (src : Nat) (f : FaultSt → FaultSt) : (d.onFault src f).objs = d.objs := by
  unfold Dev.onFault
  split <;> rfl

theorem Dev.faultState_setFault (h : src < 969) (d : Dev) (st : Nat) : (d.setFault src st).faultState src = st := by
  unfold Dev.setFault
  dsimp only
  split <;> exact congrArg FaultSt.state (Dev.faultSt_onFault h d _)

/-- A block is NORMAL again, with an empty window (R403). -/
theorem Dev.blockNormal_faultSt (h : src < 969) (d : Dev) :
    (d.blockNormal src).faultState src = 0 ∧ ((d.blockNormal src).faultSt src).window = [] := by
  have emptied := Dev.faultSt_onFault h (d.setFault src 0) (fun f => { f with window := [] })
  exact ⟨(congrArg FaultSt.state emptied).trans (Dev.faultState_setFault h d 0), congrArg FaultSt.window emptied⟩

theorem Dev.reactionEnd_settles (h : d.faultState src = 3) :
    d.reactionEnd src = (d.setFault src 1).sendUp { ev := { source := src, kind := 0 }, verdict := .reactionDone } :=
  if_pos h

end

/-! ## What an event is to its block (O58) -/

section
variable {d e : Dev} {b : Block} {ev : FaultEvent} {v : Verdict}

/-- The block becomes SEVERE, or, having become so too often, brings the last resort (R401). -/
def Dev.judgeSevere (d : Dev) (src : Nat) (b : Block) : Verdict × Dev :=
  if (d.severeEntry src b).1 then (.lastResort, (d.severeEntry src b).2) else (.severe, (d.severeEntry src b).2)

theorem Dev.judgeSevere_verdict (d : Dev) (src : Nat) (b : Block) : (d.judgeSevere src b).1 = .severe ∨ (d.judgeSevere src b).1 = .lastResort := by
  unfold Dev.judgeSevere
  split
  · exact .inr rfl
  · exact .inl rfl

theorem Dev.judgeSevere_objs (d : Dev) (src : Nat) (b : Block) : (d.judgeSevere src b).2.objs = d.objs := by
  unfold Dev.judgeSevere
  split <;> exact Dev.onFault_objs _ _ _

theorem Dev.judge_masked {c : Nat} (h : d.maskedBy ev = some c) : d.judge b ev = (.consequent c, d) := by
  rw [Dev.judge, h]

/-- An event that nothing masks is judged by the severity of its kind, by its block's state and by whether the kind escalates (R400, R401, R403). -/
theorem Dev.judge_unmasked (h : d.maskedBy ev = none) : d.judge b ev =
    if baseSeverity ev.kind = 4 then (if d.faultState ev.source = 4 then .fatalAgain else .fatal, d)
    else if baseSeverity ev.kind = 3 && (d.faultState ev.source = 0 || d.faultState ev.source = 1) then d.judgeSevere ev.source b
    else if escalates b ev.kind && d.faultState ev.source = 0 then
      if (d.escalate ev.source b).1 then (d.escalate ev.source b).2.judgeSevere ev.source b else (.plain, (d.escalate ev.source b).2)
    else (.plain, d) := by
  rw [Dev.judge, h]
  refine if_congr Iff.rfl rfl (if_congr Iff.rfl ?severe (if_congr Iff.rfl ?escalates rfl))
  case severe =>
    unfold Dev.judgeSevere
    dsimp only
    rcases d.severeEntry ev.source b with ⟨_ | _, e⟩ <;> rfl
  case escalates =>
    rcases d.escalate ev.source b with ⟨_ | _, e⟩
    · rfl
    · unfold Dev.judgeSevere
      dsimp only
      rcases e.severeEntry ev.source b with ⟨_ | _, e'⟩ <;> rfl

theorem Dev.judge_fatal (h : d.maskedBy ev = none) (h4 : baseSeverity ev.kind = 4) (hs : d.faultState ev.source ≠ 4) : d.judge b ev = (.fatal, d) := by
  rw [Dev.judge_unmasked h, if_pos h4, if_neg hs]

theorem Dev.judge_severe (h : d.maskedBy ev = none) (h3 : baseSeverity ev.kind = 3) (hs : d.faultState ev.source = 0 ∨ d.faultState ev.source = 1) :
    d.judge b ev = d.judgeSevere ev.source b := by
  rw [Dev.judge_unmasked h, if_neg (by omega), if_pos (by simpa [h3] using hs)]

/-- An event of a MINOR or lesser kind goes by whether it escalates. -/
theorem Dev.judge_minor (h : d.maskedBy ev = none) (h3 : baseSeverity ev.kind < 3) : d.judge b ev =
    if escalates b ev.kind && d.faultState ev.source = 0 then
      if (d.escalate ev.source b).1 then (d.escalate ev.source b).2.judgeSevere ev.source b else (.plain, (d.escalate ev.source b).2)
    else (.plain, d) := by
  have other : ¬ (baseSeverity ev.kind = 3 && (d.faultState ev.source = 0 || d.faultState ev.source = 1) : Bool) = true := by
    simp only [Bool.and_eq_true, decide_eq_true_eq]
    omega
  rw [Dev.judge_unmasked h, if_neg (by omega), if_neg other]

/-- The window of a block with an event that escalates now (R400). -/
def Dev.windowWith (d : Dev) (src : Nat) (b : Block) : List Nat := recent d.uptime (d.escalation b).2.1 ((d.faultSt src).window ++ [d.uptime])

theorem Dev.escalate_eq (d : Dev) (src : Nat) (b : Block) : d.escalate src b =
    (((d.escalation b).1 ≤ (d.windowWith src b).length : Bool), d.onFault src (fun f => { f with window := d.windowWith src b })) := rfl

theorem Dev.judge_window_open (h : d.maskedBy ev = none) (h3 : baseSeverity ev.kind < 3) (he : escalates b ev.kind = true)
    (h0 : d.faultState ev.source = 0) (hw : (d.windowWith ev.source b).length < (d.escalation b).1) :
    d.judge b ev = (.plain, d.onFault ev.source (fun f => { f with window := d.windowWith ev.source b })) := by
  rw [Dev.judge_minor h h3, if_pos (by simp [he, h0]), Dev.escalate_eq]
  exact if_neg (by simpa using hw)

theorem Dev.judge_window_full (h : d.maskedBy ev = none) (h3 : baseSeverity ev.kind < 3) (he : escalates b ev.kind = true)
    (h0 : d.faultState ev.source = 0) (hw : (d.escalation b).1 ≤ (d.windowWith ev.source b).length) :
    d.judge b ev = (d.onFault ev.source (fun f => { f with window := d.windowWith ev.source b })).judgeSevere ev.source b := by
  rw [Dev.judge_minor h h3, if_pos (by simp [he, h0]), Dev.escalate_eq]
  exact if_pos (by simpa using hw)

theorem Dev.judge_plain (h : d.maskedBy ev = none) (h3 : baseSeverity ev.kind < 3) (he : escalates b ev.kind = false) : d.judge b ev = (.plain, d) := by
  rw [Dev.judge_minor h h3, if_neg (by simp [he])]

/-! ## What its verdict makes of an event (O58) -/

/-- The block's state changes, the report goes up, and the reaction or the safe state follows (R403, R404). -/
def Dev.verdictDone (e : Dev) (b : Block) (ev : FaultEvent) (v : Verdict) : Dev :=
  match v with
  | .severe => ((e.setFault ev.source 3).sendUp { ev, verdict := v }).react ev.source b
  | .lastResort => ((e.setFault ev.source 5).sendUp { ev, verdict := v }).safeState b
  | .fatal => ((e.setFault ev.source 4).sendUp { ev, verdict := v }).safeState b
  | _ => (e.sendUp { ev, verdict := v }).coefficientsBad b ev.kind

theorem Dev.report_judged (hb : block? ev.source = some b) (hj : (d.eventUp b ev).judge b ev = (v, e)) :
    d.report ev = ((e.verdictDone b ev v).lanesLeft ev.source).inbandWake := by
  have judged : d.reportOne ev false = e.verdictDone b ev v := by
    simp only [Dev.reportOne, hb, Bool.false_eq_true, if_false, hj]
    cases v <;> rfl
  rw [Dev.report, judged]

theorem does_faultEvent {s : State} {f : Dev → Dev} (hb : block? ev.source = some b) (hc : canReport b ev.kind = true) (h : s.dev.report ev = f s.dev) :
    Does (.faultEvent ev) s f := by
  refine does_of_event rfl ?_
  simp only [hb, hc, if_true]
  exact h

theorem does_faultEvent_idle {s : State} (h : ∀ b, block? ev.source = some b → canReport b ev.kind = false) : Does (.faultEvent ev) s id := by
  refine does_of_event rfl ?_
  cases hb : block? ev.source with
  | none => rfl
  | some b => exact if_neg (ne_true_of_eq_false (h b hb))

theorem Dev.lanesLeft_other {src : Nat} (h : ∀ n w l, block? src ≠ some (.lane n w l)) (d : Dev) : d.lanesLeft src = d := by
  unfold Dev.lanesLeft
  split
  · next n w l hb => exact absurd hb (h n w l)
  · rfl

end

/-- A source that names no block has no record to rearm, whatever the value. -/
theorem firstRearm_code {d : Dev} {r : Req} {src v : Nat} (h : block? src = none) : firstCode (d.firstRearmOp r src v).checks = .index :=
  firstCode_eq (by simp [Dev.firstRearmOp, Dev.one, Dev.command, h]) (fun _ _ _ => Nat.zero_le _)

/-- Settles O58: events by whether their block can report them and by its verdict, the ends of a reaction and of a settle time by the block's state. -/
theorem faultLife : Obligations.FaultLife := by
  refine ⟨?reports, ?unreported, ?settles, ?noReaction, ?normal, ?noSettle, ?rearms, ?noBlock, ?moduleRearms, ?masked, ?fatal, ?severe, ?counted, ?full, ?plain,
    ?verdicts, ?lane, ?noLane⟩
  case reports => exact fun s ev b hb hc => does_faultEvent hb hc rfl
  case unreported => exact fun s ev h => does_faultEvent_idle h
  case settles => exact fun s src h => does_of_event rfl ((if_pos h).trans (congrArg Dev.inbandWake (Dev.reactionEnd_settles h)))
  case noReaction => exact fun s src h => does_of_event rfl (if_neg h)
  case normal =>
    intro s src h hsrc
    have ends : Does (.settleEnd src) s (fun d => d.blockNormal src) := does_of_event rfl (if_pos h)
    exact ends.gives (Dev.blockNormal_faultSt hsrc s.dev)
  case noSettle => exact fun s src h => does_of_event rfl (if_neg h)
  case rearms =>
    intro s r src h hb
    have granted : firstCode (s.dev.firstRearmOp r src 1).checks = .ok :=
      (h.command_code _ _).trans (by simp [Option.isNone_eq_false_iff.mpr hb])
    exact answers_of_write (fun _ d => d.firstRearmOp r src 1) rfl h granted rfl rfl
  case noBlock =>
    exact fun s r src v hh hl hb => does_of_event rfl (Op.run_refused (r := r) (0x1C00 + src) 9 hh hl (firstRearm_code hb) (by decide))
  case moduleRearms => exact fun s r h => answers_of_one rfl h
  case masked => exact fun d b ev c h => Dev.judge_masked h
  case fatal => exact fun d b ev h h4 hs => Dev.judge_fatal h h4 hs
  case severe =>
    intro d b ev h h3 hs
    rw [Dev.judge_severe h h3 hs]
    exact ⟨Dev.judgeSevere_verdict .., Dev.judgeSevere_objs ..⟩
  case counted =>
    intro d b ev hsrc h h3 he h0 hw
    rw [Dev.judge_window_open h h3 he h0 hw]
    exact ⟨rfl, congrArg FaultSt.window (Dev.faultSt_onFault hsrc d _)⟩
  case full =>
    intro d b ev h h3 he h0 hw
    rw [Dev.judge_window_full h h3 he h0 hw]
    exact Dev.judgeSevere_verdict ..
  case plain => exact fun d b ev h h3 he => Dev.judge_plain h h3 he
  case verdicts =>
    intro s ev b v e hb hc hj
    have report := Dev.report_judged hb hj
    refine ⟨?_, ?_, ?_, ?_⟩ <;> rintro rfl <;> exact does_faultEvent hb hc report
  case lane =>
    intro d src n w l h
    rw [Dev.lanesLeft, h]
  case noLane => exact fun d src h => Dev.lanesLeft_other h d

end Sys2Proof.Machine
